-- ==== Sys2Proof/Word.lean ====
section
/-! DEFINITION. The word types of the XT-960 and their plainest arithmetic (spec/00_scope.md R16, R20). -/

namespace Sys2Proof

/-- One byte. -/
abbrev Byte := BitVec 8

/-- A 16-bit word. -/
abbrev W16 := BitVec 16

/-- Half a register: one 32-bit access (R17). -/
abbrev W32 := BitVec 32

/-- A register (R16). -/
abbrev W64 := BitVec 64

/-- A module address of 52 bits (R193). -/
abbrev Addr := BitVec 52

/-- A saturating count: at most all ones of `w` bits (R20). -/
def satCount (w n : Nat) : Nat := min n (2 ^ w - 1)

/-- Ceiling of a quotient. -/
def ceilDiv (a b : Nat) : Nat := (a + b - 1) / b

end Sys2Proof
end

