-- ==== Sys2Proof/Syntax.lean ====
section
/-! DEFINITION. The commands of the block: one constructor per row of spec/opcode_table.json, with the operands the
row's rules name, and the small types those operands have. A measured quantity (a voltage, a temperature, an energy)
and data read from memory outside the module are operands, since the world outside fixes them (log 6). -/

namespace Sys2Proof

/-- Who makes a register access: the host and Binnacle are separate requesters (R17). -/
inductive Requester where
  | host | binnacle
  deriving DecidableEq, Repr

/-- The window an access goes through: BAR0 or the Forerunner window of BAR2 (R411). -/
inductive Window where
  | bar0 | bar2
  deriving DecidableEq, Repr

/-- The width of an access in bits (R17). -/
inductive Width where
  | w8 | w16 | w32 | w64
  deriving DecidableEq, Repr

/-- The three registers of the rounding probe (R81). -/
inductive Probe where
  | seed | step | index
  deriving DecidableEq, Repr

/-- A command as it lies in a submission slot (Table 13-6), with its mailbox and with what its host memory reads
return: `data` the bytes, `fault` whether an access failed (R410). -/
structure Cmd where
  mbx : Fin 64
  tag : W16
  /-- Bits 63:32 of word 0, reserved. -/
  rsv : W32
  a0 : W64
  a1 : W64
  a2 : W64
  a3 : W64
  a4 : W64
  a5 : W64
  a6 : W64
  data : List Byte
  fault : Bool
  deriving DecidableEq, Repr

/-- What a fetch from a submission ring returns: the eight words, or a failed access (R410, R417). -/
structure Fetch where
  w0 : W64
  a0 : W64
  a1 : W64
  a2 : W64
  a3 : W64
  a4 : W64
  a5 : W64
  a6 : W64
  ringFailed : Bool
  data : List Byte
  fault : Bool
  deriving DecidableEq, Repr

/-- The kind of host access that failed (Table 13-2a). -/
inductive HostAccess where
  | submissionRing (m : Fin 64)
  | completionRing (m : Fin 64)
  | commandData (m : Fin 64)
  | eventRing
  | snapshot
  | offload
  deriving DecidableEq, Repr

/-- The causes of REGULATOR_FAILED from a phase's own monitors (R341, R350). -/
inductive PhaseCause where
  | overCurrent | imbalance | overTemperature | switchFault
  deriving DecidableEq, Repr

/-- One 1 µs input sample and the region currents of the same microsecond (R329, R337): volts in 10 mV, currents in
10 mA. -/
structure FastSample where
  vin : W16
  iin : W16
  vbank : W16
  currents : List (Fin 48 × W16)
  deriving DecidableEq, Repr

/-- A core's issue in the last microsecond (R359): slots of the F and G engines not skipped, slots used by real work
and by filler. -/
structure CoreSample where
  fTotal : Nat
  fReal : Nat
  fFiller : Nat
  gTotal : Nat
  gReal : Nat
  gFiller : Nat
  /-- Core-cycles of filler issue. -/
  fillerCycles : Nat
  deriving DecidableEq, Repr

/-- What the Reckoning model gives for one die over the last millisecond, in mW (R364). -/
structure DiePower where
  dyn : Nat
  leak : Nat
  other : Nat
  /-- Mean of B_c over the period, in 1/256. -/
  bubble : Nat
  deriving DecidableEq, Repr

/-- The inputs of one slow-loop period: the powers of each die, the mean of B_c over all usable
clusters, and the mean input power in W (R364, R369, R477). -/
structure SlowSample where
  dies : List DiePower
  bubbleAvg : Nat
  meanPower : W16
  deriving DecidableEq, Repr

/-- The event classes of Table 11-3; HBM4E row activations are counted apart from transfers. -/
inductive ReckonClass where
  | mx4 | mx6 | mx8 | mx16 | mx32 | fill | vec | cvt | sram | noc | cache | hbm | hbmRow | link
  deriving DecidableEq, Repr

/-- Events of one class counted in the units of one region over a Reckoning interval (R370). -/
structure ReckonCount where
  cls : ReckonClass
  region : Fin 48
  count : Nat
  deriving DecidableEq, Repr

/-- The inputs of one 10 µs Reckoning interval: the metered energy in µJ and the event counts (R370, R371). -/
structure ReckonSample where
  metered : Nat
  counts : List ReckonCount
  deriving DecidableEq, Repr

/-- What a temperature sensor delivers: its front end reports an open or a short, or a reading in eighths of a
degree (R374). -/
inductive SensorReading where
  | openShort
  | temp (eighths : Int)
  deriving DecidableEq, Repr

/-- A memory error: where it struck (Table 14-1). Indices are those of Table 14-6; for HBM4E the module address of
the 64-byte transfer and the controller's row (R440). -/
inductive EccSite where
  | compass (core : Fin 288) (row : Nat)
  | accumulator (core : Fin 288) (row : Nat)
  | clusterStore (cluster : Fin 32) (row : Nat) (replica : Bool) (entry : Option Nat)
  | slice (slice : Fin 32) (row : Nat) (dirtyLine : Option Addr)
  | staging (die : Fin 4) (slot : Nat)
  | hbm (addr : Addr) (row : Nat)
  | chart (entry : BitVec 19) (row : Nat)
  | binnacle (addr : W64) (row : Nat)
  | mram (block : Fin 3) (copyB : Bool)
  deriving DecidableEq, Repr

/-- A failing row or column found by March C− (R448): the unit code and the target within its memory. -/
structure BistFault where
  site : EccSite
  deriving DecidableEq, Repr

/-- Which role of the module a passage command or event belongs to: its own, or the one it carries for a lost twin
(R322). -/
inductive RoleSel where
  | own | carried
  deriving DecidableEq, Repr

/-- The units that hold a leg queue (Table 7-5, R212). -/
inductive Engine where
  | f | g | v | u | dma | stage | knot
  deriving DecidableEq, Repr

/-- The receiver of a control message: its mesh address, by logical core and unit (R250). -/
structure UnitAddr where
  core : Fin 256
  engine : Engine
  deriving DecidableEq, Repr

/-- A fabric packet as the receiver decodes it (Tables 9-3 and 9-4); `headOk` and `dataOk` are the outcomes of HCRC and
DCRC, which the link's bits fix (R299). -/
structure Packet where
  ptype : BitVec 4
  cls : BitVec 2
  esc : Bool
  dest : BitVec 14
  src : BitVec 14
  hops : Byte
  knot : BitVec 12
  addr : Addr
  attempt : W16
  tag : W16
  arg : W32
  aux : BitVec 12
  ext0 : W64
  ext1 : W64
  data : List Byte
  headOk : Bool
  dataOk : Bool
  deriving DecidableEq, Repr

/-- What a received codeword holds (R292 to R295): it is uncorrectable; or its symbols corrected, the ACK_CW and NAK of its
link fields, the credits returned by virtual channel, whether it is an idle codeword, and the packets that end in it. -/
inductive Codeword where
  | uncorrectable
  | sound (count : BitVec 24) (corrected : BitVec 5) (ack : BitVec 24) (nak : Bool) (credits : List (Fin 8 × BitVec 11))
      (idle : Bool) (flits : Nat) (packets : List Packet)
  deriving DecidableEq, Repr

/-- A sighting record (Table 9-5). -/
structure SightRecord where
  uid : W64
  seq : W32
  variant : W16
  handover : Bool
  aka : Option (BitVec 14)
  pinned : Bool
  nodeId : Option (BitVec 14)
  twinUid : W64
  peers : List W64
  deriving DecidableEq, Repr

/-- What a SIGHT packet carries (R301, R302): a hello with the UID, the port and the part number, or a record. -/
inductive SightMsg where
  | hello (uid : W64) (port : Fin 17) (variant : W16)
  | record (r : SightRecord)
  deriving DecidableEq, Repr

/-- The four timestamps of a TIME exchange (R312). -/
structure TimeStamps where
  t1 : W64
  t2 : W64
  t3 : W64
  t4 : W64
  deriving DecidableEq, Repr

/-- The state record of a commit (Table 9-8): step, attempt, LEVEL, the tensors' own rungs, the Drift watch slots as the
FP64 code of h and n, and NUM_UPD_CFG. -/
structure MirrorState where
  step : W64
  attempt : W64
  level : BitVec 2
  rungs : List (W16 × BitVec 2)
  history : List (W16 × W64 × Byte)
  updCfg : W64
  deriving DecidableEq, Repr

/-- What a TWIN packet says (R314 to R324); its coding is not in spec/. -/
inductive TwinMsg where
  /-- Table 9-7 step 2: UID, part number, firmware major version, node ID, and whether ENABLE is 1 there. -/
  | hello (uid : W64) (variant : W16) (fwMajor : W16) (node : Option (BitVec 14)) (enabled : Bool)
  /-- Step 4: a nonce for the other to sign, and the answer to one: the DeviceID certificate chain and a signature (R461). -/
  | challenge (nonce : List Byte)
  | answer (chain signature : List Byte)
  /-- With MIRROR_VALID of the sender, and whether it is armed. -/
  | heartbeat (mirrorValid armed : Bool)
  /-- The partner is armed: MIRROR_GIB, its content with two gradient buffers in bytes, its tensor IDs, its knots, its
  reservation in bytes, its image and the member lists it copied, by their addresses (R315, R322). -/
  | armed (mirrorGib : W16) (content : Nat) (tensors : List W16) (knots : List (BitVec 12)) (reservation : Nat)
      (image : List Byte) (lists : List (Addr × List Byte))
  /-- A landed gradient tile of the step record. -/
  | recordTile (step : W64) (tensor : W16) (tile : W32) (bytes : List Byte)
  /-- A mask tile of the step record. -/
  | maskTile (step : W64) (tensor : W16) (tile : W32) (bytes : List Byte)
  /-- The closing part: c and the norm as FP32 codes, whether pass 2 is skipped, and the parameter entry's scalars. -/
  | closing (step : W64) (clip norm : W32) (skipped : Bool) (entry : List W32)
  /-- The state record of a commit with its digest (Table 9-8, R318). -/
  | commit (st : MirrorState) (digest : W32)
  /-- A seed tile of the sender's mirrored content at a commit, with its rung. -/
  | seedTile (step : W64) (tensor : W16) (tile : W32) (rung : BitVec 2) (bytes : List Byte)
  /-- The twin restores and asks for its tensors as the mirror holds them (R397), and a tile of the answer. -/
  | restoreAsk (tensors : List W16)
  | restoreTile (tensor : W16) (tile : W32) (rung : BitVec 2) (bytes : List Byte)
  /-- Handover: the lost node ID, the lost module's image with its member lists, and its state record; the mirror follows as
  seed tiles (R323). -/
  | handover (node : BitVec 14) (image : List Byte) (lists : List (Addr × List Byte)) (st : MirrorState)
  | ackClosing (step : W64)
  | ackRecord (step : W64)
  | farewell
  /-- FAULTED, SAFE or a stop on hold-up. -/
  | stopping
  deriving DecidableEq, Repr

/-- A Binnacle-to-Binnacle message; only the announcement of a stop is described (R347, R299). -/
inductive MgmtMsg where
  | stopping
  | other (bytes : List Byte)
  deriving DecidableEq, Repr

/-- The commands: the rows of spec/opcode_table.json in its order. -/
inductive Instr where
  /-- `REG_READ_LOW_HALF` (R17): An aligned 32-bit read of a register's low half returns it, fills the requester's shadow with the high half, and clears every RC field of the register. -/
  | regReadLowHalf (who : Requester) (win : Window) (reg : BitVec 29)
  /-- `REG_READ_HIGH_HALF` (R17): An aligned 32-bit read of a high half uses up the requester's shadow, returning it for the same register, or else returns and clears the current high half. -/
  | regReadHighHalf (who : Requester) (win : Window) (reg : BitVec 29)
  /-- `REG_READ_FULL_WIDTH` (R17): An aligned 64-bit read returns both halves as they stood in one cycle and clears every RC field of the register. -/
  | regReadFullWidth (who : Requester) (win : Window) (reg : BitVec 29)
  /-- `REG_READ_UNALIGNED` (R17): A 32- or 64-bit read at an offset that is not a multiple of its size returns zero, latches nothing and posts a bad-register-access event. -/
  | regReadUnaligned (who : Requester) (win : Window) (off : W32) (width : Width)
  /-- `REG_WRITE` (R17): A write to a register with no row of its own updates its RW, W1C or W1S fields by their access type, or is discarded when it is narrower than 32 bits or unaligned. -/
  | regWrite (who : Requester) (win : Window) (off : W32) (width : Width) (value : W64) (poisoned : Bool)
  /-- `NUM_FF_VALID_CLEAR` (R85): Writing 1 to VALID of a first-fault record empties the record so that the next INVALID is captured. -/
  | numFfValidClear (unit : Fin 2048)
  /-- `NUM_CLEAR_ALL_FLAGS` (R88): A write to NUM_CLEAR_ALL.FLAGS clears the chosen sticky flags in every unit; a unit whose flag is set in the same cycle keeps it. -/
  | numClearAllFlags (flags : BitVec 5)
  /-- `NUM_CLEAR_ALL_RECORDS` (R85): A write to NUM_CLEAR_ALL.RECORDS empties every first-fault record, except one that captures in the same cycle. -/
  | numClearAllRecords
  /-- `NUM_SR_PROBE_WRITE` (R81): A write to NUM_SR_SEED, NUM_SR_STEP or NUM_SR_INDEX recomputes NUM_SR_RESULT from the generator of R78. -/
  | numSrProbeWrite (probe : Probe) (value : W64)
  /-- `SND_CLEAR_PROMOTION` (R148): Writing SND_CLEAR.PROMOTION sets SND_PROMOTE.LEVEL to 0 from the next step start. -/
  | sndClearPromotion
  /-- `SND_CLEAR_TENSOR` (R148): Writing SND_CLEAR.TENSOR clears the rung of the tensor named by TENSOR_ID from the next step start. -/
  | sndClearTensor (tensor : W16)
  /-- `SND_CLEAR_ALL_TENSORS` (R148): Writing SND_CLEAR.ALL_TENSORS clears every tensor rung from the next step start. -/
  | sndClearAllTensors
  /-- `CHT_INDEX_WRITE` (R228): Writing CHT_INDEX copies the indexed Chart entry into CHT_DATA0 to CHT_DATA3 as it stood in one cycle. -/
  | chtIndexWrite (index : BitVec 19)
  /-- `KNT_ADVANCE` (R258): A host write to KNT_ADVANCE adds AMOUNT to the knot; 0 has no effect. -/
  | kntAdvance (knot : BitVec 12) (amount : W32)
  /-- `KNT_INTEGRITY_CLEAR` (R287): Writing 1 to KNT_INTEGRITY.VALID empties the integrity-failure record; a capture in the same cycle wins. -/
  | kntIntegrityClear
  /-- `FAB_ROUTE_COMMIT` (R309): Writing COMMIT checks the shadow route table and either swaps it into the active table in one cycle or refuses it. -/
  | fabRouteCommit
  /-- `FAB_ROUTE_COPY` (R326): Writing COPY copies the active route table into the shadow table. -/
  | fabRouteCopy
  /-- `HELM_IN_MIN_REARM` (R340): Writing REARM re-arms the input minimum-voltage capture from the next sample. -/
  | helmInMinRearm
  /-- `HELM_RGN_VMIN_REARM` (R340): Writing REARM re-arms a region's minimum rail-voltage capture from the next sample. -/
  | helmRgnVminRearm (region : Fin 48)
  /-- `HELM_CAP_WRITE` (R351): A write of the host cap or of BUDGET_EN takes effect as limit 1, or gates limit 2, within 10 µs. -/
  | helmCapWrite (value : W64)
  /-- `HELM_SENSOR_SUSPECT_CLEAR` (R375): A W1C of SUSPECT clears the pair's mark and restarts the 1 s disagreement count. -/
  | helmSensorSuspectClear (sensor : Fin 144)
  /-- `MBX_ENABLE` (R416): A 0-to-1 change of MBX_CFG.ENABLE sets SQ_HEAD and CQ_TAIL to 0 and starts the mailbox, or stops it with an error for a bad depth. -/
  | mbxEnable (m : Fin 64) (cfg : W64)
  /-- `MBX_DISABLE` (R416): Clearing ENABLE stops fetching at once; a command already executing runs to its end. -/
  | mbxDisable (m : Fin 64) (cfg : W64)
  /-- `MBX_SQ_DOORBELL` (R416): A write of SQ_TAIL tells the mailbox that commands are ready, or stops it with an error when the value is at or beyond the depth. -/
  | mbxSqDoorbell (m : Fin 64) (tail : BitVec 12)
  /-- `MBX_CQ_HEAD_WRITE` (R418): The host's write of CQ_HEAD frees completion slots, or stops the mailbox with ERR_CAUSE 5 when at or beyond the depth. -/
  | mbxCqHeadWrite (m : Fin 64) (head : BitVec 12)
  /-- `MBX_ERROR_CLEAR` (R418): A W1C of MBX_STATUS.ERROR clears the stopped state ahead of a restart by ENABLE. -/
  | mbxErrorClear (m : Fin 64)
  /-- `COMMAND_FETCH` (R417): Binnacle fetches the next command of a running mailbox, in rotation across mailboxes, checks it and executes it. -/
  | commandFetch (fetch : Fetch)
  /-- `COMPLETION_WRITE` (R418): A held completion is written at CQ_TAIL once a slot is free, with PHASE, and VECTOR is signalled when INT_EN is set. -/
  | completionWrite (m : Fin 64) (failed : Bool)
  /-- `EVT_RING_ENABLE` (R423): A 0-to-1 change of EVT_RING_CFG.ENABLE sets TAIL to 0 and starts delivery, or stops the ring for a bad depth. -/
  | evtRingEnable (cfg : W64)
  /-- `EVT_RING_HEAD_WRITE` (R423): A write of EVT_RING_HEAD frees record slots, or stops the ring with ERROR when at or beyond the depth. -/
  | evtRingHeadWrite (head : W16)
  /-- `EVT_INT_ENABLE` (R423): Setting INT_EN signals VECTOR at once, or at the end of the hold-off, when a signal is owed and unconsumed records remain. -/
  | evtIntEnable
  /-- `EVENT_RECORD_WRITE` (R426): A queued event record is written into a free slot of the event ring in SEQ order. -/
  | eventRecordWrite (failed : Bool)
  /-- `EVENT_INTERRUPT_HOLDOFF` (R423): The end of the HOLDOFF interval lets an owed event interrupt be signalled. -/
  | eventInterruptHoldoff
  /-- `MSIX_VECTOR_UNMASK` (R427): Unmasking an MSI-X vector whose pending bit is set signals it. -/
  | msixVectorUnmask (vector : Fin 2048)
  /-- `CAP_STOP_REC_CLEAR` (R401): Writing 1 to CAP_STOP_REC VALID empties the window and sets the record's cleared mark in MRAM within 1 ms. -/
  | capStopRecClear
  /-- `BAR4_READ` (R412): A host read through BAR4 reaches HBM4E at CAP_BAR4_BASE plus the offset, through the owning slice, or reads zero for absent or unused stacks. -/
  | bar4Read (off : BitVec 39) (len : Nat)
  /-- `BAR4_WRITE` (R412): A host write through BAR4 reaches HBM4E through the owning slice, or is ignored for absent or unused stacks or outside the running states. -/
  | bar4Write (off : BitVec 39) (bytes : List Byte) (poisoned : Bool)
  /-- `NOP` (R420): Command that does nothing and completes OK. -/
  | nop (c : Cmd)
  /-- `IDENT_GET` (R420): Command that returns FAB_UID, CAP_IDENT and CAP_VERSION. -/
  | identGet (c : Cmd)
  /-- `MEASURE_GET` (R457): Command that writes a measurement register, its extend count and zeros to a 64-byte buffer. -/
  | measureGet (c : Cmd)
  /-- `STORE` (R430): Command that writes each MRAM block differing from its sound copy, in bit order, or completes WORN when endurance would be exceeded. -/
  | store (c : Cmd)
  /-- `FW_UPDATE` (R420): Command that verifies a firmware image, writes it to the slot the pointer does not name, and only then repoints the pointer. -/
  | fwUpdate (c : Cmd)
  /-- `DEVICE_RESET` (R404): Command that switches off every region but hub.q0, returns RW fields to reset and runs the power-up sequence from BOOT. -/
  | deviceReset (c : Cmd)
  /-- `DEVICE_RECOVER` (R403): Command that leaves SAFE when every plausible reading is below 90 °C, clears TRIPPED and restarts from the 60 ms event with BIST. -/
  | deviceRecover (c : Cmd)
  /-- `BIST_RUN` (R449): Command that runs the selected logic, SRAM and HBM4E BIST in SELFTEST and completes on return to READY. -/
  | bistRun (c : Cmd)
  /-- `UNIT_RETIRE` (R446): Command that retires the unit named by its unit code, with the consequences of Table 14-4. -/
  | unitRetire (c : Cmd)
  /-- `UNIT_RETIRE_REMOVAL` (R446): UNIT_RETIRE with ARG0 bit 32 set removes the unit's retirement record, effective at the next BOOT after a STORE. -/
  | unitRetireRemoval (c : Cmd)
  /-- `PASSAGE_LOAD` (R244): Command that copies, checks, reserves, places and initialises a passage image, or refuses it with a load status. -/
  | passageLoad (c : Cmd)
  /-- `PASSAGE_UNLOAD` (R246): Command that frees every reservation and Chart entry, keeping the Drift watch history slots for the next load. -/
  | passageUnload (c : Cmd)
  /-- `PASSAGE_ARM` (R246): Command that sets the step number to the step base, records knot arm bases, sets the attempt to 0 and enters ARMED. -/
  | passageArm (c : Cmd)
  /-- `STEP_RUN` (R246): Command that runs the given count of steps, or runs until stopped, and enters RUNNING. -/
  | stepRun (c : Cmd)
  /-- `STEP_STOP` (R246): Command that finishes and commits the current step through DRAINING and then returns to ARMED. -/
  | stepStop (c : Cmd)
  /-- `STEP_HOLD` (R274): Command that withholds the module's arrival at the next Rendezvous until STEP_RESUME and enters HELD. -/
  | stepHold (c : Cmd)
  /-- `STEP_RESUME` (R246): Command that leaves HELD, sends the withheld arrival and continues running. -/
  | stepResume (c : Cmd)
  /-- `STEP_ABORT` (R249): Command that discards the current step at once before pass 2, or defers to the commit and acts as STEP_STOP. -/
  | stepAbort (c : Cmd)
  /-- `PASSAGE_DISARM` (R246): Command that discards any step in progress, starts a restore where needed and returns to READY. -/
  | passageDisarm (c : Cmd)
  /-- `DUTY_SET` (R253): Command that switches the named functions between hardware and host-assisted mode, or changes none with STATE_CONFLICT. -/
  | dutySet (c : Cmd)
  /-- `HOSTMAP_SET` (R225): Command that replaces the leg-to-core map in host-assisted placement, letting held legs resume. -/
  | hostmapSet (c : Cmd)
  /-- `UPD_CLIP_SET` (R254): Command that supplies c and the non-finite policy for the step in progress in host-assisted update, releasing pass 2. -/
  | updClipSet (c : Cmd)
  /-- `RUNG_SET` (R420): Command that writes a tensor's rung in SND_TENSOR_RUNG from the next step start. -/
  | rungSet (c : Cmd)
  /-- `HISTORY_READ` (R420): Command that returns h and n of a watched tensor's Drift watch history slot. -/
  | historyRead (c : Cmd)
  /-- `HISTORY_WRITE` (R420): Command that writes h and n of a watched tensor's history slot from the next step start. -/
  | historyWrite (c : Cmd)
  /-- `SNAPSHOT_REQUEST` (R185): Command that accepts a snapshot of named weight tensors at boundary step N, or refuses it with BAD_ARGUMENT or BUSY. -/
  | snapshotRequest (c : Cmd)
  /-- `SNAPSHOT_ABORT` (R188): Command that aborts the snapshot in flight, clears pending marks, releases the reserve and posts SNAPSHOT_FAILED. -/
  | snapshotAbort (c : Cmd)
  /-- `RESTORE_COMPLETE` (R398): Command by which the host declares a host restore written, unblocking STEP_RESUME and PASSAGE_ARM. -/
  | restoreComplete (c : Cmd)
  /-- `FABRIC_RELEASE_ID` (R304): Command that releases the node ID reserved for a departed module's UID. -/
  | fabricReleaseId (c : Cmd)
  /-- `TWIN_CARRY` (R322): Command that makes a SOLO survivor take the lost partner's alias and load, arm and run its passage from the mirror. -/
  | twinCarry (c : Cmd)
  /-- `TWIN_HANDOVER` (R323): Command that passes the mirror, image and state record to a paired replacement that then takes the lost role. -/
  | twinHandover (c : Cmd)
  /-- `TWIN_RELEASE` (R321): Command that drops the mirror and resumes the survivor alone. -/
  | twinRelease (c : Cmd)
  /-- `TWIN_DETACH` (R324): Command that stops mirroring at the next commit, exchanges a farewell and takes the twin link down squelched. -/
  | twinDetach (c : Cmd)
  /-- `PERST_ASSERT` (R394): Assertion of PERST# after link-up resets only the PCIe controller, configuration space, BARs and MSI-X table. -/
  | perstAssert
  /-- `PERST_DEASSERT` (R393): Deassertion of PERST# lets PCIe link training begin, but not before the 70 ms event. -/
  | perstDeassert
  /-- `PCIE_LINK_UP` (R393): PCIe link training completes at the highest common rate and width within 20 ms. -/
  | pcieLinkUp (gen : Fin 3) (width : Fin 3)
  /-- `D3HOT_ENTRY` (R409): Entry to D3hot stops traffic toward the host while the device keeps running and queues events. -/
  | d3hotEntry
  /-- `D0_RETURN` (R409): Return to D0 restores the configuration without a reset and lets held host traffic resume. -/
  | d0Return
  /-- `BUS_MASTER_ENABLE_CHANGE` (R409): A change of Bus Master Enable stops or resumes the device's requests toward the host. -/
  | busMasterEnableChange (enable : Bool)
  /-- `HOST_TRANSFER_TIMEOUT` (R409): A snapshot or off-load transfer to the host that has waited 50 ms fails as a PCIe completion error. -/
  | hostTransferTimeout (offload : Bool)
  /-- `PCIE_COMPLETION_ERROR` (R410): A completion error, timeout or poisoned completion on a host access has the outcome of Table 13-2a for its kind of access. -/
  | pcieCompletionError (access : HostAccess)
  /-- `GET_VERSION` (R459): SPDM request over DOE answered with the supported versions 1.2 and 1.3. -/
  | getVersion
  /-- `GET_CAPABILITIES` (R459): SPDM request answered with CERT_CAP, CHAL_CAP and signed MEAS_CAP. -/
  | getCapabilities
  /-- `NEGOTIATE_ALGORITHMS` (R459): SPDM request answered with ECDSA P-384 and SHA-384. -/
  | negotiateAlgorithms
  /-- `GET_DIGESTS` (R459): SPDM request answered with the digest of certificate slot 0. -/
  | getDigests
  /-- `GET_CERTIFICATE` (R459): SPDM request answered with the slot 0 chain ending at the attestation key. -/
  | getCertificate (offset len : W16)
  /-- `CHALLENGE` (R460): SPDM request answered with an attestation-key signature, or an ERROR while the key store is cleared. -/
  | challenge (transcript : List Byte)
  /-- `GET_MEASUREMENTS` (R459): SPDM request answered with M0 to M4 as measurement blocks, signed when asked and when signing is available. -/
  | getMeasurements (signed : Bool) (index : Byte) (transcript : List Byte)
  /-- `SPDM_UNSUPPORTED_REQUEST` (R459): An SPDM request outside Table 14-12 receives ERROR with UnsupportedRequest. -/
  | spdmUnsupportedRequest (code : Byte)
  /-- `IDCODE` (R453): TAP instruction available at all times that selects the identification register. -/
  | idcode
  /-- `BYPASS` (R453): TAP instruction available at all times that selects the bypass register. -/
  | bypass
  /-- `EXTEST` (R453): TAP boundary-scan instruction, effective only after a debug unlock. -/
  | extest
  /-- `SAMPLE_PRELOAD` (R453): TAP SAMPLE/PRELOAD instruction, effective only after a debug unlock. -/
  | samplePreload
  /-- `INTERNAL_SCAN` (R452): Internal scan from the test port after a debug unlock, preceded by the clearing of secrets. -/
  | internalScan
  /-- `DEBUG_UNLOCK` (R453): An unlock token presented at the TAP is verified and, when accepted, clears secrets, extends M3 and sets DEBUG_UNLOCKED. -/
  | debugUnlock (token : Option (List Byte))
  /-- `SETDASA` (R476): I3C command that assigns the module a dynamic address from its static address. -/
  | setdasa (static dyn : BitVec 7)
  /-- `ENTDAA` (R476): I3C dynamic-address assignment in which the module offers a provisional ID from FAB_UID. -/
  | entdaa (dyn : BitVec 7)
  /-- `MG_REGISTER_READ` (R476): An I3C private read returns consecutive management registers and clears an RC field whose every byte it returns. -/
  | mgRegisterRead (index : Byte) (len : Nat)
  /-- `MG_ALERT_CLEAR` (R477): An I3C W1C write to MG_ALERT clears alert bits, releasing ALERT_N when none remain. -/
  | mgAlertClear (mask : W32)
  /-- `MG_COOLANT_WRITE` (R479): A tray coolant reading written over I3C is checked and either accepted into HELM_COOLANT with AGE restarted, or discarded and counted. -/
  | mgCoolantWrite (index : Byte) (bytes : List Byte)
  /-- `COOLANT_HOLD_END` (R380): After flow has stood at or above 50 % of rated for 1 s with the outlet no longer rising, the floor hold ends. -/
  | coolantHoldEnd
  /-- `COOLANT_DATA_LOST` (R381): When no usable coolant reading has arrived for 100 ms, limit 8 applies and the event is posted. -/
  | coolantDataLost
  /-- `BUDGET_FRAME` (R480): A budget frame received on the budget input is checked and, when valid, taken into limit 2 within 1 µs. -/
  | budgetFrame (frame : List Byte)
  /-- `BUDGET_LOST` (R481): When no valid budget frame has arrived for 10 ms, the last budget is held and the event is posted. -/
  | budgetLost
  /-- `TW_PRESENT_RELEASE` (R472): Release of TW_PRESENT_N while the twin link is up acts as a loss of the twin link. -/
  | twPresentRelease
  /-- `POWER_UP` (R388): When the input has stood at 58 V or more for 10 ms with the module OFF, the input switch closes and Stage A and the charger start. -/
  | powerUp
  /-- `BUS_IN_REGULATION` (R388): Once the 6 V bus is in regulation, hub.q0 is enabled. -/
  | busInRegulation
  /-- `BOOT_ENTRY` (R388): With hub.q0 ON and REFOSC and BCLK locked, DTIME and knots start at 0, the state becomes BOOT and the boot ROM runs. -/
  | bootEntry (slotId : BitVec 4)
  /-- `BOOT_ROM_VERIFY` (R391): The boot ROM verifies a firmware slot, extends M0 and starts the image, or tries the other slot, or enters FAULTED with BOOT_AUTH. -/
  | bootRomVerify
  /-- `VTABLE_READ` (R362): Binnacle reads each fused voltage-table entry and its MRAM copy and chooses the sound source or marks indices unusable. -/
  | vtableRead
  /-- `BRIDGE_TRAINING_DONE` (R395): The in-package bridges finish training, or a failed bridge is routed around or leaves its die unused. -/
  | bridgeTrainingDone (bridge : Fin 8) (ok : Bool)
  /-- `STACK_TRAINING_DONE` (R395): A stack finishes training and zeroing, or after three failures is left unused. -/
  | stackTrainingDone (stack : Fin 8) (ok : Bool)
  /-- `SETTINGS_LOAD` (R429): Persistent settings are loaded from MRAM, defaults are applied for unsound blocks and soft repairs are reloaded. -/
  | settingsLoad
  /-- `BIST_BATCH_COMPLETE` (R449): A die's batch of logic BIST domains finishes and each MISR is compared with its golden signature. -/
  | bistBatchComplete (die : Fin 4) (failedCores : List (Fin 72)) (failedClusters : List (Fin 8)) (failedUncore : Bool)
  /-- `MEMORY_BIST_COMPLETE` (R448): March C− over the selected SRAMs or HBM4E finishes, with failing rows repaired or their owners retired. -/
  | memoryBistComplete (hbm : Bool) (faults : List BistFault)
  /-- `BIST_CONDITION_LOST` (R451): When a BIST condition leaves its range, BIST stops within 10 µs and unfinished domain results are discarded. -/
  | bistConditionLost (condition : Fin 9)
  /-- `CORE_NUMBERING` (R10): Firmware numbers the usable cores densely, letting the spare stand in, and writes N_CORES. -/
  | coreNumbering
  /-- `READY_ENTRY` (R388): At the later of the sequence end and HOLDUP_READY, or after the 2 s limit, the module enters READY. -/
  | readyEntry
  /-- `HOLDUP_READY_TIMEOUT` (R346): When the bank is not ready 2 s after the sequence would enter READY, it enters READY anyway and posts HOLDUP_FAULT. -/
  | holdupReadyTimeout
  /-- `HOLDUP_BANK_READY` (R346): The hold-up bank reaching 76 V sets HOLDUP_READY. -/
  | holdupBankReady (vbank : W16)
  /-- `HOLDUP_BANK_LOW` (R346): The hold-up bank falling below 74 V clears HOLDUP_READY. -/
  | holdupBankLow (vbank : W16)
  /-- `UNDERVOLTAGE_TIMER_START` (R328): The input falling below 56 V starts the undervoltage timer and floor hold. -/
  | undervoltageTimerStart (vin : W16)
  /-- `UNDERVOLTAGE_TIMER_RESET` (R328): The input staying above 57 V for 100 µs stops and resets the undervoltage timer. -/
  | undervoltageTimerReset
  /-- `UNDERVOLTAGE_TIMER_EXPIRY` (R328): The undervoltage timer reaching 2 ms starts an orderly stop with cause 1. -/
  | undervoltageTimerExpiry (vin vbank : W16)
  /-- `INPUT_BELOW_48V` (R328): The input falling below 48 V starts an orderly stop at once with cause 2. -/
  | inputBelow48v (vin vbank : W16)
  /-- `INPUT_ABOVE_80V` (R328): The input rising above 80 V posts INPUT_HIGH once until it returns to 80 V or below. -/
  | inputAbove80v (vin : W16)
  /-- `INPUT_ABOVE_84V` (R328): The input staying above 84 V for 10 µs starts an orderly stop with cause 3. -/
  | inputAbove84v (vin vbank : W16)
  /-- `PRE_READY_INPUT_LOSS` (R395): An input fault before READY while HOLDUP_READY is 0 switches every region off within 10 µs with no stop record. -/
  | preReadyInputLoss
  /-- `STOP_ANNOUNCE` (R347): At 0.05 ms of a stop the module announces it to the twin, the group, the host and the management bus. -/
  | stopAnnounce
  /-- `STOP_REGIONS_OFF` (R347): By 0.1 ms of a stop the cluster, uncore and stack regions are off and HBM4E contents are lost. -/
  | stopRegionsOff
  /-- `STOP_RECORD_WRITTEN` (R347): By 2.0 ms of a stop Binnacle has written the stop record to MRAM. -/
  | stopRecordWritten
  /-- `STOP_HUB_OFF` (R347): By 2.5 ms of a stop hub.q1 to hub.q3 are off. -/
  | stopHubOff
  /-- `STOP_COMPLETE` (R347): By 3.0 ms of a stop hub.q0 and Stage A are off and the module is OFF. -/
  | stopComplete
  /-- `INPUT_REMOVAL` (R473): The housekeeping supply going out releases the alert lines, loses MG_ALERT and ends every state kept until input removal. -/
  | inputRemoval
  /-- `STAGEA_CELL_FAULT` (R331): A Stage A cell showing a ratio error, over-current or over-temperature is disabled within 1 µs and the ceiling is lowered. -/
  | stageaCellFault (cell : Fin 4) (vin vbank : W16)
  /-- `STAGEA_OVERLOAD_TIMEOUT` (R331): A cell carrying over 100 % of its rating for 100 µs without a break shows an over-current and is disabled. -/
  | stageaOverloadTimeout (cells : BitVec 4) (vin vbank : W16)
  /-- `PHASE_FAILURE` (R341): A regulator phase that fails its monitors is disabled within 1 µs; a second failed phase in a region makes the region dark. -/
  | phaseFailure (region : Fin 48) (phase : Fin 8) (cause : PhaseCause)
  /-- `REGION_CLAMP` (R337): Region current above 125 % of its limit clamps the phases at 15 A, acts the region's actuator and sets CLAMPED within 200 ns. -/
  | regionClamp (region : Fin 48)
  /-- `CLAMP_RELEASE` (R338): After region current has stayed below 80 % for 2 µs, the clamp is released and restoration begins. -/
  | clampRelease (region : Fin 48)
  /-- `CLAMP_RESTORE_STEP` (R338): Each microsecond after release, one sixteenth more of the issue slots or requests is restored. -/
  | clampRestoreStep (region : Fin 48)
  /-- `CLAMP_TIMEOUT` (R338): A clamp lasting 100 µs without release opens the switch and makes the region dark with cause OVERCURRENT. -/
  | clampTimeout (region : Fin 48)
  /-- `RAIL_OVERVOLTAGE` (R339): A rail more than 100 mV above setpoint or above 0.90 V for 1 µs makes the region dark with cause OVERVOLTAGE. -/
  | railOvervoltage (region : Fin 48)
  /-- `DROOP_SKIP_START` (R336): A cluster rail sample more than 50 mV below setpoint makes its engines skip every issue slot from the second cycle after. -/
  | droopSkipStart (region : Fin 48)
  /-- `DROOP_SKIP_END` (R336): The rail returning above setpoint less 30 mV ends the droop skipping. -/
  | droopSkipEnd (region : Fin 48)
  /-- `REGION_ENABLE_REQUEST` (R344): A request to enable a region is refused when dark, or makes it wait DEFERRED for its neighbours. -/
  | regionEnableRequest (region : Fin 48)
  /-- `REGION_DEFER_END` (R344): When every neighbour reads below 80 % or 100 µs have passed, the region closes its switch and enters SOFT_START. -/
  | regionDeferEnd (region : Fin 48)
  /-- `SOFT_START_STEP` (R344): Every 0.5 µs of a soft start the rail rises one step, unless paused by a neighbour's clamp; after the last the region is ON. -/
  | softStartStep (region : Fin 48)
  /-- `FAST_LOOP_UPDATE` (R356): Every 1 µs the fast loop computes the effective cap and updates the module and region bubble levels. -/
  | fastLoopUpdate (sample : FastSample)
  /-- `CORE_ACTIVITY_UPDATE` (R359): Every 1 µs each core measures its activity and sets its ramp and filler limits for the next microsecond. -/
  | coreActivityUpdate (core : Fin 288) (sample : CoreSample)
  /-- `SLOW_LOOP_PERIOD` (R364): Every 1 ms the slow loop chooses the module index, thermal steps and boost, computes coolant limits and sends pace advisories. -/
  | slowLoopPeriod (sample : SlowSample)
  /-- `OPERATING_POINT_CHANGE` (R363): A cluster moves its setpoint and ECLK to a new index, voltage first when raising and clock first when lowering. -/
  | operatingPointChange (cluster : Fin 32)
  /-- `ECLK_CHANGE` (R45): A cluster's ECLK changes frequency at a tile boundary within 2 µs, altering no result. -/
  | eclkChange (cluster : Fin 32)
  /-- `RECKONING_INTERVAL` (R371): Every 10 µs the Reckoning model attributes metered energy to units and categories so that the shares sum to the meter. -/
  | reckoningInterval (sample : ReckonSample)
  /-- `SENSOR_PAIR_DISAGREEMENT` (R375): A pair disagreeing by over 6 °C for more than 1 s without a break is marked suspect. -/
  | sensorPairDisagreement (sensor : Fin 144)
  /-- `HARDWARE_TRIP` (R382): A plausible reading at or above 110 °C switches off the regions within 20 µs and puts the module in SAFE. -/
  | hardwareTrip (sensor : Fin 144) (temp : Int)
  /-- `STEP_START` (R248): At step start the device latches configuration, applies pending mode switches and rungs, and begins the Navigator's assignment. -/
  | stepStart (r : RoleSel)
  /-- `ASSIGNMENT_DONE` (R215): The step-start assignment finishes and ASSIGNING clears. -/
  | assignmentDone (r : RoleSel)
  /-- `REPLICA_COPY` (R213): A DMA engine of a replica cluster copies an entry into its cluster store ahead of the core's leg queue. -/
  | replicaCopy (entry : BitVec 19) (cluster : Fin 32)
  /-- `TOKEN_MESSAGE` (R250): A token control message adds its count to a queue at the receiving unit, or is held by the Navigator for a leg not yet entered. -/
  | tokenMessage (r : RoleSel) (unit : UnitAddr) (msg : W64)
  /-- `CREDIT_MESSAGE` (R250): A credit control message adds its count to the producer's credit for a queue. -/
  | creditMessage (r : RoleSel) (unit : UnitAddr) (msg : W64)
  /-- `STAGING_GRANT` (R113): A staging-grant message from the die staging buffer lets a finished weight-gradient tile drain into it. -/
  | stagingGrant (r : RoleSel) (unit : UnitAddr) (msg : W64)
  /-- `VERDICT_TOKEN_RELEASE` (R138): A release message posts the held tokens of a tile or tensor after a Drift watch or Sight check verdict. -/
  | verdictTokenRelease (r : RoleSel) (unit : UnitAddr) (msg : W64)
  /-- `FORWARD_PRODUCT` (R97): The F engine starts a forward tile chunk in passage order once it holds tokens for its inputs and a credit for its output. -/
  | forwardProduct (r : RoleSel) (core : Fin 256)
  /-- `G_ENGINE_TILE_CHOICE` (R112): Each time its issue can take a tile, the G engine chooses a data- or weight-gradient tile by the alternation pattern and its counts. -/
  | gEngineTileChoice (r : RoleSel) (core : Fin 256)
  /-- `V_PROGRAM` (R166): A V-engine leg runs an element-wise program over its input blocks. -/
  | vProgram (r : RoleSel) (core : Fin 256)
  /-- `V_COMPOSITE` (R169): A V-engine leg runs a composite operation over the rows of its input. -/
  | vComposite (r : RoleSel) (core : Fin 256)
  /-- `ROW_CHUNK_COMBINE` (R168): Once every chunk result of a row reduction phase is present, they are combined and handed to every chunk. -/
  | rowChunkCombine (r : RoleSel) (leg : BitVec 20)
  /-- `COPY` (R108): A DMA leg copies a tensor, converting where the formats differ. -/
  | copy (r : RoleSel) (leg : BitVec 20) (dma : Fin 2)
  /-- `TRANSPOSED_COPY` (R108): A DMA leg transposes a tensor through its square buffer, moving codes and scales unchanged. -/
  | transposedCopy (r : RoleSel) (leg : BitVec 20) (dma : Fin 2)
  /-- `RE_BLOCKED_COPY` (R69): A DMA leg forms a re-blocked copy along the new reduction axis with fresh scales and stochastic rounding. -/
  | reBlockedCopy (r : RoleSel) (leg : BitVec 20) (dma : Fin 2)
  /-- `PARTIAL_FOLD` (R117): A reduction leg adds a weight tile's separate partials in ascending use index on the engine holding the fold from u0. -/
  | partialFold (r : RoleSel) (leg : BitVec 20)
  /-- `TILE_ISSUE_END` (R95): An engine finishes issuing a tile chunk and may issue the next tile in the following cycle. -/
  | tileIssueEnd (r : RoleSel) (core : Fin 256) (g : Bool)
  /-- `CHUNK_RESULT_ARRIVAL` (R98): A chunk result reaches the owning core in carriage form and is held until the tree can use it. -/
  | chunkResultArrival (r : RoleSel) (leg : BitVec 20) (tile : W32)
  /-- `TILE_CONVERT` (R102): The output converter converts a final tile to the output format, choosing block scales and outliers and taking Soundings. -/
  | tileConvert (r : RoleSel) (leg : BitVec 20) (tile : W32)
  /-- `TILE_COMMIT` (R176): The DMA engine posts a tile's commit once all its writes are accepted, and each slice applies it in one cycle. -/
  | tileCommit (r : RoleSel) (leg : BitVec 20) (tile : W32)
  /-- `LEG_FINISH` (R30): A unit finishing work returns credits for inputs it no longer needs and posts tokens for outputs. -/
  | legFinish (r : RoleSel) (leg : BitVec 20)
  /-- `PILOT_REQUEST` (R200): A Pilot issues the next request of its stream in order when it holds a ring-slot credit. -/
  | pilotRequest (r : RoleSel) (leg : BitVec 20) (slot : Fin 16)
  /-- `PILOT_REPLY` (R200): A reply lands a tile; the Pilot posts tokens once all earlier tiles of the stream have landed. -/
  | pilotReply (r : RoleSel) (leg : BitVec 20) (slot : Fin 16) (tile : W32) (remote : List Byte)
  /-- `SOUNDINGS_PARTIAL` (R124): A tile's Soundings partial reaches the die collector and is folded into its tensor's record. -/
  | soundingsPartial (r : RoleSel) (tensor : W16) (tile : W32)
  /-- `SIGHT_CHECK` (R142): The V engine computes a sampled tile's reference and judges each element, passing the tile or finding a miss. -/
  | sightCheck (r : RoleSel) (tensor : W16) (tile : W32)
  /-- `TILE_REPEAT` (R144): A triggered tile or product is run again from its first run one rung up, counting toward the fallback budget. -/
  | tileRepeat (r : RoleSel) (tensor : W16) (tile : W32)
  /-- `UPDATE_PASS_1` (R180): The U engine reads a reduced gradient tile once its token arrives and adds to the exact sum of squares and non-finite count. -/
  | updatePass1 (r : RoleSel) (leg : BitVec 20) (tile : W32)
  /-- `UPDATE_PASS_2` (R183): After GRADIENT_CLOSE completes without discard, the U engine reads the parameter entry and runs the update program over every element tile. -/
  | updatePass2 (r : RoleSel) (leg : BitVec 20) (tile : W32)
  /-- `PARAM_ENTRY_REREAD` (R184): Every 10 µs while held, the device rereads the parameter entry and releases pass 2 once a tag matches. -/
  | paramEntryReread (r : RoleSel)
  /-- `CONTRIBUTION_LEG` (R276): A cluster reduction stage converts a finished weight-gradient tile to FP32 or scaled form with its checksum pair for the collective. -/
  | contributionLeg (r : RoleSel) (leg : BitVec 20) (tile : W32)
  /-- `RED_PARTIAL` (R278): A reduction partial arrives and waits for, or is added to, the member's own contribution and passed on. -/
  | redPartial (p : Packet)
  /-- `REDUCTION_SPILL` (R278): A staging entry waiting past SPILL_WAIT, or with too few free slots, is written to the tile's home and its slot freed. -/
  | reductionSpill (r : RoleSel) (collective : BitVec 12) (tile : W32)
  /-- `RED_RESULT` (R279): A reduction result arrives, is landed and forwarded, posting tokens, advancing the knot and taking Soundings. -/
  | redResult (p : Packet)
  /-- `RENDEZVOUS` (R271): A Rendezvous leg finishes earlier legs, forms its payload and advances its own arrival knot. -/
  | rendezvous (r : RoleSel) (leg : BitVec 20)
  /-- `RENDEZVOUS_ARRIVALS_COMPLETE` (R271): When own and child arrivals are all counted, the member combines payloads and sends arrival to its parent, or as root forms the verdict and releases. -/
  | rendezvousArrivalsComplete (r : RoleSel) (collective : BitVec 12)
  /-- `RDV_ARRIVE` (R271): A child's arrival message advances the parent's arrival knot and stores its payload. -/
  | rdvArrive (p : Packet)
  /-- `RDV_RELEASE` (R272): The parent's release advances the release knot, is passed to children, and the member acts on the verdict. -/
  | rdvRelease (p : Packet)
  /-- `RESTORE_SHIPMENT_LANDED` (R397): When the last tile of the restore set has landed, the entries are RESIDENT and the re-run may begin. -/
  | restoreShipmentLanded (shipment : List (Addr × List Byte))
  /-- `COLLECTIVE_STALLED` (R275): When a member has waited STALL_US for an arrival or release, it posts the event once per episode and keeps waiting. -/
  | collectiveStalled (r : RoleSel) (collective : BitVec 12)
  /-- `SNAPSHOT_SHIP_TILE` (R186): The shipper sends the next pending or reserved tile to the destination within the rate limit. -/
  | snapshotShipTile
  /-- `RESERVE_SLOT_FREED` (R186): A copy-on-write reserve slot freed by shipping lets a waiting writer proceed. -/
  | reserveSlotFreed
  /-- `SNAPSHOT_FOOTER` (R187): After the trailer the footer with COMPLETE is written last, ordered behind the data. -/
  | snapshotFooter
  /-- `OFFLOAD_SHIP` (R223): Once the last forward leg reading a group has finished, the mover ships it to its tier and the entry becomes OUTBOUND. -/
  | offloadShip (r : RoleSel) (group : W16)
  /-- `OFFLOAD_CONFIRM` (R223): When the tier confirms the data, local storage is released and the entry becomes AWAY. -/
  | offloadConfirm (r : RoleSel) (group : W16)
  /-- `OFFLOAD_FETCH` (R223): When the backward pass reaches the return lead, the mover fetches a group back and the entry is INBOUND. -/
  | offloadFetch (r : RoleSel) (group : W16)
  /-- `OFFLOAD_FETCH_DONE` (R223): When a fetched group has returned, the entry is RESIDENT and the remote copy is released. -/
  | offloadFetchDone (r : RoleSel) (group : W16) (shipment : List (Addr × List Byte))
  /-- `BASE_STACK_REBUILD` (R220): After the base stack is lost, Binnacle rebuilds the sighting database in the new base stack from resent records. -/
  | baseStackRebuild
  /-- `ECC_CORRECTED` (R436): A corrected memory error is written back and counted as a fault event, possibly crossing the lasting threshold. -/
  | eccCorrected (site : EccSite)
  /-- `ECC_UNCORRECTABLE` (R436): An uncorrectable memory error has the outcome of Table 14-1 for its memory and is counted and posted. -/
  | eccUncorrectable (site : EccSite)
  /-- `BINNACLE_SRAM_ERROR` (R438): An uncorrectable Binnacle SRAM word writes a fault note to MRAM and acts as DEVICE_RESET. -/
  | binnacleSramError (addr : W64)
  /-- `SOFT_REPAIR_EFFECT` (R443): A soft repair takes effect at its point for the memory type, changing timing only. -/
  | softRepairEffect (repair : Nat)
  /-- `HBM_SCRUB` (R437): Every 16 µs each HBM4E channel reads, checks and rewrites one line. -/
  | hbmScrub (stack : Fin 8) (found : Option EccSite)
  /-- `SLICE_SCRUB` (R437): Every 4 µs each die-cache slice scrubs one line. -/
  | sliceScrub (slice : Fin 32) (found : Option EccSite)
  /-- `LINK_TRAINING_DONE` (R291): A Closon port or twin link finishes lane training at width 8 or 4, or stays DOWN. -/
  | linkTrainingDone (port : Fin 17) (failed : Byte) (reversed : Bool) (polarity : Byte)
  /-- `ALIGNMENT_ACQUIRED` (R293): Two alignment codewords 16,384 apart on every lane give the receiver alignment. -/
  | alignmentAcquired (port : Fin 17)
  /-- `ALIGNMENT_LOSS` (R293): Three consecutive missed alignment codewords lose alignment. -/
  | alignmentLoss (port : Fin 17)
  /-- `CODEWORD_RECEIVE` (R295): A received codeword is decoded; an uncorrectable one is rejected with NAK, and link-field credits and acknowledgements are taken. -/
  | codewordReceive (port : Fin 17) (cw : Codeword)
  /-- `RETRAIN_DONE` (R295): A retrain finishes and resends what is unacknowledged, or fails and takes the port DOWN. -/
  | retrainDone (port : Fin 17) (ok : Bool)
  /-- `ALIGNMENT_LOSS_TIMEOUT` (R295): Alignment lost for 1 ms takes the port DOWN, dropping held packets. -/
  | alignmentLossTimeout (port : Fin 17)
  /-- `TRAINING_TIMEOUT` (R295): Training not finished within 500 ms takes the port DOWN. -/
  | trainingTimeout (port : Fin 17)
  /-- `FLAP_HOLD_EXPIRY` (R295): After FLAP_HOLD a DOWN port may train again. -/
  | flapHoldExpiry (port : Fin 17)
  /-- `ROUTER_HOP` (R307): A packet head at a router is delivered, sent on an adaptive minimal port, sent on the escape port, retried or dropped. -/
  | routerHop (n : Nat)
  /-- `UNROUTABLE_HOLD_TIMEOUT` (R308): A packet whose every port is gone is dropped as unroutable after 1 ms. -/
  | unroutableHoldTimeout (n : Nat)
  /-- `WRITE` (R263): A remote write packet is applied at its address and counted for its source and knot. -/
  | write (p : Packet)
  /-- `READ_REQ` (R299): A remote read request is answered with a READ_RESP carrying the data or an unmapped status. -/
  | readReq (p : Packet)
  /-- `READ_RESP` (R300): A read response completes a read, or is dropped for a retired tag. -/
  | readResp (p : Packet)
  /-- `ACK` (R300): An acknowledgement lowers the source's count of unacknowledged writes and signals. -/
  | ack (p : Packet)
  /-- `SIGNAL` (R263): A remote signal advances its knot once the announced number of writes from its source is visible. -/
  | signal (p : Packet)
  /-- `PACE` (R285): A received pace advisory is posted as PACE_ADVISORY. -/
  | pace (p : Packet)
  /-- `SIGHT` (R302): A hello or sighting record is received; hellos detect loopbacks, and new records are stored and flooded. -/
  | sight (port : Fin 17) (msg : SightMsg)
  /-- `TIME` (R312): A TIME exchange with the time parent yields the offset that steps or slews DTIME. -/
  | time (stamps : TimeStamps)
  /-- `TWIN` (R314): A TWIN packet carries pairing, heartbeat, mirror control, farewell or a stop announcement from the partner. -/
  | twin (msg : TwinMsg)
  /-- `MGMT` (R299): A Binnacle-to-Binnacle message, such as a stop announcement, is received. -/
  | mgmt (src : BitVec 14) (msg : MgmtMsg)
  /-- `BAD_PACKET_TYPE` (R299): A packet of PTYPE 14 or 15 is dropped and counted. -/
  | badPacketType (p : Packet)
  /-- `ACK_SEND_TIMER` (R300): An ACK is sent at the latest 2 µs after the first unacknowledged write, or once 64 are pending. -/
  | ackSendTimer (src : BitVec 14)
  /-- `ACK_TIMEOUT` (R300): A count of unacknowledged writes staying above zero for ACK_TIMEOUT posts FABRIC_LOSS and marks the destination unreachable. -/
  | ackTimeout (dest : BitVec 14)
  /-- `READ_TIMEOUT` (R300): A read without reply within READ_TIMEOUT is reissued once with a new tag, and a second timeout makes the peer unreachable. -/
  | readTimeout (tag : W16)
  /-- `SIGHTING_RECORD_SEND` (R302): Every 1 s, and on change, a module sends its sighting record on every up port. -/
  | sightingRecordSend
  /-- `SIGHTING_DEPARTURE` (R302): A record not refreshed for 5 s marks its module departed. -/
  | sightingDeparture (uid : W64)
  /-- `SIGHTING_QUIET` (R303): When no record has changed for 2 ms, sighting is quiet and node IDs and the time root are assigned. -/
  | sightingQuiet
  /-- `ROUTE_COMPUTE` (R306): In hardware routing Binnacle computes the shadow table and commits it within 50 ms. -/
  | routeCompute
  /-- `TIME_EXCHANGE` (R312): Every 1 ms a module starts a TIME exchange with its time parent. -/
  | timeExchange
  /-- `DTIME_SLEW` (R312): Once each microsecond while slewing, one BCLK cycle advances DTIME by 2 or by 0. -/
  | dtimeSlew
  /-- `TWIN_HEARTBEAT` (R320): Every 100 µs a module sends a TWIN heartbeat over the twin link or the fabric. -/
  | twinHeartbeat
  /-- `TWIN_SILENCE` (R320): No TWIN packet from the partner on either path for 1 ms makes the partner lost and starts failover. -/
  | twinSilence
  /-- `MIRROR_ACK` (R317): The partner's acknowledgement of the closing part or the whole record lets pass 2 or the STEP_CLOSE arrival proceed. -/
  | mirrorAck (whole : Bool) (step : W64)
  /-- `MIRROR_COMPUTATION` (R316): After the partner's commit, the module runs the partner's pass 2 over the mirror from the record. -/
  | mirrorComputation
  /-- `SEED_COMPLETE` (R319): Seeding finishes, MIRROR_VALID is set and mirror computation starts with the next record. -/
  | seedComplete
  /-- `HANDOVER_SHIPMENT_DONE` (R323): The replacement has the mirror, image and state record, claims the node ID, and both twins finish the handover. -/
  | handoverShipmentDone (ok : Bool)
  /-- `FRW_GO` (R433): Writing GO in the Forerunner window copies the descriptor and starts a job, or refuses it, or discards it while BUSY. -/
  | frwGo (value : W32)
  /-- `FORERUNNER_JOB_DONE` (R434): A Forerunner job finishes, clearing BUSY, setting CODE and raising FRW_DONE. -/
  | forerunnerJobDone
  /-- `PCIE_LINK_DOWN` (R477): The PCIe link goes down after READY without PERST#; events are queued, MG_ALERT.PCIE_DOWN is set and the link is retried. -/
  | pcieLinkDown
  /-- `RAIL_SAMPLE` (R340): Each 800 MHz rail sample of an ON or CLAMPED region updates VOLTAGE, the VMIN capture and its time, and the DROOP_MV droop count. -/
  | railSample (region : Fin 48) (mv : W16) (lag : Fin 7)
  /-- `SENSOR_SAMPLE` (R374): Every 10 µs each temperature sensor is sampled, judged plausible or not, and TEMP, VALID, OUT_OF_RANGE and OPEN_SHORT are updated. -/
  | sensorSample (sensor : Fin 144) (reading : SensorReading)
  /-- `COMMAND_END` (R417): A long-running command such as STORE, FW_UPDATE, PASSAGE_LOAD or BIST_RUN runs to its end, clearing BUSY and releasing its mailbox and held resources. -/
  | commandEnd (m : Fin 64)
  /-- `SETTLEMENT_COMPLETE` (R261): The settlement of knots after a discard verdict finishes within 1 µs, SETTLING clears and the attempt number rises. -/
  | settlementComplete (r : RoleSel)
  deriving DecidableEq, Repr

end Sys2Proof
end

