-- ==== Sys2Proof/Decode.lean ====
section
/-! DEFINITION. The command that a word spells: no row of spec/opcode_table.json gives its command any bits, so no word
spells one (log 1). -/

namespace Sys2Proof

/-- The command of a word numbered as spec/opcode_table.json numbers it: none, since no row has bits. -/
def decodeTableWord (_nbits _w : Nat) : Option Instr := none

end Sys2Proof
end

