-- ==== Sys2Proof/Config.lean ====
section
/-! DEFINITION. The values spec/ leaves open: constants without a body, so that nothing can be proved about which
value they have (log 2). Each is applied to the counter `State.fresh`, which the step that reads it advances, or to
the operands it depends on. -/

namespace Sys2Proof.Config

/-- A free 64-bit value; the argument is the counter's reading (log 2). -/
opaque freeWord : Nat → W64

/-- A free byte of undefined data (log 2). -/
opaque freeByte : Nat → Byte

/-- The Reckoning model's estimate of the present floor in W, which no rule states in full (R353, log 20). -/
opaque floorEstimate : Nat → W16

/-- Stage A and Stage B losses in pJ over one 10 µs interval from the calibrated efficiency curves, whose form R370
leaves open; the arguments are the input voltage in 10 mV and the metered energy in µJ (log 20). -/
opaque conversionLoss : Nat → Nat → Nat

/-- The bytes of the settings block, whose layout no rule gives, from its fields (R457, log 22). -/
opaque settingsImage : List Nat → List Byte

/-- The bytes that M1 is extended with, whose layout no rule gives: the revocation bits, the minimum security version
and the slot used (R457, log 22). -/
opaque bootImage : Nat → Nat → Bool → List Byte

/-- The stack controller's internal row of a module address, which R440 leaves to the controller (log 26). -/
opaque hbmRow : Nat → Nat

/-- The certificate that firmware issues for the attestation key, from the public key, M0 and M1; its coding is not in
spec/ (R458, log 27). -/
opaque attestCertificate : List Byte → List Byte → List Byte → List Byte

/-- A certificate chain as the receiver of a twin's answer finds it: whether it verifies to the Gindoash root CA, the UID that its
DeviceID certificate carries and the public key x ‖ y it certifies; the coding of certificates is not in spec/ (R461, log 27). -/
opaque chainVerifies : List Byte → Bool

opaque chainUid : List Byte → W64

opaque chainKey : List Byte → List Byte

/-- The lag of a local copy of DTIME, which R48 leaves open between 0 and 6 ns; the arguments are the copy and the hub's DTIME
(log 108). -/
opaque localLag : Nat → Nat → Nat

/-- The address at an off-load tier that a Chart entry's data go to, which no rule gives; the arguments are the tier and the
entry index (log 46). -/
opaque offloadAddr : Nat → Nat → Nat

end Sys2Proof.Config
end

