-- ==== Sys2Proof/Machine/Sparse.lean ====
section
/-! DEFINITION. Sparse stores: lists of a key and a value in one canonical form, the keys strictly rising and no
entry equal to what an unlisted key holds. The register file, the knots, the Chart and the module memory are each
one of these (logs 3, 9). -/

namespace List

variable {α : Type}

/-- Put an element before the first one it may precede. -/
def insertOrdered (le : α → α → Bool) (x : α) : List α → List α
  | [] => [x]
  | y :: m => if le x y then x :: y :: m else y :: insertOrdered le x m

/-- The list in ascending order; elements that neither precede stay in their order. -/
def ordered (m : List α) (le : α → α → Bool) : List α := m.foldr (insertOrdered le) []

end List

namespace Sys2Proof.Machine

variable {α : Type}

/-- What a sparse store holds at `k`, where `d` is what an unlisted `k` holds. -/
def sparseGet (d : α) (k : Nat) : List (Nat × α) → α
  | [] => d
  | (a, x) :: m => if a = k then x else sparseGet d k m

/-- Drop whatever is listed at `k`. -/
def sparseDrop (k : Nat) (m : List (Nat × α)) : List (Nat × α) := m.filter (fun c => !decide (c.1 = k))

/-- Write `v` at `k`, keeping the canonical form: writing the default `d` of `k` removes the entry. -/
def sparsePut [DecidableEq α] (d : α) (k : Nat) (v : α) : List (Nat × α) → List (Nat × α)
  | [] => if v = d then [] else [(k, v)]
  | (a, x) :: m =>
    if k < a then (if v = d then sparseDrop k ((a, x) :: m) else (k, v) :: (a, x) :: m)
    else if k = a then (if v = d then sparseDrop k m else (k, v) :: m)
    else (a, x) :: sparsePut d k v m

/-- Every key of the store lies above `n`, and they rise strictly. -/
def sparseRising (n : Nat) : List (Nat × α) → Bool
  | [] => true
  | (a, _) :: m => decide (n < a) && sparseRising a m

/-- The canonical form: keys strictly rising, no entry equal to its default. -/
def sparseWf [DecidableEq α] (dflt : Nat → α) : List (Nat × α) → Bool
  | [] => true
  | (a, x) :: m => decide (x ≠ dflt a) && sparseRising a m && sparseWf dflt m

end Sys2Proof.Machine
end

