-- ==== Sys2Proof/Machine/State.lean ====
section
/-! DEFINITION. The state of one XT-960 module: plain data holding every piece of state spec/ gives it, the two
reason types, and the state right after reset. Each structure names the chapter whose rules give its fields. -/

namespace Sys2Proof.Machine

/-- No command of the table makes the block stop with a fault: what the manual reports it reports in registers,
completions and events (log 1). -/
inductive Fault where
  deriving DecidableEq, Repr

/-- The reasons a step refuses a command. -/
inductive Refusal where
  /-- Raised by an arm of `exec` whose command has no meaning yet. Safe: the machine stops. -/
  | notModelled (mnemonic : String)
  deriving DecidableEq, Repr

/-- The device states of Table 13-4 (R414). -/
inductive DevState where
  | off | boot | selftest | ready | armed | running | held | draining | faulted | safe
  deriving DecidableEq, Repr

/-- The four part numbers of Table 0-1 (R3). -/
inductive Variant where
  | xt960m | xt960s | xt720m | xt480s
  deriving DecidableEq, Repr

/-- A fused voltage-table entry with its parity (R361, R362). -/
structure VfEntry where
  mv : BitVec 10
  parityOk : Bool
  deriving DecidableEq, Repr

/-- A root-key slot of the fuses: the SHA-384 of a firmware-signing key, as 48 bytes (Table 14-10). -/
abbrev Digest := List Byte

/-- What the factory fixed in one module: the part number, the fuses and the calibration (R3, R21, R361, R370, R454).
The firmware may blow the security fuses (R456). -/
structure Part where
  variant : Variant
  vendorId : W16
  revision : Byte
  romVersion : W16
  uid : W64
  /-- One list of 23 entries per die. -/
  fusedVf : List (List VfEntry)
  /-- Fused rail setpoints in mV of the regions that the Helm does not set, by region index (Table 10-2). -/
  fusedRail : List (Nat × Nat)
  deviceKey : Nat
  rootHashes : List Digest
  rootRevoked : BitVec 4
  debugKeyHash : Digest
  svnMin : W16
  rootCa : Digest
  certificate : List Byte
  /-- Reckoning coefficients in pJ at 0.70 V by event class (Table 11-3). -/
  coefficients : List Nat
  /-- Leakage L_r in µW by region index (R370). -/
  leakage : List (Nat × Nat)
  /-- Fixed draw of the hub, the clocks and the I/O in µW (R370). -/
  fixedDraw : Nat
  deriving DecidableEq, Repr

/-! ### Host interface (13_control_interface.md) -/

/-- An event record held in the device (Table 13-11); PHASE is given when it is written. -/
structure Record where
  seq : W32
  code : Nat
  severity : Nat
  mgmt : Bool
  dtime : W64
  step : W64
  args : List W64
  deriving DecidableEq, Repr

/-- The event unit beside its registers (R423, R426). -/
structure EventUnit where
  queue : List Record
  seq : W32
  phase : Bool
  /-- Records dropped since the last EVENTS_LOST. -/
  lostSince : Nat
  owed : Bool
  holdoff : Bool
  deriving DecidableEq, Repr

/-- A completion that waits for a slot (Table 13-7). -/
structure Completion where
  sqHead : Nat
  devState : Nat
  status : Nat
  tag : W16
  results : List W64
  deriving DecidableEq, Repr

/-- A command that has started and not completed (R417). -/
structure Running where
  opcode : Nat
  tag : W16
  deriving DecidableEq, Repr

/-- A mailbox beside its registers (R416 to R418). -/
structure Mailbox where
  phase : Bool
  held : List Completion
  running : Option Running
  deriving DecidableEq, Repr

/-- A requester's shadow: the register it came from and the high half it latched (R17). -/
structure Shadow where
  key : Nat
  high : W32
  deriving DecidableEq, Repr

/-- The PCIe port beside CAP_PCIE (R393, R394, R409). -/
structure PcieUnit where
  perst : Bool
  /-- The 70 ms event of Table 12-1 has come. -/
  controllerReady : Bool
  training : Bool
  /-- READY has been reached since BOOT. -/
  wasReady : Bool
  /-- Size of BAR4 as 2^n GiB (Table 13-14). -/
  bar4Log2 : Nat
  deriving DecidableEq, Repr

/-! ### MRAM (13_control_interface.md R428 to R431) -/

/-- One of the two copies of an MRAM block. -/
structure MramCopy (α : Type) where
  seq : W32
  sound : Bool
  content : α
  deriving DecidableEq, Repr

/-- An MRAM block held as two copies. -/
structure MramBlock (α : Type) where
  copyA : MramCopy α
  copyB : MramCopy α
  writes : Nat
  deriving DecidableEq, Repr

/-- A repair-and-retirement record (Table 14-5). -/
structure RepairRecord where
  unit : W32
  retirement : Bool
  spare : W16
  target : W32
  deriving DecidableEq, Repr

/-- The stop-record block (R347, R401, R438). -/
structure StopBlock where
  words : List W64
  written : Bool
  cleared : Bool
  stops : Nat
  faultNote : Option (W64 × W64)
  deriving DecidableEq, Repr

/-- The embedded MRAM (Table 13-12). -/
structure Mram where
  slotA : List Byte
  slotB : List Byte
  /-- The slot pointer: false names slot A. -/
  pointer : Bool
  settings : MramBlock (List Nat)
  repairs : MramBlock (List RepairRecord)
  vtable : MramBlock (List (List (BitVec 10)))
  stop : StopBlock
  stores : Nat
  deriving DecidableEq, Repr

/-- A STORE or FW_UPDATE in progress (R430). -/
inductive MramJob where
  /-- The blocks to write, by bit of Table 13-12, and the values they are to take. -/
  | store (blocks : List Nat) (settings : List Nat) (records : List RepairRecord) (vtable : List (List (BitVec 10)))
  | update (slotB : Bool) (image : List Byte)
  deriving DecidableEq, Repr

/-! ### Start-up and the housekeeping supply (12_startup_and_recovery.md, 15_module_connectors.md) -/

/-- What the housekeeping supply keeps until the input is removed (R473). -/
structure Housekeeping where
  alert : BitVec 7
  faultPin : Bool
  tripPin : Bool
  stopPin : Bool
  /-- Dark regions with their cause. -/
  dark : List (Nat × Nat)
  failedCells : BitVec 4
  /-- A stop under cause 4 has run. -/
  cellsGone : Bool
  deriving DecidableEq, Repr

/-- Where start-up stands beside CAP_BOOT (R388, R391, R456). -/
structure BootUnit where
  /-- DTIME at which the input arrived or the reset came. -/
  began : Nat
  /-- The stages of Table 12-1 that are done. -/
  busUp : Bool
  fwStarted : Bool
  settingsLoaded : Bool
  numbered : Bool
  awaitBank : Bool
  bistSelected : Bool
  /-- The start-up follows a trip or a region that went dark (R389). -/
  afterFault : Bool
  failedSlot : Option Nat
  commitSvn : Bool
  imageSvn : W16
  imageRevoke : BitVec 4
  /-- Physical core of each logical core, in ascending logical ID (R10). -/
  numbering : List Nat
  /-- Bridges that failed to train: 0–3 die to hub, 4–7 die d to its neighbour. -/
  bridgesFailed : BitVec 8
  /-- Stacks whose training and zeroing are done. -/
  stacksUp : BitVec 8
  stackTries : List (Nat × Nat)
  slotId : BitVec 4
  deriving DecidableEq, Repr

/-- The management-bus target (R476). -/
structure I3cUnit where
  dynamicAddr : Option (BitVec 7)
  deriving DecidableEq, Repr

/-! ### Power delivery (10_power_delivery.md) -/

/-- A power region beside its register window (R336 to R345, R357). -/
structure Region where
  /-- Steps done of a soft start, 0 to 64. -/
  softStep : Nat
  /-- The clamp has been released and the actuator is being restored. -/
  restoring : Bool
  /-- Sixteenths of the issue slots restored, 16 when no clamp holds any back. -/
  restored : Nat
  skipping : Bool
  /-- Bubble level b_r of R357. -/
  level : Nat
  /-- DTIME of the last REGION_OVERCURRENT. -/
  lastOvercurrent : Option Nat
  /-- The capture holds a sample since it was armed. -/
  captured : Bool
  /-- The latest local time that the region's capture has read (R47, R48). -/
  lastTime : Nat
  deriving DecidableEq, Repr

/-- An orderly stop in progress (R347). -/
structure StopRun where
  cause : Nat
  vin : Nat
  vbank : Nat
  dtime : W64
  announced : Bool
  regionsOff : Bool
  recorded : Bool
  hubOff : Bool
  tripped : Bool
  deriving DecidableEq, Repr

/-- The delivery chain beside its registers. -/
structure PowerUnit where
  inputSwitch : Bool
  bankSwitch : Bool
  stageA : Bool
  charger : Bool
  regions : List (Nat × Region)
  inputCaptured : Bool
  stop : Option StopRun
  deriving DecidableEq, Repr

/-! ### The Helm (11_power_and_thermal_control.md) -/

/-- A coolant reading as the tray sends it (R478): eighths of a degree and mL/min. -/
structure Coolant where
  inlet : Int
  outlet : Int
  flow : Nat
  deriving DecidableEq, Repr

/-- Ramp and filler limits of a core (R359). -/
structure CoreActivity where
  activity : Nat
  realLimit : Nat
  fillerLevel : Nat
  deriving DecidableEq, Repr

/-- The Helm beside its registers. -/
structure HelmUnit where
  /-- Usable coolant readings, latest first, at most four. -/
  readings : List Coolant
  lastSeq : Option Byte
  /-- DTIME of the last accepted reading (AGE). -/
  readAt : Option Nat
  /-- Consecutive readings below 25 % of rated flow. -/
  lowFlows : Nat
  flow85Posted : Bool
  flow70Posted : Bool
  inletHighPosted : Bool
  inletLowPosted : Bool
  /-- CAP_BELOW_FLOOR is not to be posted again yet (R354). -/
  belowPosted : Bool
  loopsRunning : Bool
  coolantLimit : Nat
  flowLimit : Nat
  inletLimit : Nat
  /-- Engine power pdyn of the last Reckoning interval, in mW. -/
  pdyn : Nat
  lastClamp : Option Nat
  /-- DTIME of the last THERMAL_THROTTLE by cluster. -/
  lastThrottle : List (Nat × Nat)
  activity : List (Nat × CoreActivity)
  /-- ECLK cycles counted in each cluster, for the bubble pattern of R358. -/
  cycles : List (Nat × Nat)
  /-- Last plausible reading of each sensor since BOOT (Table 11-11). -/
  lastTemp : List (Nat × Int)
  /-- Hot spots that use a substitute, by their first sensor (R376). -/
  lostSpots : List Nat
  /-- Energy of the step so far by category, in µJ, and in all. -/
  split : List Nat
  stepEnergy : Nat
  stepBegan : Nat
  kSum : Nat
  kCount : Nat
  kMin : Nat
  kMax : Nat
  /-- Intervals in a row with k outside 0.80 to 1.25, and the sum of their k. -/
  driftCount : Nat
  driftSum : Nat
  tokens : Nat
  totalUj : Nat
  /-- The bubble fraction stands above PACE_THRESHOLD (R285). -/
  paceOver : Bool
  /-- The index each cluster is to run at (R363, R364). -/
  target : List (Nat × Nat)
  deriving DecidableEq, Repr

/-! ### Reliability and security (14_reliability_test_security.md) -/

/-- A fault window: DTIMEs of a unit's events, latest first (R440). -/
structure FaultWindow where
  times : List Nat
  /-- UNIT_LASTING has been posted and IN_WINDOW has not fallen since (R441). -/
  posted : Bool
  deriving DecidableEq, Repr

/-- A row of HBM4E tracked by its stack controller (R440). -/
structure RowTrack where
  row : Nat
  /-- Transfers of the row that have shown an error. -/
  lines : List Nat
  times : List Nat
  deriving DecidableEq, Repr

/-- A repair in force or on its way (R442, R443). -/
structure Repair where
  unit : Nat
  spare : Nat
  target : Nat
  /-- Transfers of an HBM4E row that its repair makes good. -/
  lines : List Nat
  effective : Bool
  deriving DecidableEq, Repr

/-- The reliability unit beside its registers. -/
structure RelUnit where
  windows : List (Nat × FaultWindow)
  rows : List (Nat × List RowTrack)
  repairs : List Repair
  /-- Retired unit codes. -/
  retired : List Nat
  /-- Retired units whose record is persistent. -/
  persistent : List Nat
  /-- Stacks to be retired at the next entry to READY. -/
  stackPending : List Nat
  /-- Retirement records to be removed at the next STORE (R446). -/
  removals : List Nat
  /-- Staging slots retired beyond the spares, by die (Table 14-4). -/
  slotsLost : List (Nat × Nat)
  /-- Crossings that wait for the unit's pending repair, oldest first (Table 14-13): the unit and, of a memory error, its site and lines. -/
  deferred : List (Nat × Option (EccSite × List Nat))
  totEvents : Nat
  totLasting : Nat
  totUncorrectable : Nat
  totRetired : Nat
  deriving DecidableEq, Repr

/-- A BIST run (R449). -/
structure BistRun where
  startup : Bool
  selection : Nat
  /-- Dies whose logic batch has not finished, in order. -/
  logic : List Nat
  sram : Bool
  hbm : Bool
  deriving DecidableEq, Repr

/-- A measurement register (R457). -/
structure Measure where
  value : Digest
  count : Nat
  deriving DecidableEq, Repr

/-- The security block (R452 to R461). -/
structure SecUnit where
  measures : List Measure
  attestKey : Option Nat
  drbg : Nat
  /-- Pending challenges of twin pairing and SPDM. -/
  challenge : List Byte
  debugNonce : List Byte
  /-- The attestation key's certificate, once firmware has issued it. -/
  issued : List Byte
  fuseGate : Bool
  scanEnabled : Bool
  deriving DecidableEq, Repr

/-- The test port (R453). -/
structure TapUnit where
  instruction : Nat
  deriving DecidableEq, Repr

/-- A Forerunner job in progress (R433). -/
structure FrwJob where
  core : Nat
  op : Nat
  transposeB : Bool
  aFmt : Nat
  bFmt : Nat
  yFmt : Nat
  m : Nat
  n : Nat
  k : Nat
  a : Nat
  b : Nat
  y : Nat
  /-- The core was retired or an HBM4E error struck (CODE 7). -/
  failed : Bool
  deriving DecidableEq, Repr

/-! ### Outputs -/

/-- The pins of J8 that the module drives (Table 15-4). -/
inductive Pin where
  | alert | fault | trip | stop
  deriving DecidableEq, Repr

/-- The SPDM error codes that the responder uses (R459, R460). -/
inductive SpdmError where
  | unsupportedRequest | busy | unspecified | invalidRequest
  deriving DecidableEq, Repr

/-- What an SPDM reply says; its coding is that of SPDM, which spec/ does not repeat (R459). -/
inductive SpdmReply where
  /-- The versions, as major and minor digits. -/
  | version (vs : List Nat)
  | capabilities (cert challenge measurement signed : Bool)
  /-- ECDSA P-384, SHA-384 for certificates and measurements, the DMTF measurement specification. -/
  | algorithms (ecdsaP384 sha384 dmtf : Bool)
  | digests (d : Digest)
  | certificate (bytes : List Byte) (remaining : Nat)
  | challengeAuth (chain : Digest) (nonce signature : List Byte)
  /-- Blocks by index, with a nonce and a signature where one was asked for. -/
  | measurements (count : Nat) (blocks : List (Nat × Digest)) (signature : Option (List Byte × List Byte))
  | error (e : SpdmError)
  deriving DecidableEq, Repr

/-- What the module puts out. -/
inductive Out where
  /-- The value a register read returned, and to whom. -/
  | readData (who : Requester) (value : W64)
  /-- A write to host memory: completions, event records, result buffers (R418, R423). -/
  | hostWrite (addr : Nat) (bytes : List Byte)
  /-- An MSI-X message on a vector (R427). -/
  | msix (vector : Nat)
  /-- A BAR4 read completion, poisoned where a transfer in it is bad (R436). -/
  | bar4Data (bytes : List Byte) (poisoned : Bool)
  /-- Bytes of an I3C private read (R476). -/
  | busData (bytes : List Byte)
  /-- A message of the SPDM responder (R459). -/
  | spdm (reply : SpdmReply)
  /-- A message at the test port (R453). -/
  | tapNonce (bytes : List Byte)
  /-- A pin driven low (true) or released. -/
  | pin (p : Pin) (low : Bool)
  /-- A packet leaves by a port; 16 is the twin link (R307). -/
  | packet (port : Nat) (p : Packet)
  /-- Flits of receive storage returned to the sender at a port, on a virtual channel (R296). -/
  | credits (port : Nat) (vc flits : Nat)
  /-- A hello or a sighting record leaves by a port (R301, R302). -/
  | sight (port : Nat) (msg : SightMsg)
  /-- A TIME packet to the time parent, with its departure time t1 (R312). -/
  | time (port : Nat) (t1 : Nat)
  /-- A TWIN packet, over the fabric when PATH is 1 (R320). -/
  | twin (overFabric : Bool) (msg : TwinMsg)
  /-- A Binnacle-to-Binnacle message to a node (R347). -/
  | mgmt (dest : Nat) (msg : MgmtMsg)
  /-- Codewords resent by a port from a count (R295). -/
  | replay (port : Nat) (fromCount : Nat) (packets : List Packet)
  deriving DecidableEq, Repr

/-! ### Passages and the Chart (06_memory_and_placement.md, 07_passages.md) -/

/-- A tensor descriptor (Table 7-3). Codes stay codes; 0xFFFF names none. -/
structure Tensor where
  id : Nat
  format : Nat
  kind : Nat
  carry : Bool
  outMode : Nat
  rnd : Nat
  block : Nat
  zp : Bool
  rowBlocks : Bool
  alt6 : Bool
  alt8 : Bool
  ceiling : Nat
  drift : Nat
  driftGradient : Bool
  outliers : Bool
  master : Bool
  pinned : Bool
  offloadOk : Bool
  isLocal : Bool
  shape : Nat
  init : Nat
  rows : Nat
  cols : Nat
  /-- The FP32 code of S. -/
  coarse : Nat
  group : Nat
  partner : Nat
  scalesId : Nat
  zpId : Nat
  outIndexId : Nat
  outSideId : Nat
  pinTier : Nat
  pinAddr : Nat
  source : Nat
  deriving DecidableEq, Repr

/-- A leg descriptor (Table 7-4). -/
structure Leg where
  kind : Nat
  orientA : Bool
  orientB : Bool
  y : Nat
  a : Nat
  b : Nat
  streamCount : Nat
  firstTile : Nat
  tileCount : Nat
  kStart : Nat
  kLen : Nat
  chunk : Nat
  chunkCount : Nat
  useIndex : Nat
  op : Nat
  firstStream : Nat
  param0 : Nat
  param1 : Nat
  rowChunk : Nat
  waitEn : Bool
  waitKnot : Nat
  waitStep : Nat
  signalEn : Bool
  signalKnot : Nat
  deriving DecidableEq, Repr

/-- A stream descriptor (Table 7-6). -/
structure Stream where
  tensor : Nat
  firstTile : Nat
  outbound : Bool
  role : Nat
  slot : Nat
  transpose : Bool
  bypass : Bool
  hold : Bool
  chunkIn : Bool
  tileCount : Nat
  ringTiles : Nat
  ringKib : Nat
  tileStep : Nat
  deriving DecidableEq, Repr

/-- A program (R240): its header word and its instruction words. -/
structure Program where
  header : W64
  code : List W32
  deriving DecidableEq, Repr

/-- A collective descriptor with the device's copy of its member list (Table 8-2, R269). -/
structure Collective where
  kind : Nat
  gradientClose : Bool
  stepClose : Bool
  wire : Nat
  knotBase : Nat
  headroom : Nat
  tensor : Nat
  members : List Nat
  selfPos : Nat
  stallUs : Nat
  firstTile : Nat
  tileCount : Nat
  deriving DecidableEq, Repr

/-- An off-load plan entry (Table 7-6a). -/
structure OffloadEntry where
  tier : Nat
  peer : Nat
  lead : Nat
  quota : Nat
  deriving DecidableEq, Repr

/-- The device's copy of a passage (R230, R246), read once into its records. -/
structure Passage where
  id : Nat
  seed : W64
  sndBase : Nat
  sndStride : Nat
  sndDepth : Nat
  paramBase : Nat
  paramDepth : Nat
  normCollective : Nat
  carryHistory : Bool
  fPages : Nat
  dxPages : Nat
  dwPages : Nat
  patternLen : Nat
  pattern : Nat
  seqLen : Nat
  tensors : List Tensor
  legs : List Leg
  streams : List Stream
  programs : List Program
  collectives : List Collective
  offload : List OffloadEntry
  hostmap : List Nat
  image : List Byte
  deriving DecidableEq, Repr

/-- A Chart entry (Table 6-4); `tiles` is TILES_M1 plus one. -/
structure ChartEntry where
  tensor : Nat
  first : Nat
  tiles : Nat
  format : Nat
  rung : Nat
  mixed : Bool
  carry : Bool
  kind : Nat
  shape : Nat
  units : Nat
  heat : Nat
  state : Nat
  pending : Bool
  pinned : Bool
  offloadOk : Bool
  isLocal : Bool
  aux : Nat
  tier : Nat
  addr : Nat
  markBase : Nat
  replicas : Nat
  deriving DecidableEq, Repr

/-- An unused entry reads zero, which is STATE FREE (R203). -/
def ChartEntry.free : ChartEntry :=
  ⟨0, 0, 0, 0, 0, false, false, 0, 0, 0, 0, 0, false, false, false, false, 0, 0, 0, 0, 0⟩

/-- The Chart beside its registers (R203, R213, R220). -/
structure ChartUnit where
  entries : List (Nat × ChartEntry)
  /-- Replicas that have landed, by entry and cluster (R202, R213). -/
  landedReplicas : List (Nat × Nat)
  /-- The HBM4E home kept for an entry that is homed in a cluster store for the step (R213), by entry. -/
  keptHomes : List (Nat × Nat)
  /-- A new mark region is to be placed at the next step start (R220). -/
  relocateMarks : Bool
  /-- Tiles landed in the step by entry, for HEAT (R208). -/
  reads : List (Nat × Nat)
  /-- RUNG of each entry in the last committed step (R220). -/
  lastRungs : List (Nat × Nat)
  /-- Address and length of the mark region. -/
  markBytes : Nat
  deriving DecidableEq, Repr

/-! ### Units at work (03_matrix_engines.md to 07_passages.md) -/

/-- A tile that lies in a Compass-buffer ring (R200, R202). -/
structure LandedTile where
  tile : Nat
  rung : Nat
  bytes : List Byte
  /-- Block sums of an INT operand with zero points, by block: what the DMA engine writes beside it (R104). -/
  sums : List (Nat × Int)
  deriving DecidableEq, Repr

/-- A stream of a leg while it runs: requests issued, tiles landed, tokens posted, and the two counts (R29, R200, R250). -/
structure StreamRun where
  asked : Nat
  landed : List LandedTile
  posted : Nat
  tokens : Nat
  credits : Nat
  taken : Nat
  /-- Tiles whose ring slots have been given back. -/
  passed : Nat
  /-- The pool of its credits (Table 7-11). -/
  pool : Nat
  /-- Requests in flight that went to a replica: tile and the replica's address (R202, R227). -/
  sources : List (Nat × Nat)
  deriving DecidableEq, Repr

/-- A leg in a unit's leg queue (R212, R250). -/
structure LegRun where
  /-- The logical core; none while the leg waits for a host map (R225). -/
  core : Option Nat
  position : Nat
  /-- Output tiles started, and those whose commit is posted. -/
  started : Nat
  /-- Tiles to be run once more, after a failure, before any further one (R217, R218, R436). -/
  redo : List Nat
  committed : List Nat
  finished : Bool
  /-- The leg has advanced its knot (R258). -/
  signalled : Bool
  streams : List StreamRun
  deriving DecidableEq, Repr

/-- Counts the Navigator holds for a leg not yet entered (R250). -/
structure HeldCount where
  unit : UnitAddr
  position : Nat
  slot : Nat
  credit : Bool
  count : Nat
  deriving DecidableEq, Repr

/-- A tile in the accumulator buffer (R98, R111, R116): the EX40 codes of its chunk results, and, once it is whole, its
value. -/
structure AccTile where
  leg : Nat
  tensor : Nat
  tile : Nat
  core : Nat
  /-- 0 F, 1 DX, 2 DW. -/
  region : Nat
  rung : Nat
  issuing : Bool
  chunks : List (Nat × List Nat)
  value : Option (List Nat)
  /-- The last use index folded into the entry (R117). -/
  folded : Nat
  /-- Elements whose accumulation raised INVALID count as non-finite already by their value. -/
  repeated : Bool
  deriving DecidableEq, Repr

/-- A contribution written as a separate partial (R117), or a chunk result in carriage form on its way (R98). -/
structure Carriage where
  leg : Nat
  tensor : Nat
  tile : Nat
  index : Nat
  codes : List Nat
  deriving DecidableEq, Repr

/-- Bytes to be written into a tensor's home: tile, byte offset within it, bytes. -/
structure TileWrite where
  tensor : Nat
  tile : Nat
  offset : Nat
  bytes : List Byte
  deriving DecidableEq, Repr

/-- A tile's Soundings partial (R122 to R124): the four counts and the exact sum of squares in units of 2^-448. -/
structure Partial where
  elements : Nat
  zeros : Nat
  saturations : Nat
  nonfinite : Nat
  sumsq : Nat
  overRange : Bool
  outliers : Nat
  promoted : Nat
  overflowed : Bool
  deriving DecidableEq, Repr

/-- A converted tile whose commit is not yet posted (R176): the slices hold its writes. -/
structure OutTile where
  leg : Nat
  tensor : Nat
  tile : Nat
  rung : Nat
  writes : List TileWrite
  deriving DecidableEq, Repr

/-- Tokens of a tile that wait for verdicts (R138, R143). -/
structure HeldToken where
  tensor : Nat
  tile : Nat
  drift : Bool
  sight : Bool
  deriving DecidableEq, Repr

/-- A tensor's open Soundings record (R124 to R126). -/
structure SndOpen where
  partials : List (Nat × Partial)
  expected : Nat
  rung : Nat
  complete : Bool
  overflow : Bool
  sightMiss : Bool
  drifted : Bool
  mixed : Bool
  repeats : Nat
  deriving DecidableEq, Repr

/-- A Drift watch history slot with its grain, ROWS and COLS (R136, R246). -/
structure HistSlot where
  drift : Nat
  rows : Nat
  cols : Nat
  /-- The FP64 code of h. -/
  h : Nat
  n : Nat
  deriving DecidableEq, Repr

/-- A repeat that a detector has asked for (R143, R144): `elsewhere` for a Sight check miss. -/
structure Trigger where
  tensor : Nat
  tile : Nat
  rung : Nat
  elsewhere : Bool
  deriving DecidableEq, Repr

/-- A row-reduction phase whose chunk results are being gathered (R168, R170). -/
structure RowPhase where
  y : Nat
  row : Nat
  phase : Nat
  /-- Chunk results by chunk index, as FP32 codes: one value, or the pair (m, s). -/
  results : List (Nat × List Nat)
  combined : Option (List Nat)
  deriving DecidableEq, Repr

/-! ### Knots and collectives (08_sync_and_collectives.md) -/

/-- A Rendezvous payload or verdict (R271 to R273). -/
structure Payload where
  storm : Bool
  discard : Bool
  mismatch : Bool
  crc : W32
  sum : Nat
  nonfinite : Nat
  deriving DecidableEq, Repr

/-- A waiting staging entry of a reduction tile (R278, R280): FP32 codes, or narrow integers when `scaled`. -/
structure RedEntry where
  tile : Nat
  values : List Int
  scaled : Bool
  rescaled : Bool
  wide : Bool
  /-- FP64 codes of Σchecks and Σabs. -/
  checks : Nat
  abs : Nat
  contribs : Nat
  spilled : Bool
  deriving DecidableEq, Repr

/-- A collective of the loaded passage while it runs. -/
structure CollRun where
  /-- Episode of the attempt. -/
  episode : Nat
  arrived : Bool
  /-- DTIME of the module's own arrival. -/
  arrivedAt : Nat
  own : Option Payload
  children : List (Nat × Payload)
  /-- This episode's arrival has gone to the parent. -/
  sent : Bool
  stalled : Bool
  contributions : List RedEntry
  incoming : List RedEntry
  /-- Segments of tiles that have arrived so far: tile, phase, segment, packet. -/
  segments : List (Nat × Bool × Nat × Packet)
  landedTiles : List Nat
  /-- Agreed exponent and whether it applies (R282). -/
  scale : Int
  scaleValid : Bool
  /-- Largest finite magnitude landed in this step, as an FP32 code. -/
  largest : Nat
  /-- The leg whose episode runs. -/
  leg : Nat
  /-- The verdict of the episode, from the release until it is acted on. -/
  verdict : Option Payload
  deriving DecidableEq, Repr

/-! ### The update and Snapshot (05_vector_and_update.md) -/

/-- An update in progress (R180 to R184). -/
structure UpdateRun where
  /-- Gradient tiles measured in pass 1, by leg and tile, with their exact sum and non-finite count. -/
  measured : List (Nat × Nat × Nat × Nat)
  /-- Combined terms of the norm group. -/
  sum : Nat
  nonfinite : Nat
  combined : Bool
  /-- FP32 codes of c and of the norm. -/
  clip : Nat
  norm : Nat
  skip : Bool
  /-- UPD_CLIP_SET's c and policy (R254). -/
  hostClip : Option (Nat × Bool)
  entry : Option (List Nat)
  stalePosted : Bool
  done : List (Nat × Nat)
  committed : Bool
  /-- Frozen elements by weight tensor (R178). -/
  frozen : List (Nat × Nat)
  /-- The digest of R318. -/
  digest : W32
  deriving DecidableEq, Repr

/-- The Navigator's last assignment and what it was made for: usable cores, bands and r (R215). -/
structure Assignment where
  usable : List Nat
  bands : List Nat
  rotation : Nat
  cores : List (Option Nat)
  deriving DecidableEq, Repr

/-- A role of the module: a passage with everything that runs under it (R246 to R252, R322). -/
structure Role where
  carried : Bool
  passage : Option Passage
  step : Nat
  attempt : Nat
  armBase : List (Nat × W64)
  stepsLeft : Nat
  inStep : Bool
  /-- GRADIENT_CLOSE has completed in the step. -/
  closed : Bool
  rerun : Bool
  /-- The step runs again; a step runs again at most once for a storm (R147). -/
  stormMark : Bool
  /-- The tensor whose repeats crossed the budget. -/
  stormTensor : Nat
  stormRerunPosted : Bool
  discardMark : Bool
  /-- STEP_ABORT withholds the arrival at the first Rendezvous of the re-run (R274). -/
  withhold : Bool
  settling : Bool
  level : Nat
  budgetTiles : Nat
  repeatedTiles : Nat
  sightSteps : Nat
  latched : List (Nat × W64)
  rungs : List (Nat × Nat)
  clearPromotion : Bool
  clearAll : Bool
  clearRungs : List Nat
  setRungs : List (Nat × Nat)
  setHistory : List (Nat × Nat × Nat)
  history : List (Nat × HistSlot)
  legs : List (Nat × LegRun)
  held : List HeldCount
  regionCredits : List (Nat × Nat)
  acc : List AccTile
  partials : List Carriage
  carriage : List Carriage
  outTiles : List OutTile
  ready : List (Nat × Nat)
  heldTokens : List HeldToken
  grants : List (Nat × Nat)
  /-- The last core that a die's staging buffer granted a slot, plus one (R113). -/
  grantLast : List (Nat × Nat)
  staged : List (Nat × Nat)
  snd : List (Nat × SndOpen)
  /-- Partials on their way to the collectors: tensor, tile, partial (R124). -/
  inFlight : List (Nat × Nat × Partial)
  /-- Drift watch triggers of the step, acted on or not (R144, R146, R155). -/
  driftTriggers : Nat
  /-- Master-weight operands of which the step has made a copy at their next rung (R132). -/
  copies : List Nat
  assigned : Option Assignment
  triggers : List Trigger
  ladderPosted : List Nat
  requestPosted : List Nat
  sightJudged : List (Nat × Nat)
  patternPtr : List (Nat × Nat)
  rowPhases : List RowPhase
  /-- Saved row statistics μ and r, loss group sums and rows by leg (R169, R171). -/
  lossGroups : List (Nat × Nat × Nat × Nat)
  colls : List (Nat × CollRun)
  update : UpdateRun
  /-- Off-loaded groups by tier (R222) and those whose off-load has been reported late. -/
  groups : List (Nat × Nat)
  quotas : List OffloadEntry
  latePosted : Bool
  /-- The module is to stop at its next Rendezvous in HELD (R221). -/
  placeFailed : Bool
  deriving DecidableEq, Repr

/-- A snapshot in flight (R185 to R188). -/
structure SnapRun where
  tensors : List Nat
  boundary : Nat
  /-- Node of a fabric destination. -/
  node : Option Nat
  dest : Nat
  slots : Nat
  reserve : List (Nat × Nat × List Byte)
  reserveAddr : Nat
  marked : Bool
  passageId : Nat
  crcs : List (Nat × W32)
  trailer : Bool
  /-- Reserve slots whose copy has been sent and that are not free yet. -/
  waiting : Nat
  deriving DecidableEq, Repr

/-- A PASSAGE_LOAD in progress: the image and the homes table it took, and its options (R246). -/
structure LoadJob where
  image : List Byte
  homes : List Byte
  /-- Member lists that lie in host memory, in the order of their collectives. -/
  lists : List Byte
  history : Bool
  deriving DecidableEq, Repr

/-! ### Ways through the module (01_architecture.md R36 to R44, 06_memory_and_placement.md R195 to R197) -/

/-- The four virtual channels (R39). -/
inductive Vc where
  | request | response | reduction | control
  deriving DecidableEq, Repr

/-- Who sends a control message: a unit of a core, a Pilot of a core, a die's reduction staging buffer, a die's Soundings
collector, or the Navigator (R250, Table 7-11). -/
inductive Sender where
  | unit (u : UnitAddr)
  | pilot (core : Nat)
  | staging (die : Nat)
  | collector (die : Nat)
  | navigator
  deriving DecidableEq, Repr

/-- The places a packet passes inside the module (R36 to R38, Table 1-7): the crossing of a cluster's stop out of ECLK and into
it, a mesh stop of a die, the spine, the receiver of a bridge (dies 0 to 3, the hub 4), and the hub crossbar. -/
inductive Place where
  | clusterOut (cluster : Nat)
  | stop (die row col : Nat)
  | spine (die : Nat)
  | bridge (source dest : Nat)
  | crossbar
  | clusterIn (cluster : Nat)
  deriving DecidableEq, Repr

/-- A control message on its way: the places still before it, the first the one where it is. With none left it lies at its
receiver (R39, R40, R250). -/
structure Flight where
  role : RoleSel
  source : Sender
  dest : UnitAddr
  vc : Vc
  msg : W64
  ways : List Place
  deriving DecidableEq, Repr

/-- A line that a die-cache slice holds, by its address over 256; its bytes are those of the address, which only this slice
caches (R195, R197). -/
structure CacheLine where
  line : Nat
  dirty : Bool
  deriving DecidableEq, Repr

/-- A set of a die-cache slice: sixteen ways and the fifteen bits of its pseudo-LRU tree (R197). -/
structure CacheSet where
  ways : List (Option CacheLine)
  tree : BitVec 15
  deriving DecidableEq, Repr

/-! ### Fabric and twin (09_fabric_and_twin.md) -/

/-- A port's link layer (R293 to R296). Port 16 is the twin link. -/
structure Port where
  /-- STATE of FAB_PORT_STATUS. -/
  state : Nat
  aligned : Bool
  received : BitVec 24
  sent : BitVec 24
  unacked : List (Nat × List Packet)
  nakSending : Bool
  failures : Nat
  retraining : Bool
  credits : List Nat
  flitsRx : Nat
  flitsTx : Nat
  loopback : Bool
  deriving DecidableEq, Repr

/-- A record of the sighting database (R302, R304). -/
structure DbEntry where
  record : SightRecord
  departed : Bool
  deriving DecidableEq, Repr

/-- A read request that awaits its reply (R300). -/
structure PendingRead where
  tag : W16
  /-- It went over the twin link's path. -/
  twin : Bool
  dest : Nat
  addr : Nat
  bytes : Nat
  reissued : Bool
  /-- Where its data land in this module: a group that is fetched back (R223). -/
  target : Option Nat
  deriving DecidableEq, Repr

/-- The fabric beside its registers. -/
structure FabUnit where
  ports : List (Nat × Port)
  database : List DbEntry
  quiet : Bool
  everQuiet : Bool
  /-- Packets that wait at the router, with the port a hop has chosen for none of them yet. -/
  router : List Packet
  /-- Packets that wait for the twin link. -/
  twinQueue : List Packet
  /-- Packets delivered here and not yet handled. -/
  inbox : List Packet
  /-- Early traffic held (R265). -/
  early : List Packet
  /-- Packets that hold receive storage of a port, and those in its early-hold storage (R296, R297). -/
  storage : List (Nat × Packet)
  hold : List (Nat × Packet)
  /-- Writes applied by source and knot (R263), and signals that wait for theirs. -/
  applied : List (Nat × Nat × Nat)
  waitingSignals : List Packet
  /-- Writes and signals not yet acknowledged to a source (plus 16,384 where the carried role owes the acknowledgement), and not
  yet acknowledged by a destination (R300). -/
  toAck : List (Nat × Nat)
  unacked : List (Nat × Nat)
  reads : List PendingRead
  nextTag : W16
  seq : W32
  timeRoot : Option W64
  timeParent : Option Nat
  offset : Int
  slewing : Bool
  /-- DTIME has taken its one forward step (R47, R312). -/
  stepped : Bool
  unalignedPosted : Bool
  /-- Node IDs held or reserved, by UID (R303, R304). -/
  reserved : List (W64 × Nat)
  /-- The sighting database is being rebuilt after the loss of the base stack, and where its region then lies (R220). -/
  rebuilding : Bool
  region : Option Nat
  deriving DecidableEq, Repr

/-- A step record received from the partner (R316). -/
structure TwinRecord where
  step : Nat
  tiles : List (Nat × Nat × List Byte)
  masks : List (Nat × Nat × List Byte)
  /-- c and the norm as FP32 codes, whether pass 2 is skipped, and the parameter entry. -/
  closing : Option (Nat × Nat × Bool × List Nat)
  commit : Option (MirrorState × W32)
  deriving DecidableEq, Repr

/-- The twin link beside its registers. -/
structure TwinUnit where
  /-- STATE of TWN_STATUS. -/
  state : Nat
  /-- The presence strap of J5 (R324). -/
  present : Bool
  /-- The partner's part, firmware and certificate have passed (Table 9-7). -/
  greeted : Bool
  /-- The partner's challenge, while its answer has not gone (Table 9-7 step 4). -/
  asked : Option (List Byte)
  /-- This module's signature has gone, and the partner's has been judged (Table 9-7 step 4). -/
  authSent : Bool
  partnerAuth : Bool
  paired : Bool
  partnerNode : Option Nat
  partnerUid : W64
  /-- Node ID of a partner that is lost. -/
  lostNode : Option Nat
  partnerArmed : Bool
  partnerImage : List Byte
  partnerTensors : List Nat
  partnerKnots : List Nat
  partnerContent : Nat
  partnerReservation : Nat
  /-- MIRROR_GIB of the partner, and the member lists of its passage by address. -/
  partnerGib : Nat
  partnerLists : List (Nat × List Byte)
  /-- The partner's MIRROR_VALID, by its heartbeats. -/
  partnerValid : Bool
  /-- The partner's last state record, and this module's attempt when it came. -/
  partnerState : Option MirrorState
  commitAttempt : Nat
  records : List TwinRecord
  /-- Mirrored bytes: tensor, tile, rung, bytes. -/
  mirror : List (Nat × Nat × Nat × List Byte)
  /-- A seed is to be sent at the next commit (R319). -/
  seedDue : Bool
  /-- The first step whose record is shipped. -/
  shipFrom : Nat
  /-- The partner's commit that a seed being received belongs to. -/
  seedStep : Option Nat
  /-- Steps whose closing part and whose whole record the partner has acknowledged. -/
  ackedClosing : Option Nat
  ackedRecord : Option Nat
  /-- The partner's step whose mirror computation has finished. -/
  computed : Option Nat
  detachPending : Bool
  /-- The partner is lost and TWIN_LOST is to be posted once the records held are computed (R321). -/
  lostPending : Bool
  /-- A loss of the partner that waits for the end of a restore (Table 12-4). -/
  lossHeld : Bool
  /-- STATE before a handover. -/
  handoverPrior : Nat
  deriving DecidableEq, Repr

/-- A restore under way (R396 to R398). -/
structure RestoreRun where
  entries : List Nat
  bytes : Nat
  /-- Tiles that the twin's shipment has brought, by tensor and number. -/
  landed : List (Nat × Nat)
  /-- The restore follows a PASSAGE_DISARM (R400). -/
  disarm : Bool
  deriving DecidableEq, Repr


/-- The state of one module. -/
structure State where
  /-- The commands that wait, first in first out (log 1). -/
  pending : List Instr
  part : Part
  /-- The device state of Table 13-4, which CAP_STATE.STATE and MG_IDENT.STATE show. -/
  dev : DevState
  /-- The DTIME counter (R47). -/
  dtime : Nat
  /-- The register file: key and value, canonical against the Reset columns (R16, R21). -/
  regs : List (Nat × W64)
  /-- The knots (R257). -/
  knots : List (Nat × W64)
  /-- Bytes of the HBM4E stacks by module address; an unlisted byte reads zero (R388). -/
  mem : List (Nat × Byte)
  /-- 64-byte transfers that stay bad, by address of their first byte (R436). -/
  badLines : List Nat
  /-- The sets of the die-cache slices that hold a line, by 2,048 times the slice plus the set (R24, R197). -/
  cache : List (Nat × CacheSet)
  /-- Control messages on their way, in the order in which each came to where it is (R40, R43, R250). -/
  flights : List Flight
  /-- How many free values have been taken (the model's own field, log 2). -/
  fresh : Nat
  /-- What the module has put out, latest first: the model's record of its outputs (log 8). -/
  out : List Out
  hostShadow : Option Shadow
  binnacleShadow : Option Shadow
  evt : EventUnit
  mbx : List (Nat × Mailbox)
  /-- The mailbox after which the rotation goes on (R417). -/
  rotation : Nat
  pcie : PcieUnit
  mram : Mram
  mramJob : Option MramJob
  hold : Housekeeping
  boot : BootUnit
  i3c : I3cUnit
  pwr : PowerUnit
  helm : HelmUnit
  rel : RelUnit
  bist : Option BistRun
  sec : SecUnit
  tap : TapUnit
  frw : Option FrwJob
  /-- The passage in force and what runs under it. -/
  role : Role
  /-- The role carried for a lost twin (R322). -/
  other : Option Role
  chart : ChartUnit
  load : Option LoadJob
  /-- Drift watch slots of the last passage unloaded (R246). -/
  oldHistory : List (Nat × HistSlot)
  snap : Option SnapRun
  restore : Option RestoreRun
  fab : FabUnit
  twin : TwinUnit
  deriving DecidableEq, Repr

/-- The fused voltage table of the model's part: the typical die of 11_power_and_thermal_control.md, a missing entry
taking its lower neighbour's (log 7). -/
def typicalVf : List VfEntry :=
  [⟨450, true⟩, ⟨450, true⟩, ⟨478, true⟩, ⟨491, true⟩, ⟨505, true⟩, ⟨505, true⟩, ⟨532, true⟩, ⟨546, true⟩,
   ⟨560, true⟩, ⟨560, true⟩, ⟨560, true⟩, ⟨560, true⟩, ⟨620, true⟩, ⟨620, true⟩, ⟨620, true⟩, ⟨620, true⟩,
   ⟨690, true⟩, ⟨690, true⟩, ⟨690, true⟩, ⟨690, true⟩, ⟨760, true⟩, ⟨760, true⟩, ⟨800, true⟩]

/-- The part the model starts from: a GS-XT960-M, with zero where spec/ gives no value (log 7). -/
def Part.reset : Part where
  variant := .xt960m
  vendorId := 0
  revision := 0
  romVersion := 0
  uid := 1
  fusedVf := [typicalVf, typicalVf, typicalVf, typicalVf]
  fusedRail := []
  deviceKey := 1
  rootHashes := []
  rootRevoked := 0
  debugKeyHash := []
  svnMin := 0
  rootCa := []
  certificate := []
  coefficients := []
  leakage := []
  fixedDraw := 0

/-- A mailbox that has never run. -/
def Mailbox.idle : Mailbox := ⟨true, [], none⟩

/-- A power region at rest. -/
def Region.idle : Region := ⟨0, false, 16, false, 0, none, false, 0⟩

/-- A core that has issued nothing. -/
def CoreActivity.idle : CoreActivity := ⟨0, 0, 0⟩

/-- The Helm on entry to BOOT. -/
def HelmUnit.reset : HelmUnit where
  readings := []
  lastSeq := none
  readAt := none
  lowFlows := 0
  flow85Posted := false
  flow70Posted := false
  inletHighPosted := false
  inletLowPosted := false
  belowPosted := false
  loopsRunning := false
  coolantLimit := 0
  flowLimit := 0
  inletLimit := 0
  pdyn := 0
  lastClamp := none
  lastThrottle := []
  activity := []
  cycles := []
  lastTemp := []
  lostSpots := []
  split := [0, 0, 0, 0, 0, 0, 0, 0]
  stepEnergy := 0
  stepBegan := 0
  kSum := 0
  kCount := 0
  kMin := 0
  kMax := 0
  driftCount := 0
  driftSum := 0
  tokens := 0
  totalUj := 0
  paceOver := false
  target := []

/-- The reliability unit on entry to BOOT. -/
def RelUnit.reset : RelUnit := ⟨[], [], [], [], [], [], [], [], [], 0, 0, 0, 0⟩

/-- 48 bytes of zero. -/
def zeroDigest : Digest := List.replicate 48 0

/-- The security block on entry to BOOT. -/
def SecUnit.reset : SecUnit where
  measures := List.replicate 8 ⟨zeroDigest, 0⟩
  attestKey := none
  drbg := 0
  challenge := []
  debugNonce := []
  issued := []
  fuseGate := false
  scanEnabled := false

/-- The event unit on entry to BOOT. -/
def EventUnit.reset : EventUnit := ⟨[], 0, true, 0, false, false⟩

/-- Start-up on entry to BOOT. -/
def BootUnit.reset : BootUnit where
  began := 0
  busUp := true
  fwStarted := false
  settingsLoaded := false
  numbered := false
  awaitBank := false
  bistSelected := false
  afterFault := false
  failedSlot := none
  commitSvn := false
  imageSvn := 0
  imageRevoke := 0
  numbering := []
  bridgesFailed := 0
  stacksUp := 0
  stackTries := []
  slotId := 0

/-- The factory content of MRAM: no firmware image, no record, settings and table copies not written (log 7). -/
def Mram.factory : Mram where
  slotA := []
  slotB := []
  pointer := false
  settings := ⟨⟨0, false, []⟩, ⟨0, false, []⟩, 0⟩
  repairs := ⟨⟨0, false, []⟩, ⟨0, false, []⟩, 0⟩
  vtable := ⟨⟨0, false, []⟩, ⟨0, false, []⟩, 0⟩
  stop := ⟨[], false, false, 0, none⟩
  stores := 0

/-- The delivery chain with the 6 V bus in regulation and no region on but hub.q0. -/
def PowerUnit.reset : PowerUnit where
  inputSwitch := true
  bankSwitch := false
  stageA := true
  charger := true
  regions := []
  inputCaptured := false
  stop := none

/-- Nothing kept since the input arrived. -/
def Housekeeping.reset : Housekeeping := ⟨0, false, false, false, [], 0, false⟩


/-- No update under way; c is 1.0 (Table 5-13). -/
def UpdateRun.empty : UpdateRun where
  measured := []
  sum := 0
  nonfinite := 0
  combined := false
  clip := 0x3F800000
  norm := 0
  skip := false
  hostClip := none
  entry := none
  stalePosted := false
  done := []
  committed := false
  frozen := []
  digest := 0

/-- A role without a passage. -/
def Role.empty : Role where
  carried := false
  passage := none
  step := 0
  attempt := 0
  armBase := []
  stepsLeft := 0
  inStep := false
  closed := false
  rerun := false
  stormMark := false
  stormTensor := 0xFFFF
  stormRerunPosted := false
  discardMark := false
  withhold := false
  settling := false
  level := 0
  budgetTiles := 0
  repeatedTiles := 0
  sightSteps := 0
  latched := []
  rungs := []
  clearPromotion := false
  clearAll := false
  clearRungs := []
  setRungs := []
  setHistory := []
  history := []
  legs := []
  held := []
  regionCredits := []
  acc := []
  partials := []
  carriage := []
  outTiles := []
  ready := []
  heldTokens := []
  grants := []
  grantLast := []
  staged := []
  snd := []
  inFlight := []
  driftTriggers := 0
  copies := []
  assigned := none
  triggers := []
  ladderPosted := []
  requestPosted := []
  sightJudged := []
  patternPtr := []
  rowPhases := []
  lossGroups := []
  colls := []
  update := UpdateRun.empty
  groups := []
  quotas := []
  latePosted := false
  placeFailed := false

/-- An empty Chart. -/
def ChartUnit.empty : ChartUnit := ⟨[], [], [], false, [], [], 0⟩

/-- A port that has not trained. -/
def Port.down : Port where
  state := 0
  aligned := false
  received := 0
  sent := 0
  unacked := []
  nakSending := false
  failures := 0
  retraining := false
  credits := []
  flitsRx := 0
  flitsTx := 0
  loopback := false

/-- The fabric on entry to BOOT. -/
def FabUnit.reset : FabUnit where
  ports := []
  database := []
  quiet := false
  everQuiet := false
  router := []
  twinQueue := []
  inbox := []
  early := []
  storage := []
  hold := []
  applied := []
  waitingSignals := []
  toAck := []
  unacked := []
  reads := []
  nextTag := 0
  seq := 0
  timeRoot := none
  timeParent := none
  offset := 0
  slewing := false
  stepped := false
  unalignedPosted := false
  reserved := []
  rebuilding := false
  region := none

/-- The twin link on entry to BOOT. -/
def TwinUnit.reset : TwinUnit where
  state := 0
  present := true
  greeted := false
  asked := none
  authSent := false
  partnerAuth := false
  paired := false
  partnerNode := none
  partnerUid := 0
  lostNode := none
  partnerArmed := false
  partnerImage := []
  partnerTensors := []
  partnerKnots := []
  partnerContent := 0
  partnerReservation := 0
  partnerGib := 0
  partnerLists := []
  partnerValid := false
  partnerState := none
  commitAttempt := 0
  records := []
  mirror := []
  seedDue := false
  shipFrom := 0
  seedStep := none
  ackedClosing := none
  ackedRecord := none
  computed := none
  detachPending := false
  lostPending := false
  lossHeld := false
  handoverPrior := 7

/-- The module on entry to BOOT, first after OFF (R21, R388): every register at its Reset column, DTIME 0, knots 0,
memory holding nothing (log 5). -/
def State.reset : State where
  pending := []
  part := Part.reset
  dev := .boot
  dtime := 0
  regs := []
  knots := []
  mem := []
  badLines := []
  cache := []
  flights := []
  fresh := 0
  out := []
  hostShadow := none
  binnacleShadow := none
  evt := EventUnit.reset
  mbx := []
  rotation := 63
  pcie := ⟨true, false, false, false, 9⟩
  mram := Mram.factory
  mramJob := none
  hold := Housekeeping.reset
  boot := BootUnit.reset
  i3c := ⟨none⟩
  pwr := PowerUnit.reset
  helm := HelmUnit.reset
  rel := RelUnit.reset
  bist := none
  sec := SecUnit.reset
  tap := ⟨0⟩
  frw := none
  role := Role.empty
  other := none
  chart := ChartUnit.empty
  load := none
  oldHistory := []
  snap := none
  restore := none
  fab := FabUnit.reset
  twin := TwinUnit.reset

end Sys2Proof.Machine
end

