-- ==== Sys2Proof/Machine/Cache.lean ====
section
/-! DEFINITION. The die cache: which slice caches an HBM4E address, and the lines that the slices hold (spec/01_architecture.md
R24, R38; spec/06_memory_and_placement.md R195 to R197; log 101). -/

namespace Sys2Proof.Machine

/-- The HBM4E stack of a module address below 2^39 (Table 6-1). -/
def addrStack (a : Nat) : Nat := a / 2 ^ 36

/-- Whether a module address lies in the range of the HBM4E stacks (Table 6-1). -/
def isHbm (a : Nat) : Bool := decide (a < 2 ^ 39)

/-! ### The die cache (R38, R195 to R197) -/

/-- The slice of an address within its die (R196): the exclusive or of fourteen pairs of address bits, in the half of the die that
belongs to the stack. -/
def sliceSel (a : Nat) : Nat := (List.range 14).foldl (fun x i => Nat.xor x (a / 2 ^ (8 + 2 * i) % 4)) 0

/-- The slice that caches an HBM4E address, 8 d + s: s0 to s3 for h(2d), s4 to s7 for h(2d+1) (R38, R196). -/
def sliceOf (a : Nat) : Nat := 8 * (addrStack a / 2) + 4 * (addrStack a % 2) + sliceSel a

/-- The channel of an address in its stack (R196). -/
def channelOf (a : Nat) : Nat := Nat.xor (a / 2 ^ 8 % 32) (a / 2 ^ 18 % 32)

/-- The stack whose lines a set holds. -/
def stackOfSet (key : Nat) : Nat := key / 2048 / 4

/-- Sets of a slice: 8 MiB of 256-byte lines, sixteen ways (R24, R197). -/
def cacheSets : Nat := 2048

/-- An empty set. -/
def CacheSet.empty : CacheSet := ⟨List.replicate 16 none, 0⟩

/-- The set of a line: R197 gives no index, and this one is the line's low bits (DESIGN CHOICE, log 101). -/
def setKey (a : Nat) : Nat := cacheSets * sliceOf a + a / 256 % cacheSets

/-- The way that the tree of a set points to: from the root down, bit 1 to the right (log 101). -/
def plruVictim (t : BitVec 15) : Nat :=
  (List.range 4).foldl (fun w _ => 2 * w + 1 + (if t.getLsbD w then 1 else 0)) 0 - 15

/-- The tree after a use of a way: every node above it points away from it. -/
def plruTouch (t : BitVec 15) (way : Nat) : BitVec 15 :=
  (List.range 4).foldl (fun x k =>
    let node := (way + 16) / 2 ^ (4 - k) - 1
    let right := (way + 16) / 2 ^ (3 - k) % 2 = 1
    if right then x &&& ~~~(BitVec.ofNat 15 (2 ^ node)) else x ||| BitVec.ofNat 15 (2 ^ node)) t

/-- The way that holds a line. -/
def CacheSet.find (c : CacheSet) (line : Nat) : Option Nat :=
  (List.range 16).find? (fun w => ((c.ways.getD w none).map CacheLine.line) == some line)

/-- The way that a new line takes: a free one, or the tree's. -/
def CacheSet.freeWay (c : CacheSet) : Nat :=
  ((List.range 16).find? (fun w => (c.ways.getD w none).isNone)).getD (plruVictim c.tree)

/-- Put a line in a way and note the use. -/
def CacheSet.put (c : CacheSet) (way : Nat) (l : CacheLine) : CacheSet := ⟨c.ways.set way (some l), plruTouch c.tree way⟩

/-- An access to a line of a set (R197). A hit is used, and a write makes it dirty. A read that misses fills unless the stream
bypasses; a bypassing write of a whole line replaces any cached copy and is not kept. A line put out of its way is written back:
its bytes are those of its address (R195). -/
def CacheSet.access (c : CacheSet) (line : Nat) (write bypass whole : Bool) : CacheSet :=
  match c.find line with
  | some w =>
    if write && bypass && whole then { c with ways := c.ways.set w none }
    else c.put w ⟨line, write || (((c.ways.getD w none).map CacheLine.dirty).getD false)⟩
  | none =>
    if bypass && (!write || whole) then c else c.put c.freeWay ⟨line, write⟩

/-- An access to HBM4E passes through the slice of its address, line by line (R195, R197). -/
def State.touchCache (s : State) (a n : Nat) (write bypass : Bool) : State :=
  if n = 0 || !isHbm a then s
  else (List.range ((a + n - 1) / 256 - a / 256 + 1)).foldl (fun t i =>
    let line := a / 256 + i
    let whole := decide (a ≤ 256 * line) && decide (256 * line + 256 ≤ a + n)
    let key := setKey (256 * line)
    let set := (sparseGet CacheSet.empty key t.cache).access line write bypass whole
    { t with cache := sparsePut CacheSet.empty key set t.cache }) s

/-- The line of an address lies in its slice, and whether it is dirty. -/
def State.cachedDirty (s : State) (a : Nat) : Option Bool :=
  let c := sparseGet CacheSet.empty (setKey a) s.cache
  (c.find (a / 256)).map (fun w => ((c.ways.getD w none).map CacheLine.dirty).getD false)

/-- A line leaves its slice. -/
def State.dropLine (s : State) (a : Nat) : State :=
  let key := setKey a
  let c := sparseGet CacheSet.empty key s.cache
  match c.find (a / 256) with
  | some w => { s with cache := sparsePut CacheSet.empty key { c with ways := c.ways.set w none } s.cache }
  | none => s

end Sys2Proof.Machine
end

