-- ==== Sys2Proof/Machine/Part.lean ====
section
/-! DEFINITION. What the part number fixes (Table 0-1, Table 10-2, Table 11-4) and the names of dies, stacks, regions
and sensors by index. -/

namespace Sys2Proof.Machine

/-- CAP_UNITS.VARIANT (Table 0-2). -/
def Variant.code : Variant → Nat
  | .xt960m => 1
  | .xt960s => 2
  | .xt720m => 3
  | .xt480s => 4

/-- Compute dies (Table 0-1). -/
def Variant.dies : Variant → Nat
  | .xt960m => 4
  | .xt960s => 4
  | .xt720m => 3
  | .xt480s => 2

/-- Stacks: two for each die (R4). -/
def Variant.stacks (v : Variant) : Nat := 2 * v.dies

/-- Whether the FP64 lanes are fitted. -/
def Variant.hasFp64 : Variant → Bool
  | .xt960m => true
  | .xt960s => true
  | .xt720m => false
  | .xt480s => false

/-- Whether the twin link is fitted. -/
def Variant.hasTwin : Variant → Bool
  | .xt960m => true
  | .xt960s => false
  | .xt720m => true
  | .xt480s => false

/-- Maximum sustained power in W. -/
def Variant.maxPower : Variant → Nat
  | .xt960m => 2000
  | .xt960s => 2000
  | .xt720m => 1550
  | .xt480s => 1050

/-- PCIe device ID (Table 13-1). -/
def Variant.deviceId : Variant → Nat
  | .xt960m => 0x0960
  | .xt960s => 0x0961
  | .xt720m => 0x0720
  | .xt480s => 0x0480

/-- Phases fitted in a region (Table 10-2), by region index (R349). -/
def Variant.phasesFitted (_ : Variant) (i : Nat) : Nat :=
  if i < 32 then 6 else if i < 36 then 8 else if i = 36 then 2 else if i < 40 then 4 else 3

/-- 1 for a stack-reported temperature (Table 11-4). -/
def Variant.sensorStack (_ : Variant) (s : Nat) : Nat := if s < 136 then 0 else 1

/-- The other sensor of a pair, if the sensor is one of a pair (Table 11-4). -/
def sensorMate (s : Nat) : Option Nat :=
  let mate := if s % 2 = 0 then s + 1 else s - 1
  if s < 128 then (if s % 32 < 16 ∨ (24 ≤ s % 32 ∧ s % 32 < 28) then some mate else none)
  else if s < 132 then some mate else none

/-- 1 for a member of a pair. -/
def Variant.sensorPaired (_ : Variant) (s : Nat) : Nat := if (sensorMate s).isSome then 1 else 0

/-- The fused voltage-table entry of register index `32 d + p` (R386); indices above 22 read zero. -/
def Part.fusedEntry (p : Part) (i : Nat) : VfEntry :=
  ((p.fusedVf.getD (i / 32) []).getD (i % 32) ⟨0, true⟩)

/-- Device-state codes (Table 13-4). -/
def DevState.code : DevState → Nat
  | .off => 0
  | .boot => 1
  | .selftest => 2
  | .ready => 3
  | .armed => 4
  | .running => 5
  | .held => 6
  | .draining => 7
  | .faulted => 8
  | .safe => 9

/-- The die that a region serves: its own for a cluster or uncore region, the owner for a stack (R4, R349). -/
def regionDie (r : Nat) : Option Nat :=
  if r < 32 then some (r / 8) else if r < 36 then some (r - 32) else if r < 40 then none else some ((r - 40) / 2)

/-- Regions of absent units do not exist (R333). -/
def Variant.hasRegion (v : Variant) (r : Nat) : Bool :=
  match regionDie r with
  | some d => decide (d < v.dies) && decide (r < 48)
  | none => true

/-- The region limit in 10 mA (Table 10-2). -/
def regionLimit (r : Nat) : Nat :=
  if r < 32 then 6000 else if r < 36 then 8400 else if r = 36 then 1200 else if r < 40 then 3600 else 2400

/-- The neighbours of a region (R343). -/
def regionNeighbours (r : Nat) : List Nat :=
  if r < 32 then
    (if r % 4 = 0 then [] else [r - 1]) ++ (if r % 4 = 3 then [] else [r + 1]) ++ [32 + r / 8]
  else if r < 36 then (List.range 8).map (8 * (r - 32) + ·)
  else if r < 40 then [36, 37, 38, 39].filter (· ≠ r)
  else [32 + (r - 40) / 2]

/-- The die of a sensor; none for the hub. A stack's temperature belongs to the owning die (R376). -/
def sensorDie (s : Nat) : Option Nat :=
  if s < 128 then some (s / 32) else if s < 136 then none else some ((s - 136) / 2)

/-- Sensors of absent units read zero (R386). -/
def Variant.hasSensor (v : Variant) (s : Nat) : Bool :=
  match sensorDie s with
  | some d => decide (d < v.dies) && decide (s < 144)
  | none => true

/-- The sensors of cluster `8 d + c` (R367). -/
def clusterSensors (i : Nat) : List Nat :=
  [32 * (i / 8) + 2 * (i % 8), 32 * (i / 8) + 2 * (i % 8) + 1, 32 * (i / 8) + 16 + i % 8]

end Sys2Proof.Machine
end

