-- ==== Sys2Proof/Machine/Regs.lean ====
section
/-! DEFINITION. The register maps of spec/ (every "Table n-m" of registers): the fields by their own names under
`Reg`, and one row per register with the access type and the reset value of each field. Keys: a BAR0 offset; for BAR2
`0x1_0000_0000` plus the offset; for the management bus `0x2_0000_0000` plus the index (logs 3 and 4). -/

namespace Sys2Proof.Machine

/-- A field of a register: its key and its bit range (R16). -/
structure Field where
  reg : Nat
  hi : Nat
  lo : Nat
  deriving DecidableEq, Repr

/-- The access types of Table 0-6 (R18); RSV bits are those no field covers. -/
inductive Access where
  | ro | rw | w1c | w1s | rc | wo
  deriving DecidableEq, Repr

/-- What "variant" and "fused" in a Reset column name (R21), and what a module without damage shows at the entry to BOOT of the
fields that firmware does not write: the phases and Stage A cells that are healthy, and the ceiling (log 5). -/
inductive PartKey where
  | variant | fp64 | twin | hbm | die | deviceId | vendorId | revision | rom | uid | phases | phasesOk | cellsOk | ceiling | fusedMv
  | sensorStack | sensorPaired | rootRevoked | svnMin | uidLo | uidHi
  deriving DecidableEq, Repr

/-- An entry of a Reset column (R21): a number, a value of the part, or "set at boot" (zero until firmware writes
it, log 5). -/
inductive Reset where
  | const (n : Nat)
  | part (k : PartKey)
  | boot
  deriving DecidableEq, Repr

/-- One field row of a register map. -/
structure FieldDesc where
  hi : Nat
  lo : Nat
  acc : Access
  reset : Reset
  deriving DecidableEq, Repr

/-- One register, or an array of `count` registers `stride` bytes apart. -/
structure RegDesc where
  base : Nat
  stride : Nat
  count : Nat
  fields : List FieldDesc
  deriving DecidableEq, Repr

namespace Reg

/-- DEVICE_ID: As in Table 13-1. -/
def CAP_IDENT.DEVICE_ID : Field := ⟨0x0, 63, 48⟩
/-- VENDOR_ID: As in configuration space. -/
def CAP_IDENT.VENDOR_ID : Field := ⟨0x0, 47, 32⟩
/-- REVISION: Silicon stepping. -/
def CAP_IDENT.REVISION : Field := ⟨0x0, 31, 24⟩

/-- FW_MAJOR: Running firmware. -/
def CAP_VERSION.FW_MAJOR : Field := ⟨0x8, 63, 48⟩
/-- FW_MINOR: Running firmware. -/
def CAP_VERSION.FW_MINOR : Field := ⟨0x8, 47, 32⟩
/-- ROM: Boot ROM version. -/
def CAP_VERSION.ROM : Field := ⟨0x8, 31, 16⟩
/-- SEC_VERSION: Security version of the running image. -/
def CAP_VERSION.SEC_VERSION : Field := ⟨0x8, 15, 0⟩

/-- VARIANT: 0x0001 GS-XT960-M; 0x0002 GS-XT960-S; 0x0003 GS-XT720-M; 0x0004 GS-XT480-S; other values are not used. -/
def CAP_UNITS.VARIANT : Field := ⟨0x10, 47, 32⟩
/-- N_CORES: Number of logical cores assigned at the last numbering of R10, 0–256. -/
def CAP_UNITS.N_CORES : Field := ⟨0x10, 24, 16⟩
/-- FP64_PRESENT: 1: V-engine FP64 lanes fitted. -/
def CAP_UNITS.FP64_PRESENT : Field := ⟨0x10, 13, 13⟩
/-- TWIN_PRESENT: 1: twin link fitted. -/
def CAP_UNITS.TWIN_PRESENT : Field := ⟨0x10, 12, 12⟩
/-- HBM_PRESENT: Bit 4+n set: stack hn fitted. -/
def CAP_UNITS.HBM_PRESENT : Field := ⟨0x10, 11, 4⟩
/-- DIE_PRESENT: Bit n set: compute die dn fitted. -/
def CAP_UNITS.DIE_PRESENT : Field := ⟨0x10, 3, 0⟩

/-- PREVIOUS: State before the last change. -/
def CAP_STATE.PREVIOUS : Field := ⟨0x18, 35, 32⟩
/-- CAUSE: Cause of the last change: an opcode, or 0x8000 \| event code, or 0 (R415). -/
def CAP_STATE.CAUSE : Field := ⟨0x18, 31, 16⟩
/-- STATE: Table 13-4. -/
def CAP_STATE.STATE : Field := ⟨0x18, 3, 0⟩

/-- DTIME: Device time in nanoseconds. -/
def CAP_DTIME.DTIME : Field := ⟨0x20, 63, 0⟩

/-- PERSTS: PERST# assertions since BOOT; saturates. -/
def CAP_PCIE.PERSTS : Field := ⟨0x28, 63, 48⟩
/-- SRIS: 1: separate reference clocking in use. -/
def CAP_PCIE.SRIS : Field := ⟨0x28, 17, 17⟩
/-- BUS_MASTER: Bus Master Enable. -/
def CAP_PCIE.BUS_MASTER : Field := ⟨0x28, 16, 16⟩
/-- DSTATE: 0 D0; 3 D3hot. -/
def CAP_PCIE.DSTATE : Field := ⟨0x28, 15, 14⟩
/-- FLIT: 1: FLIT mode. -/
def CAP_PCIE.FLIT : Field := ⟨0x28, 13, 13⟩
/-- WIDTH: Lanes: 4, 8 or 16; 0 when the link is down. -/
def CAP_PCIE.WIDTH : Field := ⟨0x28, 12, 8⟩
/-- GEN: 5, 6 or 7; 0 when the link is down. -/
def CAP_PCIE.GEN : Field := ⟨0x28, 2, 0⟩

/-- BAR4_LOG2: Initial BAR4 size 2^n GiB, 0–9; from the next PERST# or BOOT; values above 9 act as 9. -/
def CAP_SETTINGS.BAR4_LOG2 : Field := ⟨0x30, 12, 8⟩
/-- PCIE_CLOCK: 0 common REFCLK; 1 SRIS; from the next BOOT. -/
def CAP_SETTINGS.PCIE_CLOCK : Field := ⟨0x30, 1, 1⟩
/-- STARTUP_BIST: 1: start-up BIST at every BOOT (R389). -/
def CAP_SETTINGS.STARTUP_BIST : Field := ⟨0x30, 0, 0⟩

/-- BASE: Module address bits 51:30 of BAR4 offset 0 (R412). -/
def CAP_BAR4_BASE.BASE : Field := ⟨0x38, 51, 30⟩

/-- ID: PASSAGE_ID; 0 when no passage is loaded. -/
def CAP_PASSAGE_ID.ID : Field := ⟨0x40, 63, 0⟩

/-- STEP: Step in progress, or the next step when none runs. -/
def CAP_STEP.STEP : Field := ⟨0x48, 63, 0⟩

/-- CODE: Table 7-8. -/
def CAP_LOAD_STATUS.CODE : Field := ⟨0x50, 63, 56⟩
/-- SECTION: Section of the failure; 0 when the header fails. -/
def CAP_LOAD_STATUS.SECTION : Field := ⟨0x50, 34, 32⟩
/-- INDEX: Record index within the section. -/
def CAP_LOAD_STATUS.INDEX : Field := ⟨0x50, 31, 0⟩

/-- STEPS_LEFT: Commits still to run; 0xFFFF_FFFF when the count is unbounded. -/
def CAP_RUN.STEPS_LEFT : Field := ⟨0x58, 63, 32⟩
/-- HOST_WAIT: 1: pass 2 waits for UPD_CLIP_SET. -/
def CAP_RUN.HOST_WAIT : Field := ⟨0x58, 4, 4⟩
/-- ABORT_PENDING: 1: an abort waits for the commit. -/
def CAP_RUN.ABORT_PENDING : Field := ⟨0x58, 3, 3⟩
/-- STOP_PENDING: 1: a stop waits for the commit. -/
def CAP_RUN.STOP_PENDING : Field := ⟨0x58, 2, 2⟩
/-- HOLD_PENDING: 1: a hold waits for the next Rendezvous. -/
def CAP_RUN.HOLD_PENDING : Field := ⟨0x58, 1, 1⟩
/-- LOADED: 1: a passage is loaded. -/
def CAP_RUN.LOADED : Field := ⟨0x58, 0, 0⟩

/-- PENDING: Bit as in MODE: a switch waits to take effect. -/
def CAP_DUTY_MODE.PENDING : Field := ⟨0x60, 22, 16⟩
/-- FALLBACK: 1: host-assisted fallback policy. -/
def CAP_DUTY_MODE.FALLBACK : Field := ⟨0x60, 6, 6⟩
/-- TRANSPOSE: 1: host-assisted transposition. -/
def CAP_DUTY_MODE.TRANSPOSE : Field := ⟨0x60, 5, 5⟩
/-- REPAIR: 1: host-assisted repair. -/
def CAP_DUTY_MODE.REPAIR : Field := ⟨0x60, 4, 4⟩
/-- UPDATE: 1: host-assisted update. -/
def CAP_DUTY_MODE.UPDATE : Field := ⟨0x60, 3, 3⟩
/-- CAPPING: 1: host-assisted power capping. -/
def CAP_DUTY_MODE.CAPPING : Field := ⟨0x60, 2, 2⟩
/-- ROUTING: 1: host-assisted fabric routing. -/
def CAP_DUTY_MODE.ROUTING : Field := ⟨0x60, 1, 1⟩
/-- PLACEMENT: 1: host-assisted placement. -/
def CAP_DUTY_MODE.PLACEMENT : Field := ⟨0x60, 0, 0⟩

/-- STORES: STOREs completed over the module's life. -/
def CAP_STORE.STORES : Field := ⟨0x68, 63, 32⟩
/-- LAST_STATUS: Status of the last STORE since BOOT. -/
def CAP_STORE.LAST_STATUS : Field := ⟨0x68, 31, 24⟩
/-- WEAR_MAX: Highest write count of the blocks that STORE writes (R431). -/
def CAP_STORE.WEAR_MAX : Field := ⟨0x68, 16, 0⟩

/-- STAGE: 1 ROM; 2 firmware; 3 regions; 4 training; 5 settings; 6 SELFTEST; 7 numbering; 8 hold-up; 9 done. -/
def CAP_BOOT.STAGE : Field := ⟨0x80, 63, 56⟩
/-- FAIL: 0 none; 1 BOOT_AUTH; 2 HUB_REGION; 3 NO_CORES. -/
def CAP_BOOT.FAIL : Field := ⟨0x80, 55, 48⟩
/-- STACK_FAILED: Bit n: stack hn failed training. -/
def CAP_BOOT.STACK_FAILED : Field := ⟨0x80, 47, 40⟩
/-- DIE_UNUSED: Bit n: die dn unused. -/
def CAP_BOOT.DIE_UNUSED : Field := ⟨0x80, 39, 36⟩
/-- SLOT: 0 slot A; 1 slot B started. -/
def CAP_BOOT.SLOT : Field := ⟨0x80, 34, 34⟩
/-- SLOT_FALLBACK: 1: the second slot started (R391). -/
def CAP_BOOT.SLOT_FALLBACK : Field := ⟨0x80, 33, 33⟩
/-- BIST_RAN: 1: start-up BIST ran. -/
def CAP_BOOT.BIST_RAN : Field := ⟨0x80, 32, 32⟩
/-- READY_MS: ms from input present, or from the reset, to READY; saturates. -/
def CAP_BOOT.READY_MS : Field := ⟨0x80, 31, 0⟩

/-- RESTORE: 0 none; 1 re-placing; 2 from twin; 3 HOST; 4 done. -/
def CAP_RECOVERY.RESTORE : Field := ⟨0x88, 63, 60⟩
/-- CAUSE: 1 late discard; 2 lost data; 3 both. -/
def CAP_RECOVERY.CAUSE : Field := ⟨0x88, 59, 58⟩
/-- FROM_HOST: Restores completed by the host. -/
def CAP_RECOVERY.FROM_HOST : Field := ⟨0x88, 47, 40⟩
/-- FROM_TWIN: Restores completed from the twin. -/
def CAP_RECOVERY.FROM_TWIN : Field := ⟨0x88, 39, 32⟩
/-- MIB_LEFT: MiB of the set still to land. -/
def CAP_RECOVERY.MIB_LEFT : Field := ⟨0x88, 31, 0⟩

/-- The word, as the PCIe specification or R406 lays it out. -/
def CAP_STOP_REC.WORD (i : Nat) : Field := ⟨0x400 + 0x8 * i, 63, 0⟩

/-- BASE: Host bus address of the submission ring; bits 11:0 ignored. -/
def MBX_SQ_BASE.BASE (i : Nat) : Field := ⟨0x100000 + 0x40 * i, 63, 0⟩

/-- BASE: Host bus address of the completion ring; bits 11:0 ignored. -/
def MBX_CQ_BASE.BASE (i : Nat) : Field := ⟨0x100008 + 0x40 * i, 63, 0⟩

/-- ENABLE: 1: the mailbox runs. -/
def MBX_CFG.ENABLE (i : Nat) : Field := ⟨0x100010 + 0x40 * i, 63, 63⟩
/-- INT_EN: 1: signal VECTOR after each completion. -/
def MBX_CFG.INT_EN (i : Nat) : Field := ⟨0x100010 + 0x40 * i, 62, 62⟩
/-- VECTOR: MSI-X vector, 0–2,047. -/
def MBX_CFG.VECTOR (i : Nat) : Field := ⟨0x100010 + 0x40 * i, 26, 16⟩
/-- CQ_LOG2: 1–12. -/
def MBX_CFG.CQ_LOG2 (i : Nat) : Field := ⟨0x100010 + 0x40 * i, 15, 8⟩
/-- SQ_LOG2: 1–12. -/
def MBX_CFG.SQ_LOG2 (i : Nat) : Field := ⟨0x100010 + 0x40 * i, 7, 0⟩

/-- TAIL: Doorbell: one past the last slot written. -/
def MBX_SQ_TAIL.TAIL (i : Nat) : Field := ⟨0x100018 + 0x40 * i, 11, 0⟩

/-- HEAD: Next slot the device fetches. -/
def MBX_SQ_HEAD.HEAD (i : Nat) : Field := ⟨0x100020 + 0x40 * i, 11, 0⟩

/-- HEAD: Next completion that the host has not consumed. -/
def MBX_CQ_HEAD.HEAD (i : Nat) : Field := ⟨0x100028 + 0x40 * i, 11, 0⟩

/-- ERROR: 1: the mailbox has stopped. -/
def MBX_STATUS.ERROR (i : Nat) : Field := ⟨0x100030 + 0x40 * i, 63, 63⟩
/-- ERR_CAUSE: First cause since ERROR was last cleared: 1 submission ring access failed; 2 completion ring access failed; 3 TAIL at or beyond the depth; 4 a depth outside 1–12 when ENABLE was set; 5 CQ_HEAD written at or beyond the depth. -/
def MBX_STATUS.ERR_CAUSE (i : Nat) : Field := ⟨0x100030 + 0x40 * i, 55, 48⟩
/-- BUSY: 1: a command is executing. -/
def MBX_STATUS.BUSY (i : Nat) : Field := ⟨0x100030 + 0x40 * i, 32, 32⟩
/-- COMPLETED: Completions written. -/
def MBX_STATUS.COMPLETED (i : Nat) : Field := ⟨0x100030 + 0x40 * i, 31, 0⟩

/-- TAIL: Next completion slot the device writes. -/
def MBX_CQ_TAIL.TAIL (i : Nat) : Field := ⟨0x100038 + 0x40 * i, 11, 0⟩

/-- The word, as the PCIe specification or R406 lays it out. -/
def MSIX_ADDR.ADDR (i : Nat) : Field := ⟨0x300000 + 0x10 * i, 63, 0⟩

/-- The word, as the PCIe specification or R406 lays it out. -/
def MSIX_CTRL.MASK (i : Nat) : Field := ⟨0x300008 + 0x10 * i, 32, 32⟩
/-- The word, as the PCIe specification or R406 lays it out. -/
def MSIX_CTRL.DATA (i : Nat) : Field := ⟨0x300008 + 0x10 * i, 31, 0⟩

/-- The word, as the PCIe specification or R406 lays it out. -/
def MSIX_PBA.PENDING (i : Nat) : Field := ⟨0x308000 + 0x8 * i, 63, 0⟩

/-- BASE: Host bus address; bits 11:0 ignored. -/
def EVT_RING_BASE.BASE : Field := ⟨0x400000, 63, 0⟩

/-- ENABLE: 1: the ring runs. -/
def EVT_RING_CFG.ENABLE : Field := ⟨0x400008, 63, 63⟩
/-- INT_EN: 1: signal VECTOR. -/
def EVT_RING_CFG.INT_EN : Field := ⟨0x400008, 62, 62⟩
/-- HOLDOFF: µs between interrupts; 0: no hold-off. -/
def EVT_RING_CFG.HOLDOFF : Field := ⟨0x400008, 47, 40⟩
/-- VECTOR: MSI-X vector. -/
def EVT_RING_CFG.VECTOR : Field := ⟨0x400008, 26, 16⟩
/-- LOG2_DEPTH: 6–16; other values stop the ring with ERROR. -/
def EVT_RING_CFG.LOG2_DEPTH : Field := ⟨0x400008, 4, 0⟩

/-- HEAD: Next record the host has not consumed. -/
def EVT_RING_HEAD.HEAD : Field := ⟨0x400010, 15, 0⟩

/-- TAIL: Next slot the device writes. -/
def EVT_RING_TAIL.TAIL : Field := ⟨0x400018, 15, 0⟩

/-- ERROR: 1: the ring has stopped (R410, R423). -/
def EVT_STATUS.ERROR : Field := ⟨0x400020, 63, 63⟩
/-- QUEUED: Records held in the device, 0–4,096. -/
def EVT_STATUS.QUEUED : Field := ⟨0x400020, 60, 48⟩
/-- MASKED: Records not delivered because they were masked. -/
def EVT_STATUS.MASKED : Field := ⟨0x400020, 47, 32⟩
/-- LOST: Records dropped (R426). -/
def EVT_STATUS.LOST : Field := ⟨0x400020, 31, 0⟩

/-- MASK: Bit j set: do not deliver code 64i + j. -/
def EVT_MASK.MASK (i : Nat) : Field := ⟨0x401000 + 0x8 * i, 63, 0⟩

/-- BUDGET_EN: 1: apply the budget input (limit 2). -/
def HELM_CAP.BUDGET_EN : Field := ⟨0x800000, 16, 16⟩
/-- HOST_CAP_W: Host cap in W (R354). -/
def HELM_CAP.HOST_CAP_W : Field := ⟨0x800000, 15, 0⟩

/-- EFFECTIVE_W: C_eff in W. -/
def HELM_CAP_STATUS.EFFECTIVE_W : Field := ⟨0x800008, 63, 48⟩
/-- FLOOR_W: Floor estimate in W (R353). -/
def HELM_CAP_STATUS.FLOOR_W : Field := ⟨0x800008, 47, 32⟩
/-- LIMIT: Code of Table 11-1; 0 none. -/
def HELM_CAP_STATUS.LIMIT : Field := ⟨0x800008, 31, 24⟩
/-- BUBBLE: b, 0–240. -/
def HELM_CAP_STATUS.BUBBLE : Field := ⟨0x800008, 23, 16⟩
/-- BUBBLE_AVG: Fraction of R369 for the last period. -/
def HELM_CAP_STATUS.BUBBLE_AVG : Field := ⟨0x800008, 15, 8⟩
/-- FLOOR_HOLD: 1: limit 9 active. -/
def HELM_CAP_STATUS.FLOOR_HOLD : Field := ⟨0x800008, 2, 2⟩
/-- BELOW_FLOOR: 1: the requested cap is below FLOOR_W. -/
def HELM_CAP_STATUS.BELOW_FLOOR : Field := ⟨0x800008, 1, 1⟩
/-- HOST_ASSISTED: 1: host-assisted capping. -/
def HELM_CAP_STATUS.HOST_ASSISTED : Field := ⟨0x800008, 0, 0⟩

/-- BUDGET_W: Last valid budget in W, as received; 0xFFFF when the tray sets no budget (R480). -/
def HELM_LIMITS.BUDGET_W : Field := ⟨0x800010, 63, 48⟩
/-- VIN_LIMIT_W: C_V in W. -/
def HELM_LIMITS.VIN_LIMIT_W : Field := ⟨0x800010, 47, 32⟩
/-- COOL_LIMIT_W: min(C_flow, C_inlet), or limit 8, in W; CEILING_W before the first coolant reading (R381). -/
def HELM_LIMITS.COOL_LIMIT_W : Field := ⟨0x800010, 31, 16⟩
/-- BUDGET_STALE: 1: no valid budget for 10 ms. -/
def HELM_LIMITS.BUDGET_STALE : Field := ⟨0x800010, 1, 1⟩
/-- BUDGET_VALID: 1: a budget has been received since BOOT. -/
def HELM_LIMITS.BUDGET_VALID : Field := ⟨0x800010, 0, 0⟩

/-- RAMP_STEP: Slope in 1/256 per µs (R359); 0 acts as 1. -/
def HELM_CTRL_CFG.RAMP_STEP : Field := ⟨0x800018, 23, 16⟩
/-- FIXED_INDEX: Index for fixed-frequency mode; values above 16 act as 16. -/
def HELM_CTRL_CFG.FIXED_INDEX : Field := ⟨0x800018, 12, 8⟩
/-- FILLER_EN: 1: filler work allowed. -/
def HELM_CTRL_CFG.FILLER_EN : Field := ⟨0x800018, 2, 2⟩
/-- FIXED_FREQ: 1: fixed-frequency mode, from the next period. -/
def HELM_CTRL_CFG.FIXED_FREQ : Field := ⟨0x800018, 1, 1⟩
/-- BOOST_EN: 1: boost allowed (R365). -/
def HELM_CTRL_CFG.BOOST_EN : Field := ⟨0x800018, 0, 0⟩

/-- MARGIN_MV: mV added to every setpoint, from the next period; 31 acts as 30. -/
def HELM_VF_CFG.MARGIN_MV : Field := ⟨0x800020, 4, 0⟩

/-- OP_CHANGES: Index changes of the module. -/
def HELM_OP_STATUS.OP_CHANGES : Field := ⟨0x800028, 63, 32⟩
/-- BOOSTING: 1: p above 16. -/
def HELM_OP_STATUS.BOOSTING : Field := ⟨0x800028, 24, 24⟩
/-- TOP_USABLE: R362. -/
def HELM_OP_STATUS.TOP_USABLE : Field := ⟨0x800028, 20, 16⟩
/-- P_MAX: p_max of the last period. -/
def HELM_OP_STATUS.P_MAX : Field := ⟨0x800028, 12, 8⟩
/-- INDEX: Module index p. -/
def HELM_OP_STATUS.INDEX : Field := ⟨0x800028, 4, 0⟩

/-- FLOW: mL/min. -/
def HELM_COOLANT.FLOW : Field := ⟨0x800030, 63, 48⟩
/-- OUTLET: 1/8 °C, two's complement. -/
def HELM_COOLANT.OUTLET : Field := ⟨0x800030, 47, 32⟩
/-- INLET: 1/8 °C, two's complement. -/
def HELM_COOLANT.INLET : Field := ⟨0x800030, 31, 16⟩
/-- AGE: ms since the last reading; saturates. -/
def HELM_COOLANT.AGE : Field := ⟨0x800030, 15, 0⟩

/-- OUTLET_SLOPE: Stop criterion in 0.1 °C/s; 0 disables it. -/
def HELM_COOLANT_CFG.OUTLET_SLOPE : Field := ⟨0x800038, 23, 16⟩
/-- RATED_FLOW: mL/min; values outside 1,200–3,000 act as the nearer bound. -/
def HELM_COOLANT_CFG.RATED_FLOW : Field := ⟨0x800038, 15, 0⟩

/-- SENSOR_LOST: 1: some hot spot uses a substitute. -/
def HELM_THERMAL.SENSOR_LOST : Field := ⟨0x800040, 30, 30⟩
/-- TRIPPED: 1: the trip has acted since BOOT. -/
def HELM_THERMAL.TRIPPED : Field := ⟨0x800040, 29, 29⟩
/-- DATA_LOST: 1: limit 8 active. -/
def HELM_THERMAL.DATA_LOST : Field := ⟨0x800040, 28, 28⟩
/-- INLET_HIGH: 1: inlet above 45 °C. -/
def HELM_THERMAL.INLET_HIGH : Field := ⟨0x800040, 27, 27⟩
/-- FLOW_70: 1: flow below 70 % of rated. -/
def HELM_THERMAL.FLOW_70 : Field := ⟨0x800040, 26, 26⟩
/-- FLOW_85: 1: flow below 85 % of rated. -/
def HELM_THERMAL.FLOW_85 : Field := ⟨0x800040, 25, 25⟩
/-- COOLANT_STOP: 1: floor hold for a coolant stop. -/
def HELM_THERMAL.COOLANT_STOP : Field := ⟨0x800040, 24, 24⟩
/-- HOTTEST_SENSOR: Index s. -/
def HELM_THERMAL.HOTTEST_SENSOR : Field := ⟨0x800040, 23, 16⟩
/-- HOTTEST: Highest governing reading, 1/8 °C. -/
def HELM_THERMAL.HOTTEST : Field := ⟨0x800040, 11, 0⟩

/-- TOKENS: Tokens per step; latched at step start. -/
def HELM_RK_CFG.TOKENS : Field := ⟨0x800048, 31, 0⟩

/-- STEP_LO: Step number bits 31:0. -/
def HELM_RK_STEP.STEP_LO : Field := ⟨0x800050, 63, 32⟩
/-- ENERGY: Step energy in mJ (R372). -/
def HELM_RK_STEP.ENERGY : Field := ⟨0x800050, 31, 0⟩

/-- DURATION: Step interval in ns. -/
def HELM_RK_STEP_NS.DURATION : Field := ⟨0x800058, 63, 0⟩

/-- AVG_W: Mean input power over the step, W. -/
def HELM_RK_TOKEN.AVG_W : Field := ⟨0x800060, 63, 48⟩
/-- UJ_PER_TOKEN: µJ per token. -/
def HELM_RK_TOKEN.UJ_PER_TOKEN : Field := ⟨0x800060, 31, 0⟩

/-- ENERGY: mJ at the input since BOOT. -/
def HELM_RK_TOTAL.ENERGY : Field := ⟨0x800068, 63, 0⟩

/-- TWO_ROLES: 1: the step covers a carried role. -/
def HELM_RK_CORR.TWO_ROLES : Field := ⟨0x800070, 48, 48⟩
/-- K_MAX: Highest k in the step, unsigned 1.15 fixed point. -/
def HELM_RK_CORR.K_MAX : Field := ⟨0x800070, 47, 32⟩
/-- K_MIN: Lowest k in the step. -/
def HELM_RK_CORR.K_MIN : Field := ⟨0x800070, 31, 16⟩
/-- K_MEAN: Mean k in the step. -/
def HELM_RK_CORR.K_MEAN : Field := ⟨0x800070, 15, 0⟩

/-- ENERGY: µJ of category j: 0 MATRIX; 1 VECTOR; 2 FILLER; 3 ON_PACKAGE; 4 HBM; 5 FABRIC; 6 LEAKAGE; 7 CONVERSION. -/
def HELM_RK_SPLIT.ENERGY (i : Nat) : Field := ⟨0x800080 + 0x8 * i, 63, 0⟩

/-- HOTTEST: Cluster's hottest reading, 1/8 °C (R367). -/
def HELM_CL_STATUS.HOTTEST (i : Nat) : Field := ⟨0x801000 + 0x20 * i, 59, 48⟩
/-- BAND: Band of R211 at the last step start. -/
def HELM_CL_STATUS.BAND (i : Nat) : Field := ⟨0x801000 + 0x20 * i, 41, 40⟩
/-- B_T: Thermal bubble level. -/
def HELM_CL_STATUS.B_T (i : Nat) : Field := ⟨0x801000 + 0x20 * i, 39, 32⟩
/-- B_C: Applied bubble level (R358). -/
def HELM_CL_STATUS.B_C (i : Nat) : Field := ⟨0x801000 + 0x20 * i, 31, 24⟩
/-- THERM_STEP: t_c. -/
def HELM_CL_STATUS.THERM_STEP (i : Nat) : Field := ⟨0x801000 + 0x20 * i, 12, 8⟩
/-- INDEX: p_c. -/
def HELM_CL_STATUS.INDEX (i : Nat) : Field := ⟨0x801000 + 0x20 * i, 4, 0⟩

/-- CYCLES: Core-cycles of filler issue in the cluster. -/
def HELM_CL_FILLER.CYCLES (i : Nat) : Field := ⟨0x801008 + 0x20 * i, 63, 0⟩

/-- CYCLES: ECLK cycles with a bubbled slot. -/
def HELM_CL_BUBBLES.CYCLES (i : Nat) : Field := ⟨0x801010 + 0x20 * i, 63, 0⟩

/-- STACK: 1: stack-reported temperature. -/
def HELM_SENSOR.STACK (i : Nat) : Field := ⟨0x802000 + 0x8 * i, 19, 19⟩
/-- PAIRED: 1: member of a pair. -/
def HELM_SENSOR.PAIRED (i : Nat) : Field := ⟨0x802000 + 0x8 * i, 18, 18⟩
/-- TRIPPED: 1: this sensor tripped; cleared on leaving SAFE. -/
def HELM_SENSOR.TRIPPED (i : Nat) : Field := ⟨0x802000 + 0x8 * i, 17, 17⟩
/-- SUSPECT: 1: the pair is suspect (R375). -/
def HELM_SENSOR.SUSPECT (i : Nat) : Field := ⟨0x802000 + 0x8 * i, 16, 16⟩
/-- OUT_OF_RANGE: 1: the last reading lay outside −20 to 150 °C. -/
def HELM_SENSOR.OUT_OF_RANGE (i : Nat) : Field := ⟨0x802000 + 0x8 * i, 15, 15⟩
/-- OPEN_SHORT: 1: the front end reports an open or a short. -/
def HELM_SENSOR.OPEN_SHORT (i : Nat) : Field := ⟨0x802000 + 0x8 * i, 14, 14⟩
/-- VALID: 1: the last reading was plausible. -/
def HELM_SENSOR.VALID (i : Nat) : Field := ⟨0x802000 + 0x8 * i, 13, 13⟩
/-- TEMP: Last reading, 1/8 °C, two's complement. While OPEN_SHORT is 1 it holds the last plausible reading, or 0 when none has been taken since BOOT. An out-of-range reading is shown as delivered, saturated to the field's range. -/
def HELM_SENSOR.TEMP (i : Nat) : Field := ⟨0x802000 + 0x8 * i, 11, 0⟩

/-- FROM_MRAM: 1: the entry comes from MRAM. -/
def HELM_VF.FROM_MRAM (i : Nat) : Field := ⟨0x803000 + 0x8 * i, 49, 49⟩
/-- USABLE: 1: the index is usable on this die. -/
def HELM_VF.USABLE (i : Nat) : Field := ⟨0x803000 + 0x8 * i, 48, 48⟩
/-- EFFECTIVE_MV: Entry plus MARGIN_MV. -/
def HELM_VF.EFFECTIVE_MV (i : Nat) : Field := ⟨0x803000 + 0x8 * i, 41, 32⟩
/-- MRAM_MV: MRAM copy. -/
def HELM_VF.MRAM_MV (i : Nat) : Field := ⟨0x803000 + 0x8 * i, 25, 16⟩
/-- FUSED_MV: Fused entry, set at test for this die. -/
def HELM_VF.FUSED_MV (i : Nat) : Field := ⟨0x803000 + 0x8 * i, 9, 0⟩

/-- VIN: Input voltage in 10 mV. -/
def HELM_IN_STATUS.VIN : Field := ⟨0x808000, 63, 48⟩
/-- IIN: Input current in 10 mA. -/
def HELM_IN_STATUS.IIN : Field := ⟨0x808000, 47, 32⟩
/-- VBANK: Hold-up bank voltage in 10 mV. -/
def HELM_IN_STATUS.VBANK : Field := ⟨0x808000, 31, 16⟩
/-- INPUT_HIGH: 1: input above 80 V. -/
def HELM_IN_STATUS.INPUT_HIGH : Field := ⟨0x808000, 3, 3⟩
/-- STOPPING: 1: an orderly stop runs. -/
def HELM_IN_STATUS.STOPPING : Field := ⟨0x808000, 2, 2⟩
/-- UNDER_56: 1: the undervoltage timer runs. -/
def HELM_IN_STATUS.UNDER_56 : Field := ⟨0x808000, 1, 1⟩
/-- HOLDUP_READY: 1: bank at 76 V or more (R346). -/
def HELM_IN_STATUS.HOLDUP_READY : Field := ⟨0x808000, 0, 0⟩

/-- REARM: 1: arm the capture again. -/
def HELM_IN_MIN.REARM : Field := ⟨0x808008, 63, 63⟩
/-- VIN_MIN: Lowest input voltage in 10 mV. -/
def HELM_IN_MIN.VIN_MIN : Field := ⟨0x808008, 15, 0⟩

/-- DTIME: DTIME of VIN_MIN. -/
def HELM_IN_MIN_TIME.DTIME : Field := ⟨0x808010, 63, 0⟩

/-- CEILING_W: Power ceiling in W (R331). -/
def HELM_STAGEA.CEILING_W : Field := ⟨0x808018, 47, 32⟩
/-- CELLS_OK: Bit n: cell n healthy. -/
def HELM_STAGEA.CELLS_OK : Field := ⟨0x808018, 3, 0⟩

/-- DROOP_MV: Depth below the setpoint, in mV, at which a sample counts as a droop; 0 acts as 1. -/
def HELM_PD_CFG.DROOP_MV : Field := ⟨0x808020, 39, 32⟩

/-- STATE: 0 OFF; 1 DEFERRED; 2 SOFT_START; 3 ON; 4 CLAMPED; 5 DARK; other values are not used. -/
def HELM_RGN_STATUS.STATE (i : Nat) : Field := ⟨0x809000 + 0x40 * i, 63, 60⟩
/-- PHASES_FITTED: Phases fitted (Table 10-2). -/
def HELM_RGN_STATUS.PHASES_FITTED (i : Nat) : Field := ⟨0x809000 + 0x40 * i, 59, 56⟩
/-- PHASES_OK: Bit n: phase n healthy. -/
def HELM_RGN_STATUS.PHASES_OK (i : Nat) : Field := ⟨0x809000 + 0x40 * i, 55, 48⟩
/-- DARK_CAUSE: 0 none; 1 PHASES; 2 OVERCURRENT; 3 OVERVOLTAGE; other values are not used. -/
def HELM_RGN_STATUS.DARK_CAUSE (i : Nat) : Field := ⟨0x809000 + 0x40 * i, 47, 45⟩
/-- SETPOINT: Rail setpoint in mV. -/
def HELM_RGN_STATUS.SETPOINT (i : Nat) : Field := ⟨0x809000 + 0x40 * i, 42, 32⟩
/-- CURRENT: Region current in 10 mA (R337). -/
def HELM_RGN_STATUS.CURRENT (i : Nat) : Field := ⟨0x809000 + 0x40 * i, 31, 16⟩
/-- VOLTAGE: Last rail sample in mV. -/
def HELM_RGN_STATUS.VOLTAGE (i : Nat) : Field := ⟨0x809000 + 0x40 * i, 15, 0⟩

/-- REARM: 1: arm the capture again (R340). -/
def HELM_RGN_VMIN.REARM (i : Nat) : Field := ⟨0x809008 + 0x40 * i, 63, 63⟩
/-- VMIN: Lowest rail sample in mV. -/
def HELM_RGN_VMIN.VMIN (i : Nat) : Field := ⟨0x809008 + 0x40 * i, 15, 0⟩

/-- DTIME: DTIME of VMIN, from the region's local copy. -/
def HELM_RGN_VMIN_TIME.DTIME (i : Nat) : Field := ⟨0x809010 + 0x40 * i, 63, 0⟩

/-- OC_CLAMPS: Clamps (R337). -/
def HELM_RGN_EVENTS.OC_CLAMPS (i : Nat) : Field := ⟨0x809018 + 0x40 * i, 63, 48⟩
/-- DEFERS: Deferred enables (R344). -/
def HELM_RGN_EVENTS.DEFERS (i : Nat) : Field := ⟨0x809018 + 0x40 * i, 47, 32⟩
/-- DROOPS: Samples more than DROOP_MV below the setpoint while ON or CLAMPED, and, for a cluster region, skip episodes (R336). -/
def HELM_RGN_EVENTS.DROOPS (i : Nat) : Field := ⟨0x809018 + 0x40 * i, 31, 0⟩

/-- ANY_RECORD: 1: some unit's VALID is 1. -/
def NUM_SUMMARY.ANY_RECORD : Field := ⟨0xc00000, 5, 5⟩
/-- ANY_DIVIDE_BY_ZERO: OR over all units. -/
def NUM_SUMMARY.ANY_DIVIDE_BY_ZERO : Field := ⟨0xc00000, 4, 4⟩
/-- ANY_INVALID: OR over all units. -/
def NUM_SUMMARY.ANY_INVALID : Field := ⟨0xc00000, 3, 3⟩
/-- ANY_INEXACT: OR over all units. -/
def NUM_SUMMARY.ANY_INEXACT : Field := ⟨0xc00000, 2, 2⟩
/-- ANY_UNDERFLOW: OR over all units. -/
def NUM_SUMMARY.ANY_UNDERFLOW : Field := ⟨0xc00000, 1, 1⟩
/-- ANY_OVERFLOW: OR over all units. -/
def NUM_SUMMARY.ANY_OVERFLOW : Field := ⟨0xc00000, 0, 0⟩

/-- DIVIDE_BY_ZERO: 1: post the numeric-flag event on this flag. -/
def NUM_INT_ENABLE.DIVIDE_BY_ZERO : Field := ⟨0xc00008, 4, 4⟩
/-- INVALID: As above. -/
def NUM_INT_ENABLE.INVALID : Field := ⟨0xc00008, 3, 3⟩
/-- INEXACT: As above. -/
def NUM_INT_ENABLE.INEXACT : Field := ⟨0xc00008, 2, 2⟩
/-- UNDERFLOW: As above. -/
def NUM_INT_ENABLE.UNDERFLOW : Field := ⟨0xc00008, 1, 1⟩
/-- OVERFLOW: As above. -/
def NUM_INT_ENABLE.OVERFLOW : Field := ⟨0xc00008, 0, 0⟩

/-- RECORDS: 1: empty every first-fault record. -/
def NUM_CLEAR_ALL.RECORDS : Field := ⟨0xc00010, 5, 5⟩
/-- FLAGS: Bit n set: clear flag n (bit numbering of NUM_FLAGS) in every unit. -/
def NUM_CLEAR_ALL.FLAGS : Field := ⟨0xc00010, 4, 0⟩

/-- SEED: Probe seed. -/
def NUM_SR_SEED.SEED : Field := ⟨0xc00040, 63, 0⟩

/-- STEP: Probe step number. -/
def NUM_SR_STEP.STEP : Field := ⟨0xc00048, 63, 0⟩

/-- TID: Probe tensor ID. -/
def NUM_SR_INDEX.TID : Field := ⟨0xc00050, 63, 48⟩
/-- ELEM: Probe element index. -/
def NUM_SR_INDEX.ELEM : Field := ⟨0xc00050, 47, 32⟩
/-- TILE: Probe tile index. -/
def NUM_SR_INDEX.TILE : Field := ⟨0xc00050, 31, 0⟩

/-- Y: Final y of R78. -/
def NUM_SR_RESULT.Y : Field := ⟨0xc00058, 63, 32⟩
/-- X: Final x of R78; r is bits 31:16. -/
def NUM_SR_RESULT.X : Field := ⟨0xc00058, 31, 0⟩

/-- DIVIDE_BY_ZERO: V and U engines: divideByZero signalled. Other units: reads 0. -/
def NUM_FLAGS.DIVIDE_BY_ZERO (i : Nat) : Field := ⟨0xc10000 + 0x20 * i, 4, 4⟩
/-- INVALID: Invalid operation signalled. -/
def NUM_FLAGS.INVALID (i : Nat) : Field := ⟨0xc10000 + 0x20 * i, 3, 3⟩
/-- INEXACT: A result was rounded. -/
def NUM_FLAGS.INEXACT (i : Nat) : Field := ⟨0xc10000 + 0x20 * i, 2, 2⟩
/-- UNDERFLOW: A result was tiny and inexact. -/
def NUM_FLAGS.UNDERFLOW (i : Nat) : Field := ⟨0xc10000 + 0x20 * i, 1, 1⟩
/-- OVERFLOW: A result overflowed, or an infinity was saturated. -/
def NUM_FLAGS.OVERFLOW (i : Nat) : Field := ⟨0xc10000 + 0x20 * i, 0, 0⟩

/-- VALID: 1: record holds a fault. Writing 1 empties the record. -/
def NUM_FF_LOC.VALID (i : Nat) : Field := ⟨0xc10008 + 0x20 * i, 63, 63⟩
/-- TENSOR_ID: Tensor ID of the first fault. -/
def NUM_FF_LOC.TENSOR_ID (i : Nat) : Field := ⟨0xc10008 + 0x20 * i, 47, 32⟩
/-- TILE: Tile index of the first fault. -/
def NUM_FF_LOC.TILE (i : Nat) : Field := ⟨0xc10008 + 0x20 * i, 31, 0⟩

/-- STEP_LO: Step number bits 31:0 at capture. -/
def NUM_FF_DETAIL.STEP_LO (i : Nat) : Field := ⟨0xc10010 + 0x20 * i, 63, 32⟩
/-- CAUSE: 0x01 zero times infinity in a product; 0x02 infinity minus infinity in a sum; 0x03 signalling NaN operand; 0x04 other invalid operation in V or U (square root or logarithm of a negative value, 0/0, ∞/∞); 0x05 conversion to INT of NaN, poison, infinity or an out-of-range value; 0x06 conversion of an infinity to EQ4, EQ6a, EQ6b or EQ8a under output mode IEEE or NONFINITE (Table 2-9); other values are not used. -/
def NUM_FF_DETAIL.CAUSE (i : Nat) : Field := ⟨0xc10010 + 0x20 * i, 23, 16⟩
/-- ELEMENT: Element index within the tile. -/
def NUM_FF_DETAIL.ELEMENT (i : Nat) : Field := ⟨0xc10010 + 0x20 * i, 15, 0⟩

/-- DTIME: DTIME at capture, from the unit's local copy. -/
def NUM_FF_TIME.DTIME (i : Nat) : Field := ⟨0xc10018 + 0x20 * i, 63, 0⟩

/-- COUNT: Cycles as named in Table 3-5; filler cycles are not counted as real work. -/
def NUM_STG_FULL.COUNT (i : Nat) : Field := ⟨0xc30000 + 0x20 * i, 63, 0⟩

/-- PEAK: Highest occupancy since the last read, 0–64. -/
def NUM_STG_LEVEL.PEAK (i : Nat) : Field := ⟨0xc30008 + 0x20 * i, 39, 32⟩
/-- CURRENT: Occupied slots, 0–64. -/
def NUM_STG_LEVEL.CURRENT (i : Nat) : Field := ⟨0xc30008 + 0x20 * i, 6, 0⟩

/-- COUNT: Cycles as named in Table 3-5; filler cycles are not counted as real work. -/
def NUM_MX_F_ISSUE.COUNT (i : Nat) : Field := ⟨0xc40000 + 0x80 * i, 63, 0⟩

/-- COUNT: Cycles as named in Table 3-5; filler cycles are not counted as real work. -/
def NUM_MX_G_ISSUE.COUNT (i : Nat) : Field := ⟨0xc40008 + 0x80 * i, 63, 0⟩

/-- DX_FOR_DW: Data-gradient tiles started while the pattern named dW. -/
def NUM_MX_G_OVERRIDE.DX_FOR_DW (i : Nat) : Field := ⟨0xc40010 + 0x80 * i, 63, 32⟩
/-- DW_FOR_DX: Weight-gradient tiles started while the pattern named dX. -/
def NUM_MX_G_OVERRIDE.DW_FOR_DX (i : Nat) : Field := ⟨0xc40010 + 0x80 * i, 31, 0⟩

/-- COUNT: Cycles as named in Table 3-5; filler cycles are not counted as real work. -/
def NUM_MX_DW_CREDIT_WAIT.COUNT (i : Nat) : Field := ⟨0xc40018 + 0x80 * i, 63, 0⟩

/-- G_NO_START: Cycles in which the G engine had no tile in issue and could start none. -/
def NUM_MX_STALL.G_NO_START (i : Nat) : Field := ⟨0xc40020 + 0x80 * i, 63, 32⟩
/-- F_NO_START: As above, for the F engine. -/
def NUM_MX_STALL.F_NO_START (i : Nat) : Field := ⟨0xc40020 + 0x80 * i, 31, 0⟩

/-- REBLOCKED: Tiles re-blocked by either DMA engine. -/
def NUM_MX_DMA_SHAPE.REBLOCKED (i : Nat) : Field := ⟨0xc40028 + 0x80 * i, 63, 32⟩
/-- TRANSPOSED: Tiles transposed without re-blocking. -/
def NUM_MX_DMA_SHAPE.TRANSPOSED (i : Nat) : Field := ⟨0xc40028 + 0x80 * i, 31, 0⟩

/-- PARTIALS: Contributions written as separate partials. -/
def NUM_MX_FOLD.PARTIALS (i : Nat) : Field := ⟨0xc40030 + 0x80 * i, 63, 32⟩
/-- IN_PLACE: Contributions folded in place. -/
def NUM_MX_FOLD.IN_PLACE (i : Nat) : Field := ⟨0xc40030 + 0x80 * i, 31, 0⟩

/-- NONFINITE_POLICY: 0: SKIP; 1: PROCEED (R182). -/
def NUM_UPD_CFG.NONFINITE_POLICY : Field := ⟨0xc50000, 32, 32⟩
/-- MAX_NORM: FP32 clip threshold; +0 disables clipping; a negative, NaN or infinite value acts as +0. -/
def NUM_UPD_CFG.MAX_NORM : Field := ⟨0xc50000, 31, 0⟩

/-- NORM: FP64 norm of R181. -/
def NUM_UPD_NORM.NORM : Field := ⟨0xc50008, 63, 0⟩

/-- POISON_KEPT: 1: a mixed poisoned STATE block was kept (Table 5-7). -/
def NUM_UPD_STATUS.POISON_KEPT : Field := ⟨0xc50010, 37, 37⟩
/-- STALE: 1: pass 2 is held for a parameter entry. -/
def NUM_UPD_STATUS.STALE : Field := ⟨0xc50010, 36, 36⟩
/-- SKIPPED: 1: the last step skipped pass 2. -/
def NUM_UPD_STATUS.SKIPPED : Field := ⟨0xc50010, 35, 35⟩
/-- PASS: 0 idle; 1 pass 1; 2 norm combine; 3 pass 2; other values are not used. -/
def NUM_UPD_STATUS.PASS : Field := ⟨0xc50010, 34, 32⟩
/-- CLIP: FP32 c of the last step. -/
def NUM_UPD_STATUS.CLIP : Field := ⟨0xc50010, 31, 0⟩

/-- COUNT: Frozen elements, R177. -/
def NUM_UPD_MASKED_COUNT.COUNT : Field := ⟨0xc50018, 63, 0⟩

/-- COUNT: Steps skipped, R182. -/
def NUM_UPD_SKIPS.COUNT : Field := ⟨0xc50020, 31, 0⟩

/-- MEAN: FP32 mean loss, R172. -/
def NUM_VEC_LOSS.MEAN : Field := ⟨0xc50028, 63, 32⟩
/-- SUM: FP32 loss sum, R171. -/
def NUM_VEC_LOSS.SUM : Field := ⟨0xc50028, 31, 0⟩

/-- IGNORED: Rows with target 0xFFFF_FFFF. -/
def NUM_VEC_ROWS.IGNORED : Field := ⟨0xc50030, 63, 32⟩
/-- COUNTED: Rows added into SUM. -/
def NUM_VEC_ROWS.COUNTED : Field := ⟨0xc50030, 31, 0⟩

/-- RATE: Shipping limit in GB/s; 0 means unlimited. -/
def NUM_SNAP_CFG.RATE : Field := ⟨0xc50100, 15, 0⟩

/-- ACTIVE: 1: a snapshot is in flight. -/
def NUM_SNAP_STATUS.ACTIVE : Field := ⟨0xc50108, 63, 63⟩
/-- STEP_LO: Bits 30:0 of N. -/
def NUM_SNAP_STATUS.STEP_LO : Field := ⟨0xc50108, 62, 32⟩
/-- TILES_LEFT: Tiles not yet shipped. -/
def NUM_SNAP_STATUS.TILES_LEFT : Field := ⟨0xc50108, 31, 0⟩

/-- WAIT_CYCLES: NCLK cycles writers waited for the reserve. -/
def NUM_SNAP_COW.WAIT_CYCLES : Field := ⟨0xc50110, 63, 32⟩
/-- COPIES: Tiles copied into the reserve. -/
def NUM_SNAP_COW.COPIES : Field := ⟨0xc50110, 31, 0⟩

/-- U: U-engine issue cycles. -/
def NUM_UV_ISSUE.U (i : Nat) : Field := ⟨0xc60000 + 0x40 * i, 63, 32⟩
/-- V: V-engine issue cycles. -/
def NUM_UV_ISSUE.V (i : Nat) : Field := ⟨0xc60000 + 0x40 * i, 31, 0⟩

/-- RERUN: 1: the current step is a re-run after a storm. -/
def SND_STATUS.RERUN : Field := ⟨0x1000000, 2, 2⟩
/-- STORM_HOLD: 1: a storm is crossing to the next Rendezvous. -/
def SND_STATUS.STORM_HOLD : Field := ⟨0x1000000, 1, 1⟩
/-- SIGHT_ACTIVE: 1: Sight check is active (R140). -/
def SND_STATUS.SIGHT_ACTIVE : Field := ⟨0x1000000, 0, 0⟩

/-- NONFINITE_TRIGGER: 1: a non-finite element triggers. -/
def SND_DRIFT_CFG.NONFINITE_TRIGGER : Field := ⟨0x1000008, 48, 48⟩
/-- WARMUP: Accepted steps before the ratio tests apply. -/
def SND_DRIFT_CFG.WARMUP : Field := ⟨0x1000008, 47, 40⟩
/-- ALPHA_SHIFT: History weight 2^-ALPHA_SHIFT; 0 acts as 1, 9–15 act as 8. -/
def SND_DRIFT_CFG.ALPHA_SHIFT : Field := ⟨0x1000008, 35, 32⟩
/-- RATIO_DOWN: Unsigned 8.8 fixed point; 0 disables; 0x0001–0x00FF act as 0x0100. -/
def SND_DRIFT_CFG.RATIO_DOWN : Field := ⟨0x1000008, 31, 16⟩
/-- RATIO_UP: Unsigned 8.8 fixed point, 8.0 by default; 0 disables; 0x0001–0x00FF act as 0x0100. -/
def SND_DRIFT_CFG.RATIO_UP : Field := ⟨0x1000008, 15, 0⟩

/-- FORCE: 1: Sight check active in every step. -/
def SND_SIGHT_CFG.FORCE : Field := ⟨0x1000010, 32, 32⟩
/-- SLACK: Slack of the bound of R142. -/
def SND_SIGHT_CFG.SLACK : Field := ⟨0x1000010, 31, 24⟩
/-- RATE_LOG2: Samples 1 tile in 2^RATE_LOG2; 17–31 act as 16. -/
def SND_SIGHT_CFG.RATE_LOG2 : Field := ⟨0x1000010, 20, 16⟩
/-- WINDOW: Steps of Sight check after entry to READY. -/
def SND_SIGHT_CFG.WINDOW : Field := ⟨0x1000010, 15, 0⟩

/-- FRACTION: Budget in 1/256 of T; 257–511 act as 256; 0 makes the first repeat a storm. -/
def SND_BUDGET.FRACTION : Field := ⟨0x1000018, 8, 0⟩

/-- RATIO_LOG2: Outlier ratio 2^RATIO_LOG2; 0 acts as 1, 7 acts as 6. -/
def SND_OUTLIER_CFG.RATIO_LOG2 : Field := ⟨0x1000020, 2, 0⟩

/-- LEVEL: Passage promotion level, 0–3. -/
def SND_PROMOTE.LEVEL : Field := ⟨0x1000028, 1, 0⟩

/-- TENSOR_ID: Tensor for TENSOR. -/
def SND_CLEAR.TENSOR_ID : Field := ⟨0x1000030, 31, 16⟩
/-- ALL_TENSORS: 1: clear every tensor rung. -/
def SND_CLEAR.ALL_TENSORS : Field := ⟨0x1000030, 2, 2⟩
/-- TENSOR: 1: clear the rung of TENSOR_ID. -/
def SND_CLEAR.TENSOR : Field := ⟨0x1000030, 1, 1⟩
/-- PROMOTION: 1: set LEVEL to 0. -/
def SND_CLEAR.PROMOTION : Field := ⟨0x1000030, 0, 0⟩

/-- REPEATED: Fallback count of the current step. -/
def SND_STEP_TILES.REPEATED : Field := ⟨0x1000038, 63, 32⟩
/-- TOTAL: T of the loaded passage. -/
def SND_STEP_TILES.TOTAL : Field := ⟨0x1000038, 31, 0⟩

/-- STORMS: Storms, including those joined. -/
def SND_FALLBACK_COUNT.STORMS : Field := ⟨0x1000040, 63, 48⟩
/-- LADDER_TOP: Triggers at a ceiling or at the top of a ladder. -/
def SND_FALLBACK_COUNT.LADDER_TOP : Field := ⟨0x1000040, 47, 32⟩
/-- REPEATED: Tiles run in repeats. -/
def SND_FALLBACK_COUNT.REPEATED : Field := ⟨0x1000040, 31, 0⟩

/-- MISSES: Sampled tiles that missed. -/
def SND_SIGHT_COUNT.MISSES : Field := ⟨0x1000048, 63, 32⟩
/-- SAMPLED: Tiles sampled. -/
def SND_SIGHT_COUNT.SAMPLED : Field := ⟨0x1000048, 31, 0⟩

/-- SHARE_OVERFLOWS: Tiles widened by R152. -/
def SND_OUTLIER_COUNT.SHARE_OVERFLOWS : Field := ⟨0x1000050, 63, 48⟩
/-- PROMOTED_BLOCKS: Blocks promoted. -/
def SND_OUTLIER_COUNT.PROMOTED_BLOCKS : Field := ⟨0x1000050, 47, 32⟩
/-- OUTLIERS: Single outliers stored. -/
def SND_OUTLIER_COUNT.OUTLIERS : Field := ⟨0x1000050, 31, 0⟩

/-- RUNG_0: Rung raised for tensor 32i + j; cleared by SND_CLEAR or a rung command. -/
def SND_TENSOR_RUNG.RUNG_0 (i : Nat) : Field := ⟨0x1001000 + 0x8 * i, 1, 0⟩
/-- RUNG_1: Rung raised for tensor 32i + j; cleared by SND_CLEAR or a rung command. -/
def SND_TENSOR_RUNG.RUNG_1 (i : Nat) : Field := ⟨0x1001000 + 0x8 * i, 3, 2⟩
/-- RUNG_2: Rung raised for tensor 32i + j; cleared by SND_CLEAR or a rung command. -/
def SND_TENSOR_RUNG.RUNG_2 (i : Nat) : Field := ⟨0x1001000 + 0x8 * i, 5, 4⟩
/-- RUNG_3: Rung raised for tensor 32i + j; cleared by SND_CLEAR or a rung command. -/
def SND_TENSOR_RUNG.RUNG_3 (i : Nat) : Field := ⟨0x1001000 + 0x8 * i, 7, 6⟩
/-- RUNG_4: Rung raised for tensor 32i + j; cleared by SND_CLEAR or a rung command. -/
def SND_TENSOR_RUNG.RUNG_4 (i : Nat) : Field := ⟨0x1001000 + 0x8 * i, 9, 8⟩
/-- RUNG_5: Rung raised for tensor 32i + j; cleared by SND_CLEAR or a rung command. -/
def SND_TENSOR_RUNG.RUNG_5 (i : Nat) : Field := ⟨0x1001000 + 0x8 * i, 11, 10⟩
/-- RUNG_6: Rung raised for tensor 32i + j; cleared by SND_CLEAR or a rung command. -/
def SND_TENSOR_RUNG.RUNG_6 (i : Nat) : Field := ⟨0x1001000 + 0x8 * i, 13, 12⟩
/-- RUNG_7: Rung raised for tensor 32i + j; cleared by SND_CLEAR or a rung command. -/
def SND_TENSOR_RUNG.RUNG_7 (i : Nat) : Field := ⟨0x1001000 + 0x8 * i, 15, 14⟩
/-- RUNG_8: Rung raised for tensor 32i + j; cleared by SND_CLEAR or a rung command. -/
def SND_TENSOR_RUNG.RUNG_8 (i : Nat) : Field := ⟨0x1001000 + 0x8 * i, 17, 16⟩
/-- RUNG_9: Rung raised for tensor 32i + j; cleared by SND_CLEAR or a rung command. -/
def SND_TENSOR_RUNG.RUNG_9 (i : Nat) : Field := ⟨0x1001000 + 0x8 * i, 19, 18⟩
/-- RUNG_10: Rung raised for tensor 32i + j; cleared by SND_CLEAR or a rung command. -/
def SND_TENSOR_RUNG.RUNG_10 (i : Nat) : Field := ⟨0x1001000 + 0x8 * i, 21, 20⟩
/-- RUNG_11: Rung raised for tensor 32i + j; cleared by SND_CLEAR or a rung command. -/
def SND_TENSOR_RUNG.RUNG_11 (i : Nat) : Field := ⟨0x1001000 + 0x8 * i, 23, 22⟩
/-- RUNG_12: Rung raised for tensor 32i + j; cleared by SND_CLEAR or a rung command. -/
def SND_TENSOR_RUNG.RUNG_12 (i : Nat) : Field := ⟨0x1001000 + 0x8 * i, 25, 24⟩
/-- RUNG_13: Rung raised for tensor 32i + j; cleared by SND_CLEAR or a rung command. -/
def SND_TENSOR_RUNG.RUNG_13 (i : Nat) : Field := ⟨0x1001000 + 0x8 * i, 27, 26⟩
/-- RUNG_14: Rung raised for tensor 32i + j; cleared by SND_CLEAR or a rung command. -/
def SND_TENSOR_RUNG.RUNG_14 (i : Nat) : Field := ⟨0x1001000 + 0x8 * i, 29, 28⟩
/-- RUNG_15: Rung raised for tensor 32i + j; cleared by SND_CLEAR or a rung command. -/
def SND_TENSOR_RUNG.RUNG_15 (i : Nat) : Field := ⟨0x1001000 + 0x8 * i, 31, 30⟩
/-- RUNG_16: Rung raised for tensor 32i + j; cleared by SND_CLEAR or a rung command. -/
def SND_TENSOR_RUNG.RUNG_16 (i : Nat) : Field := ⟨0x1001000 + 0x8 * i, 33, 32⟩
/-- RUNG_17: Rung raised for tensor 32i + j; cleared by SND_CLEAR or a rung command. -/
def SND_TENSOR_RUNG.RUNG_17 (i : Nat) : Field := ⟨0x1001000 + 0x8 * i, 35, 34⟩
/-- RUNG_18: Rung raised for tensor 32i + j; cleared by SND_CLEAR or a rung command. -/
def SND_TENSOR_RUNG.RUNG_18 (i : Nat) : Field := ⟨0x1001000 + 0x8 * i, 37, 36⟩
/-- RUNG_19: Rung raised for tensor 32i + j; cleared by SND_CLEAR or a rung command. -/
def SND_TENSOR_RUNG.RUNG_19 (i : Nat) : Field := ⟨0x1001000 + 0x8 * i, 39, 38⟩
/-- RUNG_20: Rung raised for tensor 32i + j; cleared by SND_CLEAR or a rung command. -/
def SND_TENSOR_RUNG.RUNG_20 (i : Nat) : Field := ⟨0x1001000 + 0x8 * i, 41, 40⟩
/-- RUNG_21: Rung raised for tensor 32i + j; cleared by SND_CLEAR or a rung command. -/
def SND_TENSOR_RUNG.RUNG_21 (i : Nat) : Field := ⟨0x1001000 + 0x8 * i, 43, 42⟩
/-- RUNG_22: Rung raised for tensor 32i + j; cleared by SND_CLEAR or a rung command. -/
def SND_TENSOR_RUNG.RUNG_22 (i : Nat) : Field := ⟨0x1001000 + 0x8 * i, 45, 44⟩
/-- RUNG_23: Rung raised for tensor 32i + j; cleared by SND_CLEAR or a rung command. -/
def SND_TENSOR_RUNG.RUNG_23 (i : Nat) : Field := ⟨0x1001000 + 0x8 * i, 47, 46⟩
/-- RUNG_24: Rung raised for tensor 32i + j; cleared by SND_CLEAR or a rung command. -/
def SND_TENSOR_RUNG.RUNG_24 (i : Nat) : Field := ⟨0x1001000 + 0x8 * i, 49, 48⟩
/-- RUNG_25: Rung raised for tensor 32i + j; cleared by SND_CLEAR or a rung command. -/
def SND_TENSOR_RUNG.RUNG_25 (i : Nat) : Field := ⟨0x1001000 + 0x8 * i, 51, 50⟩
/-- RUNG_26: Rung raised for tensor 32i + j; cleared by SND_CLEAR or a rung command. -/
def SND_TENSOR_RUNG.RUNG_26 (i : Nat) : Field := ⟨0x1001000 + 0x8 * i, 53, 52⟩
/-- RUNG_27: Rung raised for tensor 32i + j; cleared by SND_CLEAR or a rung command. -/
def SND_TENSOR_RUNG.RUNG_27 (i : Nat) : Field := ⟨0x1001000 + 0x8 * i, 55, 54⟩
/-- RUNG_28: Rung raised for tensor 32i + j; cleared by SND_CLEAR or a rung command. -/
def SND_TENSOR_RUNG.RUNG_28 (i : Nat) : Field := ⟨0x1001000 + 0x8 * i, 57, 56⟩
/-- RUNG_29: Rung raised for tensor 32i + j; cleared by SND_CLEAR or a rung command. -/
def SND_TENSOR_RUNG.RUNG_29 (i : Nat) : Field := ⟨0x1001000 + 0x8 * i, 59, 58⟩
/-- RUNG_30: Rung raised for tensor 32i + j; cleared by SND_CLEAR or a rung command. -/
def SND_TENSOR_RUNG.RUNG_30 (i : Nat) : Field := ⟨0x1001000 + 0x8 * i, 61, 60⟩
/-- RUNG_31: Rung raised for tensor 32i + j; cleared by SND_CLEAR or a rung command. -/
def SND_TENSOR_RUNG.RUNG_31 (i : Nat) : Field := ⟨0x1001000 + 0x8 * i, 63, 62⟩

/-- ATTEMPT: a of R259. -/
def KNT_ATTEMPT.ATTEMPT : Field := ⟨0x1400000, 63, 0⟩

/-- IN_RENDEZVOUS: 1: the module has arrived and awaits a release. -/
def KNT_STATUS.IN_RENDEZVOUS : Field := ⟨0x1400008, 33, 33⟩
/-- SETTLING: 1: settlement of R261 running. -/
def KNT_STATUS.SETTLING : Field := ⟨0x1400008, 32, 32⟩
/-- HELD: Early messages held (R265); saturates. -/
def KNT_STATUS.HELD : Field := ⟨0x1400008, 31, 16⟩
/-- LAST_COLLECTIVE: Index of the last released collective. -/
def KNT_STATUS.LAST_COLLECTIVE : Field := ⟨0x1400008, 15, 0⟩

/-- INTEGRITY_DISCARD: 1: an integrity failure sets DISCARD (R281). -/
def KNT_CFG.INTEGRITY_DISCARD : Field := ⟨0x1400010, 40, 40⟩
/-- PACE_THRESHOLD: Bubble fraction in 1/256 that triggers an advisory; 0 disables. -/
def KNT_CFG.PACE_THRESHOLD : Field := ⟨0x1400010, 39, 32⟩
/-- SPILL_WAIT: µs before a waiting entry spills; 0 spills at once. -/
def KNT_CFG.SPILL_WAIT : Field := ⟨0x1400010, 31, 16⟩

/-- EPISODES: Episodes released. -/
def KNT_RDV_STATS.EPISODES : Field := ⟨0x1400018, 63, 32⟩
/-- DISCARDS: Discarding verdicts. -/
def KNT_RDV_STATS.DISCARDS : Field := ⟨0x1400018, 31, 16⟩
/-- STALLS: COLLECTIVE_STALLED posts. -/
def KNT_RDV_STATS.STALLS : Field := ⟨0x1400018, 15, 0⟩

/-- MAX_NS: Longest own-arrival-to-release time since the last read. -/
def KNT_RDV_LATENCY.MAX_NS : Field := ⟨0x1400020, 63, 32⟩
/-- LAST_NS: Same, for the last episode. -/
def KNT_RDV_LATENCY.LAST_NS : Field := ⟨0x1400020, 31, 0⟩

/-- RESCALED: Tiles rescaled at this module. -/
def KNT_RED_TILES.RESCALED : Field := ⟨0x1400028, 63, 32⟩
/-- REDUCED: Tiles added at this module. -/
def KNT_RED_TILES.REDUCED : Field := ⟨0x1400028, 31, 0⟩

/-- PARTIALS: Partials spilled. -/
def KNT_SPILL.PARTIALS : Field := ⟨0x1400030, 63, 32⟩
/-- CONTRIBUTIONS: Contributions spilled. -/
def KNT_SPILL.CONTRIBUTIONS : Field := ⟨0x1400030, 31, 0⟩

/-- OVERRUNS: Knots found above quota (R262). -/
def KNT_STALE.OVERRUNS : Field := ⟨0x1400038, 63, 32⟩
/-- STALE: Stale messages dropped. -/
def KNT_STALE.STALE : Field := ⟨0x1400038, 31, 0⟩

/-- VALID: 1: a failure is recorded; writing 1 empties the record. -/
def KNT_INTEGRITY.VALID : Field := ⟨0x1400040, 63, 63⟩
/-- COLLECTIVE: Collective index. -/
def KNT_INTEGRITY.COLLECTIVE : Field := ⟨0x1400040, 47, 32⟩
/-- TILE: Tile index. -/
def KNT_INTEGRITY.TILE : Field := ⟨0x1400040, 31, 0⟩

/-- FAILURES: Checks failed at this module. -/
def KNT_INTEGRITY_HOP.FAILURES : Field := ⟨0x1400048, 63, 32⟩
/-- PHASE: 0 reduce; 1 broadcast. -/
def KNT_INTEGRITY_HOP.PHASE : Field := ⟨0x1400048, 15, 15⟩
/-- POSITION: Position of the checking member. -/
def KNT_INTEGRITY_HOP.POSITION : Field := ⟨0x1400048, 13, 0⟩

/-- SENT: Advisories sent. -/
def KNT_PACE.SENT : Field := ⟨0x1400050, 63, 48⟩
/-- RECEIVED: Advisories received. -/
def KNT_PACE.RECEIVED : Field := ⟨0x1400050, 47, 32⟩
/-- LAST_NODE: Sender of the last advisory received. -/
def KNT_PACE.LAST_NODE : Field := ⟨0x1400050, 21, 8⟩
/-- LAST_FRACTION: Its bubble fraction in 1/256. -/
def KNT_PACE.LAST_FRACTION : Field := ⟨0x1400050, 7, 0⟩

/-- VALUE: Knot value. -/
def KNT_VALUE.VALUE (i : Nat) : Field := ⟨0x1408000 + 0x8 * i, 63, 0⟩

/-- AMOUNT: Adds AMOUNT to the knot; 0 has no effect. -/
def KNT_ADVANCE.AMOUNT (i : Nat) : Field := ⟨0x1410000 + 0x8 * i, 31, 0⟩

/-- BASE: K0 of R259. -/
def KNT_ARM_BASE.BASE (i : Nat) : Field := ⟨0x1418000 + 0x8 * i, 63, 0⟩

/-- QUOTA: Q of R260. -/
def KNT_QUOTA.QUOTA (i : Nat) : Field := ⟨0x1420000 + 0x8 * i, 31, 0⟩

/-- HISTORY: 1: E applies to the next step; 0: the next step runs FP32 (R282). -/
def KNT_SCALE.HISTORY (i : Nat) : Field := ⟨0x1428000 + 0x8 * i, 63, 63⟩
/-- E: Agreed exponent, two's complement, −149 to 112. -/
def KNT_SCALE.E (i : Nat) : Field := ⟨0x1428000 + 0x8 * i, 8, 0⟩

/-- UID: Fused UID, unique to the module. -/
def FAB_UID.UID : Field := ⟨0x1800000, 63, 0⟩

/-- ALIAS_VALID: 1: ALIAS carried. -/
def FAB_NODE.ALIAS_VALID : Field := ⟨0x1800008, 47, 47⟩
/-- ALIAS: Carried node ID. -/
def FAB_NODE.ALIAS : Field := ⟨0x1800008, 45, 32⟩
/-- PIN_EN: 1: claim PIN_ID (R303). -/
def FAB_NODE.PIN_EN : Field := ⟨0x1800008, 31, 31⟩
/-- PIN_ID: Pinned node ID. -/
def FAB_NODE.PIN_ID : Field := ⟨0x1800008, 29, 16⟩
/-- VALID: 1: NODE_ID held. -/
def FAB_NODE.VALID : Field := ⟨0x1800008, 15, 15⟩
/-- NODE_ID: Node ID. -/
def FAB_NODE.NODE_ID : Field := ⟨0x1800008, 13, 0⟩

/-- PORT_ENABLE: Bit p: port p may train. -/
def FAB_CFG.PORT_ENABLE : Field := ⟨0x1800010, 63, 48⟩
/-- HOP_LIMIT: Initial HOPS_LEFT; 0 acts as 1. -/
def FAB_CFG.HOP_LIMIT : Field := ⟨0x1800010, 47, 40⟩
/-- FLAP_HOLD: Hold after DOWN, in units of 10 ms. -/
def FAB_CFG.FLAP_HOLD : Field := ⟨0x1800010, 39, 32⟩
/-- ACK_TIMEOUT: µs (R300); 0 acts as 1. -/
def FAB_CFG.ACK_TIMEOUT : Field := ⟨0x1800010, 31, 16⟩
/-- READ_TIMEOUT: µs; 0 acts as 1. -/
def FAB_CFG.READ_TIMEOUT : Field := ⟨0x1800010, 15, 8⟩

/-- PORTS_UP: Bit p: port p UP. -/
def FAB_STATUS.PORTS_UP : Field := ⟨0x1800018, 63, 48⟩
/-- PORTS_DEGRADED: Bit p: width 4. -/
def FAB_STATUS.PORTS_DEGRADED : Field := ⟨0x1800018, 47, 32⟩
/-- MODULES: Records held, 0–16,384. -/
def FAB_STATUS.MODULES : Field := ⟨0x1800018, 30, 16⟩
/-- SIGHTING: 0 none; 1 flooding; 2 quiet; 3 not used. -/
def FAB_STATUS.SIGHTING : Field := ⟨0x1800018, 7, 6⟩
/-- ROUTES_VALID: 1: a table is committed. -/
def FAB_STATUS.ROUTES_VALID : Field := ⟨0x1800018, 5, 5⟩
/-- HOST_TABLES: 1: host-assisted routing. -/
def FAB_STATUS.HOST_TABLES : Field := ⟨0x1800018, 4, 4⟩

/-- ALIGNED: 1: last \|offset\| ≤ 20 ns. -/
def FAB_TIME.ALIGNED : Field := ⟨0x1800020, 63, 63⟩
/-- ROOT: 1: this module is the time root. -/
def FAB_TIME.ROOT : Field := ⟨0x1800020, 62, 62⟩
/-- DEPTH: Hops to the root. -/
def FAB_TIME.DEPTH : Field := ⟨0x1800020, 55, 48⟩
/-- ROOT_NODE: Root node ID. -/
def FAB_TIME.ROOT_NODE : Field := ⟨0x1800020, 45, 32⟩
/-- OFFSET: Last offset in ns, two's complement. -/
def FAB_TIME.OFFSET : Field := ⟨0x1800020, 31, 0⟩

/-- GENERATION: Commits accepted. -/
def FAB_ROUTE_CTL.GENERATION : Field := ⟨0x1800028, 63, 32⟩
/-- COPY: 1: copy the active table to the shadow. -/
def FAB_ROUTE_CTL.COPY : Field := ⟨0x1800028, 1, 1⟩
/-- COMMIT: 1: check and commit the shadow (R309). -/
def FAB_ROUTE_CTL.COMMIT : Field := ⟨0x1800028, 0, 0⟩

/-- HOP_EXPIRED: HOPS_LEFT exhausted. -/
def FAB_DROP.HOP_EXPIRED : Field := ⟨0x1800030, 63, 48⟩
/-- UNROUTABLE: No entry or no port. -/
def FAB_DROP.UNROUTABLE : Field := ⟨0x1800030, 47, 32⟩
/-- BAD_CRC: HCRC or DCRC failed. -/
def FAB_DROP.BAD_CRC : Field := ⟨0x1800030, 31, 16⟩
/-- BAD_TYPE: PTYPE 14 or 15. -/
def FAB_DROP.BAD_TYPE : Field := ⟨0x1800030, 15, 0⟩

/-- ACK_TIMEOUTS: R300. -/
def FAB_LOSS.ACK_TIMEOUTS : Field := ⟨0x1800038, 63, 32⟩
/-- READ_REISSUES: Reads issued again. -/
def FAB_LOSS.READ_REISSUES : Field := ⟨0x1800038, 31, 0⟩

/-- STATE: 0 DISABLED; 1 DOWN; 2 TRAINING; 3 ALIGNING; 4 SIGHTING; 5 UP; 6 HOLD; others not used. -/
def FAB_PORT_STATUS.STATE (i : Nat) : Field := ⟨0x1801000 + 0x40 * i, 15, 12⟩
/-- WIDTH: 0 none; 1 lanes 0–3; 2 lanes 4–7; 3 all. -/
def FAB_PORT_STATUS.WIDTH (i : Nat) : Field := ⟨0x1801000 + 0x40 * i, 11, 10⟩
/-- REVERSED: 1: lane order reversed. -/
def FAB_PORT_STATUS.REVERSED (i : Nat) : Field := ⟨0x1801000 + 0x40 * i, 9, 9⟩
/-- POLARITY: Bit per lane: inverted. -/
def FAB_PORT_STATUS.POLARITY (i : Nat) : Field := ⟨0x1801000 + 0x40 * i, 7, 0⟩

/-- CORRECTED: Symbols corrected. -/
def FAB_PORT_FEC.CORRECTED (i : Nat) : Field := ⟨0x1801008 + 0x40 * i, 63, 32⟩
/-- UNCORRECTABLE: Codewords rejected. -/
def FAB_PORT_FEC.UNCORRECTABLE (i : Nat) : Field := ⟨0x1801008 + 0x40 * i, 31, 0⟩

/-- RETRAINS: Retrains. -/
def FAB_PORT_RETRY.RETRAINS (i : Nat) : Field := ⟨0x1801010 + 0x40 * i, 63, 48⟩
/-- DOWNS: Transitions to DOWN. -/
def FAB_PORT_RETRY.DOWNS (i : Nat) : Field := ⟨0x1801010 + 0x40 * i, 47, 32⟩
/-- RESENDS: Codewords resent. -/
def FAB_PORT_RETRY.RESENDS (i : Nat) : Field := ⟨0x1801010 + 0x40 * i, 31, 0⟩

/-- RX: Flits received, in units of 1,024. -/
def FAB_PORT_FLITS.RX (i : Nat) : Field := ⟨0x1801018 + 0x40 * i, 63, 32⟩
/-- TX: Flits sent, in units of 1,024. -/
def FAB_PORT_FLITS.TX (i : Nat) : Field := ⟨0x1801018 + 0x40 * i, 31, 0⟩

/-- UID: Neighbour UID; 0 when down. -/
def FAB_PORT_PEER.UID (i : Nat) : Field := ⟨0x1801020 + 0x40 * i, 63, 0⟩

/-- VALID: 1: destination present. -/
def FAB_ROUTE.VALID (i : Nat) : Field := ⟨0x1810000 + 0x8 * i, 63, 63⟩
/-- SELF: 1: the destination is this module or its alias. -/
def FAB_ROUTE.SELF (i : Nat) : Field := ⟨0x1810000 + 0x8 * i, 62, 62⟩
/-- ESC_VALID: 1: ESC_PORT is valid. -/
def FAB_ROUTE.ESC_VALID (i : Nat) : Field := ⟨0x1810000 + 0x8 * i, 52, 52⟩
/-- ESC_PORT: Escape port. -/
def FAB_ROUTE.ESC_PORT (i : Nat) : Field := ⟨0x1810000 + 0x8 * i, 51, 48⟩
/-- DIST: Hops to the destination. -/
def FAB_ROUTE.DIST (i : Nat) : Field := ⟨0x1810000 + 0x8 * i, 23, 16⟩
/-- MIN_PORTS: Bit p set: port p lies on a minimal route. -/
def FAB_ROUTE.MIN_PORTS (i : Nat) : Field := ⟨0x1810000 + 0x8 * i, 15, 0⟩

/-- VALID: 1: destination present. -/
def FAB_ROUTE_SHADOW.VALID (i : Nat) : Field := ⟨0x1840000 + 0x8 * i, 63, 63⟩
/-- SELF: 1: the destination is this module or its alias. -/
def FAB_ROUTE_SHADOW.SELF (i : Nat) : Field := ⟨0x1840000 + 0x8 * i, 62, 62⟩
/-- ESC_VALID: 1: ESC_PORT is valid. -/
def FAB_ROUTE_SHADOW.ESC_VALID (i : Nat) : Field := ⟨0x1840000 + 0x8 * i, 52, 52⟩
/-- ESC_PORT: Escape port. -/
def FAB_ROUTE_SHADOW.ESC_PORT (i : Nat) : Field := ⟨0x1840000 + 0x8 * i, 51, 48⟩
/-- DIST: Hops to the destination. -/
def FAB_ROUTE_SHADOW.DIST (i : Nat) : Field := ⟨0x1840000 + 0x8 * i, 23, 16⟩
/-- MIN_PORTS: Bit p set: port p lies on a minimal route. -/
def FAB_ROUTE_SHADOW.MIN_PORTS (i : Nat) : Field := ⟨0x1840000 + 0x8 * i, 15, 0⟩

/-- FAIL_CAUSE: 1 VARIANT; 2 AUTH; 3 FIRMWARE; 4 NO_SPACE; 5 partner disabled; 6 GROUP. -/
def TWN_STATUS.FAIL_CAUSE : Field := ⟨0x1c00000, 31, 24⟩
/-- CARRY_READY: R322. -/
def TWN_STATUS.CARRY_READY : Field := ⟨0x1c00000, 17, 17⟩
/-- MIRROR_VALID: 1: the mirror holds TWN_MIRROR.STEP. -/
def TWN_STATUS.MIRROR_VALID : Field := ⟨0x1c00000, 16, 16⟩
/-- PATH: 0 twin link; 1 Closon fabric. -/
def TWN_STATUS.PATH : Field := ⟨0x1c00000, 9, 9⟩
/-- ROLE: 0 A; 1 B. -/
def TWN_STATUS.ROLE : Field := ⟨0x1c00000, 8, 8⟩
/-- STATE: 0 ABSENT; 1 DOWN; 2 LINKING; 3 PAIRING; 4 PAIRED; 5 SEEDING; 6 MIRRORING; 7 SOLO; 8 CARRYING; 9 HANDOVER; 10 REFUSED. -/
def TWN_STATUS.STATE : Field := ⟨0x1c00000, 3, 0⟩

/-- ENABLE: 1: pair when attached. -/
def TWN_CFG.ENABLE : Field := ⟨0x1c00008, 32, 32⟩
/-- POLICY: 0 HOLD; 1 CARRY; 2 and 3 act as 0. -/
def TWN_CFG.POLICY : Field := ⟨0x1c00008, 17, 16⟩
/-- MIRROR_GIB: Mirror region in GiB; 0 disables mirroring; writable only in READY with no passage loaded. -/
def TWN_CFG.MIRROR_GIB : Field := ⟨0x1c00008, 15, 0⟩

/-- UID: Partner UID. -/
def TWN_PARTNER_UID.UID : Field := ⟨0x1c00010, 63, 0⟩

/-- STEP: Last partner step held by the mirror. -/
def TWN_MIRROR.STEP : Field := ⟨0x1c00018, 63, 0⟩

/-- PATH_CHANGES: Changes of PATH. -/
def TWN_COUNT.PATH_CHANGES : Field := ⟨0x1c00020, 63, 48⟩
/-- DIVERGED: Digest mismatches. -/
def TWN_COUNT.DIVERGED : Field := ⟨0x1c00020, 47, 32⟩
/-- RECORDS: Records applied. -/
def TWN_COUNT.RECORDS : Field := ⟨0x1c00020, 31, 0⟩

/-- STATE: 0 DISABLED; 1 DOWN; 2 TRAINING; 3 ALIGNING; 4 SIGHTING; 5 UP; 6 HOLD; others not used. -/
def TWN_PORT_STATUS.STATE : Field := ⟨0x1c00100, 15, 12⟩
/-- WIDTH: 0 none; 1 lanes 0–3; 2 lanes 4–7; 3 all. -/
def TWN_PORT_STATUS.WIDTH : Field := ⟨0x1c00100, 11, 10⟩
/-- REVERSED: 1: lane order reversed. -/
def TWN_PORT_STATUS.REVERSED : Field := ⟨0x1c00100, 9, 9⟩
/-- POLARITY: Bit per lane: inverted. -/
def TWN_PORT_STATUS.POLARITY : Field := ⟨0x1c00100, 7, 0⟩

/-- CORRECTED: Symbols corrected. -/
def TWN_PORT_FEC.CORRECTED : Field := ⟨0x1c00108, 63, 32⟩
/-- UNCORRECTABLE: Codewords rejected. -/
def TWN_PORT_FEC.UNCORRECTABLE : Field := ⟨0x1c00108, 31, 0⟩

/-- RETRAINS: Retrains. -/
def TWN_PORT_RETRY.RETRAINS : Field := ⟨0x1c00110, 63, 48⟩
/-- DOWNS: Transitions to DOWN. -/
def TWN_PORT_RETRY.DOWNS : Field := ⟨0x1c00110, 47, 32⟩
/-- RESENDS: Codewords resent. -/
def TWN_PORT_RETRY.RESENDS : Field := ⟨0x1c00110, 31, 0⟩

/-- RX: Flits received, in units of 1,024. -/
def TWN_PORT_FLITS.RX : Field := ⟨0x1c00118, 63, 32⟩
/-- TX: Flits sent, in units of 1,024. -/
def TWN_PORT_FLITS.TX : Field := ⟨0x1c00118, 31, 0⟩

/-- UID: Neighbour UID; 0 when down. -/
def TWN_PORT_PEER.UID : Field := ⟨0x1c00120, 63, 0⟩

/-- HOST_ASSISTED: 1: placement runs in host-assisted mode. -/
def CHT_STATUS.HOST_ASSISTED : Field := ⟨0x2000000, 21, 21⟩
/-- ASSIGNING: 1: step-start assignment running (R215). -/
def CHT_STATUS.ASSIGNING : Field := ⟨0x2000000, 20, 20⟩
/-- ENTRIES_USED: Entries not FREE, 0–524,288. -/
def CHT_STATUS.ENTRIES_USED : Field := ⟨0x2000000, 19, 0⟩

/-- REPLICATE_EN: 1: replicas allowed (R213). -/
def CHT_CFG.REPLICATE_EN : Field := ⟨0x2000008, 32, 32⟩
/-- REPLICATE_HEAT: Minimum HEAT for a replica. -/
def CHT_CFG.REPLICATE_HEAT : Field := ⟨0x2000008, 31, 24⟩
/-- ROTATE_PERIOD: Steps between rotations; 0 disables. -/
def CHT_CFG.ROTATE_PERIOD : Field := ⟨0x2000008, 15, 0⟩

/-- INDEX: Entry index; a write copies the entry. -/
def CHT_INDEX.INDEX : Field := ⟨0x2000010, 18, 0⟩

/-- WORD: Entry word, Table 6-4. -/
def CHT_DATA0.WORD : Field := ⟨0x2000018, 63, 0⟩

/-- WORD: Entry word, Table 6-4. -/
def CHT_DATA1.WORD : Field := ⟨0x2000020, 63, 0⟩

/-- WORD: Entry word, Table 6-4. -/
def CHT_DATA2.WORD : Field := ⟨0x2000028, 63, 0⟩

/-- WORD: Entry word, Table 6-4. -/
def CHT_DATA3.WORD : Field := ⟨0x2000030, 63, 0⟩

/-- BASE: Module address of the tile-mark region, set at passage load and moved under R220. -/
def CHT_MARK_REGION.BASE : Field := ⟨0x2000038, 51, 0⟩

/-- COUNT: r of the last assignment. -/
def CHT_ROTATION.COUNT : Field := ⟨0x2000040, 63, 32⟩
/-- STEP_LO: Step number bits 31:0 of the last change of r. -/
def CHT_ROTATION.STEP_LO : Field := ⟨0x2000040, 31, 0⟩

/-- REGIONS: Regions lost. -/
def CHT_REPLACE.REGIONS : Field := ⟨0x2000048, 63, 48⟩
/-- CORES: Cores retired in a step. -/
def CHT_REPLACE.CORES : Field := ⟨0x2000048, 47, 32⟩
/-- LEGS: Legs re-placed, including re-runs under R218. -/
def CHT_REPLACE.LEGS : Field := ⟨0x2000048, 31, 0⟩

/-- FETCHED: Tiles fetched back. -/
def CHT_OFFLOAD.FETCHED : Field := ⟨0x2000050, 63, 32⟩
/-- SHIPPED: Tiles shipped. -/
def CHT_OFFLOAD.SHIPPED : Field := ⟨0x2000050, 31, 0⟩

/-- CYCLES: NCLK cycles in which any Pilot waited on an INBOUND tile. -/
def CHT_OFFLOAD_WAIT.CYCLES : Field := ⟨0x2000058, 63, 0⟩

/-- PEER: MiB held at peers. -/
def CHT_AWAY.PEER : Field := ⟨0x2000060, 62, 42⟩
/-- HOST: MiB held in host memory. -/
def CHT_AWAY.HOST : Field := ⟨0x2000060, 41, 21⟩
/-- TWIN: MiB held on the twin. -/
def CHT_AWAY.TWIN : Field := ⟨0x2000060, 20, 0⟩

/-- OUT: Tiles written out by the core's Pilots. -/
def CHT_PILOT_TILES.OUT (i : Nat) : Field := ⟨0x2100000 + 0x20 * i, 63, 32⟩
/-- IN: Tiles landed by the core's Pilots. -/
def CHT_PILOT_TILES.IN (i : Nat) : Field := ⟨0x2100000 + 0x20 * i, 31, 0⟩

/-- CYCLES: ECLK cycles in which a consumer held no token while its next tile was in flight. -/
def CHT_PILOT_LATE.CYCLES (i : Nat) : Field := ⟨0x2100008 + 0x20 * i, 63, 0⟩

/-- RUNNING: 1: BIST runs. -/
def BST_STATUS.RUNNING : Field := ⟨0x3000000, 63, 63⟩
/-- ABORTED: 1: the last BIST was aborted. -/
def BST_STATUS.ABORTED : Field := ⟨0x3000000, 62, 62⟩
/-- SKIPPED: 1: the last BIST was skipped. -/
def BST_STATUS.SKIPPED : Field := ⟨0x3000000, 61, 61⟩
/-- CONDITION: Code of Table 14-9. -/
def BST_STATUS.CONDITION : Field := ⟨0x3000000, 55, 48⟩
/-- SELECTION: ARG0 bits 11:0 of the last BIST (R449). -/
def BST_STATUS.SELECTION : Field := ⟨0x3000000, 11, 0⟩

/-- DOMAINS_TESTED: Scan domains completed. -/
def BST_RESULT.DOMAINS_TESTED : Field := ⟨0x3000008, 63, 48⟩
/-- DOMAINS_FAILED: Scan domains failed. -/
def BST_RESULT.DOMAINS_FAILED : Field := ⟨0x3000008, 47, 32⟩
/-- REPAIRED: Rows, columns and slots repaired. -/
def BST_RESULT.REPAIRED : Field := ⟨0x3000008, 31, 16⟩
/-- UNREPAIRED: Memory failures that retired their owners. -/
def BST_RESULT.UNREPAIRED : Field := ⟨0x3000008, 15, 0⟩

/-- EVENTS: Fault events since BOOT. -/
def BST_FAULTS.EVENTS : Field := ⟨0x3000010, 63, 32⟩
/-- LASTING: Crossings of R440. -/
def BST_FAULTS.LASTING : Field := ⟨0x3000010, 31, 16⟩
/-- UNCORRECTABLE: Uncorrectable errors. -/
def BST_FAULTS.UNCORRECTABLE : Field := ⟨0x3000010, 15, 0⟩

/-- THRESHOLD: Events; values outside 2–16 act as the nearer bound. -/
def BST_WINDOW_CFG.THRESHOLD (i : Nat) : Field := ⟨0x3000040 + 0x8 * i, 20, 16⟩
/-- WINDOW_S: Seconds; values outside 1–3,600 act as the nearer bound. -/
def BST_WINDOW_CFG.WINDOW_S (i : Nat) : Field := ⟨0x3000040 + 0x8 * i, 11, 0⟩

/-- STATE: 0 OK; 1 REPAIR_PENDING; 2 REPAIRED; 3 LASTING; 4 RETIRED; 5 RETIRED_PERSISTENT; 6 ABSENT. -/
def BST_UNIT.STATE (i : Nat) : Field := ⟨0x3001000 + 0x8 * i, 63, 60⟩
/-- SPARES_USED: Soft repairs in force; saturates at 15. -/
def BST_UNIT.SPARES_USED (i : Nat) : Field := ⟨0x3001000 + 0x8 * i, 59, 56⟩
/-- IN_WINDOW: Events within WINDOW_S of the latest. -/
def BST_UNIT.IN_WINDOW (i : Nat) : Field := ⟨0x3001000 + 0x8 * i, 47, 32⟩
/-- TOTAL: Events since BOOT. -/
def BST_UNIT.TOTAL (i : Nat) : Field := ⟨0x3001000 + 0x8 * i, 31, 0⟩

/-- KEYSTORE_LOADED: 1: the key store holds the DeviceID key. -/
def SEC_STATUS.KEYSTORE_LOADED : Field := ⟨0x3800000, 63, 63⟩
/-- DEBUG_UNLOCKED: 1: unlocked since BOOT (R453). -/
def SEC_STATUS.DEBUG_UNLOCKED : Field := ⟨0x3800000, 62, 62⟩
/-- ATTEST_READY: 1: the attestation key is derived. -/
def SEC_STATUS.ATTEST_READY : Field := ⟨0x3800000, 61, 61⟩
/-- ROOT_REVOKED: Bit per root slot; set in the field by R456. -/
def SEC_STATUS.ROOT_REVOKED : Field := ⟨0x3800000, 55, 52⟩
/-- ROOT_SLOT: Slot that verified the running image. -/
def SEC_STATUS.ROOT_SLOT : Field := ⟨0x3800000, 51, 50⟩

/-- FUSED_MIN: Fused minimum; raised in the field by R456. -/
def SEC_SVN.FUSED_MIN : Field := ⟨0x3800008, 31, 16⟩
/-- RUNNING: SEC_VERSION of the running image. -/
def SEC_SVN.RUNNING : Field := ⟨0x3800008, 15, 0⟩

/-- ID: Window revision. -/
def FRW_ID.ID : Field := ⟨0x100000000, 31, 0⟩

/-- CORE: Flat core number. -/
def FRW_CORE.CORE : Field := ⟨0x100000004, 31, 0⟩

/-- TRANSPOSE_B: 1: B stored N × K. -/
def FRW_OP.TRANSPOSE_B : Field := ⟨0x100000008, 16, 16⟩
/-- Y_FMT: 0 EQ8a; 1 EQ8b; 2 BF16. -/
def FRW_OP.Y_FMT : Field := ⟨0x100000008, 15, 12⟩
/-- B_FMT: As Y_FMT. -/
def FRW_OP.B_FMT : Field := ⟨0x100000008, 11, 8⟩
/-- A_FMT: As Y_FMT. -/
def FRW_OP.A_FMT : Field := ⟨0x100000008, 7, 4⟩
/-- OP: 0 copy; 1 product. -/
def FRW_OP.OP : Field := ⟨0x100000008, 3, 0⟩

/-- EXTENT: 1–65,536. -/
def FRW_M.EXTENT : Field := ⟨0x10000000c, 31, 0⟩

/-- EXTENT: 1–65,536. -/
def FRW_N.EXTENT : Field := ⟨0x100000010, 31, 0⟩

/-- EXTENT: 1–65,536. -/
def FRW_K.EXTENT : Field := ⟨0x100000014, 31, 0⟩

/-- ADDR_LO: Module address bits 31:0. -/
def FRW_A_LO.ADDR_LO : Field := ⟨0x100000018, 31, 0⟩

/-- ADDR_HI: Module address bits 51:32; bits 31:20 RSV. -/
def FRW_A_HI.ADDR_HI : Field := ⟨0x10000001c, 19, 0⟩

/-- ADDR_LO: Module address bits 31:0. -/
def FRW_B_LO.ADDR_LO : Field := ⟨0x100000020, 31, 0⟩

/-- ADDR_HI: Module address bits 51:32; bits 31:20 RSV. -/
def FRW_B_HI.ADDR_HI : Field := ⟨0x100000024, 19, 0⟩

/-- ADDR_LO: Module address bits 31:0. -/
def FRW_Y_LO.ADDR_LO : Field := ⟨0x100000028, 31, 0⟩

/-- ADDR_HI: Module address bits 51:32; bits 31:20 RSV. -/
def FRW_Y_HI.ADDR_HI : Field := ⟨0x10000002c, 19, 0⟩

/-- GO: 1: start a job (R433); bits 31:1 RSV. -/
def FRW_GO.GO : Field := ⟨0x100000030, 0, 0⟩

/-- BUSY: 1: a job runs. -/
def FRW_STATUS.BUSY : Field := ⟨0x100000034, 31, 31⟩
/-- DROPPED_GO: GO writes discarded while BUSY; saturates. -/
def FRW_STATUS.DROPPED_GO : Field := ⟨0x100000034, 15, 8⟩
/-- CODE: Outcome of the last GO: 0 OK; 1 REFUSED_MODE; 2 REFUSED_STATE; 3 BAD_CORE; 4 BAD_FORMAT; 5 BAD_SHAPE; 6 BAD_ADDRESS; 7 FAULT. -/
def FRW_STATUS.CODE : Field := ⟨0x100000034, 7, 0⟩

/-- COUNT: Jobs finished since BOOT; saturates. -/
def FRW_DONE.COUNT : Field := ⟨0x100000038, 31, 0⟩

/-- STATE: CAP_STATE.STATE. -/
def MG_IDENT.STATE : Field := ⟨0x200000000, 19, 16⟩
/-- VARIANT: CAP_UNITS.VARIANT. -/
def MG_IDENT.VARIANT : Field := ⟨0x200000000, 15, 0⟩

/-- POWER_W: Mean input power over the last 1 ms, in W. -/
def MG_POWER.POWER_W : Field := ⟨0x200000004, 31, 16⟩
/-- VIN: HELM_IN_STATUS.VIN, in 10 mV. -/
def MG_POWER.VIN : Field := ⟨0x200000004, 15, 0⟩

/-- PCIE_DOWN: The PCIe link failed to train, or went down after READY. -/
def MG_ALERT.PCIE_DOWN : Field := ⟨0x200000008, 6, 6⟩
/-- FAULT: FAULTED entered. -/
def MG_ALERT.FAULT : Field := ⟨0x200000008, 5, 5⟩
/-- COOLANT_STOP: COOLANT_STOP posted. -/
def MG_ALERT.COOLANT_STOP : Field := ⟨0x200000008, 4, 4⟩
/-- THERMAL_TRIP: THERMAL_TRIP posted. -/
def MG_ALERT.THERMAL_TRIP : Field := ⟨0x200000008, 3, 3⟩
/-- STAGEA_CELL_FAILED: STAGEA_CELL_FAILED posted. -/
def MG_ALERT.STAGEA_CELL_FAILED : Field := ⟨0x200000008, 2, 2⟩
/-- REGION_DARK: REGION_DARK posted. -/
def MG_ALERT.REGION_DARK : Field := ⟨0x200000008, 1, 1⟩
/-- HOLDUP_STOP: HOLDUP_STOP posted. -/
def MG_ALERT.HOLDUP_STOP : Field := ⟨0x200000008, 0, 0⟩

/-- OUTLET: 1/8 °C, two's complement. -/
def MG_COOLANT0.OUTLET : Field := ⟨0x200000010, 31, 16⟩
/-- INLET: 1/8 °C, two's complement. -/
def MG_COOLANT0.INLET : Field := ⟨0x200000010, 15, 0⟩

/-- CRC: CRC-8, polynomial 0x07, initial value 0, over bytes 0x10–0x16. -/
def MG_COOLANT1.CRC : Field := ⟨0x200000014, 31, 24⟩
/-- SEQ: Raised by the tray for each reading. -/
def MG_COOLANT1.SEQ : Field := ⟨0x200000014, 23, 16⟩
/-- FLOW: mL/min. -/
def MG_COOLANT1.FLOW : Field := ⟨0x200000014, 15, 0⟩

/-- BAD_READINGS: Coolant writes discarded (R479). -/
def MG_INPUTS.BAD_READINGS : Field := ⟨0x200000018, 31, 24⟩
/-- BAD_FRAMES: Budget frames discarded (R480). -/
def MG_INPUTS.BAD_FRAMES : Field := ⟨0x200000018, 23, 16⟩
/-- BUDGET_W: HELM_LIMITS.BUDGET_W. -/
def MG_INPUTS.BUDGET_W : Field := ⟨0x200000018, 15, 0⟩

/-- UID_LO: FAB_UID bits 31:0. -/
def MG_UID_LO.UID_LO : Field := ⟨0x20000001c, 31, 0⟩

/-- UID_HI: FAB_UID bits 63:32. -/
def MG_UID_HI.UID_HI : Field := ⟨0x200000020, 31, 0⟩
end Reg

/-- Rows 0 to 15 of the register table. -/
def regTable0 : List RegDesc :=
  [ ⟨0x0, 0x8, 1, [⟨63, 48, .ro, .part .deviceId⟩, ⟨47, 32, .ro, .part .vendorId⟩, ⟨31, 24, .ro, .part .revision⟩]⟩,
    ⟨0x8, 0x8, 1, [⟨63, 48, .ro, .boot⟩, ⟨47, 32, .ro, .boot⟩, ⟨31, 16, .ro, .part .rom⟩, ⟨15, 0, .ro, .boot⟩]⟩,
    ⟨0x10, 0x8, 1, [⟨47, 32, .ro, .part .variant⟩, ⟨24, 16, .ro, .boot⟩, ⟨13, 13, .ro, .part .fp64⟩, ⟨12, 12, .ro, .part .twin⟩, ⟨11, 4, .ro, .part .hbm⟩, ⟨3, 0, .ro, .part .die⟩]⟩,
    ⟨0x18, 0x8, 1, [⟨35, 32, .ro, .const 0⟩, ⟨31, 16, .ro, .const 0⟩, ⟨3, 0, .ro, .const 1⟩]⟩,
    ⟨0x20, 0x8, 1, [⟨63, 0, .ro, .const 0⟩]⟩,
    ⟨0x28, 0x8, 1, [⟨63, 48, .ro, .const 0⟩, ⟨17, 17, .ro, .boot⟩, ⟨16, 16, .ro, .const 0⟩, ⟨15, 14, .ro, .const 0⟩, ⟨13, 13, .ro, .const 0⟩, ⟨12, 8, .ro, .const 0⟩, ⟨2, 0, .ro, .const 0⟩]⟩,
    ⟨0x30, 0x8, 1, [⟨12, 8, .rw, .boot⟩, ⟨1, 1, .rw, .boot⟩, ⟨0, 0, .rw, .boot⟩]⟩,
    ⟨0x38, 0x8, 1, [⟨51, 30, .rw, .const 0⟩]⟩,
    ⟨0x40, 0x8, 1, [⟨63, 0, .ro, .const 0⟩]⟩,
    ⟨0x48, 0x8, 1, [⟨63, 0, .ro, .const 0⟩]⟩,
    ⟨0x50, 0x8, 1, [⟨63, 56, .ro, .const 0⟩, ⟨34, 32, .ro, .const 0⟩, ⟨31, 0, .ro, .const 0⟩]⟩,
    ⟨0x58, 0x8, 1, [⟨63, 32, .ro, .const 0⟩, ⟨4, 4, .ro, .const 0⟩, ⟨3, 3, .ro, .const 0⟩, ⟨2, 2, .ro, .const 0⟩, ⟨1, 1, .ro, .const 0⟩, ⟨0, 0, .ro, .const 0⟩]⟩,
    ⟨0x60, 0x8, 1, [⟨22, 16, .ro, .const 0⟩, ⟨6, 6, .ro, .boot⟩, ⟨5, 5, .ro, .boot⟩, ⟨4, 4, .ro, .boot⟩, ⟨3, 3, .ro, .boot⟩, ⟨2, 2, .ro, .boot⟩, ⟨1, 1, .ro, .boot⟩, ⟨0, 0, .ro, .boot⟩]⟩,
    ⟨0x68, 0x8, 1, [⟨63, 32, .ro, .boot⟩, ⟨31, 24, .ro, .const 0⟩, ⟨16, 0, .ro, .boot⟩]⟩,
    ⟨0x80, 0x8, 1, [⟨63, 56, .ro, .const 0⟩, ⟨55, 48, .ro, .const 0⟩, ⟨47, 40, .ro, .const 0⟩, ⟨39, 36, .ro, .const 0⟩, ⟨34, 34, .ro, .const 0⟩, ⟨33, 33, .ro, .const 0⟩, ⟨32, 32, .ro, .const 0⟩, ⟨31, 0, .ro, .const 0⟩]⟩,
    ⟨0x88, 0x8, 1, [⟨63, 60, .ro, .const 0⟩, ⟨59, 58, .ro, .const 0⟩, ⟨47, 40, .rc, .const 0⟩, ⟨39, 32, .rc, .const 0⟩, ⟨31, 0, .ro, .const 0⟩]⟩ ]

/-- Rows 16 to 31 of the register table. -/
def regTable1 : List RegDesc :=
  [ ⟨0x400, 0x8, 128, [⟨63, 0, .ro, .const 0⟩]⟩,
    ⟨0x100000, 0x40, 64, [⟨63, 0, .rw, .const 0⟩]⟩,
    ⟨0x100008, 0x40, 64, [⟨63, 0, .rw, .const 0⟩]⟩,
    ⟨0x100010, 0x40, 64, [⟨63, 63, .rw, .const 0⟩, ⟨62, 62, .rw, .const 0⟩, ⟨26, 16, .rw, .const 0⟩, ⟨15, 8, .rw, .const 0⟩, ⟨7, 0, .rw, .const 0⟩]⟩,
    ⟨0x100018, 0x40, 64, [⟨11, 0, .rw, .const 0⟩]⟩,
    ⟨0x100020, 0x40, 64, [⟨11, 0, .ro, .const 0⟩]⟩,
    ⟨0x100028, 0x40, 64, [⟨11, 0, .rw, .const 0⟩]⟩,
    ⟨0x100030, 0x40, 64, [⟨63, 63, .w1c, .const 0⟩, ⟨55, 48, .ro, .const 0⟩, ⟨32, 32, .ro, .const 0⟩, ⟨31, 0, .rc, .const 0⟩]⟩,
    ⟨0x100038, 0x40, 64, [⟨11, 0, .ro, .const 0⟩]⟩,
    ⟨0x300000, 0x10, 2048, [⟨63, 0, .rw, .const 0⟩]⟩,
    ⟨0x300008, 0x10, 2048, [⟨32, 32, .rw, .const 1⟩, ⟨31, 0, .rw, .const 0⟩]⟩,
    ⟨0x308000, 0x8, 32, [⟨63, 0, .ro, .const 0⟩]⟩,
    ⟨0x400000, 0x8, 1, [⟨63, 0, .rw, .const 0⟩]⟩,
    ⟨0x400008, 0x8, 1, [⟨63, 63, .rw, .const 0⟩, ⟨62, 62, .rw, .const 0⟩, ⟨47, 40, .rw, .const 0⟩, ⟨26, 16, .rw, .const 0⟩, ⟨4, 0, .rw, .const 0⟩]⟩,
    ⟨0x400010, 0x8, 1, [⟨15, 0, .rw, .const 0⟩]⟩,
    ⟨0x400018, 0x8, 1, [⟨15, 0, .ro, .const 0⟩]⟩ ]

/-- Rows 32 to 47 of the register table. -/
def regTable2 : List RegDesc :=
  [ ⟨0x400020, 0x8, 1, [⟨63, 63, .w1c, .const 0⟩, ⟨60, 48, .ro, .const 0⟩, ⟨47, 32, .rc, .const 0⟩, ⟨31, 0, .rc, .const 0⟩]⟩,
    ⟨0x401000, 0x8, 64, [⟨63, 0, .rw, .const 0⟩]⟩,
    ⟨0x800000, 0x8, 1, [⟨16, 16, .rw, .boot⟩, ⟨15, 0, .rw, .boot⟩]⟩,
    ⟨0x800008, 0x8, 1, [⟨63, 48, .ro, .const 0⟩, ⟨47, 32, .ro, .const 0⟩, ⟨31, 24, .ro, .const 0⟩, ⟨23, 16, .ro, .const 0⟩, ⟨15, 8, .ro, .const 0⟩, ⟨2, 2, .ro, .const 0⟩, ⟨1, 1, .ro, .const 0⟩, ⟨0, 0, .ro, .const 0⟩]⟩,
    ⟨0x800010, 0x8, 1, [⟨63, 48, .ro, .const 0⟩, ⟨47, 32, .ro, .const 0⟩, ⟨31, 16, .ro, .const 0⟩, ⟨1, 1, .ro, .const 0⟩, ⟨0, 0, .ro, .const 0⟩]⟩,
    ⟨0x800018, 0x8, 1, [⟨23, 16, .rw, .const 5⟩, ⟨12, 8, .rw, .const 0x10⟩, ⟨2, 2, .rw, .boot⟩, ⟨1, 1, .rw, .boot⟩, ⟨0, 0, .rw, .boot⟩]⟩,
    ⟨0x800020, 0x8, 1, [⟨4, 0, .rw, .boot⟩]⟩,
    ⟨0x800028, 0x8, 1, [⟨63, 32, .rc, .const 0⟩, ⟨24, 24, .ro, .const 0⟩, ⟨20, 16, .ro, .boot⟩, ⟨12, 8, .ro, .const 0x10⟩, ⟨4, 0, .ro, .const 0⟩]⟩,
    ⟨0x800030, 0x8, 1, [⟨63, 48, .ro, .const 0⟩, ⟨47, 32, .ro, .const 0⟩, ⟨31, 16, .ro, .const 0⟩, ⟨15, 0, .ro, .const 0xffff⟩]⟩,
    ⟨0x800038, 0x8, 1, [⟨23, 16, .rw, .const 0x32⟩, ⟨15, 0, .rw, .boot⟩]⟩,
    ⟨0x800040, 0x8, 1, [⟨30, 30, .ro, .const 0⟩, ⟨29, 29, .ro, .const 0⟩, ⟨28, 28, .ro, .const 0⟩, ⟨27, 27, .ro, .const 0⟩, ⟨26, 26, .ro, .const 0⟩, ⟨25, 25, .ro, .const 0⟩, ⟨24, 24, .ro, .const 0⟩, ⟨23, 16, .ro, .const 0⟩, ⟨11, 0, .ro, .const 0⟩]⟩,
    ⟨0x800048, 0x8, 1, [⟨31, 0, .rw, .const 0⟩]⟩,
    ⟨0x800050, 0x8, 1, [⟨63, 32, .ro, .const 0⟩, ⟨31, 0, .ro, .const 0⟩]⟩,
    ⟨0x800058, 0x8, 1, [⟨63, 0, .ro, .const 0⟩]⟩,
    ⟨0x800060, 0x8, 1, [⟨63, 48, .ro, .const 0⟩, ⟨31, 0, .ro, .const 0⟩]⟩,
    ⟨0x800068, 0x8, 1, [⟨63, 0, .ro, .const 0⟩]⟩ ]

/-- Rows 48 to 63 of the register table. -/
def regTable3 : List RegDesc :=
  [ ⟨0x800070, 0x8, 1, [⟨48, 48, .ro, .const 0⟩, ⟨47, 32, .ro, .const 0⟩, ⟨31, 16, .ro, .const 0⟩, ⟨15, 0, .ro, .const 0⟩]⟩,
    ⟨0x800080, 0x8, 8, [⟨63, 0, .ro, .const 0⟩]⟩,
    ⟨0x801000, 0x20, 32, [⟨59, 48, .ro, .const 0⟩, ⟨41, 40, .ro, .const 0⟩, ⟨39, 32, .ro, .const 0⟩, ⟨31, 24, .ro, .const 0⟩, ⟨12, 8, .ro, .const 0⟩, ⟨4, 0, .ro, .const 0⟩]⟩,
    ⟨0x801008, 0x20, 32, [⟨63, 0, .rc, .const 0⟩]⟩,
    ⟨0x801010, 0x20, 32, [⟨63, 0, .rc, .const 0⟩]⟩,
    ⟨0x802000, 0x8, 144, [⟨19, 19, .ro, .part .sensorStack⟩, ⟨18, 18, .ro, .part .sensorPaired⟩, ⟨17, 17, .ro, .const 0⟩, ⟨16, 16, .w1c, .const 0⟩, ⟨15, 15, .ro, .const 0⟩, ⟨14, 14, .ro, .const 0⟩, ⟨13, 13, .ro, .const 0⟩, ⟨11, 0, .ro, .const 0⟩]⟩,
    ⟨0x803000, 0x8, 128, [⟨49, 49, .ro, .boot⟩, ⟨48, 48, .ro, .boot⟩, ⟨41, 32, .ro, .boot⟩, ⟨25, 16, .ro, .boot⟩, ⟨9, 0, .ro, .part .fusedMv⟩]⟩,
    ⟨0x808000, 0x8, 1, [⟨63, 48, .ro, .const 0⟩, ⟨47, 32, .ro, .const 0⟩, ⟨31, 16, .ro, .const 0⟩, ⟨3, 3, .ro, .const 0⟩, ⟨2, 2, .ro, .const 0⟩, ⟨1, 1, .ro, .const 0⟩, ⟨0, 0, .ro, .const 0⟩]⟩,
    ⟨0x808008, 0x8, 1, [⟨63, 63, .wo, .const 0⟩, ⟨15, 0, .ro, .const 0xffff⟩]⟩,
    ⟨0x808010, 0x8, 1, [⟨63, 0, .ro, .const 0⟩]⟩,
    ⟨0x808018, 0x8, 1, [⟨47, 32, .ro, .part .ceiling⟩, ⟨3, 0, .ro, .part .cellsOk⟩]⟩,
    ⟨0x808020, 0x8, 1, [⟨39, 32, .rw, .const 0x28⟩]⟩,
    ⟨0x809000, 0x40, 48, [⟨63, 60, .ro, .const 0⟩, ⟨59, 56, .ro, .part .phases⟩, ⟨55, 48, .ro, .part .phasesOk⟩, ⟨47, 45, .ro, .const 0⟩, ⟨42, 32, .ro, .const 0⟩, ⟨31, 16, .ro, .const 0⟩, ⟨15, 0, .ro, .const 0⟩]⟩,
    ⟨0x809008, 0x40, 48, [⟨63, 63, .wo, .const 0⟩, ⟨15, 0, .ro, .const 0xffff⟩]⟩,
    ⟨0x809010, 0x40, 48, [⟨63, 0, .ro, .const 0⟩]⟩,
    ⟨0x809018, 0x40, 48, [⟨63, 48, .rc, .const 0⟩, ⟨47, 32, .rc, .const 0⟩, ⟨31, 0, .rc, .const 0⟩]⟩ ]

/-- Rows 64 to 79 of the register table. -/
def regTable4 : List RegDesc :=
  [ ⟨0xc00000, 0x8, 1, [⟨5, 5, .ro, .const 0⟩, ⟨4, 4, .ro, .const 0⟩, ⟨3, 3, .ro, .const 0⟩, ⟨2, 2, .ro, .const 0⟩, ⟨1, 1, .ro, .const 0⟩, ⟨0, 0, .ro, .const 0⟩]⟩,
    ⟨0xc00008, 0x8, 1, [⟨4, 4, .rw, .const 0⟩, ⟨3, 3, .rw, .const 0⟩, ⟨2, 2, .rw, .const 0⟩, ⟨1, 1, .rw, .const 0⟩, ⟨0, 0, .rw, .const 0⟩]⟩,
    ⟨0xc00010, 0x8, 1, [⟨5, 5, .wo, .const 0⟩, ⟨4, 0, .wo, .const 0⟩]⟩,
    ⟨0xc00040, 0x8, 1, [⟨63, 0, .rw, .const 0⟩]⟩,
    ⟨0xc00048, 0x8, 1, [⟨63, 0, .rw, .const 0⟩]⟩,
    ⟨0xc00050, 0x8, 1, [⟨63, 48, .rw, .const 0⟩, ⟨47, 32, .rw, .const 0⟩, ⟨31, 0, .rw, .const 0⟩]⟩,
    ⟨0xc00058, 0x8, 1, [⟨63, 32, .ro, .const 0x82a5728c⟩, ⟨31, 0, .ro, .const 0x2a04d70b⟩]⟩,
    ⟨0xc10000, 0x20, 2048, [⟨4, 4, .w1c, .const 0⟩, ⟨3, 3, .w1c, .const 0⟩, ⟨2, 2, .w1c, .const 0⟩, ⟨1, 1, .w1c, .const 0⟩, ⟨0, 0, .w1c, .const 0⟩]⟩,
    ⟨0xc10008, 0x20, 2048, [⟨63, 63, .w1c, .const 0⟩, ⟨47, 32, .ro, .const 0⟩, ⟨31, 0, .ro, .const 0⟩]⟩,
    ⟨0xc10010, 0x20, 2048, [⟨63, 32, .ro, .const 0⟩, ⟨23, 16, .ro, .const 0⟩, ⟨15, 0, .ro, .const 0⟩]⟩,
    ⟨0xc10018, 0x20, 2048, [⟨63, 0, .ro, .const 0⟩]⟩,
    ⟨0xc30000, 0x20, 4, [⟨63, 0, .rc, .const 0⟩]⟩,
    ⟨0xc30008, 0x20, 4, [⟨39, 32, .rc, .const 0⟩, ⟨6, 0, .ro, .const 0⟩]⟩,
    ⟨0xc40000, 0x80, 256, [⟨63, 0, .rc, .const 0⟩]⟩,
    ⟨0xc40008, 0x80, 256, [⟨63, 0, .rc, .const 0⟩]⟩,
    ⟨0xc40010, 0x80, 256, [⟨63, 32, .rc, .const 0⟩, ⟨31, 0, .rc, .const 0⟩]⟩ ]

/-- Rows 80 to 95 of the register table. -/
def regTable5 : List RegDesc :=
  [ ⟨0xc40018, 0x80, 256, [⟨63, 0, .rc, .const 0⟩]⟩,
    ⟨0xc40020, 0x80, 256, [⟨63, 32, .rc, .const 0⟩, ⟨31, 0, .rc, .const 0⟩]⟩,
    ⟨0xc40028, 0x80, 256, [⟨63, 32, .rc, .const 0⟩, ⟨31, 0, .rc, .const 0⟩]⟩,
    ⟨0xc40030, 0x80, 256, [⟨63, 32, .rc, .const 0⟩, ⟨31, 0, .rc, .const 0⟩]⟩,
    ⟨0xc50000, 0x8, 1, [⟨32, 32, .rw, .const 0⟩, ⟨31, 0, .rw, .const 0x3f800000⟩]⟩,
    ⟨0xc50008, 0x8, 1, [⟨63, 0, .ro, .const 0⟩]⟩,
    ⟨0xc50010, 0x8, 1, [⟨37, 37, .w1c, .const 0⟩, ⟨36, 36, .ro, .const 0⟩, ⟨35, 35, .ro, .const 0⟩, ⟨34, 32, .ro, .const 0⟩, ⟨31, 0, .ro, .const 0x3f800000⟩]⟩,
    ⟨0xc50018, 0x8, 1, [⟨63, 0, .rc, .const 0⟩]⟩,
    ⟨0xc50020, 0x8, 1, [⟨31, 0, .rc, .const 0⟩]⟩,
    ⟨0xc50028, 0x8, 1, [⟨63, 32, .ro, .const 0⟩, ⟨31, 0, .ro, .const 0⟩]⟩,
    ⟨0xc50030, 0x8, 1, [⟨63, 32, .ro, .const 0⟩, ⟨31, 0, .ro, .const 0⟩]⟩,
    ⟨0xc50100, 0x8, 1, [⟨15, 0, .rw, .const 0x10⟩]⟩,
    ⟨0xc50108, 0x8, 1, [⟨63, 63, .ro, .const 0⟩, ⟨62, 32, .ro, .const 0⟩, ⟨31, 0, .ro, .const 0⟩]⟩,
    ⟨0xc50110, 0x8, 1, [⟨63, 32, .rc, .const 0⟩, ⟨31, 0, .rc, .const 0⟩]⟩,
    ⟨0xc60000, 0x40, 256, [⟨63, 32, .rc, .const 0⟩, ⟨31, 0, .rc, .const 0⟩]⟩,
    ⟨0x1000000, 0x8, 1, [⟨2, 2, .ro, .const 0⟩, ⟨1, 1, .ro, .const 0⟩, ⟨0, 0, .ro, .const 0⟩]⟩ ]

/-- Rows 96 to 111 of the register table. -/
def regTable6 : List RegDesc :=
  [ ⟨0x1000008, 0x8, 1, [⟨48, 48, .rw, .const 1⟩, ⟨47, 40, .rw, .const 4⟩, ⟨35, 32, .rw, .const 3⟩, ⟨31, 16, .rw, .const 0⟩, ⟨15, 0, .rw, .const 0x800⟩]⟩,
    ⟨0x1000010, 0x8, 1, [⟨32, 32, .rw, .const 0⟩, ⟨31, 24, .rw, .const 8⟩, ⟨20, 16, .rw, .const 0xc⟩, ⟨15, 0, .rw, .const 0x10⟩]⟩,
    ⟨0x1000018, 0x8, 1, [⟨8, 0, .rw, .const 0x20⟩]⟩,
    ⟨0x1000020, 0x8, 1, [⟨2, 0, .rw, .const 3⟩]⟩,
    ⟨0x1000028, 0x8, 1, [⟨1, 0, .ro, .const 0⟩]⟩,
    ⟨0x1000030, 0x8, 1, [⟨31, 16, .wo, .const 0⟩, ⟨2, 2, .wo, .const 0⟩, ⟨1, 1, .wo, .const 0⟩, ⟨0, 0, .wo, .const 0⟩]⟩,
    ⟨0x1000038, 0x8, 1, [⟨63, 32, .ro, .const 0⟩, ⟨31, 0, .ro, .const 0⟩]⟩,
    ⟨0x1000040, 0x8, 1, [⟨63, 48, .rc, .const 0⟩, ⟨47, 32, .rc, .const 0⟩, ⟨31, 0, .rc, .const 0⟩]⟩,
    ⟨0x1000048, 0x8, 1, [⟨63, 32, .rc, .const 0⟩, ⟨31, 0, .rc, .const 0⟩]⟩,
    ⟨0x1000050, 0x8, 1, [⟨63, 48, .rc, .const 0⟩, ⟨47, 32, .rc, .const 0⟩, ⟨31, 0, .rc, .const 0⟩]⟩,
    ⟨0x1001000, 0x8, 2048, [⟨1, 0, .ro, .const 0⟩, ⟨3, 2, .ro, .const 0⟩, ⟨5, 4, .ro, .const 0⟩, ⟨7, 6, .ro, .const 0⟩, ⟨9, 8, .ro, .const 0⟩, ⟨11, 10, .ro, .const 0⟩, ⟨13, 12, .ro, .const 0⟩, ⟨15, 14, .ro, .const 0⟩, ⟨17, 16, .ro, .const 0⟩, ⟨19, 18, .ro, .const 0⟩, ⟨21, 20, .ro, .const 0⟩, ⟨23, 22, .ro, .const 0⟩, ⟨25, 24, .ro, .const 0⟩, ⟨27, 26, .ro, .const 0⟩, ⟨29, 28, .ro, .const 0⟩, ⟨31, 30, .ro, .const 0⟩, ⟨33, 32, .ro, .const 0⟩, ⟨35, 34, .ro, .const 0⟩, ⟨37, 36, .ro, .const 0⟩, ⟨39, 38, .ro, .const 0⟩, ⟨41, 40, .ro, .const 0⟩, ⟨43, 42, .ro, .const 0⟩, ⟨45, 44, .ro, .const 0⟩, ⟨47, 46, .ro, .const 0⟩, ⟨49, 48, .ro, .const 0⟩, ⟨51, 50, .ro, .const 0⟩, ⟨53, 52, .ro, .const 0⟩, ⟨55, 54, .ro, .const 0⟩, ⟨57, 56, .ro, .const 0⟩, ⟨59, 58, .ro, .const 0⟩, ⟨61, 60, .ro, .const 0⟩, ⟨63, 62, .ro, .const 0⟩]⟩,
    ⟨0x1400000, 0x8, 1, [⟨63, 0, .ro, .const 0⟩]⟩,
    ⟨0x1400008, 0x8, 1, [⟨33, 33, .ro, .const 0⟩, ⟨32, 32, .ro, .const 0⟩, ⟨31, 16, .ro, .const 0⟩, ⟨15, 0, .ro, .const 0⟩]⟩,
    ⟨0x1400010, 0x8, 1, [⟨40, 40, .rw, .const 1⟩, ⟨39, 32, .rw, .const 0x40⟩, ⟨31, 16, .rw, .const 0x10⟩]⟩,
    ⟨0x1400018, 0x8, 1, [⟨63, 32, .rc, .const 0⟩, ⟨31, 16, .rc, .const 0⟩, ⟨15, 0, .rc, .const 0⟩]⟩,
    ⟨0x1400020, 0x8, 1, [⟨63, 32, .rc, .const 0⟩, ⟨31, 0, .ro, .const 0⟩]⟩ ]

/-- Rows 112 to 127 of the register table. -/
def regTable7 : List RegDesc :=
  [ ⟨0x1400028, 0x8, 1, [⟨63, 32, .rc, .const 0⟩, ⟨31, 0, .rc, .const 0⟩]⟩,
    ⟨0x1400030, 0x8, 1, [⟨63, 32, .rc, .const 0⟩, ⟨31, 0, .rc, .const 0⟩]⟩,
    ⟨0x1400038, 0x8, 1, [⟨63, 32, .rc, .const 0⟩, ⟨31, 0, .rc, .const 0⟩]⟩,
    ⟨0x1400040, 0x8, 1, [⟨63, 63, .w1c, .const 0⟩, ⟨47, 32, .ro, .const 0⟩, ⟨31, 0, .ro, .const 0⟩]⟩,
    ⟨0x1400048, 0x8, 1, [⟨63, 32, .rc, .const 0⟩, ⟨15, 15, .ro, .const 0⟩, ⟨13, 0, .ro, .const 0⟩]⟩,
    ⟨0x1400050, 0x8, 1, [⟨63, 48, .rc, .const 0⟩, ⟨47, 32, .rc, .const 0⟩, ⟨21, 8, .ro, .const 0⟩, ⟨7, 0, .ro, .const 0⟩]⟩,
    ⟨0x1408000, 0x8, 4096, [⟨63, 0, .ro, .const 0⟩]⟩,
    ⟨0x1410000, 0x8, 4096, [⟨31, 0, .wo, .const 0⟩]⟩,
    ⟨0x1418000, 0x8, 4096, [⟨63, 0, .ro, .const 0⟩]⟩,
    ⟨0x1420000, 0x8, 4096, [⟨31, 0, .ro, .const 0⟩]⟩,
    ⟨0x1428000, 0x8, 4096, [⟨63, 63, .ro, .const 0⟩, ⟨8, 0, .ro, .const 0⟩]⟩,
    ⟨0x1800000, 0x8, 1, [⟨63, 0, .ro, .part .uid⟩]⟩,
    ⟨0x1800008, 0x8, 1, [⟨47, 47, .ro, .const 0⟩, ⟨45, 32, .ro, .const 0⟩, ⟨31, 31, .rw, .boot⟩, ⟨29, 16, .rw, .boot⟩, ⟨15, 15, .ro, .const 0⟩, ⟨13, 0, .ro, .const 0⟩]⟩,
    ⟨0x1800010, 0x8, 1, [⟨63, 48, .rw, .const 0xffff⟩, ⟨47, 40, .rw, .const 0x20⟩, ⟨39, 32, .rw, .const 0xa⟩, ⟨31, 16, .rw, .const 0xc8⟩, ⟨15, 8, .rw, .const 0x32⟩]⟩,
    ⟨0x1800018, 0x8, 1, [⟨63, 48, .ro, .const 0⟩, ⟨47, 32, .ro, .const 0⟩, ⟨30, 16, .ro, .const 0⟩, ⟨7, 6, .ro, .const 0⟩, ⟨5, 5, .ro, .const 0⟩, ⟨4, 4, .ro, .const 0⟩]⟩,
    ⟨0x1800020, 0x8, 1, [⟨63, 63, .ro, .const 0⟩, ⟨62, 62, .ro, .const 0⟩, ⟨55, 48, .ro, .const 0⟩, ⟨45, 32, .ro, .const 0⟩, ⟨31, 0, .ro, .const 0⟩]⟩ ]

/-- Rows 128 to 143 of the register table. -/
def regTable8 : List RegDesc :=
  [ ⟨0x1800028, 0x8, 1, [⟨63, 32, .ro, .const 0⟩, ⟨1, 1, .wo, .const 0⟩, ⟨0, 0, .wo, .const 0⟩]⟩,
    ⟨0x1800030, 0x8, 1, [⟨63, 48, .rc, .const 0⟩, ⟨47, 32, .rc, .const 0⟩, ⟨31, 16, .rc, .const 0⟩, ⟨15, 0, .rc, .const 0⟩]⟩,
    ⟨0x1800038, 0x8, 1, [⟨63, 32, .rc, .const 0⟩, ⟨31, 0, .rc, .const 0⟩]⟩,
    ⟨0x1801000, 0x40, 16, [⟨15, 12, .ro, .const 0⟩, ⟨11, 10, .ro, .const 0⟩, ⟨9, 9, .ro, .const 0⟩, ⟨7, 0, .ro, .const 0⟩]⟩,
    ⟨0x1801008, 0x40, 16, [⟨63, 32, .rc, .const 0⟩, ⟨31, 0, .rc, .const 0⟩]⟩,
    ⟨0x1801010, 0x40, 16, [⟨63, 48, .rc, .const 0⟩, ⟨47, 32, .rc, .const 0⟩, ⟨31, 0, .rc, .const 0⟩]⟩,
    ⟨0x1801018, 0x40, 16, [⟨63, 32, .rc, .const 0⟩, ⟨31, 0, .rc, .const 0⟩]⟩,
    ⟨0x1801020, 0x40, 16, [⟨63, 0, .ro, .const 0⟩]⟩,
    ⟨0x1810000, 0x8, 16384, [⟨63, 63, .ro, .const 0⟩, ⟨62, 62, .ro, .const 0⟩, ⟨52, 52, .ro, .const 0⟩, ⟨51, 48, .ro, .const 0⟩, ⟨23, 16, .ro, .const 0⟩, ⟨15, 0, .ro, .const 0⟩]⟩,
    ⟨0x1840000, 0x8, 16384, [⟨63, 63, .rw, .const 0⟩, ⟨62, 62, .rw, .const 0⟩, ⟨52, 52, .rw, .const 0⟩, ⟨51, 48, .rw, .const 0⟩, ⟨23, 16, .rw, .const 0⟩, ⟨15, 0, .rw, .const 0⟩]⟩,
    ⟨0x1c00000, 0x8, 1, [⟨31, 24, .ro, .const 0⟩, ⟨17, 17, .ro, .const 0⟩, ⟨16, 16, .ro, .const 0⟩, ⟨9, 9, .ro, .const 0⟩, ⟨8, 8, .ro, .const 0⟩, ⟨3, 0, .ro, .const 0⟩]⟩,
    ⟨0x1c00008, 0x8, 1, [⟨32, 32, .rw, .boot⟩, ⟨17, 16, .rw, .boot⟩, ⟨15, 0, .rw, .boot⟩]⟩,
    ⟨0x1c00010, 0x8, 1, [⟨63, 0, .ro, .const 0⟩]⟩,
    ⟨0x1c00018, 0x8, 1, [⟨63, 0, .ro, .const 0⟩]⟩,
    ⟨0x1c00020, 0x8, 1, [⟨63, 48, .rc, .const 0⟩, ⟨47, 32, .rc, .const 0⟩, ⟨31, 0, .rc, .const 0⟩]⟩,
    ⟨0x1c00100, 0x8, 1, [⟨15, 12, .ro, .const 0⟩, ⟨11, 10, .ro, .const 0⟩, ⟨9, 9, .ro, .const 0⟩, ⟨7, 0, .ro, .const 0⟩]⟩ ]

/-- Rows 144 to 159 of the register table. -/
def regTable9 : List RegDesc :=
  [ ⟨0x1c00108, 0x8, 1, [⟨63, 32, .rc, .const 0⟩, ⟨31, 0, .rc, .const 0⟩]⟩,
    ⟨0x1c00110, 0x8, 1, [⟨63, 48, .rc, .const 0⟩, ⟨47, 32, .rc, .const 0⟩, ⟨31, 0, .rc, .const 0⟩]⟩,
    ⟨0x1c00118, 0x8, 1, [⟨63, 32, .rc, .const 0⟩, ⟨31, 0, .rc, .const 0⟩]⟩,
    ⟨0x1c00120, 0x8, 1, [⟨63, 0, .ro, .const 0⟩]⟩,
    ⟨0x2000000, 0x8, 1, [⟨21, 21, .ro, .const 0⟩, ⟨20, 20, .ro, .const 0⟩, ⟨19, 0, .ro, .const 0⟩]⟩,
    ⟨0x2000008, 0x8, 1, [⟨32, 32, .rw, .const 1⟩, ⟨31, 24, .rw, .const 0x18⟩, ⟨15, 0, .rw, .const 0x10⟩]⟩,
    ⟨0x2000010, 0x8, 1, [⟨18, 0, .rw, .const 0⟩]⟩,
    ⟨0x2000018, 0x8, 1, [⟨63, 0, .ro, .const 0⟩]⟩,
    ⟨0x2000020, 0x8, 1, [⟨63, 0, .ro, .const 0⟩]⟩,
    ⟨0x2000028, 0x8, 1, [⟨63, 0, .ro, .const 0⟩]⟩,
    ⟨0x2000030, 0x8, 1, [⟨63, 0, .ro, .const 0⟩]⟩,
    ⟨0x2000038, 0x8, 1, [⟨51, 0, .ro, .const 0⟩]⟩,
    ⟨0x2000040, 0x8, 1, [⟨63, 32, .ro, .const 0⟩, ⟨31, 0, .ro, .const 0⟩]⟩,
    ⟨0x2000048, 0x8, 1, [⟨63, 48, .rc, .const 0⟩, ⟨47, 32, .rc, .const 0⟩, ⟨31, 0, .rc, .const 0⟩]⟩,
    ⟨0x2000050, 0x8, 1, [⟨63, 32, .rc, .const 0⟩, ⟨31, 0, .rc, .const 0⟩]⟩,
    ⟨0x2000058, 0x8, 1, [⟨63, 0, .rc, .const 0⟩]⟩ ]

/-- Rows 160 to 175 of the register table. -/
def regTable10 : List RegDesc :=
  [ ⟨0x2000060, 0x8, 1, [⟨62, 42, .ro, .const 0⟩, ⟨41, 21, .ro, .const 0⟩, ⟨20, 0, .ro, .const 0⟩]⟩,
    ⟨0x2100000, 0x20, 256, [⟨63, 32, .rc, .const 0⟩, ⟨31, 0, .rc, .const 0⟩]⟩,
    ⟨0x2100008, 0x20, 256, [⟨63, 0, .rc, .const 0⟩]⟩,
    ⟨0x3000000, 0x8, 1, [⟨63, 63, .ro, .const 0⟩, ⟨62, 62, .ro, .const 0⟩, ⟨61, 61, .ro, .const 0⟩, ⟨55, 48, .ro, .const 0⟩, ⟨11, 0, .ro, .const 0⟩]⟩,
    ⟨0x3000008, 0x8, 1, [⟨63, 48, .ro, .const 0⟩, ⟨47, 32, .ro, .const 0⟩, ⟨31, 16, .ro, .const 0⟩, ⟨15, 0, .ro, .const 0⟩]⟩,
    ⟨0x3000010, 0x8, 1, [⟨63, 32, .rc, .const 0⟩, ⟨31, 16, .rc, .const 0⟩, ⟨15, 0, .rc, .const 0⟩]⟩,
    ⟨0x3000040, 0x8, 11, [⟨20, 16, .rw, .const 8⟩, ⟨11, 0, .rw, .const 0x3c⟩]⟩,
    ⟨0x3001000, 0x8, 11264, [⟨63, 60, .ro, .const 0⟩, ⟨59, 56, .ro, .const 0⟩, ⟨47, 32, .ro, .const 0⟩, ⟨31, 0, .ro, .const 0⟩]⟩,
    ⟨0x3800000, 0x8, 1, [⟨63, 63, .ro, .const 0⟩, ⟨62, 62, .ro, .const 0⟩, ⟨61, 61, .ro, .const 0⟩, ⟨55, 52, .ro, .part .rootRevoked⟩, ⟨51, 50, .ro, .boot⟩]⟩,
    ⟨0x3800008, 0x8, 1, [⟨31, 16, .ro, .part .svnMin⟩, ⟨15, 0, .ro, .boot⟩]⟩,
    ⟨0x100000000, 0x4, 1, [⟨31, 0, .ro, .const 2⟩]⟩,
    ⟨0x100000004, 0x4, 1, [⟨31, 0, .rw, .const 0⟩]⟩,
    ⟨0x100000008, 0x4, 1, [⟨16, 16, .rw, .const 0⟩, ⟨15, 12, .rw, .const 0⟩, ⟨11, 8, .rw, .const 0⟩, ⟨7, 4, .rw, .const 0⟩, ⟨3, 0, .rw, .const 0⟩]⟩,
    ⟨0x10000000c, 0x4, 1, [⟨31, 0, .rw, .const 0⟩]⟩,
    ⟨0x100000010, 0x4, 1, [⟨31, 0, .rw, .const 0⟩]⟩,
    ⟨0x100000014, 0x4, 1, [⟨31, 0, .rw, .const 0⟩]⟩ ]

/-- Rows 176 to 191 of the register table. -/
def regTable11 : List RegDesc :=
  [ ⟨0x100000018, 0x4, 1, [⟨31, 0, .rw, .const 0⟩]⟩,
    ⟨0x10000001c, 0x4, 1, [⟨19, 0, .rw, .const 0⟩]⟩,
    ⟨0x100000020, 0x4, 1, [⟨31, 0, .rw, .const 0⟩]⟩,
    ⟨0x100000024, 0x4, 1, [⟨19, 0, .rw, .const 0⟩]⟩,
    ⟨0x100000028, 0x4, 1, [⟨31, 0, .rw, .const 0⟩]⟩,
    ⟨0x10000002c, 0x4, 1, [⟨19, 0, .rw, .const 0⟩]⟩,
    ⟨0x100000030, 0x4, 1, [⟨0, 0, .wo, .const 0⟩]⟩,
    ⟨0x100000034, 0x4, 1, [⟨31, 31, .ro, .const 0⟩, ⟨15, 8, .ro, .const 0⟩, ⟨7, 0, .ro, .const 0⟩]⟩,
    ⟨0x100000038, 0x4, 1, [⟨31, 0, .ro, .const 0⟩]⟩,
    ⟨0x200000000, 0x4, 1, [⟨19, 16, .ro, .const 1⟩, ⟨15, 0, .ro, .part .variant⟩]⟩,
    ⟨0x200000004, 0x4, 1, [⟨31, 16, .ro, .const 0⟩, ⟨15, 0, .ro, .const 0⟩]⟩,
    ⟨0x200000008, 0x4, 1, [⟨6, 6, .w1c, .const 0⟩, ⟨5, 5, .w1c, .const 0⟩, ⟨4, 4, .w1c, .const 0⟩, ⟨3, 3, .w1c, .const 0⟩, ⟨2, 2, .w1c, .const 0⟩, ⟨1, 1, .w1c, .const 0⟩, ⟨0, 0, .w1c, .const 0⟩]⟩,
    ⟨0x200000010, 0x4, 1, [⟨31, 16, .wo, .const 0⟩, ⟨15, 0, .wo, .const 0⟩]⟩,
    ⟨0x200000014, 0x4, 1, [⟨31, 24, .wo, .const 0⟩, ⟨23, 16, .wo, .const 0⟩, ⟨15, 0, .wo, .const 0⟩]⟩,
    ⟨0x200000018, 0x4, 1, [⟨31, 24, .rc, .const 0⟩, ⟨23, 16, .rc, .const 0⟩, ⟨15, 0, .ro, .const 0⟩]⟩,
    ⟨0x20000001c, 0x4, 1, [⟨31, 0, .ro, .part .uidLo⟩]⟩ ]

/-- Rows 192 to 192 of the register table. -/
def regTable12 : List RegDesc :=
  [ ⟨0x200000020, 0x4, 1, [⟨31, 0, .ro, .part .uidHi⟩]⟩ ]

/-- Every register of the three windows, in rising address (the register maps of the chapters). -/
def regTable : List RegDesc :=
  regTable0 ++ regTable1 ++ regTable2 ++ regTable3 ++ regTable4 ++ regTable5 ++ regTable6 ++ regTable7 ++ regTable8 ++ regTable9 ++ regTable10 ++ regTable11 ++ regTable12

/-- The register at a key with its index in its array, if one is there. -/
def findReg (key : Nat) : List RegDesc → Option (RegDesc × Nat)
  | [] => none
  | d :: ds =>
    if d.base ≤ key ∧ (key - d.base) % d.stride = 0 ∧ (key - d.base) / d.stride < d.count then
      some (d, (key - d.base) / d.stride)
    else findReg key ds

/-- The bits a field covers. -/
def fieldMask (hi lo : Nat) : W64 := BitVec.ofNat 64 ((2 ^ (hi + 1 - lo) - 1) * 2 ^ lo)

/-- The value a Reset column entry gives register number `i` of an array of part `p` (R21). -/
def Reset.value (p : Part) (i : Nat) : Reset → Nat
  | .const n => n
  | .boot => 0
  | .part k =>
    match k with
    | .variant => p.variant.code
    | .fp64 => if p.variant.hasFp64 then 1 else 0
    | .twin => if p.variant.hasTwin then 1 else 0
    | .hbm => 2 ^ (2 * p.variant.dies) - 1
    | .die => 2 ^ p.variant.dies - 1
    | .deviceId => p.variant.deviceId
    | .vendorId => p.vendorId.toNat
    | .revision => p.revision.toNat
    | .rom => p.romVersion.toNat
    | .uid => p.uid.toNat
    | .phases => p.variant.phasesFitted i
    | .phasesOk => if p.variant.hasRegion i then 2 ^ p.variant.phasesFitted i - 1 else 0
    | .cellsOk => 15
    | .ceiling => min p.variant.maxPower 2200
    | .fusedMv => (p.fusedEntry i).mv.toNat
    | .sensorStack => p.variant.sensorStack i
    | .sensorPaired => p.variant.sensorPaired i
    | .rootRevoked => p.rootRevoked.toNat
    | .svnMin => p.svnMin.toNat
    | .uidLo => p.uid.toNat % 2 ^ 32
    | .uidHi => p.uid.toNat / 2 ^ 32

/-- The reset word of a register from its field rows. -/
def resetWord (p : Part) (i : Nat) : List FieldDesc → W64
  | [] => 0
  | f :: fs => BitVec.ofNat 64 ((f.reset.value p i % 2 ^ (f.hi + 1 - f.lo)) * 2 ^ f.lo) ||| resetWord p i fs

/-- What the register at a key holds on entry to BOOT (R21); a key with no register reads zero (R413). -/
def regReset (p : Part) (key : Nat) : W64 :=
  match findReg key regTable with
  | some (d, i) => resetWord p i d.fields
  | none => 0

/-- The mask of a register's bits whose access type satisfies `q`. -/
def accMask (q : Access → Bool) : List FieldDesc → W64
  | [] => 0
  | f :: fs => (if q f.acc then fieldMask f.hi f.lo else 0) ||| accMask q fs

end Sys2Proof.Machine
end

