-- ==== Sys2Proof/Machine/Ops.lean ====
section
/-! DEFINITION. The operations that every meaning is written over: the register file and its fields, the free
values, module memory, outputs, the management alerts and the device state (R16 to R21, R414, R415, R436, R473). -/

namespace Sys2Proof.Machine

/-! ### Bytes -/

/-- The `n` low bytes of a number, the least significant first (R16). -/
def leBytes : Nat → Nat → List Byte
  | 0, _ => []
  | n + 1, v => BitVec.ofNat 8 v :: leBytes n (v / 256)

/-- The number a little-endian byte list spells. -/
def ofLeBytes : List Byte → Nat
  | [] => 0
  | b :: bs => b.toNat + 256 * ofLeBytes bs

/-- The number a big-endian byte list spells. -/
def ofBeBytes (bs : List Byte) : Nat := bs.foldl (fun n b => 256 * n + b.toNat) 0

/-- The `n` low bytes of a number, the most significant first. -/
def beBytes (n v : Nat) : List Byte := (leBytes n v).reverse

/-- `n` bytes of a list from offset `off`, zero beyond its end. -/
def sliceBytes (bs : List Byte) (off n : Nat) : List Byte :=
  let part := (bs.drop off).take n
  part ++ List.replicate (n - part.length) 0

/-- The little-endian field of `n` bytes at offset `off`. -/
def fieldAt (bs : List Byte) (off n : Nat) : Nat := ofLeBytes (sliceBytes bs off n)

/-! ### Registers -/

/-- The bits `hi:lo` of a register value. -/
def extractBits (w : W64) (hi lo : Nat) : Nat := w.toNat / 2 ^ lo % 2 ^ (hi + 1 - lo)

/-- A register value with its bits `hi:lo` replaced. -/
def insertBits (w : W64) (hi lo v : Nat) : W64 :=
  (w &&& ~~~(fieldMask hi lo)) ||| BitVec.ofNat 64 (v % 2 ^ (hi + 1 - lo) * 2 ^ lo)

/-- What the register file holds at a key. -/
def State.rd (s : State) (key : Nat) : W64 := sparseGet (regReset s.part key) key s.regs

/-- Write the register file at a key. -/
def State.wr (s : State) (key : Nat) (v : W64) : State :=
  { s with regs := sparsePut (regReset s.part key) key v s.regs }

/-- The value of a field. -/
def State.get (s : State) (f : Field) : Nat := extractBits (s.rd f.reg) f.hi f.lo

/-- Set a field. -/
def State.set (s : State) (f : Field) (v : Nat) : State := s.wr f.reg (insertBits (s.rd f.reg) f.hi f.lo v)

/-- Whether a one-bit field is 1. -/
def State.flag (s : State) (f : Field) : Bool := decide (s.get f = 1)

/-- Set a one-bit field from a Bool. -/
def State.setFlag (s : State) (f : Field) (b : Bool) : State := s.set f (if b then 1 else 0)

/-- The width of a field. -/
def Field.width (f : Field) : Nat := f.hi + 1 - f.lo

/-- Add to a counter field, saturating (R20). -/
def State.bump (s : State) (f : Field) (n : Nat) : State := s.set f (satCount f.width (s.get f + n))

/-! ### Outputs and free values -/

/-- Put something out. -/
def State.emit (s : State) (o : Out) : State := { s with out := o :: s.out }

/-- A free 64-bit value and the state that has taken it (log 2). -/
def State.freeWord (s : State) : W64 × State := (Config.freeWord s.fresh, { s with fresh := s.fresh + 1 })

/-- `n` free bytes (log 2). -/
def State.freeBytes (s : State) (n : Nat) : List Byte × State :=
  ((List.range n).map (fun i => Config.freeByte (s.fresh + i)), { s with fresh := s.fresh + n })

/-- What a local copy of DTIME reads at a hub time: up to 6 ns less, and never less than it has read before (R47, R48, log 108). -/
def localTime (copy t : Nat) : Nat := ((List.range 7).map (fun k => t - k - Config.localLag copy (t - k) % 7)).foldl max 0

/-! ### Module memory (R192, R388, R436) -/

/-- Module memory in canonical form: addresses strictly rising and no entry equal to the zero that an unlisted address reads as
(log 9). -/
def Memory.wf (m : List (Nat × Byte)) : Bool := sparseWf (fun _ => (0 : Byte)) m

/-- The byte of an HBM4E stack at a module address. -/
def State.readByte (s : State) (a : Nat) : Byte := sparseGet 0 a s.mem

/-- Write one byte. -/
def State.writeByte (s : State) (a : Nat) (b : Byte) : State := { s with mem := sparsePut 0 a b s.mem }

/-- `n` bytes from address `a`. -/
def State.readBytes (s : State) (a n : Nat) : List Byte := (List.range n).map (fun i => s.readByte (a + i))

/-- Write bytes from address `a` upward. -/
def State.writeBytes (s : State) (a : Nat) : List Byte → State
  | [] => s
  | b :: bs => State.writeBytes (s.writeByte a b) (a + 1) bs

/-- Whether the 64-byte transfer at `line` lies wholly within `n` bytes from `a`. -/
def coversLine (a n line : Nat) : Bool := decide (a ≤ line) && decide (line + 64 ≤ a + n)

/-- A write by any writer: it passes through the slice of its address (R195), stores its bytes, and clears the error of each
transfer it covers whole (R436). -/
def State.storeBy (s : State) (bypass : Bool) (a : Nat) (bs : List Byte) : State :=
  let t := (s.touchCache a bs.length true bypass).writeBytes a bs
  { t with badLines := t.badLines.filter (fun line => !coversLine a bs.length line) }

/-- A write without a stream's hint, or with ALLOCATE. -/
def State.store (s : State) (a : Nat) (bs : List Byte) : State := s.storeBy false a bs

/-- Whether any 64-byte transfer that `n` bytes from `a` touch is bad. -/
def State.touchesBad (s : State) (a n : Nat) : Bool :=
  s.badLines.any (fun line => decide (line < a + n) && decide (a < line + 64))

/-- Mark the transfer of an address bad (R436). -/
def State.markBad (s : State) (a : Nat) : State :=
  let line := a / 64 * 64
  if s.badLines.contains line then s else { s with badLines := line :: s.badLines }

/-- The contents of stack `n` are lost: nothing of it is listed or cached, and none of its transfers is bad. -/
def State.loseStack (s : State) (n : Nat) : State :=
  { s with
    mem := s.mem.filter (fun c => !(isHbm c.1 && addrStack c.1 == n))
    badLines := s.badLines.filter (fun a => !(isHbm a && addrStack a == n))
    cache := s.cache.filter (fun x => !(stackOfSet x.1 == n)) }

/-- The contents of every stack are lost. -/
def State.loseHbm (s : State) : State :=
  { s with mem := s.mem.filter (fun c => !isHbm c.1), badLines := s.badLines.filter (fun a => !isHbm a), cache := [] }

/-! ### Management alerts and pins (R473, R474, R477) -/

/-- Set a bit of MG_ALERT; ALERT_N goes low with the first. -/
def State.raiseAlert (s : State) (bit : Nat) : State :=
  let s' := { s with hold := { s.hold with alert := s.hold.alert ||| BitVec.ofNat 7 (2 ^ bit) } }
  if s.hold.alert = 0 then s'.emit (.pin .alert true) else s'

/-- Clear bits of MG_ALERT; ALERT_N is released when none remains. -/
def State.clearAlert (s : State) (mask : BitVec 7) : State :=
  let s' := { s with hold := { s.hold with alert := s.hold.alert &&& ~~~mask } }
  if s.hold.alert ≠ 0 ∧ s.hold.alert &&& ~~~mask = 0 then s'.emit (.pin .alert false) else s'

/-- FAULT_N low. -/
def State.assertFaultPin (s : State) : State :=
  { s with hold := { s.hold with faultPin := true } }.emit (.pin .fault true)

/-- The bits MG_ALERT numbers (Table 15-7). -/
inductive Alert where
  | holdupStop | regionDark | cellFailed | thermalTrip | coolantStop | fault | pcieDown
  deriving DecidableEq, Repr

/-- The bit of an alert. -/
def Alert.bit : Alert → Nat
  | .holdupStop => 0
  | .regionDark => 1
  | .cellFailed => 2
  | .thermalTrip => 3
  | .coolantStop => 4
  | .fault => 5
  | .pcieDown => 6

/-! ### Events (R424 to R426) -/

/-- The severities of Table 13-11. -/
inductive Severity where
  | info | warn | error | fatal
  deriving DecidableEq, Repr

/-- The code of a severity. -/
def Severity.code : Severity → Nat
  | .info => 0
  | .warn => 1
  | .error => 2
  | .fatal => 3

/-- An event of Table 13-12a or Table 14-17, with the alert it also raises on the management bus. -/
structure EventKind where
  code : Nat
  severity : Severity
  alert : Option Alert
  deriving DecidableEq, Repr

namespace Ev

def stateChanged : EventKind := ⟨0x0101, .info, none⟩
def eventsLost : EventKind := ⟨0x0102, .warn, none⟩
def badRegAccess : EventKind := ⟨0x0103, .warn, none⟩
def mailboxError : EventKind := ⟨0x0104, .error, none⟩
def settingsDefaulted : EventKind := ⟨0x0105, .warn, none⟩
def storeDone : EventKind := ⟨0x0106, .info, none⟩
def hostPoison : EventKind := ⟨0x0107, .error, none⟩
def numericFlag : EventKind := ⟨0x0201, .info, none⟩
def fallbackStorm : EventKind := ⟨0x0401, .warn, none⟩
def stormInRerun : EventKind := ⟨0x0402, .warn, none⟩
def sightMiss : EventKind := ⟨0x0403, .error, none⟩
def ladderTop : EventKind := ⟨0x0404, .warn, none⟩
def outlierOverflow : EventKind := ⟨0x0405, .warn, none⟩
def fallbackRequest : EventKind := ⟨0x0406, .info, none⟩
def updMasked : EventKind := ⟨0x0501, .info, none⟩
def updGradNonfinite : EventKind := ⟨0x0502, .warn, none⟩
def updParamStale : EventKind := ⟨0x0503, .warn, none⟩
def snapshotDone : EventKind := ⟨0x0504, .info, none⟩
def snapshotFailed : EventKind := ⟨0x0505, .error, none⟩
def legsReplaced : EventKind := ⟨0x0601, .warn, none⟩
def chartDataLost : EventKind := ⟨0x0602, .error, none⟩
def placementFailed : EventKind := ⟨0x0603, .error, none⟩
def placementRequest : EventKind := ⟨0x0604, .info, none⟩
def offloadLate : EventKind := ⟨0x0605, .warn, none⟩
def offloadFailed : EventKind := ⟨0x0606, .error, none⟩
def knotOverrun : EventKind := ⟨0x0801, .error, none⟩
def rendezvousMismatch : EventKind := ⟨0x0802, .error, none⟩
def collectiveStalled : EventKind := ⟨0x0803, .warn, none⟩
def arithIntegrity : EventKind := ⟨0x0804, .error, none⟩
def paceAdvisory : EventKind := ⟨0x0805, .info, none⟩
def linkDown : EventKind := ⟨0x0901, .warn, none⟩
def linkDegraded : EventKind := ⟨0x0902, .warn, none⟩
def nodeIdConflict : EventKind := ⟨0x0903, .error, none⟩
def fabricFull : EventKind := ⟨0x0904, .error, none⟩
def routeRejected : EventKind := ⟨0x0905, .warn, none⟩
def fabricLoss : EventKind := ⟨0x0906, .error, none⟩
def twinPairFailed : EventKind := ⟨0x0907, .error, none⟩
def twinLost : EventKind := ⟨0x0908, .error, none⟩
def sightingDone : EventKind := ⟨0x0909, .info, none⟩
def routeRequest : EventKind := ⟨0x090A, .info, none⟩
def routesUpdated : EventKind := ⟨0x090B, .info, none⟩
def dtimeUnaligned : EventKind := ⟨0x090C, .warn, none⟩
def twinPaired : EventKind := ⟨0x090D, .info, none⟩
def twinLinkLost : EventKind := ⟨0x090E, .warn, none⟩
def mirrorDiverged : EventKind := ⟨0x090F, .error, none⟩
def twinHandoverDone : EventKind := ⟨0x0910, .info, none⟩
def twinDetached : EventKind := ⟨0x0911, .info, none⟩
def regulatorFailed : EventKind := ⟨0x0A01, .warn, none⟩
def regionDark : EventKind := ⟨0x0A02, .error, some .regionDark⟩
def regionOvercurrent : EventKind := ⟨0x0A03, .warn, none⟩
def stageaCellFailed : EventKind := ⟨0x0A04, .error, some .cellFailed⟩
def inputLow : EventKind := ⟨0x0A05, .warn, none⟩
def inputHigh : EventKind := ⟨0x0A06, .warn, none⟩
def holdupStop : EventKind := ⟨0x0A07, .fatal, some .holdupStop⟩
def holdupFault : EventKind := ⟨0x0A08, .warn, none⟩
def capBelowFloor : EventKind := ⟨0x0B01, .warn, none⟩
def budgetLost : EventKind := ⟨0x0B02, .warn, none⟩
def reckoningDrift : EventKind := ⟨0x0B03, .warn, none⟩
def vtableFromMram : EventKind := ⟨0x0B04, .warn, none⟩
def vtableFault : EventKind := ⟨0x0B05, .error, none⟩
def vtableRestored : EventKind := ⟨0x0B06, .info, none⟩
def thermalThrottle : EventKind := ⟨0x0B07, .info, none⟩
def sensorSuspect : EventKind := ⟨0x0B08, .warn, none⟩
def sensorLost : EventKind := ⟨0x0B09, .error, none⟩
def thermalTrip : EventKind := ⟨0x0B0A, .fatal, some .thermalTrip⟩
def flowLow : EventKind := ⟨0x0B0B, .warn, none⟩
def inletHigh : EventKind := ⟨0x0B0C, .warn, none⟩
def inletLow : EventKind := ⟨0x0B0D, .warn, none⟩
def coolantStop : EventKind := ⟨0x0B0E, .error, some .coolantStop⟩
def coolantDataLost : EventKind := ⟨0x0B0F, .warn, none⟩
def ready : EventKind := ⟨0x0C01, .info, none⟩
def bootSlotFallback : EventKind := ⟨0x0C02, .warn, none⟩
def stackTrainingFailed : EventKind := ⟨0x0C03, .error, none⟩
def bridgeFailed : EventKind := ⟨0x0C04, .error, none⟩
def restoreDone : EventKind := ⟨0x0C05, .info, none⟩
def restoreRequired : EventKind := ⟨0x0C06, .error, none⟩
def unitLasting : EventKind := ⟨0x0E01, .warn, none⟩
def unitRepaired : EventKind := ⟨0x0E02, .info, none⟩
def unitRetired : EventKind := ⟨0x0E03, .warn, none⟩
def repairExhausted : EventKind := ⟨0x0E04, .error, none⟩
def eccUncorrectable : EventKind := ⟨0x0E05, .error, none⟩
def bistDone : EventKind := ⟨0x0E06, .info, none⟩
def bistSkipped : EventKind := ⟨0x0E07, .warn, none⟩
def bistAborted : EventKind := ⟨0x0E08, .warn, none⟩
def secretsCleared : EventKind := ⟨0x0E09, .info, none⟩
def debugUnlocked : EventKind := ⟨0x0E0A, .warn, none⟩
def svnRaised : EventKind := ⟨0x0E0B, .info, none⟩
def binnacleEccReset : EventKind := ⟨0x0E0C, .error, none⟩

end Ev

/-- The STEP field of a record: the step number of the role in force; all ones when no passage is loaded (Table 13-11). -/
def State.eventStep (s : State) : W64 :=
  if s.role.carried then BitVec.ofNat 64 s.role.step
  else if s.flag Reg.CAP_RUN.LOADED then s.rd Reg.CAP_STEP.STEP.reg else BitVec.allOnes 64

/-- Whether EVT_MASK keeps a code from delivery. -/
def State.eventMasked (s : State) (code : Nat) : Bool :=
  (s.rd (Reg.EVT_MASK.MASK (code / 64 % 64)).reg).getLsbD (code % 64)

/-- Queue a record, or count it as masked or lost (R426). SEQ counts every posting (R424). -/
def State.queueRecord (s : State) (e : EventKind) (args : List W64) : State :=
  let seq := s.evt.seq + 1
  let s1 := { s with evt := { s.evt with seq := seq } }
  let r : Record := ⟨seq, e.code, e.severity.code, e.alert.isSome, BitVec.ofNat 64 s.dtime, s.eventStep, args⟩
  if e.severity ≠ .fatal ∧ s.eventMasked e.code then s1.bump Reg.EVT_STATUS.MASKED 1
  else if s.evt.queue.length < 4096 then { s1 with evt := { s1.evt with queue := s1.evt.queue ++ [r] } }
  else { (s1.bump Reg.EVT_STATUS.LOST 1) with evt := { s1.evt with lostSince := s1.evt.lostSince + 1 } }

/-- Post an event with its fields in order; an event that is also signalled on the management bus sets its bit of
MG_ALERT whatever the mask holds (R424, R426, R477). -/
def State.post (s : State) (e : EventKind) (args : List Nat) : State :=
  let s1 := s.queueRecord e (args.map (BitVec.ofNat 64))
  match e.alert with
  | none => s1
  | some a => s1.raiseAlert a.bit

/-! ### The device state (R414, R415) -/

/-- Enter a device state: PREVIOUS and CAUSE are written and STATE_CHANGED is posted. FAULTED raises its alert and
FAULT_N; leaving SAFE releases TRIP_N (R474, R477). -/
def State.enter (s : State) (d : DevState) (cause : Nat) : State :=
  let s1 := (({ s with dev := d }.set Reg.CAP_STATE.PREVIOUS s.dev.code).set Reg.CAP_STATE.CAUSE cause).post
    Ev.stateChanged [s.dev.code, d.code, cause]
  let s2 := if d = .faulted then (s1.raiseAlert Alert.fault.bit).assertFaultPin else s1
  if s.dev = .safe ∧ d ≠ .safe then
    { s2 with hold := { s2.hold with tripPin := false } }.emit (.pin .trip false)
  else s2

/-- The module is armed or beyond. -/
def State.isArmed (s : State) : Bool :=
  s.dev == .armed || s.dev == .running || s.dev == .draining || s.dev == .held

/-- The cause an event gives a change of state (R415). -/
def eventCause (e : EventKind) : Nat := 0x8000 + e.code

end Sys2Proof.Machine
end

