-- ==== Sys2Proof/Machine/Interface.lean ====
section
/-! DEFINITION. The host interface's shared operations: traffic toward the host, MSI-X, mailboxes, completions, the
event ring (13_control_interface.md R409, R416 to R427). -/

namespace Sys2Proof.Machine

/-- The device may make requests toward the host: the link is up, D0, Bus Master Enable 1 (R409). -/
def State.trafficOk (s : State) : Bool :=
  decide (s.get Reg.CAP_PCIE.WIDTH ≠ 0) && decide (s.get Reg.CAP_PCIE.DSTATE = 0) && s.flag Reg.CAP_PCIE.BUS_MASTER

/-- Signal an MSI-X vector: a masked vector sets its pending bit instead (R427). -/
def State.signalVector (s : State) (v : Nat) : State :=
  if s.flag (Reg.MSIX_CTRL.MASK v) then
    let pba := (Reg.MSIX_PBA.PENDING (v / 64)).reg
    s.wr pba (s.rd pba ||| BitVec.ofNat 64 (2 ^ (v % 64)))
  else s.emit (.msix v)

/-! ### Mailboxes -/

/-- A mailbox beside its registers. -/
def State.mailbox (s : State) (m : Nat) : Mailbox := sparseGet Mailbox.idle m s.mbx

/-- Replace a mailbox. -/
def State.setMailbox (s : State) (m : Nat) (b : Mailbox) : State :=
  { s with mbx := sparsePut Mailbox.idle m b s.mbx }

/-- A cause of Table 13-5 stops a mailbox: ERROR and MAILBOX_ERROR for the first cause only (R418). -/
def State.mailboxError (s : State) (m cause : Nat) : State :=
  if s.flag (Reg.MBX_STATUS.ERROR m) then s
  else ((s.set (Reg.MBX_STATUS.ERROR m) 1).set (Reg.MBX_STATUS.ERR_CAUSE m) cause).post Ev.mailboxError [m, cause]

/-- Depth of a submission ring. -/
def State.sqDepth (s : State) (m : Nat) : Nat := 2 ^ s.get (Reg.MBX_CFG.SQ_LOG2 m)

/-- Depth of a completion ring. -/
def State.cqDepth (s : State) (m : Nat) : Nat := 2 ^ s.get (Reg.MBX_CFG.CQ_LOG2 m)

/-- A write of a value to MBX_CFG. A 0-to-1 change of ENABLE sets SQ_HEAD and CQ_TAIL to 0, drops a completion still
held and checks the depths; clearing ENABLE stops fetching and leaves a started command to its end (R416). -/
def State.writeMailboxCfg (s : State) (m : Nat) (v : W64) : State :=
  let was := s.flag (Reg.MBX_CFG.ENABLE m)
  let key := (Reg.MBX_CFG.ENABLE m).reg
  let s1 := s.wr key (v &&& 0xC000000007FFFFFF)
  if s1.flag (Reg.MBX_CFG.ENABLE m) && !was then
    let s2 := (s1.set (Reg.MBX_SQ_HEAD.HEAD m) 0).set (Reg.MBX_CQ_TAIL.TAIL m) 0
    let s3 := s2.setMailbox m { s2.mailbox m with phase := true, held := [] }
    let sq := s3.get (Reg.MBX_CFG.SQ_LOG2 m)
    let cq := s3.get (Reg.MBX_CFG.CQ_LOG2 m)
    if sq < 1 ∨ 12 < sq ∨ cq < 1 ∨ 12 < cq then s3.mailboxError m 4 else s3
  else s1

/-- A write of SQ_TAIL, the doorbell: at or beyond the depth it stops the mailbox with cause 3 (R416, R418). -/
def State.writeDoorbell (s : State) (m tail : Nat) : State :=
  let s1 := s.set (Reg.MBX_SQ_TAIL.TAIL m) tail
  if s1.get (Reg.MBX_SQ_TAIL.TAIL m) < s1.sqDepth m then s1 else s1.mailboxError m 3

/-- A write of CQ_HEAD: taken as written, and at or beyond the depth it is cause 5 (R418). -/
def State.writeCqHead (s : State) (m head : Nat) : State :=
  let s1 := s.set (Reg.MBX_CQ_HEAD.HEAD m) head
  if s1.get (Reg.MBX_CQ_HEAD.HEAD m) < s1.cqDepth m then s1 else s1.mailboxError m 5

/-- A W1C of MBX_STATUS.ERROR; ERR_CAUSE holds no cause from then on (Table 13-5). -/
def State.clearMailboxError (s : State) (m : Nat) : State :=
  (s.set (Reg.MBX_STATUS.ERROR m) 0).set (Reg.MBX_STATUS.ERR_CAUSE m) 0

/-- A completion is due: it is held for its mailbox until a slot is free, and the mailbox is no longer busy
(R417, R418). STATE is the device state at completion (Table 13-7). -/
def State.complete (s : State) (m : Nat) (tag : W16) (status : Nat) (results : List W64) : State :=
  let c : Completion := ⟨s.get (Reg.MBX_SQ_HEAD.HEAD m), s.dev.code, status, tag, results⟩
  let b := s.mailbox m
  (s.setMailbox m { b with held := b.held ++ [c], running := none }).set (Reg.MBX_STATUS.BUSY m) 0

/-- A command has started and runs on (R417). -/
def State.startRunning (s : State) (m opcode : Nat) (tag : W16) : State :=
  (s.setMailbox m { s.mailbox m with running := some ⟨opcode, tag⟩ }).set (Reg.MBX_STATUS.BUSY m) 1

/-- The 32 bytes of a completion (Table 13-7). -/
def Completion.bytes (c : Completion) (phase : Bool) : List Byte :=
  leBytes 8 (c.sqHead * 2 ^ 32 + (if phase then 2 ^ 31 else 0) + c.devState * 2 ^ 24 + c.status * 2 ^ 16 + c.tag.toNat)
    ++ (List.range 3).flatMap (fun i => leBytes 8 (c.results.getD i 0).toNat)

/-- Whether the completion ring of a mailbox has a free slot (R418). -/
def State.cqFree (s : State) (m : Nat) : Bool :=
  decide ((s.get (Reg.MBX_CQ_TAIL.TAIL m) + 1) % s.cqDepth m ≠ s.get (Reg.MBX_CQ_HEAD.HEAD m))

/-- Write a completion at CQ_TAIL with PHASE, count it and signal VECTOR (R418). -/
def State.writeCompletion (s : State) (m : Nat) (c : Completion) : State :=
  let tail := s.get (Reg.MBX_CQ_TAIL.TAIL m)
  let base := s.get (Reg.MBX_CQ_BASE.BASE m) / 4096 * 4096
  let s1 := s.emit (.hostWrite (base + 32 * tail) (c.bytes (s.mailbox m).phase))
  let next := (tail + 1) % s.cqDepth m
  let s2 := s1.set (Reg.MBX_CQ_TAIL.TAIL m) next
  let s3 := if next = 0 then s2.setMailbox m { s2.mailbox m with phase := !(s2.mailbox m).phase } else s2
  let s4 := s3.bump (Reg.MBX_STATUS.COMPLETED m) 1
  if s4.flag (Reg.MBX_CFG.INT_EN m) then s4.signalVector (s4.get (Reg.MBX_CFG.VECTOR m)) else s4

/-- The first held completion of a mailbox is written if a slot is free and the host can be reached; a failed access
stops the mailbox with cause 2 and the completion stays held (R410, R418). -/
def State.deliverCompletion (s : State) (m : Nat) (failed : Bool) : State :=
  match (s.mailbox m).held with
  | [] => s
  | c :: cs =>
    if s.cqFree m && s.trafficOk then
      if failed then s.mailboxError m 2
      else (s.setMailbox m { s.mailbox m with held := cs }).writeCompletion m c
    else s

/-- Before READY, BAR0 serves the CAP_ block and mailbox 0 alone (R393); the boot ROM of a module whose images both
failed serves mailbox 0 (R392). -/
def State.onlyMailbox0 (s : State) : Bool := !s.pcie.wasReady

/-- A mailbox from which a command may be fetched now (R416 to R418). -/
def State.canFetch (s : State) (m : Nat) : Bool :=
  s.flag (Reg.MBX_CFG.ENABLE m) && !s.flag (Reg.MBX_STATUS.ERROR m) && (s.mailbox m).running.isNone
    && (s.mailbox m).held.isEmpty && decide (s.get (Reg.MBX_SQ_HEAD.HEAD m) ≠ s.get (Reg.MBX_SQ_TAIL.TAIL m))
    && s.trafficOk && (m == 0 || !s.onlyMailbox0)

/-- The next mailbox in rotation, in ascending index, that a command may be fetched from (R417). -/
def State.nextMailbox (s : State) : Option Nat :=
  ((List.range 64).map (fun i => (s.rotation + 1 + i) % 64)).find? s.canFetch

/-! ### The event ring -/

/-- The ring runs and the host can be reached (R423, R426). -/
def State.ringRuns (s : State) : Bool :=
  s.flag Reg.EVT_RING_CFG.ENABLE && !s.flag Reg.EVT_STATUS.ERROR && s.trafficOk

/-- Depth of the event ring. -/
def State.ringDepth (s : State) : Nat := 2 ^ s.get Reg.EVT_RING_CFG.LOG2_DEPTH

/-- Signal the ring's vector now, and begin the hold-off where one is set (R423). -/
def State.signalRing (s : State) : State :=
  let s1 := s.signalVector (s.get Reg.EVT_RING_CFG.VECTOR)
  { s1 with evt := { s1.evt with owed := false, holdoff := decide (s1.get Reg.EVT_RING_CFG.HOLDOFF ≠ 0) } }

/-- A signal is owed: it goes at once for a FATAL record or when no hold-off runs, and is kept while INT_EN is 0 or
the hold-off runs (R423). -/
def State.oweSignal (s : State) (fatal : Bool) : State :=
  if s.flag Reg.EVT_RING_CFG.INT_EN && (fatal || !s.evt.holdoff) then s.signalRing
  else { s with evt := { s.evt with owed := true } }

/-- INT_EN has been set: a kept signal goes at once or at the end of a running hold-off, if records the host has not
consumed remain in the ring (R423). -/
def State.interruptEnabled (s : State) : State :=
  if s.evt.owed then
    if s.get Reg.EVT_RING_HEAD.HEAD = s.get Reg.EVT_RING_TAIL.TAIL then { s with evt := { s.evt with owed := false } }
    else if s.evt.holdoff then s else s.signalRing
  else s

/-- A write to EVT_RING_CFG: a 0-to-1 change of ENABLE sets TAIL to 0 and starts delivery, or stops the ring for a
depth outside 6–16; then a change of INT_EN to 1 acts (R423). -/
def State.writeRingCfg (s : State) (v : W64) : State :=
  let wasOn := s.flag Reg.EVT_RING_CFG.ENABLE
  let wasInt := s.flag Reg.EVT_RING_CFG.INT_EN
  let s1 := s.wr Reg.EVT_RING_CFG.ENABLE.reg (v &&& 0xC000FF0007FF001F)
  let s2 :=
    if s1.flag Reg.EVT_RING_CFG.ENABLE && !wasOn then
      let s3 := s1.set Reg.EVT_RING_TAIL.TAIL 0
      let s4 := { s3 with evt := { s3.evt with phase := true } }
      let d := s4.get Reg.EVT_RING_CFG.LOG2_DEPTH
      if d < 6 ∨ 16 < d then s4.set Reg.EVT_STATUS.ERROR 1 else s4
    else s1
  if s2.flag Reg.EVT_RING_CFG.INT_EN && !wasInt then s2.interruptEnabled else s2

/-- A write of EVT_RING_HEAD: taken as written, and at or beyond the depth it stops the ring (R423). -/
def State.writeRingHead (s : State) (head : Nat) : State :=
  let s1 := s.set Reg.EVT_RING_HEAD.HEAD head
  if s1.get Reg.EVT_RING_HEAD.HEAD < s1.ringDepth then s1 else s1.set Reg.EVT_STATUS.ERROR 1

/-- The 64 bytes of a record (Table 13-11). -/
def Record.bytes (r : Record) (phase : Bool) : List Byte :=
  leBytes 8 (r.seq.toNat * 2 ^ 32 + (if phase then 2 ^ 31 else 0) + (if r.mgmt then 2 ^ 18 else 0)
      + r.severity * 2 ^ 16 + r.code)
    ++ leBytes 8 r.dtime.toNat ++ leBytes 8 r.step.toNat
    ++ (List.range 5).flatMap (fun i => leBytes 8 (r.args.getD i 0).toNat)

/-- Post EVENTS_LOST with the count of records dropped since the last one (R426). -/
def State.reportLost (s : State) : State :=
  if s.evt.lostSince = 0 then s
  else { s with evt := { s.evt with lostSince := 0 } }.post Ev.eventsLost [s.evt.lostSince]

/-- The oldest queued record goes into a free slot of a running ring, in SEQ order; a failed access stops the ring
and the record stays queued (R410, R423, R426). -/
def State.deliverRecord (s : State) (failed : Bool) : State :=
  match s.evt.queue with
  | [] => s
  | r :: rs =>
    let tail := s.get Reg.EVT_RING_TAIL.TAIL
    let next := (tail + 1) % s.ringDepth
    if s.ringRuns && decide (next ≠ s.get Reg.EVT_RING_HEAD.HEAD) then
      if failed then s.set Reg.EVT_STATUS.ERROR 1
      else
        let base := s.get Reg.EVT_RING_BASE.BASE / 4096 * 4096
        let s1 := s.emit (.hostWrite (base + 64 * tail) (r.bytes s.evt.phase))
        let s2 := s1.set Reg.EVT_RING_TAIL.TAIL next
        let s3 := { s2 with evt := { s2.evt with queue := rs, phase := if next = 0 then !s2.evt.phase else s2.evt.phase } }
        (s3.oweSignal (decide (r.severity = Severity.fatal.code))).reportLost
    else s

/-- The hold-off ends: an owed signal goes, if INT_EN is 1 and the host can be reached (R423). -/
def State.holdoffEnds (s : State) : State :=
  let s1 := { s with evt := { s.evt with holdoff := false } }
  if s1.evt.owed && s1.flag Reg.EVT_RING_CFG.INT_EN && s1.trafficOk then s1.signalRing else s1

/-! ### The frame of a command -/

/-- Statuses of Table 13-9. -/
inductive Status where
  | ok | stateConflict | unitAbsent | busy | badArgument | badCommand | notAdmin | loadRefused | authFailed | worn
  | hostFault | aborted
  deriving DecidableEq, Repr

/-- The code of a status. -/
def Status.code : Status → Nat
  | .ok => 0x00
  | .stateConflict => 0x01
  | .unitAbsent => 0x02
  | .busy => 0x03
  | .badArgument => 0x04
  | .badCommand => 0x05
  | .notAdmin => 0x06
  | .loadRefused => 0x07
  | .authFailed => 0x08
  | .worn => 0x09
  | .hostFault => 0x0A
  | .aborted => 0x0B

/-- What a command's own rule finds, each a reason for one status of Table 13-9. -/
structure Findings where
  unusedBits : Bool
  admin : Bool
  absent : Bool
  illegal : Bool
  busy : Bool
  badArgument : Bool
  deriving DecidableEq, Repr

/-- The status that stands highest in Table 13-9 (R422). `usesHost` says that the command reads host memory. -/
def Findings.status (f : Findings) (c : Cmd) (usesHost : Bool) : Status :=
  if f.unusedBits ∨ c.rsv ≠ 0 then .badCommand
  else if f.admin ∧ c.mbx ≠ 0 then .notAdmin
  else if f.absent then .unitAbsent
  else if f.illegal then .stateConflict
  else if f.busy then .busy
  else if usesHost ∧ c.fault then .hostFault
  else if f.badArgument then .badArgument
  else .ok

/-- Complete a command with a status and results. -/
def State.finish (s : State) (c : Cmd) (st : Status) (results : List W64) : State :=
  s.complete c.mbx.val c.tag st.code results

/-- Run a command: with status OK its effect, which completes it; otherwise the completion alone, with no side
effect (R422). Nothing runs in OFF, a mailbox runs one command at a time (R417), and during an orderly stop a command
ends ABORTED (R435). -/
def State.command (s : State) (c : Cmd) (st : Status) (effect : State → State) : State :=
  if s.dev = .off ∨ (s.mailbox c.mbx.val).running.isSome = true then s
  else if s.pwr.stop.isSome then s.finish c .aborted []
  else match st with
    | .ok => effect s
    | st => s.finish c st []

/-- Whether any argument word has a bit outside its mask (R419). -/
def unusedArgs (c : Cmd) (m0 m1 m2 m3 m4 : W64) : Bool :=
  decide (c.a0 &&& ~~~m0 ≠ 0) || decide (c.a1 &&& ~~~m1 ≠ 0) || decide (c.a2 &&& ~~~m2 ≠ 0)
    || decide (c.a3 &&& ~~~m3 ≠ 0) || decide (c.a4 &&& ~~~m4 ≠ 0) || decide (c.a5 ≠ 0) || decide (c.a6 ≠ 0)

/-- The defined bits of an address argument: bit 63 and bits 50:0 for a host bus address, bit 63 and bits 51:0 for a
module address (R419). -/
def addressMask (a : W64) : W64 := if a.getLsbD 63 then 0x8007FFFFFFFFFFFF else 0x800FFFFFFFFFFFFF

/-- Nothing found against a command. -/
def Findings.none : Findings := ⟨false, false, false, false, false, false⟩

/-- An address argument names memory of which some byte lies in an absent stack (R6). -/
def State.addressAbsent (s : State) (a : W64) (n : Nat) : Bool :=
  !a.getLsbD 63 && decide (a.toNat % 2 ^ 52 < 2 ^ 39)
    && decide (s.part.variant.stacks * 2 ^ 36 < a.toNat % 2 ^ 52 + max n 1)

/-- An address argument names no memory: a module address above the HBM4E stacks, or a range that leaves them. -/
def badAddress (a : W64) (n : Nat) : Bool := !a.getLsbD 63 && decide (2 ^ 39 < a.toNat % 2 ^ 52 + n)

/-- Whether an address argument names host memory (R420). -/
def isHostAddress (a : W64) : Bool := a.getLsbD 63

/-- The bytes an address argument names: what the host returned, or the module's own memory (R420). -/
def State.argumentBytes (s : State) (c : Cmd) (a : W64) (n : Nat) : List Byte :=
  if isHostAddress a then sliceBytes c.data 0 n else s.readBytes (a.toNat % 2 ^ 52) n

/-- Write a result buffer at an address argument. -/
def State.writeBuffer (s : State) (a : W64) (bs : List Byte) : State :=
  if isHostAddress a then s.emit (.hostWrite (a.toNat % 2 ^ 51) bs) else s.store (a.toNat % 2 ^ 52) bs

/-- The ROM-only condition of R392: FAULTED for want of a firmware image. -/
def State.romOnly (s : State) : Bool := decide (s.dev = .faulted) && decide (s.get Reg.CAP_BOOT.FAIL = 1)

/-- A passage is loaded. -/
def State.loaded (s : State) : Bool := s.flag Reg.CAP_RUN.LOADED

end Sys2Proof.Machine
end

