-- ==== Sys2Proof/Machine/Units.lean ====
section
/-! DEFINITION. Units by code and by number: their records, and which of them can be used (R4, R10, R446, R463). -/

namespace Sys2Proof.Machine

/-! ### Unit records (R446, R463) -/

/-- A unit code: TYPE in bits 31:28 and INDEX in bits 27:0 (Table 14-6). -/
def unitCode (t i : Nat) : Nat := t * 2 ^ 28 + i

/-- TYPE of a unit code. -/
def unitType (u : Nat) : Nat := u / 2 ^ 28

/-- INDEX of a unit code. -/
def unitIndex (u : Nat) : Nat := u % 2 ^ 28

/-- Which BST_UNIT register a unit has (R463). -/
def unitSlot (u : Nat) : Nat := unitType u * 1024 + unitIndex u

/-- A unit is retired. -/
def State.isRetired (s : State) (u : Nat) : Bool := s.rel.retired.contains u

/-- BST_UNIT.STATE of a unit. -/
def State.setUnitState (s : State) (u v : Nat) : State := s.set (Reg.BST_UNIT.STATE (unitSlot u)) v

/-- BST_UNIT.TOTAL of a unit. -/
def State.unitTotal (s : State) (u : Nat) : Nat := s.get (Reg.BST_UNIT.TOTAL (unitSlot u))

/-- Record a retirement, without its consequences: STATE 4 and the totals (R444, R464). -/
def State.recordRetired (s : State) (u : Nat) : State :=
  if s.isRetired u then s
  else { (s.setUnitState u 4) with rel := { s.rel with
    retired := u :: s.rel.retired, totRetired := s.rel.totRetired + 1 } }

/-- HELM_RGN_STATUS.STATE: 0 OFF, 1 DEFERRED, 2 SOFT_START, 3 ON, 4 CLAMPED, 5 DARK (Table 10-11). -/
def State.regionState (s : State) (r : Nat) : Nat := s.get (Reg.HELM_RGN_STATUS.STATE r)

/-- A region beside its register window. -/
def State.region (s : State) (r : Nat) : Region := sparseGet Region.idle r s.pwr.regions

/-- A clamp holds a region's actuator: it is CLAMPED, or released with nothing restored yet (R337, R338, Table 10-4). -/
def State.halted (s : State) (r : Nat) : Bool := s.regionState r == 4 || ((s.region r).restoring && (s.region r).restored == 0)

/-- Clusters of the variant, 8 d + c. -/
def State.clusters (s : State) : List Nat := List.range (8 * s.part.variant.dies)

/-- The cluster of a physical core (R192). -/
def coreCluster (p : Nat) : Nat := p / 9

/-! ### Units in use -/

/-- Die `d` is present and start-up has not left it unused. -/
def State.dieUsed (s : State) (d : Nat) : Bool :=
  decide (d < s.part.variant.dies) && decide (s.get Reg.CAP_BOOT.DIE_UNUSED / 2 ^ d % 2 = 0)

/-- Stack `n` is present and in use: trained, of a used die, not retired, with its region and its die's uncore region
not dark (R412). -/
def State.stackInUse (s : State) (n : Nat) : Bool :=
  decide (n < s.part.variant.stacks) && s.dieUsed (n / 2) && decide (s.get Reg.CAP_BOOT.STACK_FAILED / 2 ^ n % 2 = 0)
    && !s.isRetired (unitCode 5 n) && decide (s.regionState (40 + n) ≠ 5) && decide (s.regionState (32 + n / 2) ≠ 5)

/-- Physical core `p` is usable (R10, R395, R444). -/
def State.coreUsable (s : State) (p : Nat) : Bool :=
  decide (p < 288) && s.dieUsed (p / 72) && decide (s.regionState (coreCluster p) ≠ 5)
    && decide (s.regionState (32 + p / 72) ≠ 5)
    && !s.isRetired (unitCode 1 p) && !s.isRetired (unitCode 2 (coreCluster p))

/-- The cores that a cluster gives to the numbering: its usable ones in ascending k, at most eight (R10). -/
def State.clusterCores (s : State) (c : Nat) : List Nat :=
  (((List.range 9).map (9 * c + ·)).filter s.coreUsable).take 8

/-- The physical core of logical core `n`, if it exists. -/
def State.physicalCore (s : State) (n : Nat) : Option Nat := s.boot.numbering[n]?

/-- The cluster of a logical core. -/
def State.clusterOf (s : State) (n : Nat) : Nat := coreCluster ((s.physicalCore n).getD 0)

/-- The die of a logical core. -/
def State.dieOf (s : State) (n : Nat) : Nat := s.clusterOf n / 8

/-- A core's engines skip their issue slots: its cluster is clamped or, for F, G, V and U, in a droop (R336, Table 10-4). -/
def State.skipsIssue (s : State) (core : Nat) : Bool := s.halted (s.clusterOf core) || (s.region (s.clusterOf core)).skipping

/-- A hub region is clamped: the crossbar admits no new request from a port or the twin link (Table 10-4). Requests from the host
are served all the same: only their time would change (DESIGN CHOICE, log 112). -/
def State.hubHalted (s : State) : Bool := (List.range 4).any (fun q => s.halted (36 + q))

end Sys2Proof.Machine
end

