-- ==== Sys2Proof/Machine/Helm.lean ====
section
/-! DEFINITION. The Helm: caps and bubbles, operating points, thermal control, the Reckoning model and the coolant
rules (spec/11_power_and_thermal_control.md), with the measurements of R329 and R340 that the fast loop takes. -/

namespace Sys2Proof.Machine

/-! ### Power regions (shared with Power.lean) -/

/-- Replace a region. -/
def State.setRegion (s : State) (r : Nat) (x : Region) : State :=
  { s with pwr := { s.pwr with regions := sparsePut Region.idle r x s.pwr.regions } }

/-- The region regulates: ON or CLAMPED. -/
def State.regulating (s : State) (r : Nat) : Bool := s.regionState r == 3 || s.regionState r == 4

/-- Regions of the variant. -/
def State.regions (s : State) : List Nat := (List.range 48).filter s.part.variant.hasRegion

/-- The regions whose bubble level applies to a cluster (R357). -/
def levelRegions (i : Nat) : List Nat :=
  [i, 32 + i / 8, 36, 37, 38, 39, 40 + 2 * (i / 8), 41 + 2 * (i / 8)]

/-! ### Limits on power (Table 11-1) -/

/-- HELM_STAGEA.CEILING_W from the healthy cells (Table 10-1a). -/
def stageCeiling (v : Variant) (cells : Nat) : Nat := min v.maxPower (550 * cells)

/-- How many bits of a number below 2^n are set. -/
def popCount : Nat → Nat → Nat
  | 0, _ => 0
  | n + 1, v => v % 2 + popCount n (v / 2)

/-- C_V from the input voltage in 10 mV (R352). -/
def inputVoltageLimit (ceiling vin : Nat) : Nat :=
  if 6400 ≤ vin then ceiling
  else if 5600 ≤ vin then 300 + (ceiling - 300) * (vin - 5600) / 800
  else 300

/-- The floor hold of limit 9: the undervoltage timer runs or a coolant stop holds (R352, R380). -/
def State.floorHold (s : State) : Bool :=
  s.flag Reg.HELM_IN_STATUS.UNDER_56 || s.flag Reg.HELM_THERMAL.COOLANT_STOP

/-- A requested value as it acts: at most CEILING_W (R354). -/
def State.actingCap (s : State) (w : Nat) : Nat := min w (s.get Reg.HELM_STAGEA.CEILING_W)

/-- Host-assisted capping is in force. -/
def State.cappingAssisted (s : State) : Bool := s.flag Reg.CAP_DUTY_MODE.CAPPING

/-- The budget limit stands: a budget was received, BUDGET_EN is 1 and capping is in hardware mode (Table 11-1). -/
def State.budgetApplies (s : State) : Bool :=
  s.flag Reg.HELM_LIMITS.BUDGET_VALID && s.flag Reg.HELM_CAP.BUDGET_EN && !s.cappingAssisted

/-- The limits of Table 11-1 that apply, as code and watts. -/
def State.limits (s : State) : List (Nat × Nat) :=
  let ceiling := s.get Reg.HELM_STAGEA.CEILING_W
  let vin := s.get Reg.HELM_IN_STATUS.VIN
  [(1, s.actingCap (s.get Reg.HELM_CAP.HOST_CAP_W))]
    ++ (if s.budgetApplies then [(2, s.actingCap (s.get Reg.HELM_LIMITS.BUDGET_W))] else [])
    ++ (if s.flag Reg.HELM_IN_STATUS.UNDER_56 then [] else [(3, inputVoltageLimit ceiling vin)])
    ++ [(4, vin * 38 / 100), (5, ceiling)]
    ++ (if s.cappingAssisted then [] else [(6, s.helm.flowLimit), (7, s.helm.inletLimit)])
    ++ (if s.flag Reg.HELM_THERMAL.DATA_LOST then [(8, ceiling / 2)] else [])
    ++ (if s.floorHold then [(9, s.get Reg.HELM_CAP_STATUS.FLOOR_W)] else [])

/-- The smallest limit, the lower code on a tie, against the maximum sustained power, whose code is 0 (R351). -/
def bindingLimit (top : Nat) (ls : List (Nat × Nat)) : Nat × Nat :=
  ls.foldl (fun best l => if l.2 < best.2 then l else best) (0, top)

/-- Compute C_eff and what reports it (R351). -/
def State.computeCap (s : State) : State :=
  let best := bindingLimit s.part.variant.maxPower s.limits
  let ceiling := s.get Reg.HELM_STAGEA.CEILING_W
  let s1 := (s.set Reg.HELM_CAP_STATUS.EFFECTIVE_W best.2).set Reg.HELM_CAP_STATUS.LIMIT best.1
  let s2 := s1.setFlag Reg.HELM_CAP_STATUS.FLOOR_HOLD s.floorHold
  let s3 := s2.setFlag Reg.HELM_CAP_STATUS.HOST_ASSISTED s.cappingAssisted
  let s4 := s3.set Reg.HELM_LIMITS.VIN_LIMIT_W (inputVoltageLimit ceiling (s.get Reg.HELM_IN_STATUS.VIN))
  s4.set Reg.HELM_LIMITS.COOL_LIMIT_W
    (if s.flag Reg.HELM_THERMAL.DATA_LOST then ceiling / 2 else min s.helm.flowLimit s.helm.inletLimit)

/-- The smaller of host cap and budget, as requested (R354). -/
def State.requestedCap (s : State) : Nat :=
  if s.budgetApplies ∧ s.get Reg.HELM_LIMITS.BUDGET_W ≠ 0xFFFF then
    min (s.get Reg.HELM_CAP.HOST_CAP_W) (s.get Reg.HELM_LIMITS.BUDGET_W)
  else s.get Reg.HELM_CAP.HOST_CAP_W

/-- Compare the request with the present floor: CAP_BELOW_FLOOR is posted when it falls below, and again only after
it has stood at FLOOR_W + 16 W or above (R354). -/
def State.checkFloor (s : State) : State :=
  let req := s.requestedCap
  let fl := s.get Reg.HELM_CAP_STATUS.FLOOR_W
  let s1 := s.setFlag Reg.HELM_CAP_STATUS.BELOW_FLOOR (decide (req < fl))
  if req < fl then
    if s.helm.belowPosted then s1
    else { s1 with helm := { s1.helm with belowPosted := true } }.post Ev.capBelowFloor [req, fl]
  else if fl + 16 ≤ req then { s1 with helm := { s1.helm with belowPosted := false } }
  else s1

/-- A write to HELM_CAP (R351, R354). -/
def State.writeCap (s : State) (v : W64) : State :=
  let s1 := s.wr Reg.HELM_CAP.HOST_CAP_W.reg (v &&& 0x1FFFF)
  if s1.helm.loopsRunning then s1.computeCap.checkFloor else s1

/-! ### The fast loop (R356 to R358) -/

/-- RAMP_STEP; 0 acts as 1 (Table 11-10). -/
def State.rampStep (s : State) : Nat := max 1 (s.get Reg.HELM_CTRL_CFG.RAMP_STEP)

/-- The bubble level b after one update. Powers are in units of 0.1 mW: the input power, C_eff, the excess over 38 A;
`pdyn` likewise (R356). -/
def nextBubble (b ramp : Nat) (hold : Bool) (p cap overCurrent pdyn : Nat) : Nat :=
  let e := max (p - cap) overCurrent
  if hold then 240
  else if 0 < e then min 240 (b + ceilDiv (256 * e) (max pdyn 640000))
  else if 100 * p < 98 * cap then b - ramp
  else b

/-- The level b_r of a region after one update (R357); currents in 10 mA. -/
def nextLevel (b ramp current limit : Nat) : Nat :=
  if limit < current then min 240 (b + ceilDiv (256 * (current - limit)) current)
  else if 100 * current < 98 * limit then b - ramp
  else b

/-- B_c of a cluster (R358). -/
def State.clusterBubble (s : State) (i : Nat) : Nat :=
  let rs := (levelRegions i).map (fun r => (s.region r).level)
  min 240 (max (max (s.get Reg.HELM_CAP_STATUS.BUBBLE) (s.get (Reg.HELM_CL_STATUS.B_T i))) (rs.foldl max 0))

/-- Slots of the first `n` ECLK cycles that level `b` skips (R358): the pattern telescopes. -/
def skippedSlots (b n : Nat) : Nat := n / 256 * b + n % 256 * b / 256

/-- ECLK in MHz at an index (R361). -/
def eclkMhz (p : Nat) : Nat := 400 + 50 * p

/-- Apply B_c to a cluster for one microsecond and count the bubbled cycles (R358). -/
def State.applyBubbles (s : State) (i : Nat) : State :=
  let b := s.clusterBubble i
  let n := sparseGet 0 i s.helm.cycles
  let n' := n + (if s.regulating i then eclkMhz (s.get (Reg.HELM_CL_STATUS.INDEX i)) else 0)
  let s1 := s.set (Reg.HELM_CL_STATUS.B_C i) b
  let s2 := s1.bump (Reg.HELM_CL_BUBBLES.CYCLES i) (skippedSlots b n' - skippedSlots b n)
  { s2 with helm := { s2.helm with cycles := sparsePut 0 i (n' % 256) s2.helm.cycles } }

/-- Take one input sample into the registers and the minimum capture (R329, R340); INPUT_HIGH ends at 80 V or below
(Table 10-1). -/
def State.takeInput (s : State) (vin iin vbank : W16) : State :=
  let s1 := ((s.set Reg.HELM_IN_STATUS.VIN vin.toNat).set Reg.HELM_IN_STATUS.IIN iin.toNat).set
    Reg.HELM_IN_STATUS.VBANK vbank.toNat
  let s2 := if vin.toNat ≤ 8000 then s1.set Reg.HELM_IN_STATUS.INPUT_HIGH 0 else s1
  if !s2.pwr.inputCaptured || decide (vin.toNat < s2.get Reg.HELM_IN_MIN.VIN_MIN) then
    let s3 := (s2.set Reg.HELM_IN_MIN.VIN_MIN vin.toNat).set Reg.HELM_IN_MIN_TIME.DTIME s2.dtime
    { s3 with pwr := { s3.pwr with inputCaptured := true } }
  else s2

/-- Report a region's current and move its level b_r (R337, R357). -/
def State.takeCurrent (s : State) (r : Nat) (current : W16) : State :=
  if s.part.variant.hasRegion r then
    let s1 := s.set (Reg.HELM_RGN_STATUS.CURRENT r) current.toNat
    if s1.helm.loopsRunning then
      let x := s1.region r
      s1.setRegion r { x with level := nextLevel x.level s1.rampStep current.toNat (regionLimit r) }
    else s1
  else s

/-- One update of the fast loop (R356). -/
def State.fastLoop (s : State) (f : FastSample) : State :=
  let s1 := s.takeInput f.vin f.iin f.vbank
  let s2 := f.currents.foldl (fun t c => t.takeCurrent c.1.val c.2) s1
  if s2.helm.loopsRunning then
    let s3 := s2.computeCap.checkFloor
    let p := f.vin.toNat * f.iin.toNat
    let excess := f.vin.toNat * (f.iin.toNat - 3800)
    let b := nextBubble (s3.get Reg.HELM_CAP_STATUS.BUBBLE) s3.rampStep s3.floorHold p
      (s3.get Reg.HELM_CAP_STATUS.EFFECTIVE_W * 10000) excess (s3.helm.pdyn * 10)
    let s4 := s3.set Reg.HELM_CAP_STATUS.BUBBLE b
    s4.clusters.foldl State.applyBubbles s4
  else s2

/-! ### Activity and filler (R359, R360) -/

/-- Measure a core's activity and set its limits for the next microsecond (R359, R360). -/
def State.coreActivity (s : State) (p : Nat) (c : CoreSample) : State :=
  let total := c.fTotal + 2 * c.gTotal
  let a := if total = 0 then 0 else 256 * (c.fReal + c.fFiller + 2 * (c.gReal + c.gFiller)) / total
  let barred := s.regionState (coreCluster p) == 4 || s.regionState (coreCluster p) == 1
    || s.dev == .safe || s.dev == .faulted
  let filler := if s.flag Reg.HELM_CTRL_CFG.FILLER_EN && !barred then a - s.rampStep else 0
  let s1 := s.bump (Reg.HELM_CL_FILLER.CYCLES (coreCluster p)) c.fillerCycles
  { s1 with helm := { s1.helm with
      activity := sparsePut CoreActivity.idle p ⟨a, min 256 (a + s.rampStep), filler⟩ s1.helm.activity } }

/-! ### Sensors (R373 to R376) -/

/-- A 12-bit two's-complement temperature in eighths of a degree. -/
def tempOf (v : Nat) : Int := if v < 2048 then v else (v : Int) - 4096

/-- The 12-bit code of a temperature, saturated (Table 11-11). -/
def tempCode (t : Int) : Nat := ((max (-2048) (min 2047 t)) % 4096).toNat

/-- A plausible reading of a sensor (R374). -/
def State.plausible (s : State) (i : Nat) : Option Int :=
  if s.part.variant.hasSensor i && s.flag (Reg.HELM_SENSOR.VALID i) then some (tempOf (s.get (Reg.HELM_SENSOR.TEMP i)))
  else none

/-- The higher of two readings where both are there. -/
def maxReading : Option Int → Option Int → Option Int
  | none, y => y
  | x, none => x
  | some x, some y => some (max x y)

/-- The governing reading of the hot spot a sensor belongs to (R374, R375). -/
def State.governing (s : State) (i : Nat) : Option Int :=
  match sensorMate i with
  | none => s.plausible i
  | some j => maxReading (s.plausible i) (s.plausible j)

/-- The highest governing reading among some sensors. -/
def State.highest (s : State) (is : List Nat) : Option Int :=
  is.foldl (fun t i => maxReading t (s.governing i)) none

/-- The sensors of one die, its stacks among them; the hub's for none (R376). -/
def sensorsOf (d : Option Nat) : List Nat := (List.range 144).filter (fun i => sensorDie i == d)

/-- What a hot spot is taken to read: its governing reading or the substitute of R376, in eighths. -/
def State.spotReading (s : State) (i : Nat) : Int :=
  match s.governing i with
  | some t => t
  | none =>
    match s.highest (sensorsOf (sensorDie i)) with
    | some t => t + 80
    | none =>
      match s.highest (List.range 144) with
      | some t => t + 80
      | none => 760

/-- The hottest of some hot spots. -/
def State.hottestOf (s : State) (is : List Nat) : Int := is.foldl (fun t i => max t (s.spotReading i)) (-160)

/-- The first sensor of each hot spot that is fitted. -/
def State.spots (s : State) : List Nat :=
  (List.range 144).filter (fun i => s.part.variant.hasSensor i &&
    match sensorMate i with
    | some j => decide (i < j)
    | none => true)

/-- Store a sample of a sensor (R374, Table 11-11). -/
def State.takeSensor (s : State) (i : Nat) (r : SensorReading) : State :=
  match r with
  | .openShort =>
    (((s.set (Reg.HELM_SENSOR.OPEN_SHORT i) 1).set (Reg.HELM_SENSOR.OUT_OF_RANGE i) 0).set
      (Reg.HELM_SENSOR.VALID i) 0).set (Reg.HELM_SENSOR.TEMP i) (tempCode (sparseGet 0 i s.helm.lastTemp))
  | .temp t =>
    let ok := decide (-160 ≤ t) && decide (t ≤ 1200)
    let s1 := (((s.set (Reg.HELM_SENSOR.OPEN_SHORT i) 0).setFlag (Reg.HELM_SENSOR.OUT_OF_RANGE i) (!ok)).setFlag
      (Reg.HELM_SENSOR.VALID i) ok).set (Reg.HELM_SENSOR.TEMP i) (tempCode t)
    if ok then { s1 with helm := { s1.helm with lastTemp := sparsePut 0 i t s1.helm.lastTemp } } else s1

/-- Post SENSOR_LOST for hot spots that begin to use a substitute, and show whether any does (R376). -/
def State.checkLostSpots (s : State) : State :=
  let lost := s.spots.filter (fun i => (s.governing i).isNone)
  let s1 := (lost.filter (fun i => !s.helm.lostSpots.contains i)).foldl (fun t i => t.post Ev.sensorLost [i]) s
  { s1 with helm := { s1.helm with lostSpots := lost } }.setFlag Reg.HELM_THERMAL.SENSOR_LOST (!lost.isEmpty)

/-- Show the highest governing reading and its sensor (Table 11-11). -/
def State.showHottest (s : State) : State :=
  match s.spots.foldl (fun best i =>
      match s.governing i, best with
      | some t, none => some (i, t)
      | some t, some b => if b.2 < t then some (i, t) else some b
      | none, b => b) none with
  | none => s
  | some b => (s.set Reg.HELM_THERMAL.HOTTEST (tempCode b.2)).set Reg.HELM_THERMAL.HOTTEST_SENSOR b.1

/-! ### Coolant (R377 to R381) -/

/-- RATED_FLOW within its range (Table 11-11). -/
def State.ratedFlow (s : State) : Nat := max 1200 (min 3000 (s.get Reg.HELM_COOLANT_CFG.RATED_FLOW))

/-- C_flow (R378). -/
def flowLimitOf (ceiling rated flow : Nat) : Nat :=
  if rated ≤ flow then ceiling else if rated ≤ 2 * flow then ceiling * flow / rated else 300

/-- C_inlet for an inlet in eighths (R378). -/
def inletLimitOf (ceiling : Nat) (inlet : Int) : Nat :=
  if inlet ≤ 360 then ceiling
  else if inlet ≤ 440 then ceiling - (ceiling - 300) * (inlet - 360).toNat / 80
  else 300

/-- Compute the two coolant limits from the last usable reading; before the first they stand at CEILING_W
(R378, R381). -/
def State.coolantLimits (s : State) : State :=
  let ceiling := s.get Reg.HELM_STAGEA.CEILING_W
  match s.helm.readings with
  | [] => { s with helm := { s.helm with flowLimit := ceiling, inletLimit := ceiling } }
  | r :: _ =>
    { s with helm := { s.helm with
        flowLimit := flowLimitOf ceiling s.ratedFlow r.flow, inletLimit := inletLimitOf ceiling r.inlet } }

/-- The flow events (R379): each level is posted again only after F has risen 0.05 above its threshold. -/
def State.flowEvents (s : State) (flow : Nat) : State :=
  let rated := s.ratedFlow
  let below85 := decide (100 * flow < 85 * rated)
  let below70 := decide (100 * flow < 70 * rated)
  let s1 := (s.setFlag Reg.HELM_THERMAL.FLOW_85 below85).setFlag Reg.HELM_THERMAL.FLOW_70 below70
  let s2 :=
    if below85 && !s1.helm.flow85Posted then
      { s1 with helm := { s1.helm with flow85Posted := true } }.post Ev.flowLow [1, flow]
    else if 90 * rated < 100 * flow then { s1 with helm := { s1.helm with flow85Posted := false } }
    else s1
  if below70 && !s2.helm.flow70Posted then
    { s2 with helm := { s2.helm with flow70Posted := true } }.post Ev.flowLow [2, flow]
  else if 75 * rated < 100 * flow then { s2 with helm := { s2.helm with flow70Posted := false } }
  else s2

/-- An event argument of a signed temperature. -/
def tempArg (t : Int) : Nat := (t % 2 ^ 64).toNat

/-- The inlet events (R379). -/
def State.inletEvents (s : State) (inlet : Int) : State :=
  let s1 := s.setFlag Reg.HELM_THERMAL.INLET_HIGH (decide (360 < inlet))
  let s2 :=
    if decide (360 < inlet) && !s1.helm.inletHighPosted then
      { s1 with helm := { s1.helm with inletHighPosted := true } }.post Ev.inletHigh [tempArg inlet]
    else if inlet ≤ 352 then { s1 with helm := { s1.helm with inletHighPosted := false } }
    else s1
  if decide (inlet < 160) && !s2.helm.inletLowPosted then
    { s2 with helm := { s2.helm with inletLowPosted := true } }.post Ev.inletLow [tempArg inlet]
  else if 168 ≤ inlet then { s2 with helm := { s2.helm with inletLowPosted := false } }
  else s2

/-- The outlet has risen by at least OUTLET_SLOPE × 40 ms across the last four readings (R380). -/
def outletRising (slope : Nat) (rs : List Coolant) : Bool :=
  match rs with
  | [a, _, _, d] => decide ((slope : Int) * 32 ≤ (a.outlet - d.outlet) * 1000)
  | _ => false

/-- The span of the inlet over four readings is below 0.2 °C (R380). -/
def inletSteady (rs : List Coolant) : Bool :=
  let is := rs.map (·.inlet)
  decide ((is.foldl max (-10000) - is.foldl min 10000) * 10 < 16)

/-- The criterion of a coolant stop, if one is met: 1 flow, 2 outlet slope (R380). -/
def State.stopCriterion (s : State) : Option Nat :=
  let slope := s.get Reg.HELM_COOLANT_CFG.OUTLET_SLOPE
  if 2 ≤ s.helm.lowFlows then some 1
  else if slope ≠ 0 ∧ outletRising slope s.helm.readings = true ∧ inletSteady s.helm.readings = true then some 2
  else none

/-- The outlet has stopped rising (R380). -/
def State.outletSettled (s : State) : Bool :=
  let slope := s.get Reg.HELM_COOLANT_CFG.OUTLET_SLOPE
  match s.helm.readings with
  | [a, _, _, d] => if slope = 0 then decide (a.outlet ≤ d.outlet) else !outletRising slope s.helm.readings
  | _ => false

/-- Every cluster is to run at index 0 (R364, R380). -/
def State.targetFloor (s : State) : State :=
  { s with helm := { s.helm with target := [] } }

/-- A coolant stop: floor hold at once, any boost ends, COOLANT_STOP is posted and signalled (R380). -/
def State.coolantStop (s : State) (criterion : Nat) : State :=
  if s.flag Reg.HELM_THERMAL.COOLANT_STOP then s
  else
    let s1 := (s.set Reg.HELM_THERMAL.COOLANT_STOP 1).set Reg.HELM_OP_STATUS.BOOSTING 0
    let s2 := (s1.targetFloor.set Reg.HELM_CAP_STATUS.FLOOR_HOLD 1).post Ev.coolantStop [criterion]
    if s2.helm.loopsRunning then s2.computeCap else s2

/-- Take an accepted coolant reading: the registers and AGE; a usable one ends the loss of data and is checked for a
stop (R377, R380, R381, R478, R479). -/
def State.takeCoolant (s : State) (c : Coolant) (seq : Byte) : State :=
  let s1 := ((s.set Reg.HELM_COOLANT.FLOW c.flow).set Reg.HELM_COOLANT.OUTLET (c.outlet % 65536).toNat).set
    Reg.HELM_COOLANT.INLET (c.inlet % 65536).toNat
  let s2 := { s1 with helm := { s1.helm with readAt := some s1.dtime, lastSeq := some seq } }
  if c.outlet < c.inlet - 16 then s2
  else
    let low := if 100 * c.flow < 25 * s2.ratedFlow then s2.helm.lowFlows + 1 else 0
    let s3 := { s2 with helm := { s2.helm with readings := (c :: s2.helm.readings).take 4, lowFlows := low } }
    let s4 := s3.set Reg.HELM_THERMAL.DATA_LOST 0
    match s4.stopCriterion with
    | some k => s4.coolantStop k
    | none => s4

/-! ### Operating points (R361 to R369) -/

/-- MARGIN_MV; 31 acts as 30 (Table 11-10). -/
def State.margin (s : State) : Nat := min 30 (s.get Reg.HELM_VF_CFG.MARGIN_MV)

/-- The setpoint of a die at an index in mV: the entry with the margin in force (R361). -/
def State.setpoint (s : State) (d p : Nat) : Nat := s.get (Reg.HELM_VF.EFFECTIVE_MV (32 * d + p))

/-- The entry of an index and every one below it have a sound source (R362). -/
def State.vfSound (s : State) (d p : Nat) : Bool :=
  (List.range (p + 1)).all (fun q => (s.part.fusedEntry (32 * d + q)).parityOk || s.flag (Reg.HELM_VF.FROM_MRAM (32 * d + q)))

/-- p_max: 22 when boost is allowed, 16 otherwise, never above TOP_USABLE (R364). -/
def State.indexTop (s : State) (boost : Bool) : Nat :=
  min (if boost then 22 else 16) (s.get Reg.HELM_OP_STATUS.TOP_USABLE)

/-- Boost is allowed in this period (R365). -/
def State.boostAllowed (s : State) : Bool :=
  s.flag Reg.HELM_CTRL_CFG.BOOST_EN && !s.flag Reg.HELM_CTRL_CFG.FIXED_FREQ && !s.floorHold
    && s.clusters.all (fun i => decide (s.hottestOf (clusterSensors i) < 704))
    && (match s.helm.readings with
        | [] => false
        | r :: _ => decide (r.inlet ≤ 320) && decide (s.ratedFlow ≤ r.flow))
    && !s.flag Reg.HELM_THERMAL.DATA_LOST
    && decide (6400 ≤ s.get Reg.HELM_IN_STATUS.VIN)
    && (match s.helm.lastClamp with
        | none => true
        | some t => decide (t + 10000000 ≤ s.dtime))

/-- pred(q) of R364 in mW, exact, from the index now in force. -/
def State.predict (s : State) (now q : Nat) (dies : List DiePower) : Rat :=
  (dies.zipIdx).foldl (fun acc x =>
    let vq : Rat := s.setpoint x.2 q
    let vn : Rat := s.setpoint x.2 now
    let fq : Rat := eclkMhz q
    let fn : Rat := eclkMhz now
    let demand : Rat := (x.1.dyn : Rat) * 256 / (256 - min 255 x.1.bubble : Nat)
    acc + (x.1.other : Rat) + (x.1.leak : Rat) * (vq / vn) * (vq / vn) * (vq / vn)
      + demand * (fq * vq * vq) / (fn * vn * vn)) 0

/-- The highest index not above `top` whose prediction fits 0.97 C_eff (in mW), else 0 (R364). -/
def State.bestIndex (s : State) (now : Nat) (dies : List DiePower) (capMw : Rat) : Nat → Nat
  | 0 => 0
  | q + 1 => if s.predict now (q + 1) dies ≤ capMw * 97 / 100 then q + 1 else s.bestIndex now dies capMw q

/-- The module index for the next period (R364). -/
def State.nextIndex (s : State) (top : Nat) (x : SlowSample) : Nat :=
  let p := s.get Reg.HELM_OP_STATUS.INDEX
  let best := s.bestIndex p x.dies ((s.get Reg.HELM_CAP_STATUS.EFFECTIVE_W : Rat) * 1000) top
  if p < best then (if 16 < x.bubbleAvg then p else min best (p + 2)) else best

/-- The readings that raise or lower the thermal step of a cluster (R367). -/
def thermalSpots (i : Nat) : List Nat :=
  let d := i / 8
  clusterSensors i ++ ([24, 26, 28, 29, 30, 31].map (32 * d + ·)) ++ [136 + 2 * d, 137 + 2 * d]
    ++ [128, 130, 132, 133, 134, 135]

/-- Raise B_T by 16, up to 240. -/
def State.raiseThermalBubble (s : State) (i : Nat) : State :=
  s.set (Reg.HELM_CL_STATUS.B_T i) (min 240 (s.get (Reg.HELM_CL_STATUS.B_T i) + 16))

/-- Post THERMAL_THROTTLE at the first rise in a second (R367). -/
def State.throttleEvent (s : State) (i : Nat) : State :=
  let recent := s.helm.lastThrottle.any (fun e => e.1 == i && decide (s.dtime < e.2 + 1000000000))
  if recent then s
  else
    { s with helm := { s.helm with lastThrottle := (i, s.dtime) :: s.helm.lastThrottle.filter (fun e => e.1 != i) } }.post
      Ev.thermalThrottle [i]

/-- One period's thermal control of a cluster (R367, R368). -/
def State.thermalCluster (s : State) (p : Nat) (i : Nat) : State :=
  let fixed := s.flag Reg.HELM_CTRL_CFG.FIXED_FREQ
  let rs := (thermalSpots i).map s.spotReading
  let hot := rs.any (fun t => decide (760 ≤ t))
  let cool := rs.all (fun t => decide (t < 736))
  let t := s.get (Reg.HELM_CL_STATUS.THERM_STEP i)
  let own := s.hottestOf (clusterSensors i)
  let s0 := s.set (Reg.HELM_CL_STATUS.HOTTEST i) (tempCode own)
  let s1 :=
    if fixed then
      (if hot then s0.raiseThermalBubble i
       else if cool then s0.set (Reg.HELM_CL_STATUS.B_T i) (s0.get (Reg.HELM_CL_STATUS.B_T i) - 16)
       else s0)
    else if hot then
      (if t < p then (s0.set (Reg.HELM_CL_STATUS.THERM_STEP i) (t + 1)).throttleEvent i else s0)
    else if cool then s0.set (Reg.HELM_CL_STATUS.THERM_STEP i) (t - 1)
    else s0
  if s1.get (Reg.HELM_CL_STATUS.INDEX i) = 0 ∧ 800 ≤ own ∧ !(fixed && hot) then s1.raiseThermalBubble i else s1

/-- The index a cluster is to run at (R364, R366). -/
def State.clusterTarget (s : State) (p : Nat) (i : Nat) : Nat :=
  if s.floorHold then 0
  else if s.flag Reg.HELM_CTRL_CFG.FIXED_FREQ then
    min (min (s.get Reg.HELM_CTRL_CFG.FIXED_INDEX) 16) (s.get Reg.HELM_OP_STATUS.TOP_USABLE)
  else p - s.get (Reg.HELM_CL_STATUS.THERM_STEP i)

/-- Give every cluster its index for the period. -/
def State.setTargets (s : State) (p : Nat) : State :=
  { s with helm := { s.helm with
      target := s.clusters.foldl (fun m i => sparsePut 0 i (s.clusterTarget p i) m) s.helm.target } }

/-- An entry of the voltage table with the margin: it is usable when it is sound and at most 800 mV (R361, R362). -/
def State.applyMargin (s : State) (i : Nat) : State :=
  let mv := (if s.flag (Reg.HELM_VF.FROM_MRAM i) then s.get (Reg.HELM_VF.MRAM_MV i) else s.get (Reg.HELM_VF.FUSED_MV i)) + s.margin
  if s.vfSound (i / 32) (i % 32) then
    (s.set (Reg.HELM_VF.EFFECTIVE_MV i) mv).setFlag (Reg.HELM_VF.USABLE i) (decide (mv ≤ 800))
  else s

/-- The highest index usable on every present die that is used (R362). -/
def State.topUsable (s : State) : Nat :=
  ((List.range 23).filter (fun p => (List.range 4).all (fun d =>
    !s.dieUsed d || (List.range (p + 1)).all (fun q => s.flag (Reg.HELM_VF.USABLE (32 * d + q)))))).foldl max 0

/-- The margin as it now stands takes effect on every entry, and on the highest usable index (R361). -/
def State.applyMargins (s : State) : State :=
  let s1 := ((List.range s.part.variant.dies).flatMap (fun d => (List.range 23).map (32 * d + ·))).foldl State.applyMargin s
  s1.set Reg.HELM_OP_STATUS.TOP_USABLE s1.topUsable

/-- The cause a pace advisory carries: the binding limit when b is the largest term of B_c, 10 for b_t, 11 for b_r
(R369). -/
def State.paceCause (s : State) : Nat :=
  let b := s.get Reg.HELM_CAP_STATUS.BUBBLE
  let bt := s.clusters.foldl (fun m i => max m (s.get (Reg.HELM_CL_STATUS.B_T i))) 0
  let br := (List.range 48).foldl (fun m r => max m (s.region r).level) 0
  if bt ≤ b ∧ br ≤ b then s.get Reg.HELM_CAP_STATUS.LIMIT else if br ≤ bt then 10 else 11

/-- A pending switch of capping takes effect at the next period (R253). PENDING holds the function's bit. -/
def State.switchCapping (s : State) : State :=
  let pend := s.get Reg.CAP_DUTY_MODE.PENDING
  if pend / 4 % 2 = 1 then
    (s.set Reg.CAP_DUTY_MODE.PENDING (pend - 4)).set Reg.CAP_DUTY_MODE.CAPPING (1 - s.get Reg.CAP_DUTY_MODE.CAPPING)
  else s

/-- One period of the slow loop, but for the pace advisory (R361, R364 to R368, R376, R378, R379). -/
def State.slowLoop (s : State) (x : SlowSample) : State :=
  let s1 := (s.switchCapping.applyMargins.checkLostSpots.showHottest).coolantLimits
  let s2 :=
    match s1.helm.readings with
    | [] => s1
    | r :: _ => (s1.flowEvents r.flow).inletEvents r.inlet
  let boost := s2.boostAllowed
  let top := s2.indexTop boost
  let old := s2.get Reg.HELM_OP_STATUS.INDEX
  let fixed := s2.flag Reg.HELM_CTRL_CFG.FIXED_FREQ
  let p :=
    if s2.floorHold then 0
    else if fixed then min (min (s2.get Reg.HELM_CTRL_CFG.FIXED_INDEX) 16) (s2.get Reg.HELM_OP_STATUS.TOP_USABLE)
    else s2.nextIndex top x
  let s3 := s2.clusters.foldl (fun t i => t.thermalCluster p i) s2
  let s4 := ((s3.set Reg.HELM_OP_STATUS.INDEX p).set Reg.HELM_OP_STATUS.P_MAX top).setFlag
    Reg.HELM_OP_STATUS.BOOSTING (decide (16 < p))
  let s5 := if p = old then s4 else s4.bump Reg.HELM_OP_STATUS.OP_CHANGES 1
  let s6 := (s5.set Reg.HELM_CAP_STATUS.BUBBLE_AVG (min 255 x.bubbleAvg)).set Reg.MG_POWER.POWER_W x.meanPower.toNat
  (s6.setTargets p).computeCap

/-- The index a cluster is to run at now. -/
def State.targetIndex (s : State) (i : Nat) : Nat := sparseGet 0 i s.helm.target

/-- The setpoint moves: first when the index rises, after ECLK has changed when it falls (R363). -/
def State.moveSetpoint (s : State) (i : Nat) : State :=
  let t := s.targetIndex i
  if s.regulating i && decide (s.get (Reg.HELM_CL_STATUS.INDEX i) ≤ t) then
    s.set (Reg.HELM_RGN_STATUS.SETPOINT i) (s.setpoint (i / 8) t)
  else s

/-- An engine of a cluster has a tile in issue. -/
def State.clusterIssuing (s : State) (i : Nat) : Bool :=
  (s.role.acc ++ ((s.other.map Role.acc).getD [])).any (fun a => a.issuing && s.clusterOf a.core == i)

/-- ECLK changes while the cluster's engines have stopped issue at a tile boundary, never above the frequency paired with the setpoint
on the rail (R45, R363). -/
def State.changeEclk (s : State) (i : Nat) : State :=
  let t := s.targetIndex i
  if s.regulating i && !s.clusterIssuing i && decide (s.setpoint (i / 8) t ≤ s.get (Reg.HELM_RGN_STATUS.SETPOINT i)) then
    s.set (Reg.HELM_CL_STATUS.INDEX i) t
  else s

/-! ### The Reckoning model (R370 to R372) -/

/-- The greatest `r` below `lo + 2^n` with `r ^ k ≤ v`, searched bit by bit from `lo`. -/
def rootSearch (k v : Nat) : Nat → Nat → Nat
  | 0, lo => lo
  | n + 1, lo => rootSearch k v n (if (lo + 2 ^ n) ^ k ≤ v then lo + 2 ^ n else lo)

/-- `2 ^ (32 + n / 160)` rounded down, for `n` eighths over or under 60 °C as `n` twentieths of a doubling. -/
def leakageGrowth (n : Int) : Nat :=
  let whole := n / 160
  let frac := (n % 160).toNat
  let base := rootSearch 160 (2 ^ (32 * 160 + frac)) 34 0
  if 0 ≤ whole then base * 2 ^ whole.toNat else base / 2 ^ (-whole).toNat

/-- The hottest governing reading of a region, in eighths: a cluster's, an uncore's, the hub's or a stack's. -/
def State.regionReading (s : State) (r : Nat) : Int :=
  if r < 32 then s.hottestOf (clusterSensors r)
  else if r < 36 then s.hottestOf ([24, 26, 28, 29, 30, 31].map (32 * (r - 32) + ·))
  else if r < 40 then s.hottestOf [128, 130, 132, 133, 134, 135]
  else s.spotReading (136 + (r - 40))

/-- Leakage of a region over one interval, in pJ (R370). -/
def State.leakEnergy (s : State) (r : Nat) : Nat :=
  let l := sparseGet 0 r s.part.leakage
  let v := s.get (Reg.HELM_RGN_STATUS.SETPOINT r)
  if s.regulating r then l * 10 * v ^ 3 * leakageGrowth (s.regionReading r - 480) / (700 ^ 3 * 2 ^ 32) else 0

/-- The category of an event class: 0 MATRIX, 1 VECTOR, 2 FILLER, 3 ON_PACKAGE, 4 HBM, 5 FABRIC (Table 11-3). -/
def reckonCategory : ReckonClass → Nat
  | .mx4 | .mx6 | .mx8 | .mx16 | .mx32 => 0
  | .fill => 2
  | .vec | .cvt => 1
  | .sram | .noc | .cache => 3
  | .hbm | .hbmRow => 4
  | .link => 5

/-- The place of a class in the list of calibrated coefficients. -/
def reckonIndex : ReckonClass → Nat
  | .mx4 => 0
  | .mx6 => 1
  | .mx8 => 2
  | .mx16 => 3
  | .mx32 => 4
  | .fill => 5
  | .vec => 6
  | .cvt => 7
  | .sram => 8
  | .noc => 9
  | .cache => 10
  | .hbm => 11
  | .hbmRow => 12
  | .link => 13

/-- Energy of one count, in pJ: coefficient × (V / 0.70)² (R370). -/
def State.countEnergy (s : State) (c : ReckonCount) : Nat :=
  let v := s.get (Reg.HELM_RGN_STATUS.SETPOINT c.region.val)
  c.count * s.part.coefficients.getD (reckonIndex c.cls) 0 * v ^ 2 / 700 ^ 2

/-- The model's sums for an interval by category, in pJ (R370). -/
def State.reckonEstimates (s : State) (x : ReckonSample) : List Nat :=
  let sum := fun j => ((x.counts.filter (fun c => reckonCategory c.cls == j)).map s.countEnergy).foldl (· + ·) 0
  let leak := (s.regions.map s.leakEnergy).foldl (· + ·) 0
  let conv := Config.conversionLoss (s.get Reg.HELM_IN_STATUS.VIN) x.metered + s.part.fixedDraw * 10
  [sum 0, sum 1, sum 2, sum 3, sum 4, sum 5, leak, conv]

/-- Shares of the metered energy in µJ; what rounding leaves goes to CONVERSION (R371). -/
def reckonShares (metered : Nat) (est : List Nat) : List Nat :=
  let total := est.foldl (· + ·) 0
  let shares := (est.take 7).map (fun e => if total = 0 then 0 else e * metered / total)
  shares ++ [metered - shares.foldl (· + ·) 0]

/-- k := E_in / S in unsigned 1.15 fixed point (R371, Table 11-12). -/
def reckonRatio (metered : Nat) (est : List Nat) : Nat :=
  let total := est.foldl (· + ·) 0
  if total = 0 then 65535 else min 65535 (metered * 1000000 * 32768 / total)

/-- k lies outside 0.80 to 1.25. -/
def ratioDrifts (k : Nat) : Bool := decide (5 * k < 4 * 32768) || decide (5 * 32768 < 4 * k)

/-- Keep the ratio of an interval and post RECKONING_DRIFT after 100 ms outside its bounds (R371). -/
def State.trackRatio (s : State) (k : Nat) : State :=
  let h := s.helm
  let h1 := { h with
    kSum := h.kSum + k, kCount := h.kCount + 1
    kMin := if h.kCount = 0 then k else min h.kMin k, kMax := if h.kCount = 0 then k else max h.kMax k }
  if ratioDrifts k then
    if h1.driftCount + 1 = 10000 then
      { s with helm := { h1 with driftCount := 0, driftSum := 0 } }.post Ev.reckoningDrift [(h1.driftSum + k) / 10000]
    else { s with helm := { h1 with driftCount := h1.driftCount + 1, driftSum := h1.driftSum + k } }
  else { s with helm := { h1 with driftCount := 0, driftSum := 0 } }

/-- One Reckoning interval (R370, R371); the floor estimate is a free value (R353, log 20). -/
def State.reckon (s : State) (x : ReckonSample) : State :=
  let est := s.reckonEstimates x
  let shares := reckonShares x.metered est
  let engine := est.getD 0 0 + est.getD 1 0 + est.getD 2 0
  let s1 := { s with helm := { s.helm with
    split := List.zipWith (· + ·) s.helm.split shares
    stepEnergy := s.helm.stepEnergy + x.metered
    totalUj := s.helm.totalUj + x.metered
    pdyn := engine / 10000 } }
  let s2 := (s1.trackRatio (reckonRatio x.metered est)).set Reg.HELM_RK_TOTAL.ENERGY (s1.helm.totalUj / 1000)
  { s2.set Reg.HELM_CAP_STATUS.FLOOR_W (Config.floorEstimate s2.fresh).toNat with fresh := s2.fresh + 1 }

/-- At the commit of a step its registers are updated and the next interval begins (R372). -/
def State.stepEnergyUpdate (s : State) (step : Nat) (twoRoles : Bool) : State :=
  let h := s.helm
  let ns := s.dtime - h.stepBegan
  let s1 := (s.set Reg.HELM_RK_STEP.STEP_LO step).set Reg.HELM_RK_STEP.ENERGY (h.stepEnergy / 1000)
  let s2 := s1.set Reg.HELM_RK_STEP_NS.DURATION ns
  let s3 := (s2.set Reg.HELM_RK_TOKEN.UJ_PER_TOKEN (if h.tokens = 0 then 0 else h.stepEnergy / h.tokens)).set
    Reg.HELM_RK_TOKEN.AVG_W (if ns = 0 then 0 else h.stepEnergy * 1000 / ns)
  let s4 := (List.range 8).foldl (fun t j => t.set (Reg.HELM_RK_SPLIT.ENERGY j) (h.split.getD j 0)) s3
  let s5 := ((s4.set Reg.HELM_RK_CORR.K_MAX h.kMax).set Reg.HELM_RK_CORR.K_MIN h.kMin).set
    Reg.HELM_RK_CORR.K_MEAN (if h.kCount = 0 then 0 else h.kSum / h.kCount)
  let s6 := s5.setFlag Reg.HELM_RK_CORR.TWO_ROLES twoRoles
  { s6 with helm := { s6.helm with
      split := [0, 0, 0, 0, 0, 0, 0, 0], stepEnergy := 0, stepBegan := s6.dtime, kSum := 0, kCount := 0,
      kMin := 0, kMax := 0 } }

/-- The first step's interval starts when the arm completes (R372). -/
def State.stepEnergyBegin (s : State) : State :=
  { s with helm := { s.helm with
      split := [0, 0, 0, 0, 0, 0, 0, 0], stepEnergy := 0, stepBegan := s.dtime, kSum := 0, kCount := 0,
      kMin := 0, kMax := 0 } }

end Sys2Proof.Machine
end

