-- ==== Sys2Proof/Machine/Operands.lean ====
section
/-! DEFINITION. The number formats: what each code stands for, and every conversion between them
(spec/02_number_formats.md R49 to R81). Finite values are exact rationals; nothing is rounded but where a rule rounds. -/

namespace Sys2Proof.Machine

/-- The formats of Table 2-1. -/
inductive Fmt where
  | fp64 | fp32 | fp16 | bf16 | eq4 | eq6a | eq6b | eq8a | eq8b | int8 | int4 | ex40
  deriving DecidableEq, Repr

/-- Width in bits. -/
def Fmt.width : Fmt → Nat
  | .fp64 => 64
  | .fp32 => 32
  | .fp16 => 16
  | .bf16 => 16
  | .eq4 => 4
  | .eq6a => 6
  | .eq6b => 6
  | .eq8a => 8
  | .eq8b => 8
  | .int8 => 8
  | .int4 => 4
  | .ex40 => 40

/-- Fraction bits; 0 for the integers. -/
def Fmt.frac : Fmt → Nat
  | .fp64 => 52
  | .fp32 => 23
  | .fp16 => 10
  | .bf16 => 7
  | .eq4 => 1
  | .eq6a => 2
  | .eq6b => 3
  | .eq8a => 3
  | .eq8b => 2
  | .int8 => 0
  | .int4 => 0
  | .ex40 => 27

/-- Exponent bits; 0 for the integers. -/
def Fmt.expBits : Fmt → Nat
  | .fp64 => 11
  | .fp32 => 8
  | .fp16 => 5
  | .bf16 => 8
  | .eq4 => 2
  | .eq6a => 3
  | .eq6b => 2
  | .eq8a => 4
  | .eq8b => 5
  | .int8 => 0
  | .int4 => 0
  | .ex40 => 12

/-- Exponent bias (Table 2-1). -/
def Fmt.bias : Fmt → Nat
  | .fp64 => 1023
  | .fp32 => 127
  | .fp16 => 15
  | .bf16 => 127
  | .eq4 => 1
  | .eq6a => 3
  | .eq6b => 1
  | .eq8a => 7
  | .eq8b => 15
  | .int8 => 0
  | .int4 => 0
  | .ex40 => 2047

/-- FP16, BF16, FP32 and FP64. -/
def Fmt.isFp (f : Fmt) : Bool := f == .fp64 || f == .fp32 || f == .fp16 || f == .bf16

/-- INT8 and INT4. -/
def Fmt.isInt (f : Fmt) : Bool := f == .int8 || f == .int4

/-- EQ4, EQ6a, EQ6b and EQ8a: no infinity, no negative zero, poison at the code with only the sign set. -/
def Fmt.isPlainEq (f : Fmt) : Bool := f == .eq4 || f == .eq6a || f == .eq6b || f == .eq8a

/-- The EQ formats. -/
def Fmt.isEq (f : Fmt) : Bool := f.isPlainEq || f == .eq8b

/-- The exponent of all ones is kept for infinities and NaNs. -/
def Fmt.hasInf (f : Fmt) : Bool := f.isFp || f == .eq8b || f == .ex40

/-- A value: a finite one with its sign kept apart, so that both zeros exist; an infinity; a NaN of an FP format; a
signalling NaN of EQ8b; and poison, which stands for every quiet narrow NaN and for the NaN of EX40. -/
inductive Num where
  | fin (neg : Bool) (mag : Rat)
  | inf (neg : Bool)
  | nan (neg quiet : Bool) (payload width : Nat)
  | snan
  | poison
  deriving DecidableEq, Repr

/-- Zero of positive sign. -/
def Num.zero : Num := .fin false 0

/-- A signed finite value. -/
def Num.ofRat (r : Rat) : Num := if r < 0 then .fin true (-r) else .fin false r

/-- The signed value of a finite number; 0 otherwise. -/
def Num.toRat : Num → Rat
  | .fin neg m => if neg then -m else m
  | _ => 0

/-- Finite. -/
def Num.isFinite : Num → Bool
  | .fin _ _ => true
  | _ => false

/-- A NaN or poison of any kind. -/
def Num.isNan : Num → Bool
  | .nan _ _ _ _ => true
  | .snan => true
  | .poison => true
  | _ => false

/-- A signalling NaN. -/
def Num.signalling : Num → Bool
  | .nan _ quiet _ _ => !quiet
  | .snan => true
  | _ => false

/-- A power of two with any exponent. -/
def pow2 (e : Int) : Rat := if 0 ≤ e then ((2 ^ e.toNat : Nat) : Rat) else 1 / ((2 ^ (-e).toNat : Nat) : Rat)

/-- The exponent `e` with `2 ^ e ≤ r < 2 ^ (e + 1)`, for a positive `r`. -/
def log2Rat (r : Rat) : Int :=
  let g : Int := (Nat.log2 r.num.toNat : Int) - (Nat.log2 r.den : Int)
  if pow2 g ≤ r then g else g - 1

/-- The exponent of the smallest normal magnitude. -/
def Fmt.emin (f : Fmt) : Int := 1 - (f.bias : Int)

/-- The largest finite magnitude (R68, Tables 2-2 to 2-5; 127 and 7 for the integers, whose range R63 gives). -/
def Fmt.largest : Fmt → Rat
  | .eq4 => 6
  | .eq6a => 28
  | .eq6b => 15 / 2
  | .eq8a => 480
  | .eq8b => 57344
  | .int8 => 127
  | .int4 => 7
  | f =>
    let top : Int := (2 ^ f.expBits - 2 : Nat) - (f.bias : Int)
    pow2 top * (2 - pow2 (-(f.frac : Int)))

/-- A two's-complement code of `w` bits. -/
def signedCode (w c : Nat) : Int := if c % 2 ^ w < 2 ^ (w - 1) then (c % 2 ^ w : Nat) else ((c % 2 ^ w : Nat) : Int) - (2 ^ w : Nat)

/-- What a code stands for, before scales (R53, R54, R57 to R60, R63, R64). -/
def decodeNum (f : Fmt) (code : Nat) : Num :=
  if f.isInt then .ofRat (signedCode f.width code : Rat)
  else
    let neg := decide (code / 2 ^ (f.width - 1) % 2 = 1)
    let e := code / 2 ^ f.frac % 2 ^ f.expBits
    let m := code % 2 ^ f.frac
    if f.isPlainEq && neg && decide (e = 0 ∧ m = 0) then .poison
    else if f.hasInf && decide (e = 2 ^ f.expBits - 1) then
      if m = 0 then .inf neg
      else if f = .ex40 then .poison
      else if f = .eq8b then (if m = 1 then .snan else .poison)
      else .nan neg (decide (2 ^ (f.frac - 1) ≤ m)) m f.frac
    else if e = 0 then .fin neg ((m : Rat) * pow2 (f.emin - f.frac))
    else .fin neg (((2 ^ f.frac + m : Nat) : Rat) * pow2 ((e : Int) - f.bias - f.frac))

/-! ### Rounding (R70, R71, R79) -/

/-- The rounding codes of Table 2-6. -/
inductive Rnd where
  | rne | rna | rtz | rup | rdn | sr
  deriving DecidableEq, Repr

/-- The rounding of a code; 6 and 7 are refused at load. -/
def rndOf : Nat → Rnd
  | 0 => .rne
  | 1 => .rna
  | 2 => .rtz
  | 3 => .rup
  | 4 => .rdn
  | _ => .sr

/-- Round a non-negative multiple `q` of the spacing to an integer; `r` is the stochastic draw (R79). -/
def roundUnits (rnd : Rnd) (neg : Bool) (r : Nat) (q : Rat) : Nat :=
  let t := q.floor.toNat
  let frac := q - (t : Rat)
  match rnd with
  | .rne => if 1 / 2 < frac ∨ (frac = 1 / 2 ∧ t % 2 = 1) then t + 1 else t
  | .rna => if 1 / 2 ≤ frac then t + 1 else t
  | .rtz => t
  | .rup => if frac ≠ 0 ∧ neg = false then t + 1 else t
  | .rdn => if frac ≠ 0 ∧ neg = true then t + 1 else t
  | .sr => if 65536 ≤ (frac * 65536).floor.toNat + r then t + 1 else t

/-- The flags an operation raises, and the cause of an INVALID (Tables 2-12 and 2-17). -/
structure Flags where
  overflow : Bool
  underflow : Bool
  inexact : Bool
  invalid : Bool
  divideByZero : Bool
  cause : Nat
  deriving DecidableEq, Repr

/-- No flag. -/
def Flags.none : Flags := ⟨false, false, false, false, false, 0⟩

/-- INVALID with a cause. -/
def Flags.bad (cause : Nat) : Flags := ⟨false, false, false, true, false, cause⟩

/-- Flags of two operations together; the first cause stands. -/
def Flags.or (a b : Flags) : Flags :=
  ⟨a.overflow || b.overflow, a.underflow || b.underflow, a.inexact || b.inexact, a.invalid || b.invalid,
    a.divideByZero || b.divideByZero, if a.invalid then a.cause else b.cause⟩

/-- The output modes of R75. -/
inductive OutMode where
  | ieee | sat | nonfinite
  deriving DecidableEq, Repr

/-- The output mode of a code; 3 is refused at load. -/
def outModeOf : Nat → OutMode
  | 0 => .ieee
  | 1 => .sat
  | _ => .nonfinite

/-- The canonical quiet NaN, poison code or integer 0 of a format (R53, R60, R64, Table 2-8). -/
def Fmt.canonicalNan (f : Fmt) : Nat :=
  if f.isInt then 0
  else if f.isPlainEq then 2 ^ (f.width - 1)
  else (2 ^ f.expBits - 1) * 2 ^ f.frac + 2 ^ (f.frac - 1)

/-- The code of an infinity. -/
def Fmt.infCode (f : Fmt) (neg : Bool) : Nat :=
  (if neg then 2 ^ (f.width - 1) else 0) + (2 ^ f.expBits - 1) * 2 ^ f.frac

/-- The code of a finite magnitude that the format holds exactly; a zero of a format without negative zero is +0. -/
def encodeMag (f : Fmt) (neg : Bool) (mag : Rat) : Nat :=
  let sign := if neg then 2 ^ (f.width - 1) else 0
  if mag = 0 then (if f.isPlainEq then 0 else sign)
  else
    let e := log2Rat mag
    if e < f.emin then sign + (mag / pow2 (f.emin - f.frac)).floor.toNat
    else
      let field := (e + f.bias).toNat
      sign + field * 2 ^ f.frac + ((mag / pow2 (e - f.frac)).floor.toNat - 2 ^ f.frac)

/-- Whether a finite overflow gives the infinity or poison, under the output mode and the IEEE default for the
rounding (Table 2-9). -/
def overflowsAway (m : OutMode) (rnd : Rnd) (neg : Bool) : Bool :=
  match m with
  | .sat => false
  | .nonfinite => true
  | .ieee =>
    match rnd with
    | .rne | .rna | .sr => true
    | .rtz => false
    | .rup => !neg
    | .rdn => neg

/-- The code of the largest finite magnitude. -/
def Fmt.largestCode (f : Fmt) (neg : Bool) : Nat := encodeMag f neg f.largest

/-- Round a finite value to a float format: code and flags (R72, R75, R76, R79). -/
def roundFloat (f : Fmt) (rnd : Rnd) (m : OutMode) (r : Nat) (neg : Bool) (mag : Rat) : Nat × Flags :=
  if mag = 0 then (encodeMag f neg 0, Flags.none)
  else
    let e := log2Rat mag
    let u := pow2 (max e f.emin - f.frac)
    let uFree := pow2 (e - f.frac)
    let v := (roundUnits rnd neg r (mag / u) : Rat) * u
    let vFree := (roundUnits rnd neg r (mag / uFree) : Rat) * uFree
    if f.largest < v then
      let code := if overflowsAway m rnd neg then
          (if f.hasInf then f.infCode neg else f.canonicalNan)
        else f.largestCode neg
      (code, { Flags.none with overflow := true, inexact := true })
    else
      let inexact := decide (v ≠ mag)
      (encodeMag f neg v, { Flags.none with
        inexact := inexact
        underflow := inexact && decide (vFree < pow2 f.emin) })

/-- The clamped code of an integer format. -/
def clampCode (w : Nat) (neg : Bool) : Nat := if neg then 2 ^ (w - 1) else 2 ^ (w - 1) - 1

/-- Round a finite value to an integer format; out of range it clamps (Table 2-9, cause 0x05). -/
def roundInt (f : Fmt) (rnd : Rnd) (m : OutMode) (r : Nat) (neg : Bool) (mag : Rat) : Nat × Flags :=
  let t := roundUnits rnd neg r mag
  let top := if neg then 2 ^ (f.width - 1) else 2 ^ (f.width - 1) - 1
  if top < t then
    (clampCode f.width neg, if m = .sat then { Flags.none with overflow := true, inexact := true } else Flags.bad 5)
  else
    ((if neg then (2 ^ f.width - t) % 2 ^ f.width else t), { Flags.none with inexact := decide ((t : Rat) ≠ mag) })

/-- The payload of an FP NaN in another FP format: the most significant bits that fit, quieted (R53). -/
def nanPayload (f : Fmt) (payload width : Nat) : Nat :=
  let p := if width ≤ f.frac then payload * 2 ^ (f.frac - width) else payload / 2 ^ (width - f.frac)
  p ||| 2 ^ (f.frac - 1)

/-- Convert a value to a format, divided by its scale where it has one: code and flags (R72 to R76, Tables 2-8
and 2-9). A signalling NaN into INT is recorded with cause 0x05, where cause 0x03 would fit as well (DEDUCED, log 102). -/
def convertNum (f : Fmt) (rnd : Rnd) (m : OutMode) (r : Nat) (scale : Rat) (x : Num) : Nat × Flags :=
  match x with
  | .fin neg mag =>
    if f.isInt then roundInt f rnd m r neg (mag / scale) else roundFloat f rnd m r neg (mag / scale)
  | .inf neg =>
    if f.hasInf then (f.infCode neg, Flags.none)
    else
      let satFlags : Flags := { Flags.none with overflow := true, inexact := true }
      if f.isInt then (clampCode f.width neg, if m = .sat then satFlags else Flags.bad 5)
      else if m = .sat then (f.largestCode neg, satFlags)
      else (f.canonicalNan, Flags.bad 6)
  | .nan neg quiet payload width =>
    if f = .ex40 then (f.canonicalNan, Flags.none)
    else
      let code := if f.isFp then f.infCode neg + nanPayload f payload width else f.canonicalNan
      (code, if f.isInt then Flags.bad 5 else if quiet then Flags.none else Flags.bad 3)
  | .snan =>
    if f = .ex40 then (f.canonicalNan, Flags.none)
    else (f.canonicalNan, if f.isInt then Flags.bad 5 else Flags.bad 3)
  | .poison => (f.canonicalNan, if f.isInt then Flags.bad 5 else Flags.none)

/-! ### Block scales (R61, R62, R65, R68) -/

/-- The value of an EQS8 code from 0x01 to 0xFE. -/
def scaleValue (code : Nat) : Rat :=
  let e := code / 8
  let f := code % 8
  if e = 0 then (f : Rat) * pow2 (-17) else ((8 + f : Nat) : Rat) * pow2 ((e : Int) - 18)

/-- The smallest EQS8 code in 0x01 to 0xFE whose value reaches a bound; 0xFE where none does. -/
def scaleAtLeast (bound : Rat) : Nat :=
  ((List.range 254).map (· + 1)).find? (fun c => decide (bound ≤ scaleValue c)) |>.getD 0xFE

/-- The max-based scale code of a block of values already divided by S (R68). Of a short block only the elements present count: all NaN or
poison, they give 0xFF, although R66 lets the missing ones act as +0 (DEDUCED, log 102). -/
def chooseScale (f : Fmt) (vs : List Num) : Nat :=
  let amax := vs.foldl (fun m v => match v with
    | .fin _ x => max m x
    | _ => m) 0
  if vs.all Num.isNan then 0xFF
  else if amax = 0 ∧ vs.all Num.isFinite then 0
  else scaleAtLeast (amax / f.largest)

/-- The value of an element: its code with the block's scale code, the zero point and S (R62, R65). A tensor without
block scales has `scale := none`. -/
def elementValue (f : Fmt) (code : Nat) (scale : Option Nat) (zeroPoint : Int) (s : Rat) : Num :=
  let scaled := fun (k : Rat) =>
    if f.isInt then Num.ofRat (((signedCode f.width code : Rat) - (zeroPoint : Rat)) * k * s)
    else match decodeNum f code with
      | .fin neg m => .fin neg (m * k * s)
      | x => x
  match scale with
  | none => scaled 1
  | some 0 => Num.zero
  | some 0xFF => .poison
  | some c => scaled (scaleValue c)

/-! ### EX40 (R64) -/

/-- Round a value into EX40 by RNE, as its exact value and whether it was rounded; every NaN becomes the canonical
one (R71, R74). -/
def toEx40 (x : Num) : Num × Bool :=
  match x with
  | .fin neg mag =>
    let c := roundFloat .ex40 .rne .ieee 0 neg mag
    (decodeNum .ex40 c.1, c.2.inexact)
  | .inf neg => (.inf neg, false)
  | _ => (.poison, false)

/-- The EX40 code of a value that EX40 holds. -/
def ex40Code (x : Num) : Nat := (convertNum .ex40 .rne .ieee 0 1 x).1

/-- EX40 addition, rounded to nearest even: sum, and flags INEXACT and INVALID (R83). -/
def addEx40 (a b : Num) : Num × Flags :=
  match a, b with
  | .fin na ma, .fin nb mb =>
    let s := (if na then -ma else ma) + (if nb then -mb else mb)
    if s = 0 then (.fin (na && nb) 0, Flags.none)
    else
      let y := toEx40 (.ofRat s)
      (y.1, { Flags.none with inexact := y.2 })
  | .inf na, .inf nb => if na = nb then (.inf na, Flags.none) else (.poison, Flags.bad 2)
  | .inf na, .fin _ _ => (.inf na, Flags.none)
  | .fin _ _, .inf nb => (.inf nb, Flags.none)
  | _, _ => (.poison, Flags.none)

/-! ### Packing (R51) -/

/-- The code of element `i` of a packed array of bytes read by `byte`. -/
def packedCode (f : Fmt) (byte : Nat → Byte) (i : Nat) : Nat :=
  match f.width with
  | 4 => (byte (i / 2)).toNat / 16 ^ (i % 2) % 16
  | 6 =>
    let g := 3 * (i / 4)
    ((byte g).toNat + 256 * (byte (g + 1)).toNat + 65536 * (byte (g + 2)).toNat) / 64 ^ (i % 4) % 64
  | w => ofLeBytes ((List.range (w / 8)).map (fun j => byte (w / 8 * i + j)))

/-- The bytes of a list of codes packed from index 0. -/
def packCodes (f : Fmt) (cs : List Nat) : List Byte :=
  match f.width with
  | 4 => (List.range ((cs.length + 1) / 2)).map (fun j => BitVec.ofNat 8 (cs.getD (2 * j) 0 + 16 * cs.getD (2 * j + 1) 0))
  | 6 => (List.range ((cs.length + 3) / 4)).flatMap (fun j =>
      leBytes 3 (cs.getD (4 * j) 0 + 64 * cs.getD (4 * j + 1) 0 + 4096 * cs.getD (4 * j + 2) 0
        + 262144 * cs.getD (4 * j + 3) 0))
  | w => cs.flatMap (leBytes (w / 8))

/-- Bytes that `n` elements take. -/
def Fmt.bytes (f : Fmt) (n : Nat) : Nat :=
  match f.width with
  | 4 => (n + 1) / 2
  | 6 => (n + 3) / 4 * 3
  | w => w / 8 * n

/-! ### Stochastic rounding (R77, R78) -/

/-- Rotate a 32-bit word left. -/
def rotl32 (x : W32) (n : Nat) : W32 := x.rotateLeft n

/-- Rotate a 32-bit word right. -/
def rotr32 (x : W32) (n : Nat) : W32 := x.rotateRight n

/-- One round of the generator. -/
def srRound (seed step : W64) (xy : W32 × W32) (i : Nat) : W32 × W32 :=
  let kw : W32 := match i % 4 with
    | 0 => seed.setWidth 32
    | 1 => (seed >>> 32).setWidth 32
    | 2 => step.setWidth 32
    | _ => (step >>> 32).setWidth 32
  let k := kw ^^^ (BitVec.ofNat 32 ((0x5A + i) * 0x01010101))
  let x := (rotr32 xy.1 8 + xy.2) ^^^ k
  (x, rotl32 xy.2 12 ^^^ x)

/-- The final x and y of R78. -/
def srWords (seed step : W64) (tid : Nat) (tile : Nat) (elem : Nat) : W32 × W32 :=
  (List.range 8).foldl (srRound seed step)
    (BitVec.ofNat 32 tile, BitVec.ofNat 32 (tid % 65536 * 65536 + elem % 65536))

/-- The 16 random bits of an element (R77, R78). -/
def srDraw (seed step : W64) (tid tile elem : Nat) : Nat := (srWords seed step tid tile elem).1.toNat / 65536

end Sys2Proof.Machine
end

