-- ==== Sys2Proof/Machine/Arith.lean ====
section
/-! DEFINITION. The arithmetic of the V and U engines: every operation is the exact result rounded once
(spec/02_number_formats.md R52, R53; spec/05_vector_and_update.md R161, R164, R165). -/

namespace Sys2Proof.Machine

/-- A code of an FP format stands for a NaN. -/
def isNanCode (f : Fmt) (c : Nat) : Bool := (decodeNum f c).isNan

/-- A NaN quieted. -/
def quietNan (f : Fmt) (c : Nat) : Nat := c ||| 2 ^ (f.frac - 1)

/-- The result of an operation with NaN operands: the first of them, quieted; INVALID where one signals (R53). -/
def nanResult (f : Fmt) (xs : List Nat) : Option (Nat × Flags) :=
  match xs.find? (isNanCode f) with
  | none => none
  | some c =>
    some (quietNan f c, if xs.any (fun x => (decodeNum f x).signalling) then Flags.bad 3 else Flags.none)

/-- An invalid operation gives the canonical quiet NaN with a cause (R53). -/
def invalidResult (f : Fmt) : Nat × Flags := (f.canonicalNan, Flags.bad 4)

/-- Flip the sign bit (R164). -/
def negCode (f : Fmt) (c : Nat) : Nat := c ^^^ 2 ^ (f.width - 1)

/-- The code of a zero. -/
def zeroCode (f : Fmt) (neg : Bool) : Nat := if neg then 2 ^ (f.width - 1) else 0

/-- Round a real that is known exactly. -/
def roundCode (f : Fmt) (rnd : Rnd) (neg : Bool) (mag : Rat) : Nat × Flags := roundFloat f rnd .ieee 0 neg mag

/-- Round a signed rational; an exact zero takes the sign given. -/
def roundRat (f : Fmt) (rnd : Rnd) (zeroNeg : Bool) (r : Rat) : Nat × Flags :=
  if r = 0 then (zeroCode f zeroNeg, Flags.none) else roundCode f rnd (decide (r < 0)) (if r < 0 then -r else r)

/-- A sum of finite values: an exact zero of unlike signs is −0 only under RDN (IEEE 754-2019). -/
def sumSign (rnd : Rnd) (na nb : Bool) : Bool := if na = nb then na else decide (rnd = .rdn)

/-- Addition. -/
def fpAdd (f : Fmt) (rnd : Rnd) (a b : Nat) : Nat × Flags :=
  match nanResult f [a, b] with
  | some r => r
  | none =>
    match decodeNum f a, decodeNum f b with
    | .inf na, .inf nb => if na = nb then (a, Flags.none) else invalidResult f
    | .inf _, _ => (a, Flags.none)
    | _, .inf _ => (b, Flags.none)
    | .fin na ma, .fin nb mb => roundRat f rnd (sumSign rnd na nb) ((Num.fin na ma).toRat + (Num.fin nb mb).toRat)
    | _, _ => invalidResult f

/-- Multiplication. -/
def fpMul (f : Fmt) (rnd : Rnd) (a b : Nat) : Nat × Flags :=
  match nanResult f [a, b] with
  | some r => r
  | none =>
    match decodeNum f a, decodeNum f b with
    | .inf na, .inf nb => (f.infCode (na != nb), Flags.none)
    | .inf na, .fin nb mb => if mb = 0 then invalidResult f else (f.infCode (na != nb), Flags.none)
    | .fin na ma, .inf nb => if ma = 0 then invalidResult f else (f.infCode (na != nb), Flags.none)
    | .fin na ma, .fin nb mb => roundRat f rnd (na != nb) ((Num.fin na ma).toRat * (Num.fin nb mb).toRat)
    | _, _ => invalidResult f

/-- The product of zero and infinity, in either order. -/
def zeroTimesInf : Num → Num → Bool
  | .inf _, .fin _ m => decide (m = 0)
  | .fin _ m, .inf _ => decide (m = 0)
  | _, _ => false

/-- A + B of two numbers as exact values, or an infinity, or none for infinity minus infinity. -/
def addNum (rnd : Rnd) (x y : Num) : Option Num :=
  match x, y with
  | .inf na, .inf nb => if na = nb then some (.inf na) else none
  | .inf na, _ => some (.inf na)
  | _, .inf nb => some (.inf nb)
  | .fin na ma, .fin nb mb =>
    let r := (Num.fin na ma).toRat + (Num.fin nb mb).toRat
    some (if r = 0 then .fin (sumSign rnd na nb) 0 else .ofRat r)
  | _, _ => none

/-- The exact product of two numbers without NaN; none for zero times infinity. -/
def mulNum (x y : Num) : Option Num :=
  match x, y with
  | .inf na, .inf nb => some (.inf (na != nb))
  | .inf na, .fin nb mb => if mb = 0 then none else some (.inf (na != nb))
  | .fin na ma, .inf nb => if ma = 0 then none else some (.inf (na != nb))
  | .fin na ma, .fin nb mb => some (.fin (na != nb) (ma * mb))
  | _, _ => none

/-- Round an exact number. -/
def roundNum (f : Fmt) (rnd : Rnd) (x : Num) : Nat × Flags :=
  match x with
  | .fin neg m => roundRat f rnd neg (Num.fin neg m).toRat
  | .inf neg => (f.infCode neg, Flags.none)
  | _ => invalidResult f

/-- Fused multiply-add: zero times infinity is invalid even beside a quiet NaN in C (R53). -/
def fpFma (f : Fmt) (rnd : Rnd) (a b c : Nat) : Nat × Flags :=
  let bad := zeroTimesInf (decodeNum f a) (decodeNum f b)
  match nanResult f [a, b, c] with
  | some r => (r.1, if bad then r.2.or (Flags.bad 4) else r.2)
  | none =>
    match mulNum (decodeNum f a) (decodeNum f b) with
    | none => invalidResult f
    | some p =>
      match addNum rnd p (decodeNum f c) with
      | none => invalidResult f
      | some x => roundNum f rnd x

/-- Division. -/
def fpDiv (f : Fmt) (rnd : Rnd) (a b : Nat) : Nat × Flags :=
  match nanResult f [a, b] with
  | some r => r
  | none =>
    match decodeNum f a, decodeNum f b with
    | .inf na, .fin nb _ => (f.infCode (na != nb), Flags.none)
    | .fin na _, .inf nb => (zeroCode f (na != nb), Flags.none)
    | .fin na ma, .fin nb mb =>
      if mb = 0 then
        (if ma = 0 then invalidResult f else (f.infCode (na != nb), { Flags.none with divideByZero := true }))
      else roundRat f rnd (na != nb) ((Num.fin na ma).toRat / (Num.fin nb mb).toRat)
    | _, _ => invalidResult f

/-- The integer square root, by `k` binary digits. -/
def isqrtBits (n : Nat) : Nat → Nat → Nat
  | 0, r => r
  | k + 1, r => isqrtBits n k (if (r + 2 ^ k) * (r + 2 ^ k) ≤ n then r + 2 ^ k else r)

/-- floor(√n). -/
def isqrt (n : Nat) : Nat := isqrtBits n (Nat.log2 n / 2 + 1) 0

/-- A value that rounds as √q does: √q to 2^-k, where it is not exact moved strictly inside its interval. -/
def sqrtSticky (k : Nat) (q : Rat) : Rat :=
  let scaled := q * ((4 ^ k : Nat) : Rat)
  let r := isqrt scaled.floor.toNat
  let lo : Rat := (r : Rat) / ((2 ^ k : Nat) : Rat)
  if lo * lo = q then lo else lo + 1 / ((2 ^ (k + 1) : Nat) : Rat)

/-- Bits of a square root that decide every rounding of a format. -/
def rootBits (f : Fmt) : Nat := f.bias + 2 * f.frac + 8

/-- Square root. -/
def fpSqrt (f : Fmt) (rnd : Rnd) (a : Nat) : Nat × Flags :=
  match nanResult f [a] with
  | some r => r
  | none =>
    match decodeNum f a with
    | .inf neg => if neg then invalidResult f else (a, Flags.none)
    | .fin neg m =>
      if m = 0 then (a, Flags.none)
      else if neg then invalidResult f else roundCode f rnd false (sqrtSticky (rootBits f) m)
    | _ => invalidResult f

/-- Reciprocal square root. -/
def fpRsqrt (f : Fmt) (rnd : Rnd) (a : Nat) : Nat × Flags :=
  match nanResult f [a] with
  | some r => r
  | none =>
    match decodeNum f a with
    | .inf neg => if neg then invalidResult f else (0, Flags.none)
    | .fin neg m =>
      if m = 0 then (f.infCode neg, { Flags.none with divideByZero := true })
      else if neg then invalidResult f else roundCode f rnd false (sqrtSticky (rootBits f) (1 / m))
    | _ => invalidResult f

/-- Reciprocal. -/
def fpRcp (f : Fmt) (rnd : Rnd) (a : Nat) : Nat × Flags := fpDiv f rnd (encodeMag f false 1) a

/-- Whether a number is less than another, neither a NaN; −0 is less than +0 for MAX and MIN. -/
def lessNum (x y : Num) : Bool :=
  match x, y with
  | .inf nx, .inf ny => nx && !ny
  | .inf nx, _ => nx
  | _, .inf ny => !ny
  | .fin nx mx, .fin ny my =>
    let a := (Num.fin nx mx).toRat
    let b := (Num.fin ny my).toRat
    decide (a < b) || (decide (a = b) && nx && !ny)
  | _, _ => false

/-- maximum of IEEE 754-2019. -/
def fpMax (f : Fmt) (a b : Nat) : Nat × Flags :=
  match nanResult f [a, b] with
  | some r => r
  | none => (if lessNum (decodeNum f a) (decodeNum f b) then b else a, Flags.none)

/-- minimum of IEEE 754-2019. -/
def fpMin (f : Fmt) (a b : Nat) : Nat × Flags :=
  match nanResult f [a, b] with
  | some r => r
  | none => (if lessNum (decodeNum f b) (decodeNum f a) then b else a, Flags.none)

/-- |B|. -/
def absCode (f : Fmt) (c : Nat) : Nat := c % 2 ^ (f.width - 1)

/-- CLIP: maximum(minimum(A, |B|), −|B|). -/
def fpClip (f : Fmt) (a b : Nat) : Nat × Flags :=
  let lo := fpMin f a (absCode f b)
  let hi := fpMax f lo.1 (negCode f (absCode f b))
  (hi.1, lo.2.or hi.2)

/-- A condition of SEL, tested quietly (R165). -/
def condHolds (f : Fmt) (cond c : Nat) : Bool :=
  let x := decodeNum f c
  let sign : Int := match x with
    | .fin neg m => if m = 0 then 0 else if neg then -1 else 1
    | .inf neg => if neg then -1 else 1
    | _ => 0
  match cond with
  | 0 => !x.isNan && decide (0 < sign)
  | 1 => !x.isNan && decide (0 ≤ sign)
  | 2 => !x.isNan && decide (sign = 0)
  | 3 => x.isNan || decide (sign ≠ 0)
  | 4 => !x.isNan && decide (sign < 0)
  | 5 => !x.isNan && decide (sign ≤ 0)
  | 6 => x.isNan
  | _ => x.isFinite

/-- SEL: a signalling NaN in C raises INVALID with cause 0x03. -/
def fpSel (f : Fmt) (cond a b c : Nat) : Nat × Flags :=
  (if condHolds f cond c then a else b, if (decodeNum f c).signalling then Flags.bad 3 else Flags.none)

/-! ### Transcendental functions

Each is computed in fixed point with `fixBits` fraction bits. No value of these functions at an FP32 argument lies nearer
to a rounding boundary of FP32 than 2^-900, apart from the exact cases that are taken first, so the result is correctly
rounded (R161, log 42). -/

/-- Fraction bits of the fixed point. -/
def fixBits : Nat := 1024

/-- A rational in fixed point. -/
def toFix (r : Rat) : Int := (r * ((2 ^ fixBits : Nat) : Rat)).floor

/-- A fixed-point number as a rational. -/
def ofFix (n : Int) : Rat := (n : Rat) / ((2 ^ fixBits : Nat) : Rat)

/-- Product of fixed-point numbers. -/
def mulFix (a b : Int) : Int := a * b / ((2 ^ fixBits : Nat) : Int)

/-- A sum of terms, each from the one before. -/
def seriesFix (n : Nat) (first : Int) (next : Nat → Int → Int) : Int :=
  ((List.range n).foldl (fun (acc : Int × Int) i => (acc.1 + acc.2, next i acc.2)) ((0 : Int), first)).1

/-- atan(1/k). -/
def atanInv (k : Nat) : Int :=
  ((List.range 480).foldl (fun (acc : Int × Int) i =>
    let p := acc.2 / ((k * k : Nat) : Int)
    (acc.1 + (if i % 2 = 0 then -1 else 1) * (p / ((2 * i + 3 : Nat) : Int)), p))
    (toFix (1 / (k : Rat)), toFix (1 / (k : Rat)))).1

/-- π, by Machin's formula. -/
def piFix : Int := 16 * atanInv 5 - 4 * atanInv 239

/-- 2 · atanh(t) for |t| ≤ 1/3. -/
def atanh2 (t : Int) : Int :=
  let t2 := mulFix t t
  2 * ((List.range 360).foldl (fun (acc : Int × Int) i =>
    let p := mulFix acc.2 t2
    (acc.1 + p / ((2 * i + 3 : Nat) : Int), p)) (t, t)).1

/-- ln 2. -/
def ln2Fix : Int := atanh2 (toFix (1 / 3))

/-- e^r for |r| ≤ 1. -/
def expSmall (r : Int) : Int := seriesFix 220 (toFix 1) (fun i t => mulFix t r / ((i + 1 : Nat) : Int))

/-- e^x as a rational: 2^k · e^r. -/
def expRat (x : Rat) : Rat :=
  let k := (x * ((2 ^ fixBits : Nat) : Rat) / (ln2Fix : Rat)).floor
  ofFix (expSmall (toFix x - k * ln2Fix)) * pow2 k

/-- ln of a positive rational. -/
def lnFix (x : Rat) : Int :=
  let e := log2Rat x
  let m := x / pow2 e
  e * ln2Fix + atanh2 (toFix ((m - 1) / (m + 1)))

/-- sin or cos of r radians, |r| < 2, by series. -/
def trigSmall (isCos : Bool) (r : Int) : Int :=
  let r2 := mulFix r r
  let first := if isCos then toFix 1 else r
  seriesFix 140 first (fun i t =>
    let d : Nat := if isCos then (2 * i + 1) * (2 * i + 2) else (2 * i + 2) * (2 * i + 3)
    (0 : Int) - mulFix t r2 / (d : Int))

/-- sin of a rational, by its quadrant; `shift` is 1 for cos. -/
def trigRat (shift : Nat) (x : Rat) : Rat :=
  let half := piFix / 2
  let a := toFix x
  let n := a / half
  let r := a - n * half
  let q := ((n + (shift : Int)) % 4).toNat
  ofFix (match q with
    | 0 => trigSmall false r
    | 1 => trigSmall true r
    | 2 => -(trigSmall false r)
    | _ => -(trigSmall true r))

/-- A number strictly inside the interval below 1 that no FP32 value divides. -/
def justBelowOne : Rat := 1 - pow2 (-400)

/-- e^x with x kept in a range outside which FP32 no longer tells results apart. -/
def expClamped (x : Rat) : Rat := if 400 < x then pow2 500 else if x < -400 then pow2 (-500) else expRat x

/-- TR on a finite argument other than those whose result is exact (R161). -/
def trReal (fn : Nat) (x : Rat) : Rat :=
  match fn with
  | 0 => expClamped x
  | 1 => if 400 < x then pow2 500 else if x < -400 then pow2 (-500) else
      let k := x.floor
      ofFix (expSmall (mulFix (toFix (x - (k : Rat))) ln2Fix)) * pow2 k
  | 2 => ofFix (lnFix x)
  | 3 => (lnFix x : Rat) / (ln2Fix : Rat)
  | 4 =>
    let a := if x < 0 then -x else x
    let e := expRat (-2 * min a 300)
    let t := if 300 < a then justBelowOne else (1 - e) / (1 + e)
    if x < 0 then -t else t
  | 5 => if 400 < x then justBelowOne else if x < -400 then pow2 (-500) else
      let e := expRat (-x)
      1 / (1 + e)
  | 6 => trigRat 0 x
  | _ => trigRat 1 x

/-- TR (Table 5-4, R161), FP32 only. -/
def fpTr (rnd : Rnd) (fn a : Nat) : Nat × Flags :=
  let f := Fmt.fp32
  match nanResult f [a] with
  | some r => r
  | none =>
    match decodeNum f a with
    | .inf neg =>
      (match fn with
        | 0 => (if neg then 0 else a, Flags.none)
        | 1 => (if neg then 0 else a, Flags.none)
        | 2 => if neg then invalidResult f else (a, Flags.none)
        | 3 => if neg then invalidResult f else (a, Flags.none)
        | 4 => (encodeMag f neg 1, Flags.none)
        | 5 => (if neg then 0 else encodeMag f false 1, Flags.none)
        | _ => invalidResult f)
    | .fin neg m =>
      let x := (Num.fin neg m).toRat
      let one := encodeMag f false 1
      if fn = 2 ∨ fn = 3 then
        (if m = 0 then (f.infCode true, { Flags.none with divideByZero := true })
         else if neg then invalidResult f
         else if x = 1 then (0, Flags.none)
         else if fn = 3 ∧ x = pow2 (log2Rat x) then roundRat f rnd false ((log2Rat x : Int) : Rat)
         else roundRat f rnd false (trReal fn x))
      else if m = 0 then
        (if fn = 4 ∨ fn = 6 then (a, Flags.none)
         else if fn = 5 then (encodeMag f false (1 / 2), Flags.none) else (one, Flags.none))
      else if fn = 1 ∧ x = ((x.floor : Int) : Rat) ∧ -400 ≤ x ∧ x ≤ 400 then roundRat f rnd false (pow2 x.floor)
      else roundRat f rnd false (trReal fn x)
    | _ => invalidResult f

/-! ### FP64 sums of the collectives (R280) and of history slots (R137) -/

/-- FP64 addition under RNE. -/
def add64 (a b : Nat) : Nat := (fpAdd .fp64 .rne a b).1

/-- FP32 addition under RNE. -/
def add32 (a b : Nat) : Nat := (fpAdd .fp32 .rne a b).1

/-- The tree of R98 over a list, for any operation; `n` levels suffice for 2^n values. -/
def treeFold {α : Type} (op : α → α → α) : Nat → List α → List α
  | 0, xs => xs
  | n + 1, xs => treeFold op n (pairUp op xs)
where
  /-- One level of the tree: neighbours are combined and an odd last one is kept. -/
  pairUp {α : Type} (op : α → α → α) : List α → List α
    | a :: b :: rest => op a b :: pairUp op rest
    | xs => xs

/-- combine32 of R168. -/
def combine32 (xs : List Nat) : Nat := (treeFold add32 24 xs).headD 0

/-- rsum of R168. -/
def rsum32 (v : List Nat) : Nat :=
  let l := v.length
  let n := min l 128
  combine32 ((List.range n).map (fun j =>
    (List.range ((l - j + 127) / 128)).foldl (fun p i => if i = 0 then p else add32 p (v.getD (j + 128 * i) 0)) (v.getD j 0)))

end Sys2Proof.Machine
end

