-- ==== Sys2Proof/Machine/Mesh.lean ====
section
/-! DEFINITION. The ways through the module: mesh stops, slices, bridges and the hub crossbar, the route of a control message,
the crossings it passes and the order it keeps (spec/01_architecture.md R24, R34 to R43; spec/07_passages.md R250; log 100). -/

namespace Sys2Proof.Machine

/-! ### Stops (R37, R38, Table 1-5) -/

/-- Row and column of a cluster's stop, by the cluster's place in its die: c0 to c3 in row 0, c4 to c7 in row 3. -/
def clusterCell (c : Nat) : Nat × Nat := (if c % 8 < 4 then 0 else 3, c % 4)

/-- Row and column of a slice's stop, by the slice's number in its die: s0 to s3 in row 1, s4 to s7 in row 2. -/
def sliceCell (i : Nat) : Nat × Nat := (1 + i % 8 / 4, i % 4)

/-- The stop at a row and column of a die. -/
def Place.cell (d : Nat) (rc : Nat × Nat) : Place := .stop d rc.1 rc.2

/-- The stop by which the spine joins the mesh on the way to or from a cell: s1, s2, s5 or s6, the one in the cell's half of the die
(R38 names the four and not the choice: DESIGN CHOICE, log 100). -/
def spineCell (rc : Nat × Nat) : Nat × Nat := (if rc.1 < 2 then 1 else 2, if rc.2 < 2 then 1 else 2)

/-- The numbers from `a` to `b`, `a` left out, one step at a time. -/
def towards (a b : Nat) : List Nat :=
  if a ≤ b then (List.range (b - a)).map (a + 1 + ·) else (List.range (a - b)).map (a - 1 - ·)

/-- The stops from one cell of a die to another, both included: along the row to the destination column, then along the column
(R39). -/
def meshWay (d : Nat) (a b : Nat × Nat) : List Place :=
  Place.cell d a :: ((towards a.2 b.2).map (fun col => Place.stop d a.1 col) ++ (towards a.1 b.1).map (fun row => Place.stop d row b.2))

/-! ### Bridges (R34 to R36) -/

/-- The hub's number beside the dies. -/
def hubEnd : Nat := 4

/-- The number of the bridge between a die and its neighbour in the ring: 4 plus the first of the two (R34, log 83). -/
def ringBridge (a b : Nat) : Option Nat :=
  if (a + 1) % 4 = b then some (4 + a) else if (b + 1) % 4 = a then some (4 + b) else none

/-- A bridge is fitted: one to the hub for each die, and one between neighbours of the ring whose dies are both fitted (R35). -/
def Variant.bridgeFitted (v : Variant) (b : Nat) : Bool :=
  if b < 4 then decide (b < v.dies) else decide (b < 8) && decide (b - 4 < v.dies) && decide ((b - 3) % 4 < v.dies)

/-- A bridge carries traffic: it is fitted and its training has not failed (R36, R395). -/
def State.bridgeUp (s : State) (b : Nat) : Bool := s.part.variant.bridgeFitted b && !s.boot.bridgesFailed.getLsbD b

/-- The bridges from one die to another: the direct one where there is one, and otherwise the two hub bridges through the crossbar
(R36). -/
def State.dieWay (s : State) (a b : Nat) : List Place :=
  if a = b then []
  else if ((ringBridge a b).map s.bridgeUp).getD false then [.bridge a b]
  else [.bridge a hubEnd, .crossbar, .bridge hubEnd b]

/-! ### Routes -/

/-- The way from a die's spine to another die's spine. -/
def State.spineWay (s : State) (a b : Nat) : List Place :=
  if a = b then [.spine a] else .spine a :: s.dieWay a b ++ [.spine b]

/-- From a cell to the spine of its die, and from the spine to a cell. -/
def toSpine (d : Nat) (rc : Nat × Nat) : List Place := meshWay d rc (spineCell rc)

/-- From the spine of a die to a cell. -/
def fromSpine (d : Nat) (rc : Nat × Nat) : List Place := meshWay d (spineCell rc) rc

/-- The way between two cells of the module. -/
def State.cellWay (s : State) (da : Nat) (a : Nat × Nat) (db : Nat) (b : Nat × Nat) : List Place :=
  if da = db then meshWay da a b else toSpine da a ++ s.spineWay da db ++ fromSpine db b

/-- The cluster that a sender lies in, where it lies in one. -/
def State.senderCluster (s : State) (x : Sender) : Option Nat :=
  match x with
  | .unit u => some (s.clusterOf u.core.val)
  | .pilot n => some (s.clusterOf n)
  | _ => none

/-- The places a control message passes: none within a cluster; otherwise out of the sender's clock domain, over mesh, bridges and
crossbar, and into the receiver's. The staging buffer and the collector lie on their die's spine, the Navigator at the crossbar
(R38; of the collector DESIGN CHOICE, log 100). -/
def State.controlWay (s : State) (x : Sender) (u : UnitAddr) : List Place :=
  let c := s.clusterOf u.core.val
  let cell := clusterCell c
  let last := [Place.clusterIn c]
  match x with
  | .staging d => s.spineWay d (c / 8) ++ fromSpine (c / 8) cell ++ last
  | .collector d => s.spineWay d (c / 8) ++ fromSpine (c / 8) cell ++ last
  | .navigator => .crossbar :: .bridge hubEnd (c / 8) :: .spine (c / 8) :: fromSpine (c / 8) cell ++ last
  | _ =>
    match s.senderCluster x with
    | none => []
    | some b => if b = c then [] else .clusterOut b :: s.cellWay (b / 8) (clusterCell b) (c / 8) cell ++ last

/-! ### Crossings and buffers (R39, R42, R43) -/

/-- Entries of a place's buffer for control messages: 32 of 8 bytes at a crossing of a cluster's stop, 8 at a bridge (Table 1-7).
R39 gives the buffers of a stop no depth; the model never finds them full (log 100). -/
def Place.depth : Place → Option Nat
  | .clusterOut _ => some 32
  | .clusterIn _ => some 32
  | .bridge _ _ => some 8
  | _ => none

/-- What waits at a place on a virtual channel, in order: each channel has its own buffer (R39). -/
def queueAt (fs : List Flight) (p : Place) (v : Vc) : List Flight := fs.filter (fun f => f.ways.head? == some p && f.vc == v)

/-- A place can take one more: a full buffer holds its sources back, and nothing is written past full (R43). -/
def roomAt (fs : List Flight) (p : Place) (v : Vc) : Bool :=
  match p.depth with
  | none => true
  | some n => decide ((queueAt fs p v).length < n)

/-- A message stands first where it is. -/
def isFirst (fs : List Flight) (f : Flight) : Bool :=
  match f.ways.head? with
  | none => false
  | some p => (queueAt fs p f.vc).head? == some f

/-- A message that stands first goes on to its next place, at the back of what waits there, when there is room. -/
def moveFlight (fs : List Flight) (f : Flight) : List Flight :=
  let next := f.ways.drop 1
  if isFirst fs f && (match next.head? with
      | some p => roomAt fs p f.vc
      | none => true) then fs.erase f ++ [{ f with ways := next }]
  else fs

/-- One round of movement: every message on its way is offered one move, the oldest first. -/
def moveFlights (fs : List Flight) : List Flight := fs.foldl moveFlight fs

/-- Send a control message of a role. A sender whose crossing is full keeps it: it stands behind the others of that crossing. -/
def State.launch (s : State) (r : RoleSel) (x : Sender) (u : UnitAddr) (m : W64) : State :=
  { s with flights := s.flights ++ [⟨r, x, u, .control, m, s.controlWay x u⟩] }

/-- The message of a role that a unit can take next from one of its senders: it has arrived, and none that the same sender sent it
before on the same channel is still on its way or untaken (R40). -/
def nextFlight (fs : List Flight) (r : RoleSel) (u : UnitAddr) (m : W64) : Option Flight :=
  (fs.find? (fun f => f.role == r && f.dest == u && f.msg == m && f.ways.isEmpty)).bind (fun f =>
    if (fs.find? (fun g => g.source == f.source && g.dest == u && g.vc == f.vc)) == some f then some f else none)

/-! ### Time (R43, R47) -/

/-- One BCLK tick with no command waiting: DTIME advances by 1 in every state except OFF (R47), and what is on its way through the
module moves on by at most one place (R43; log 1, log 100). -/
def State.tick (s : State) : State :=
  if s.dev = .off then s else { s with dtime := s.dtime + 1, flights := moveFlights s.flights }

end Sys2Proof.Machine
end

