-- ==== Sys2Proof/Machine/Crc.lean ====
section
/-! DEFINITION. The cyclic codes the manual names: CRC-8 with polynomial 0x07 (R480, Table 15-7), CRC-16/CCITT-FALSE,
CRC-32 and CRC-32C. -/

namespace Sys2Proof.Machine

/-- One bit of a CRC taken most significant bit first, of width `w`. -/
def crcShift (w poly reg : Nat) : Nat :=
  if reg / 2 ^ (w - 1) % 2 = 1 then (reg * 2 % 2 ^ w) ^^^ poly else reg * 2 % 2 ^ w

/-- Eight bits. -/
def crcByteMsb (w poly reg : Nat) (b : Byte) : Nat :=
  (List.range 8).foldl (fun r _ => crcShift w poly r) (reg ^^^ (b.toNat * 2 ^ (w - 8)))

/-- A CRC taken most significant bit first. -/
def crcMsb (w poly init : Nat) (bs : List Byte) : Nat := bs.foldl (crcByteMsb w poly) init

/-- CRC-8, polynomial 0x07, initial value 0 (R480). -/
def crc8 (bs : List Byte) : Byte := BitVec.ofNat 8 (crcMsb 8 0x07 0 bs)

/-- One bit of a reflected CRC. -/
def crcShiftLsb (poly reg : Nat) : Nat := if reg % 2 = 1 then (reg / 2) ^^^ poly else reg / 2

/-- A reflected CRC of 32 bits with initial value and final complement of all ones. -/
def crcLsb32 (poly : Nat) (bs : List Byte) : Nat :=
  (bs.foldl (fun reg b => (List.range 8).foldl (fun r _ => crcShiftLsb poly r) (reg ^^^ b.toNat)) 0xFFFFFFFF)
    ^^^ 0xFFFFFFFF

/-- CRC-32C (Castagnoli). -/
def crc32c (bs : List Byte) : Nat := crcLsb32 0x82F63B78 bs

end Sys2Proof.Machine
end

