-- ==== Sys2Proof/Machine/Passage.lean ====
section
/-! DEFINITION. The passage image: its records, and the checks of R244 up to the order conditions
(spec/07_passages.md, Tables 7-1 to 7-8; log 30). -/

namespace Sys2Proof.Machine

/-! ### Formats and shapes -/

/-- The number format of a format code; none for EQS8 and bytes (Table 6-5). -/
def fmtOf : Nat → Option Fmt
  | 0 => some .fp32
  | 1 => some .bf16
  | 2 => some .fp16
  | 3 => some .fp64
  | 4 => some .eq4
  | 5 => some .eq6a
  | 6 => some .eq6b
  | 7 => some .eq8a
  | 8 => some .eq8b
  | 9 => some .int8
  | 10 => some .int4
  | _ => none

/-- Bytes that `n` elements of a format code take. -/
def codeBytes (code n : Nat) : Nat :=
  match fmtOf code with
  | some f => f.bytes n
  | none => n

/-- The next rung of a format on a tensor's ladder (Table 4-2, R130); none at the top. -/
def Tensor.climb (t : Tensor) (code : Nat) : Option Nat :=
  if t.carry then none
  else match code with
    | 4 => some (if t.alt6 then 6 else 5)
    | 5 | 6 => some (if t.alt8 then 8 else 7)
    | 7 | 8 => some 1
    | 10 => some 9
    | 9 => some 1
    | _ => none

/-- The format code of a tensor climbed `n` times, stopping at the top of its ladder (R133). -/
def Tensor.formatAt (t : Tensor) : Nat → Nat
  | 0 => t.format
  | n + 1 => ((t.climb (t.formatAt n)).getD (t.formatAt n))

/-- Rungs above the declared format that the ladder has, at most 3. -/
def Tensor.ladder (t : Tensor) : Nat :=
  ((List.range 3).filter (fun n => (t.climb (t.formatAt n)).isSome)).length

/-- The highest rung a tensor may take: its ceiling, 7 naming the top of its ladder (R130). -/
def Tensor.top (t : Tensor) : Nat := if t.ceiling = 7 then t.ladder else min t.ceiling t.ladder

/-- Block length; 0 without blocks. -/
def Tensor.blockLen (t : Tensor) : Nat := if t.block = 0 then 0 else 16 * 2 ^ t.block

/-- Elements of a full tile by its shape code; 0 for byte tiles (Table 6-4). -/
def tileElems (shape : Nat) : Nat :=
  match shape with
  | 0 => 4096
  | 1 => 8192
  | 2 => 4096
  | _ => 0

/-- Tile width of an F or G tile. -/
def tileWidth (shape : Nat) : Nat := if shape = 0 then 64 else 128

/-- Tiles of a tensor (R90, R167, R203). -/
def Tensor.tiles (t : Tensor) : Nat :=
  match t.shape with
  | 0 => ceilDiv t.rows 64 * ceilDiv t.cols 64
  | 1 => ceilDiv t.rows 64 * ceilDiv t.cols 128
  | 2 => ceilDiv (t.rows * t.cols) 4096
  | _ => ceilDiv (codeBytes t.format (t.rows * t.cols)) 4096

/-- Stride of a tile in 64-byte units, sized at the ceiling rung (R134). -/
def Tensor.units (t : Tensor) : Nat :=
  if t.shape = 3 then 64
  else
    let most := ((List.range (t.top + 1)).map (fun n => codeBytes (t.formatAt n) (tileElems t.shape))).foldl max 0
    ceilDiv most 64

/-- Where an element of a matrix lies: tile and element index (R90, R167). -/
def Tensor.place (t : Tensor) (row col : Nat) : Nat × Nat :=
  if t.shape < 2 then
    let w := tileWidth t.shape
    (row / 64 * ceilDiv t.cols w + col / w, row % 64 * w + col % w)
  else
    let i := row * t.cols + col
    (i / 4096, i % 4096)

/-- The row and column of an element of a tile; none outside the valid extent (R91). -/
def Tensor.unplace (t : Tensor) (tile elem : Nat) : Option (Nat × Nat) :=
  if t.shape < 2 then
    let w := tileWidth t.shape
    let per := ceilDiv t.cols w
    let row := tile / per * 64 + elem / w
    let col := tile % per * w + elem % w
    if row < t.rows ∧ col < t.cols then some (row, col) else none
  else
    let i := tile * 4096 + elem
    if i < t.rows * t.cols then some (i / t.cols, i % t.cols) else none

/-- The valid elements of a tile, in ascending element index. -/
def Tensor.validElems (t : Tensor) (tile : Nat) : List Nat :=
  (List.range (if t.shape = 3 then 4096 else tileElems t.shape)).filter (fun e => (t.unplace tile e).isSome)

/-- Elements along one row of blocks, and blocks in it: blocks run along the column or the row index (Table 7-3). -/
def Tensor.blocksPerLine (t : Tensor) : Nat :=
  if t.blockLen = 0 then 0 else ceilDiv (if t.rowBlocks then t.rows else t.cols) t.blockLen

/-- The block of an element: its index in the companion arrays, line by line along the blocks' axis (log 31). -/
def Tensor.blockOf (t : Tensor) (row col : Nat) : Nat :=
  if t.rowBlocks then col * t.blocksPerLine + row / t.blockLen else row * t.blocksPerLine + col / t.blockLen

/-- A tensor of the passage by its ID. -/
def Passage.tensor? (p : Passage) (id : Nat) : Option Tensor := p.tensors.find? (fun t => t.id == id)

/-- A leg of the passage by its work index. -/
def Passage.leg? (p : Passage) (i : Nat) : Option Leg := p.legs[i]?

/-- The streams of a leg (R239). -/
def Passage.streamsOf (p : Passage) (l : Leg) : List Stream := (p.streams.drop l.firstStream).take l.streamCount

/-- The tile that stream `s` names in place `j`. -/
def Stream.tileAt (s : Stream) (j : Nat) : Nat := s.firstTile + j * s.tileStep

/-- The tiles of a stream. -/
def Stream.tiles (s : Stream) : List Nat := (List.range s.tileCount).map s.tileAt

/-- Bytes that `n` elements of a format take in a Compass-buffer ring: a 6-bit operand takes the space of an 8-bit one (R106). -/
def ringBytes (code n : Nat) : Nat := if code = 5 ∨ code = 6 then n else codeBytes code n

/-- Ring space of one tile of a tensor, at its declared format: the worked example of 07_passages.md sizes a ring so. A tile that
stands at a raised rung takes a slot of the ring all the same (log 103). -/
def Tensor.slotBytes (t : Tensor) : Nat := if t.shape = 3 then 4096 else ringBytes t.format (tileElems t.shape)

/-- The tiles of a tensor that hold the flat elements from `lo` up to `hi`. -/
def Tensor.tilesBetween (t : Tensor) (lo hi : Nat) : List Nat :=
  if hi ≤ lo then []
  else if t.shape = 2 then (List.range ((hi - 1) / 4096 + 1 - lo / 4096)).map (lo / 4096 + ·)
  else if t.shape < 2 then
    let per := ceilDiv t.cols (tileWidth t.shape)
    let r0 := lo / max t.cols 1 / 64
    let r1 := (hi - 1) / max t.cols 1 / 64
    (List.range ((r1 + 1 - r0) * per)).map (r0 * per + ·)
  else List.range t.tiles

/-- The tiles of a matrix that a rectangle of it touches: rows `r` up to `r + m`, columns `c` up to `c + n`. -/
def Tensor.rectTiles (t : Tensor) (r m c n : Nat) : List Nat :=
  let m := min m (t.rows - r)
  let n := min n (t.cols - c)
  if m = 0 ∨ n = 0 then []
  else if t.shape < 2 then
    let w := tileWidth t.shape
    let per := ceilDiv t.cols w
    (List.range ((r + m - 1) / 64 + 1 - r / 64)).flatMap (fun i =>
      (List.range ((c + n - 1) / w + 1 - c / w)).map (fun j => (r / 64 + i) * per + c / w + j))
  else ((List.range m).flatMap (fun i => t.tilesBetween ((r + i) * t.cols + c) ((r + i) * t.cols + c + n))).eraseDups

/-- The companion arrays that a tensor names (R233). -/
def Tensor.companions (t : Tensor) : List Nat := [t.scalesId, t.zpId, t.outIndexId, t.outSideId].filter (· ≠ 0xFFFF)

/-- Legs that name a collective: its Rendezvous legs, and for a norm combine the GRADIENT_CLOSE leg (R270). -/
def Passage.collectiveUses (p : Passage) (c : Nat) : Nat :=
  match p.collectives[c]? with
  | some d => if d.kind = 2 then 1 else (p.legs.filter (fun l => l.kind == 11 && l.op == c)).length
  | none => 0

/-- Positions of the tree's children (R271). -/
def Collective.children (c : Collective) : List Nat :=
  ((List.range 8).map (fun i => 8 * c.selfPos + 1 + i)).filter (fun q => q < c.members.length)

/-- Position of the tree's parent; none at the root. -/
def Collective.parent? (c : Collective) : Option Nat := if c.selfPos = 0 then none else some ((c.selfPos - 1) / 8)

/-- The knots of a collective with their quotas (Table 8-3). -/
def Passage.collectiveKnots (p : Passage) (i : Nat) : List (Nat × Nat) :=
  match p.collectives[i]? with
  | none => []
  | some c =>
    if c.kind = 1 then [(c.knotBase, c.tileCount)]
    else
      let e := p.collectiveUses i
      [(c.knotBase, e * (c.children.length + 1)), (c.knotBase + 1, e)]

/-- Q_i of every knot with one (R260). -/
def Passage.quotas (p : Passage) : List (Nat × Nat) :=
  (List.range p.collectives.length).flatMap p.collectiveKnots
    ++ ((p.legs.filter Leg.waitEn).map (fun l => (l.waitKnot, l.waitStep))).eraseDups

/-- Q of one knot; 0 for every other. -/
def Passage.quota (p : Passage) (k : Nat) : Nat := ((p.quotas.find? (fun q => q.1 == k)).map Prod.snd).getD 0

/-- F and G product tiles that the passage runs in one step (R145). -/
def Passage.productTiles (p : Passage) : Nat :=
  ((p.legs.filter (fun l => l.kind < 3 ∧ l.chunk = 0)).map Leg.tileCount).foldl (· + ·) 0

/-- The tiles a leg writes through itself: tensor and tile (Y_ID, FIRST_TILE, TILE_COUNT). -/
def Leg.outputs (l : Leg) : List (Nat × Nat) := (List.range l.tileCount).map (fun j => (l.y, l.firstTile + j))

/-- Tensors a leg writes: its Y, and those of its outbound streams. -/
def Passage.writes (p : Passage) (l : Leg) : List Nat :=
  ((if l.y = 0xFFFF ∨ l.kind = 11 then [] else [l.y])
    ++ ((p.streamsOf l).filter Stream.outbound).map Stream.tensor).eraseDups

/-- Tiles that some leg of the step writes: through Y_ID or an outbound stream. -/
def Passage.writesTile (p : Passage) (l : Leg) (tensor tile : Nat) : Bool :=
  (decide (l.kind ≠ 11) && decide (l.y = tensor) && decide (l.firstTile ≤ tile) && decide (tile < l.firstTile + l.tileCount))
    || (p.streamsOf l).any (fun st => st.outbound && decide (st.tensor = tensor) && st.tiles.contains tile)

/-- The gradient that a contribution leg brings about: its collective's (Table 8-2). -/
def Passage.contributes (p : Passage) (l : Leg) : Option Nat :=
  if l.kind = 10 then (p.collectives[l.op]?).map Collective.tensor else none

/-- Tiles that exist in the step through a leg: those it writes, and those that its contribution lands. -/
def Passage.makesTile (p : Passage) (l : Leg) (tensor tile : Nat) : Bool :=
  p.writesTile l tensor tile
    || (p.contributes l == some tensor && decide (l.firstTile ≤ tile) && decide (tile < l.firstTile + l.tileCount))

/-- Tensors a leg reads. -/
def Passage.reads (p : Passage) (l : Leg) : List Nat :=
  ([l.a, l.b].filter (· ≠ 0xFFFF)
    ++ ((p.streamsOf l).filter (fun s => !s.outbound)).map Stream.tensor).eraseDups

/-! ### Reading records -/

/-- Bits `hi:lo` of a number. -/
def bitsOf (w hi lo : Nat) : Nat := w / 2 ^ lo % 2 ^ (hi + 1 - lo)

/-- One bit. -/
def bitAt (w i : Nat) : Bool := decide (w / 2 ^ i % 2 = 1)

/-- The 64-bit word at a byte offset. -/
def wordAt (bs : List Byte) (off : Nat) : Nat := fieldAt bs off 8

/-- A tensor descriptor (Table 7-3). -/
def parseTensor (b : List Byte) : Tensor :=
  let w := wordAt b 0
  let x := wordAt b 16
  let y := wordAt b 24
  { id := bitsOf w 63 48, format := bitsOf w 47 44, kind := bitsOf w 43 40, carry := bitAt w 39,
    outMode := bitsOf w 38 37, rnd := bitsOf w 36 34, block := bitsOf w 33 32, zp := bitAt w 31, rowBlocks := bitAt w 30,
    alt6 := bitAt w 29, alt8 := bitAt w 28, ceiling := bitsOf w 27 25, drift := bitsOf w 24 23,
    driftGradient := bitAt w 22, outliers := bitAt w 21, master := bitAt w 20, pinned := bitAt w 19,
    offloadOk := bitAt w 18, isLocal := bitAt w 17, shape := bitsOf w 16 15, init := bitsOf w 14 13,
    rows := bitsOf (wordAt b 8) 63 32, cols := bitsOf (wordAt b 8) 31 0,
    coarse := bitsOf x 63 32, group := bitsOf x 31 16, partner := bitsOf x 15 0,
    scalesId := bitsOf y 63 48, zpId := bitsOf y 47 32, outIndexId := bitsOf y 31 16, outSideId := bitsOf y 15 0,
    pinTier := bitsOf (wordAt b 32) 63 61, pinAddr := bitsOf (wordAt b 32) 51 0, source := bitsOf (wordAt b 40) 51 0 }

/-- Reserved bits of a tensor descriptor are zero. -/
def tensorReserved (b : List Byte) : Bool :=
  bitsOf (wordAt b 0) 12 0 == 0 && bitsOf (wordAt b 32) 60 52 == 0 && bitsOf (wordAt b 40) 63 52 == 0
    && wordAt b 48 == 0 && wordAt b 56 == 0

/-- A leg descriptor (Table 7-4). -/
def parseLeg (b : List Byte) : Leg :=
  let w := wordAt b 0
  let c := wordAt b 24
  let s := wordAt b 32
  let k := wordAt b 48
  let g := wordAt b 56
  { kind := bitsOf w 63 60, orientA := bitAt w 59, orientB := bitAt w 58, y := bitsOf w 55 40, a := bitsOf w 39 24,
    b := bitsOf w 23 8, streamCount := bitsOf w 7 0, firstTile := bitsOf (wordAt b 8) 63 32,
    tileCount := bitsOf (wordAt b 8) 31 0, kStart := bitsOf (wordAt b 16) 63 32, kLen := bitsOf (wordAt b 16) 31 0,
    chunk := bitsOf c 63 48, chunkCount := bitsOf c 47 32, useIndex := bitsOf c 31 16, op := bitsOf c 15 0,
    firstStream := bitsOf s 63 32, param0 := bitsOf s 31 0, param1 := bitsOf (wordAt b 40) 63 32,
    rowChunk := bitsOf (wordAt b 40) 31 0, waitEn := bitAt k 63, waitKnot := bitsOf k 43 32, waitStep := bitsOf k 31 0,
    signalEn := bitAt g 63, signalKnot := bitsOf g 11 0 }

/-- Reserved bits of a leg descriptor are zero. -/
def legReserved (b : List Byte) : Bool :=
  bitsOf (wordAt b 0) 57 56 == 0 && bitsOf (wordAt b 48) 62 44 == 0 && bitsOf (wordAt b 56) 62 12 == 0

/-- A stream descriptor (Table 7-6). -/
def parseStream (b : List Byte) : Stream :=
  let w := wordAt b 0
  let c := wordAt b 8
  { tensor := bitsOf w 63 48, firstTile := bitsOf w 47 16, outbound := bitAt w 15, role := bitsOf w 14 12,
    slot := bitsOf w 11 9, transpose := bitAt w 8, bypass := bitAt w 7, hold := bitAt w 6, chunkIn := bitAt w 5,
    tileCount := bitsOf c 63 32, ringTiles := bitsOf c 31 24, ringKib := bitsOf c 23 8,
    tileStep := bitsOf (wordAt b 16) 63 32 }

/-- Reserved bits of a stream descriptor are zero. -/
def streamReserved (b : List Byte) : Bool :=
  bitsOf (wordAt b 0) 4 0 == 0 && bitsOf (wordAt b 8) 7 0 == 0 && bitsOf (wordAt b 16) 31 0 == 0 && wordAt b 24 == 0

/-- A collective descriptor; `list` reads its member list (Table 8-2, R269). -/
def parseCollective (b : List Byte) (list : Nat → Nat → List Byte) : Collective :=
  let w := wordAt b 0
  let n := bitsOf w 15 0
  let bytes := list (bitsOf (wordAt b 8) 51 0) (2 * n)
  { kind := bitsOf w 63 60, gradientClose := bitAt w 59, stepClose := bitAt w 58, wire := bitsOf w 57 56,
    knotBase := bitsOf w 55 44, headroom := bitsOf w 43 40, tensor := bitsOf w 31 16,
    members := (List.range n).map (fun i => fieldAt bytes (2 * i) 2), selfPos := bitsOf (wordAt b 24) 49 36,
    stallUs := bitsOf (wordAt b 24) 31 0, firstTile := bitsOf (wordAt b 16) 63 32,
    tileCount := bitsOf (wordAt b 16) 31 0 }

/-- Reserved bits of a collective descriptor are zero. -/
def collectiveReserved (b : List Byte) : Bool :=
  bitsOf (wordAt b 0) 39 32 == 0 && bitsOf (wordAt b 8) 63 52 == 0 && bitsOf (wordAt b 24) 63 50 == 0
    && bitsOf (wordAt b 24) 35 32 == 0 && wordAt b 32 == 0 && wordAt b 40 == 0 && wordAt b 48 == 0 && wordAt b 56 == 0

/-- An off-load plan entry (Table 7-6a). -/
def parseOffload (b : List Byte) : OffloadEntry :=
  let lead := bitsOf (wordAt b 8) 59 56
  ⟨bitsOf (wordAt b 0) 63 61, bitsOf (wordAt b 0) 13 0, if lead = 0 then 2 else lead, bitsOf (wordAt b 8) 31 0⟩

/-- The rules of an off-load plan entry hold. -/
def offloadSound (b : List Byte) : Bool :=
  let e := parseOffload b
  bitsOf (wordAt b 0) 60 14 == 0 && bitsOf (wordAt b 8) 63 60 == 0 && bitsOf (wordAt b 8) 55 32 == 0
    && decide (2 ≤ e.tier ∧ e.tier ≤ 4) && (e.tier == 3 || e.peer == 0) && decide (e.lead ≤ 8) && decide (1 ≤ e.quota)

/-- Offset and count of a section (R231). -/
def sectionAt (img : List Byte) (i : Nat) : Nat × Nat :=
  (bitsOf (wordAt img (128 + 8 * i)) 63 32, bitsOf (wordAt img (128 + 8 * i)) 31 0)

/-- Record `j` of section `i`, of `n` bytes. -/
def recordAt (img : List Byte) (i j n : Nat) : List Byte := sliceBytes img ((sectionAt img i).1 + n * j) n

/-- The programs of the image (R240). -/
def parsePrograms (img : List Byte) : List Program :=
  let sec := sectionAt img 3
  (List.range sec.2).map (fun i =>
    let off := sec.1 + fieldAt img (sec.1 + 4 * i) 4
    let h := wordAt img off
    ⟨BitVec.ofNat 64 h, (List.range (bitsOf h 5 0)).map (fun j => BitVec.ofNat 32 (fieldAt img (off + 8 + 4 * j) 4))⟩)

/-- The device's copy of an image. -/
def parsePassage (img : List Byte) (list : Nat → Nat → List Byte) : Passage :=
  let n := fun i => (sectionAt img i).2
  { id := wordAt img 8, seed := BitVec.ofNat 64 (wordAt img 16), sndBase := bitsOf (wordAt img 32) 51 0,
    sndStride := bitsOf (wordAt img 40) 63 32, sndDepth := bitsOf (wordAt img 40) 31 16,
    paramBase := bitsOf (wordAt img 48) 51 0, paramDepth := bitsOf (wordAt img 56) 63 56 + 1,
    normCollective := bitsOf (wordAt img 56) 55 40, carryHistory := bitAt (wordAt img 56) 16,
    fPages := bitsOf (wordAt img 64) 63 56, dxPages := bitsOf (wordAt img 64) 55 48,
    dwPages := bitsOf (wordAt img 64) 47 40, patternLen := bitsOf (wordAt img 64) 36 32,
    pattern := bitsOf (wordAt img 64) 15 0, seqLen := bitsOf (wordAt img 72) 23 0,
    tensors := (List.range (n 0)).map (fun j => parseTensor (recordAt img 0 j 64)),
    legs := (List.range (n 1)).map (fun j => parseLeg (recordAt img 1 j 64)),
    streams := (List.range (n 2)).map (fun j => parseStream (recordAt img 2 j 32)),
    programs := parsePrograms img,
    collectives := (List.range (n 4)).map (fun j => parseCollective (recordAt img 4 j 64) list),
    offload := (List.range (n 5)).map (fun j => parseOffload (recordAt img 5 j 16)),
    hostmap := (List.range (n 6)).map (fun j => bitsOf (wordAt (recordAt img 6 j 8) 0) 7 0),
    image := img }

/-! ### Checks (R244) -/

/-- A refusal: code of Table 7-8, section and record index. -/
structure LoadError where
  code : Nat
  sect : Nat
  index : Nat
  deriving DecidableEq, Repr

/-- The first condition that holds gives its code. -/
def firstCode : List (Bool × Nat) → Option Nat
  | [] => none
  | (b, c) :: rest => if b then some c else firstCode rest

/-- The first record with a fault, in ascending index. -/
def firstRecord (sect n : Nat) (check : Nat → Option Nat) : Option LoadError :=
  (List.range n).findSome? (fun i => (check i).map (fun c => ⟨c, sect, i⟩))

/-- All bytes of a range are zero. -/
def zeroRange (bs : List Byte) (lo hi : Nat) : Bool := ((bs.drop lo).take (hi - lo)).all (· == 0)

/-- Bytes of a section's records. -/
def sectionBytes (img : List Byte) (i : Nat) : Nat :=
  let sec := sectionAt img i
  match i with
  | 0 => 64 * sec.2
  | 1 => 64 * sec.2
  | 2 => 32 * sec.2
  | 3 => (List.range sec.2).foldl (fun m j =>
      let off := fieldAt img (sec.1 + 4 * j) 4
      max m (off + 8 + 4 * bitsOf (wordAt img (sec.1 + off)) 5 0)) (4 * sec.2)
  | 4 => 64 * sec.2
  | 5 => 16 * sec.2
  | 6 => 8 * sec.2
  | _ => 0

/-- Count limits of Table 7-2; one HOSTMAP entry per leg. -/
def sectionLimit (i : Nat) : Nat :=
  match i with
  | 0 => 65535
  | 1 => 1048576
  | 2 => 16777216
  | 3 => 4096
  | 4 => 4096
  | 5 => 3
  | 6 => 1048576
  | _ => 0

/-- The sections lie on 64-byte boundaries one after another, with zero padding between them and after the last, and
nothing lies outside them (R230). -/
def layoutSound (img : List Byte) : Bool :=
  let secs := ((List.range 8).filter (fun i => (sectionAt img i).2 ≠ 0)).map
    (fun i => ((sectionAt img i).1, sectionBytes img i))
  let sorted := secs.ordered (fun a b => a.1 ≤ b.1)
  let endOk := sorted.foldl (fun (acc : Nat × Bool) sec =>
    let start := (acc.1 + 63) / 64 * 64
    (sec.1 + sec.2, acc.2 && decide (sec.1 = start) && zeroRange img acc.1 start)) (256, true)
  endOk.2 && decide (endOk.1 ≤ img.length) && decide (img.length ≤ (endOk.1 + 63) / 64 * 64)
    && zeroRange img endOk.1 img.length

/-- The image and its header are sound (R230, R231, Table 7-1). -/
def imageSound (img : List Byte) : Bool :=
  let w := fun off => wordAt img off
  let programs := sectionAt img 3
  decide (256 ≤ img.length) && bitsOf (w 0) 63 48 == 256 && bitsOf (w 0) 47 32 == 0x0100 && bitsOf (w 0) 31 0 == 0x47505153
    && decide (w 8 ≠ 0) && bitsOf (w 24) 31 0 == img.length
    && bitsOf (w 24) 63 32 == crc32c (img.take 28 ++ [0, 0, 0, 0] ++ img.drop 32)
    && bitsOf (w 32) 63 52 == 0 && bitsOf (w 40) 15 0 == 0 && bitsOf (w 48) 63 52 == 0 && bitsOf (w 56) 39 17 == 0
    && bitsOf (w 56) 15 0 == 0 && bitsOf (w 64) 39 37 == 0 && bitsOf (w 64) 31 16 == 0 && bitsOf (w 72) 63 24 == 0
    && zeroRange img 80 128 && zeroRange img 192 256
    && (List.range 8).all (fun i =>
        let sec := sectionAt img i
        decide (sec.2 ≤ sectionLimit i) && decide (sec.2 = 0 → sec.1 = 0))
    && decide ((sectionAt img 6).2 ≤ (sectionAt img 1).2)
    && (List.range programs.2).all (fun j => fieldAt img (programs.1 + 4 * j) 4 % 8 == 0)
    && decide ((sectionAt img 0).2 ≠ 0) && decide ((sectionAt img 1).2 ≠ 0) && layoutSound img

/-! #### Addresses (R6, R192, R193) -/

/-- The module addresses of the tiers of Table 6-4: cluster stores, HBM4E, the twin's HBM4E, and host memory. -/
def storeRange (c : Nat) : Nat × Nat := (0x10000000000 + c * 0x1000000, 0x10000000000 + c * 0x1000000 + 12 * 2 ^ 20)
def hbmRange (v : Variant) : Nat × Nat := (0, v.stacks * 2 ^ 36)
def compassRange (v : Variant) : Nat × Nat := (0x20000000000, 0x20000000000 + 72 * v.dies * 0x100000)
def twinRange (v : Variant) : Nat × Nat := (0x4000000000000, 0x4000000000000 + v.stacks * 2 ^ 36)
def hostRange : Nat × Nat := (0x8000000000000, 0x8000000000000 + 2 ^ 51)

/-- The twin link is fitted and paired. -/
def twinReached (v : Variant) (paired : Bool) : Bool := v.hasTwin && paired

/-- The mapped ranges of Table 6-1, each from its first address up to the one after its last; of a cluster-store window the first
12 MiB (R193). -/
def mappedRanges (v : Variant) (paired : Bool) : List (Nat × Nat) :=
  [hbmRange v] ++ (List.range (8 * v.dies)).map storeRange ++ [compassRange v]
    ++ (if twinReached v paired then [twinRange v] else []) ++ [hostRange]

/-- The ranges of absent stacks and dies, and of the twin where its link is absent or not paired (R193). -/
def absentRanges (v : Variant) (paired : Bool) : List (Nat × Nat) :=
  [(v.stacks * 2 ^ 36, 2 ^ 39), (0x10000000000 + v.dies * 0x8000000, 0x10000000000 + 0x20000000),
   (0x20000000000 + 72 * v.dies * 0x100000, 0x20000000000 + 288 * 0x100000),
   (if twinReached v paired then (twinRange v).2 else (twinRange v).1, 0x4000000000000 + 2 ^ 39)]

/-- A range of at least one byte lies within one range of a list. -/
def withinRange (rs : List (Nat × Nat)) (a n : Nat) : Bool := rs.any (fun r => decide (r.1 ≤ a) && decide (a + max n 1 ≤ r.2))

/-- Every byte of a range is mapped. -/
def mappedAddr (v : Variant) (paired : Bool) (a n : Nat) : Bool := withinRange (mappedRanges v paired) a n

/-- Some byte of a range lies in an absent stack, die or twin link. -/
def absentAddr (v : Variant) (paired : Bool) (a n : Nat) : Bool :=
  (absentRanges v paired).any (fun r => decide (r.1 < a + max n 1) && decide (a < r.2))

/-- A range that a record names is refused: UNIT_ABSENT where a byte of it is absent (R6), BAD_ADDRESS where one is unmapped
(R193). -/
def addressCode (v : Variant) (paired : Bool) (a n : Nat) : Option Nat :=
  if absentAddr v paired a n then some 2 else if mappedAddr v paired a n then none else some 9

/-- The ranges that a pinned home of a tier may take; an address at a peer is the peer's (Table 6-4). -/
def tierRanges (v : Variant) : Nat → List (Nat × Nat)
  | 0 => (List.range (8 * v.dies)).map storeRange
  | 1 => [hbmRange v]
  | 2 => [twinRange v]
  | 3 => [(0, 2 ^ 52)]
  | 4 => [hostRange]
  | _ => []

/-- A pinned home: its unit must be present, and its whole range in the tier's part of the map (R6, R193). -/
def pinCode (v : Variant) (paired : Bool) (t : Tensor) : Option Nat :=
  let n := t.tiles * 64 * t.units
  if !t.pinned then none
  else if (t.pinTier == 2 && !twinReached v paired) || (decide (t.pinTier ≠ 3) && absentAddr v paired t.pinAddr n) then some 2
  else if withinRange (tierRanges v t.pinTier) t.pinAddr n then none
  else some 9

/-- Check 1: the image and the header (R111, R112, R126, R184, R193, R210). The Soundings tables and the ring of parameter
entries are named by the header. -/
def checkImage (v : Variant) (paired : Bool) (img : List Byte) : Option LoadError :=
  let p := parsePassage img (fun _ _ => [])
  let top := (p.tensors.map Tensor.id).foldl max 0
  let snd_ := addressCode v paired p.sndBase (p.sndStride * p.sndDepth)
  let param := addressCode v paired p.paramBase (64 * p.paramDepth)
  (firstCode
    [(!imageSound img, 1),
     (decide (p.sndDepth = 0) || decide (p.sndStride % 64 ≠ 0) || decide (p.sndStride < 64 * (top + 1)), 1),
     (snd_ == some 2 || param == some 2, 2),
     (decide (32 < p.fPages + p.dxPages + p.dwPages) || decide (p.patternLen = 0) || decide (16 < p.patternLen), 7),
     (snd_ == some 9 || param == some 9, 9),
     (decide (p.seqLen = 0) || decide (8388608 < p.seqLen), 11)]).map (fun c => ⟨c, 0, 0⟩)

/-! #### Tensors and streams -/

/-- The conversions of Table 2-7 between the formats of stored elements, a format standing for itself too: FP formats into one
another, FP32 and the 16-bit formats into EQ and INT, and EQ and INT into FP32 (R73). Re-blocking has its own rule. -/
def converts (a b : Nat) : Bool :=
  (a == b && decide (a ≤ 10)) || (decide (a < 4) && decide (b < 4)) || (decide (a < 3) && decide (4 ≤ b ∧ b ≤ 10))
    || (decide (4 ≤ a ∧ a ≤ 10) && b == 0)

/-- A CARRY tensor is FP32, or one half of a BF16 pair whose other half is a CARRY tensor too (R127). -/
def carrySound (p : Passage) (t : Tensor) : Bool :=
  t.format == 0 || (t.format == 1 && (match p.tensor? t.partner with
    | some q => decide (t.partner ≠ 0xFFFF) && q.carry && q.format == 1
    | none => false))

/-- The low half of a CARRY pair: the higher tensor ID of the two (log 45). -/
def Passage.carryLow (p : Passage) (id : Nat) : Bool :=
  match p.tensor? id with
  | some t => t.carry && decide (t.partner ≠ 0xFFFF) && decide (t.partner < id) && t.format == 1
  | none => false

/-- S is a positive, finite, non-zero FP32 value, and 1.0 for FP32 and FP64 (R67). -/
def coarseSound (t : Tensor) : Bool :=
  decide (0 < t.coarse ∧ t.coarse < 0x7F800000) && (!(t.format == 0 || t.format == 3) || t.coarse == 0x3F800000)

/-- Whether a tensor carries block scales: block-scaled EQ formats, or EQ8 and INT with blocks (R66). -/
def Tensor.scaled (t : Tensor) : Bool := decide (t.block ≠ 0) && decide (4 ≤ t.format ∧ t.format ≤ 10)

/-- A companion array is absent, or names a tensor of kind 6 or 7 (R233). -/
def companionSound (p : Passage) (id : Nat) : Bool :=
  id == 0xFFFF || (match p.tensor? id with
    | some c => c.kind == 6 || c.kind == 7
    | none => false)

/-- The pair rules of R233. -/
def pairSound (p : Passage) (t : Tensor) : Bool :=
  t.partner == 0xFFFF || (match p.tensor? t.partner with
    | some q => q.partner == t.id && q.rows == t.rows && q.cols == t.cols && q.shape == t.shape
        && (!(t.kind == 0 || t.kind == 1) || (t.format == 1 && q.format == 1 && t.kind + q.kind == 1))
    | none => false)

/-- Whether a tensor is produced by an F or G engine. -/
def Passage.engineMade (p : Passage) (id : Nat) : Bool := p.legs.any (fun l => decide (l.kind < 3) && l.y == id)

/-- Check 2 of one tensor (R49, R66, R67, R70, R75, R102, R127, R135, R210, R232 to R234). -/
def checkTensor (v : Variant) (paired : Bool) (p : Passage) (b : List Byte) (i : Nat) (t : Tensor) : Option Nat :=
  let isInt := decide (t.format = 9 ∨ t.format = 10)
  let alwaysBlocks := decide (4 ≤ t.format ∧ t.format ≤ 6)
  let mayBlock := decide (4 ≤ t.format ∧ t.format ≤ 10)
  let pin := pinCode v paired t
  let source := if t.init = 2 then addressCode v paired t.source (t.tiles * 64 * t.units) else none
  let crosses := decide (t.shape < 2) && (if t.rowBlocks then decide (64 < t.blockLen) else decide (tileWidth t.shape < t.blockLen))
  firstCode
    [(!tensorReserved b, 1),
     (pin == some 2 || source == some 2, 2),
     (decide (12 < t.format) || decide (5 < t.rnd) || (t.rnd == 5 && t.format == 3) || t.outMode == 3
        || (t.carry && !carrySound p t), 3),
     (t.id == 0xFFFF || decide ((p.tensors.take i).any (fun u => u.id == t.id) = true) || decide (10 < t.kind)
        || t.rows == 0 || t.cols == 0 || !coarseSound t
        || (alwaysBlocks && t.block == 0) || (!mayBlock && decide (t.block ≠ 0))
        || (t.scaled && t.scalesId == 0xFFFF) || (t.zp && (t.zpId == 0xFFFF || !isInt))
        || (t.outliers && (t.outIndexId == 0xFFFF || t.outSideId == 0xFFFF || !alwaysBlocks))
        || !(companionSound p t.scalesId && companionSound p t.zpId && companionSound p t.outIndexId
              && companionSound p t.outSideId)
        || !pairSound p t || decide (4 ≤ t.ceiling ∧ t.ceiling ≤ 6) || t.init == 3 || crosses
        || (decide (t.kind ≠ 4) && decide (t.group ≠ 0)), 4),
     (pin == some 9 || source == some 9, 9),
     (t.drift == 3 || (decide (t.drift ≠ 0) && !p.engineMade t.id)
        || (t.drift == 1 && p.legs.any (fun l => l.kind == 2 && l.y == t.id))
        || decide (4096 < ((p.tensors.take (i + 1)).filter (fun u => u.drift ≠ 0)).length), 11),
     ((t.offloadOk && decide (t.kind ≠ 4)) || (t.isLocal && decide (t.kind ≠ 5)), 14)]

/-- Check 3 of one stream (R239, R245 condition 5, Table 7-12). -/
def checkStream (p : Passage) (hostTranspose : Bool) (b : List Byte) (s : Stream) : Option Nat :=
  match p.tensor? s.tensor with
  | none => some (if streamReserved b then 4 else 1)
  | some t =>
    firstCode
      [(!streamReserved b, 1),
       (s.transpose && hostTranspose, 3),
       (s.tileCount == 0 || decide (t.tiles ≤ s.firstTile + (s.tileCount - 1) * s.tileStep), 4),
       (s.tileStep == 0 || s.ringKib == 0 || decide (1024 < s.ringKib) || decide (4 < s.role)
          || (!s.chunkIn && decide (1024 * s.ringKib < t.slotBytes))
          || (s.hold && ((decide (s.ringTiles ≠ 0) && decide (s.ringTiles < s.tileCount))
                || decide (1024 * s.ringKib < s.tileCount * t.slotBytes))), 12)]

/-! #### Programs (R162 to R166) -/

/-- The fields of an instruction word (Table 5-3). -/
structure Instruction where
  op : Nat
  rnd : Nat
  dst : Nat
  a : Nat
  b : Nat
  c : Nat
  na : Bool
  nb : Bool
  nc : Bool
  cond : Nat
  deriving DecidableEq, Repr

/-- Read an instruction word. -/
def readInstruction (w : W32) : Instruction :=
  let n := w.toNat
  ⟨bitsOf n 31 28, bitsOf n 27 25, bitsOf n 24 21, bitsOf n 20 16, bitsOf n 15 11, bitsOf n 10 6, bitAt n 5, bitAt n 4,
    bitAt n 3, bitsOf n 2 0⟩

/-- Operands of an operation: one, two or three (Table 5-4). -/
def opArity (op : Nat) : Nat :=
  match op with
  | 0 => 2
  | 1 => 2
  | 2 => 3
  | 6 => 2
  | 7 => 3
  | 8 => 2
  | 10 => 2
  | 12 => 2
  | _ => 1

/-- The operand fields an instruction reads. -/
def Instruction.sources (i : Instruction) : List Nat := [i.a, i.b, i.c].take (opArity i.op)

/-- Rounding matters to an operation: the exact ones do not round. -/
def opExact (op : Nat) : Bool := op == 6 || op == 7 || op == 8 || op == 12

/-- Header fields of a program (Table 5-2). -/
def Program.length (p : Program) : Nat := bitsOf p.header.toNat 5 0
def Program.vUnit (p : Program) : Bool := bitAt p.header.toNat 6
def Program.fp64 (p : Program) : Bool := bitAt p.header.toNat 7
def Program.strict (p : Program) : Bool := bitAt p.header.toNat 8
def Program.inMask (p : Program) : Nat := bitsOf p.header.toNat 23 16
def Program.outMask (p : Program) : Nat := bitsOf p.header.toNat 27 24

/-- One instruction of a program breaks a rule of R162, R164 to R166. An input register is one of v0 to v7, and an operand that
names one must find it loaded (log 32). -/
def Program.badInstruction (p : Program) (i : Instruction) : Bool :=
  decide (12 < i.op) || decide (5 < i.rnd) || (i.rnd == 5 && decide (i.op ≠ 9))
    || (!p.vUnit && (i.op == 10 || i.op == 11)) || (p.fp64 && i.op == 11)
    || (opExact i.op && decide (i.rnd ≠ 0))
    || (decide (opArity i.op < 2) && (decide (i.b ≠ 0) || i.nb)) || (decide (opArity i.op < 3) && (decide (i.c ≠ 0) || i.nc))
    || (decide (i.op ≠ 7 ∧ i.op ≠ 11) && decide (i.cond ≠ 0))
    || (i.op == 9 && (decide (3 < i.dst) || !bitAt p.outMask i.dst))
    || i.sources.any (fun r => decide (r < 8) && !bitAt p.inMask r)

/-- Check 4 of one program. -/
def checkProgram (v : Variant) (p : Program) : Option Nat :=
  let is := p.code.map readInstruction
  firstCode
    [(p.fp64 && p.vUnit && !v.hasFp64, 2),
     (decide (bitsOf p.header.toNat 63 28 ≠ 0) || decide (bitsOf p.header.toNat 15 9 ≠ 0) || p.length == 0
        || decide (32 < p.length) || (p.fp64 && !p.vUnit) || (p.strict && p.vUnit)
        || is.any p.badInstruction
        || (List.range 4).any (fun j => bitAt p.outMask j
              && decide ((is.filter (fun i => i.op == 9 && i.dst == j)).length ≠ 1)), 8)]

/-! #### Collectives (R268, R269) -/

/-- Check 5 of one collective. Its member list is an array of 16-bit entries at the address it names. -/
def checkCollective (v : Variant) (paired : Bool) (p : Passage) (node : Option Nat) (b : List Byte) (i : Nat) (c : Collective) :
    Option Nat :=
  let n := c.members.length
  let mine := (p.collectiveKnots i).map Prod.fst
  let earlier := (List.range i).flatMap (fun j => (p.collectiveKnots j).map Prod.fst)
  let cover := fun (tile : Nat) => (p.legs.filter (fun l => l.kind == 10 && l.op == i && decide (l.firstTile ≤ tile)
    && decide (tile < l.firstTile + l.tileCount))).length
  let resultOk := match p.tensor? c.tensor with
    | some t => t.format == 0 && t.kind == 3 && (t.shape == 1 || t.shape == 2)
    | none => false
  let list := addressCode v paired (bitsOf (wordAt b 8) 51 0) (2 * n)
  firstCode
    [(!collectiveReserved b, 1),
     (list == some 2, 2),
     (list == some 9, 9),
     (decide (2 < c.kind) || ((c.gradientClose || c.stepClose) && decide (c.kind ≠ 0))
        || (if c.kind = 1 then decide (1 < c.wire) else decide (c.wire ≠ 0)) || decide (8 < c.headroom)
        || n == 0 || decide (16384 < n) || !(c.members.eraseDups.length == n)
        || c.members.any (fun m => decide (2 ^ 14 ≤ m))
        || decide (c.members[c.selfPos]? ≠ node) || node.isNone
        || mine.any (fun k => decide (4095 < k)) || mine.any earlier.contains
        || (if c.kind = 1 then !resultOk || c.tileCount == 0
              || (List.range c.tileCount).any (fun j => decide (cover (c.firstTile + j) ≠ 1))
            else decide (c.tensor ≠ 0xFFFF) || decide (c.firstTile ≠ 0) || decide (c.tileCount ≠ 0)), 15)]

/-! #### Legs -/

/-- Which class of operand pair two format codes make (Table 3-1): k consumed per cycle times 16, the run kind (0 integer,
1 float, 2 single product), and the run length without blocks (0 where a block must give it). -/
def pairClass (a b : Nat) : Option (Nat × Nat × Nat) :=
  let eq4 := fun c => decide (c = 4)
  let eq6 := fun c => decide (c = 5 ∨ c = 6)
  let eq8 := fun c => decide (c = 7 ∨ c = 8)
  let eq := fun c => eq4 c || eq6 c || eq8 c
  let half := fun c => decide (c = 1 ∨ c = 2)
  if (eq4 a && eq4 b) then some (64, 0, 0)
  else if a = 10 ∧ b = 10 then some (64, 0, 128)
  else if (decide (a = 6) && (eq4 b || decide (b = 6))) || (eq4 a && decide (b = 6)) then some (32, 0, 0)
  else if (eq6 a || eq4 a) && (eq6 b || eq4 b) then some (32, 1, 0)
  else if (eq8 a && eq b) || (eq a && eq8 b) then some (16, 1, 128)
  else if (a = 9 ∧ (b = 9 ∨ b = 10)) ∨ (a = 10 ∧ b = 9) then some (16, 1, 128)
  else if half a && half b then some (4, 2, 1)
  else if (a = 0 ∧ (b = 0 || half b)) ∨ (half a ∧ b = 0) then some (1, 2, 1)
  else none

/-- Rows and columns of an operand as the product reads it: A as M × K, B as K × N. A tensor read along columns is stored
the other way round (R106, log 33). -/
def Tensor.extent (t : Tensor) (turned : Bool) : Nat × Nat := if turned then (t.cols, t.rows) else (t.rows, t.cols)

/-- The run length of a pair of operands (R93). -/
def runLength (ta tb : Tensor) (cls : Nat × Nat × Nat) : Nat :=
  if cls.2.1 = 2 then 1
  else if ta.blockLen ≠ 0 then ta.blockLen else if tb.blockLen ≠ 0 then tb.blockLen else cls.2.2

/-- The blocks of an operand run along the reduction dimension (R109): for A the columns of M × K, for B the rows of K × N. -/
def blocksAlongK (t : Tensor) (turned isA : Bool) : Bool :=
  t.blockLen == 0 || (t.rowBlocks == (if isA then turned else !turned))

/-- The operand rules of a product leg (R92, R93, R98, R109). -/
def productRules (p : Passage) (l : Leg) : Option Nat :=
  match p.tensor? l.a, p.tensor? l.b, p.tensor? l.y with
  | some a, some b, some y =>
    match pairClass a.format b.format with
    | none => some 5
    | some cls =>
      let k := (a.extent l.orientA).2
      let run := runLength a b cls
      firstCode
        [((decide (a.blockLen ≠ 0) && decide (b.blockLen ≠ 0) && decide (a.blockLen ≠ b.blockLen))
            || !blocksAlongK a l.orientA true || !blocksAlongK b l.orientB false
            || decide (k ≠ (b.extent l.orientB).1) || decide (y.rows ≠ (a.extent l.orientA).1)
            || decide (y.cols ≠ (b.extent l.orientB).2) || decide (y.shape ≠ (if l.kind = 0 then 0 else 1)), 5),
         (l.chunkCount == 0 || decide (256 < l.chunkCount) || decide (l.chunkCount ≤ l.chunk) || l.kLen == 0
            || decide (k < l.kStart + l.kLen) || decide (l.kStart % run ≠ 0)
            || (decide (l.chunk + 1 < l.chunkCount) && decide (l.kLen % run ≠ 0))
            || (decide (l.chunk + 1 = l.chunkCount) && decide (l.kStart + l.kLen ≠ k))
            || (l.chunk == 0 && decide (l.kStart ≠ 0)), 6)]
  | _, _, _ => some 4

/-- Chunk legs of one product: same tensors, tiles and use index (R237). -/
def sameProduct (l m : Leg) : Bool :=
  l.kind == m.kind && l.y == m.y && l.firstTile == m.firstTile && l.tileCount == m.tileCount && l.useIndex == m.useIndex

/-- The chunk rules over the legs (R98, R237). -/
def chunkRules (p : Passage) (i : Nat) (l : Leg) : Bool :=
  let same := (List.range p.legs.length).filter (fun j =>
    match p.legs[j]? with
    | some m => decide (m.kind < 3) && sameProduct l m
    | none => false)
  let legOf := fun c => same.filter (fun j => (p.legs[j]?.map Leg.chunk) == some c)
  (List.range l.chunkCount).all (fun c => (legOf c).length == 1)
    && same.all (fun j => (p.legs[j]?.map Leg.chunkCount) == some l.chunkCount)
    && (legOf 0).all (fun z => decide (z ≤ i))
    && (List.range l.chunkCount).all (fun c =>
        match (legOf c).head?.bind (fun j => p.legs[j]?), (legOf (c + 1)).head?.bind (fun j => p.legs[j]?) with
        | some m, some m' => decide (m.kStart + m.kLen = m'.kStart)
        | _, _ => true)

/-- The streams of an update leg: roles, formats, one element count, and one block grain (R173 to R175, R177). -/
def updateRules (p : Passage) (l : Leg) : Bool :=
  let ss := p.streamsOf l
  let ts := ss.filterMap (fun s => (p.tensor? s.tensor).map (fun t => (s, t)))
  let main := ts.filter (fun x => x.1.role ≠ 4 ∧ x.2.kind ≠ 6)
  let grains := ((main.filter (fun x => x.1.role = 2)).map (fun x => x.2.blockLen)).eraseDups
  let ins := main.filter (fun x => !x.1.outbound)
  decide (ts.length = ss.length) && decide (ins.length ≤ 8) && decide (main.length ≤ ins.length + 4)
    && main.all (fun x => match x.1.role with
      | 0 => !x.1.outbound && converts x.2.format 0 && x.2.kind != 1
      | 1 => x.2.format == 1 && (x.2.kind == 0 || x.2.kind == 1) && decide (x.2.partner ≠ 0xFFFF)
      | 2 => (x.2.format == 7 || x.2.format == 8) && decide (x.2.block ≠ 0)
      | _ => !x.1.outbound && (x.2.format == 0 || x.2.format == 1) && x.2.kind != 1)
    && ((main.map (fun x => x.2.rows * x.2.cols)).eraseDups.length ≤ 1)
    && grains.length ≤ 1 && (main.all (fun x => x.2.shape == 2))

/-- The peer of the off-load plan, which a tier-3 home names (Table 6-4, log 34). -/
def Passage.peer (p : Passage) : Nat := ((p.offload.find? (fun e => e.tier == 3)).map OffloadEntry.peer).getD 0

/-- What stands for the twin among the modules that streams write to. -/
def twinModule : Nat := 0xFFFE

/-- The module that a pinned home of a tier lies in: the peer, the twin, or 0xFFFF for the module itself, whose host memory counts
as its own. -/
def Passage.moduleOf (p : Passage) (t : Tensor) : Nat :=
  if t.pinned ∧ t.pinTier = 3 then p.peer else if t.pinned ∧ t.pinTier = 2 then twinModule else 0xFFFF

/-- Modules that a leg's outbound streams write to, 0xFFFF standing for the module itself (R258). -/
def Passage.destinations (p : Passage) (l : Leg) : List Nat :=
  (((p.streamsOf l).filter Stream.outbound).map (fun s => ((p.tensor? s.tensor).map p.moduleOf).getD 0xFFFF)).eraseDups

/-- The tensor of the stream bound to an input register or an output of a program by SLOT (Table 7-6). -/
def Passage.slotOf (p : Passage) (l : Leg) (outbound : Bool) (k : Nat) : Option Tensor :=
  ((p.streamsOf l).find? (fun st => st.outbound == outbound && !st.chunkIn && st.slot == k && decide (st.role ≠ 4))).bind
    (fun st => p.tensor? st.tensor)

/-- Tensors that a V leg reads and writes as numbers: those bound to its program's registers and outputs; of a composite x and y,
the first of its streams of each direction (log 40). -/
def Passage.numbersOf (p : Passage) (l : Leg) (outbound : Bool) : List Tensor :=
  if l.kind = 4 then
    match (((p.streamsOf l).filter (fun st => st.outbound == outbound)).head?).bind (fun st => p.tensor? st.tensor) with
    | some t => [t]
    | none => if outbound then (p.tensor? l.y).toList else []
  else match p.programs[l.op]? with
    | some g => (List.range 8).filterMap (fun k =>
        if (if outbound then decide (k < 4) && bitAt g.outMask k else bitAt g.inMask k) then p.slotOf l outbound k else none)
    | none => []

/-- The FP format that a V leg computes in. -/
def Passage.lanes (p : Passage) (l : Leg) : Nat :=
  if l.kind = 3 ∧ ((p.programs[l.op]?).map Program.fp64).getD false = true then 3 else 0

/-- Codes, block scales and zero points of a tensor can move into another unchanged at every rung: one ladder, one block layout,
one S (R108). -/
def movesUnchanged (turn : Bool) (a y : Tensor) : Bool :=
  a.format == y.format && a.coarse == y.coarse && a.zp == y.zp && a.outliers == y.outliers
    && (!a.scaled || (a.block == y.block && (y.rowBlocks == (a.rowBlocks != turn))))

/-- The conversion that a copy leg makes is one that Table 2-7 gives: a re-blocked copy goes from EQ or INT to EQ or INT (R69), a
transposition and a copy within one format move codes unchanged (R108), and any other copy is a conversion of its own (R73). -/
def copySound (l : Leg) (a y : Tensor) : Bool :=
  let narrow := fun (f : Nat) => decide (4 ≤ f ∧ f ≤ 10)
  if l.kind = 8 then narrow a.format && narrow y.format
  else if l.kind = 7 then movesUnchanged true a y && a.alt6 == y.alt6 && a.alt8 == y.alt8 && decide (a.top ≤ y.top)
  else if a.format = y.format then movesUnchanged false a y
  else converts a.format y.format

/-- The formats that a leg converts between are pairs of Table 2-7, and no CVT rounds stochastically into FP64 (R70, R73). An EQ or
INT input of an FP64 program is the program's fault (R162). -/
def formatsSound (p : Passage) (l : Leg) : Bool :=
  match l.kind with
  | 3 =>
    (p.numbersOf l false).all (fun t => p.lanes l == 3 || converts t.format 0)
      && (p.numbersOf l true).all (fun t => converts (p.lanes l) t.format)
      && (List.range 4).all (fun j => !(((p.slotOf l true j).map Tensor.format) == some 3)
            || (match p.programs[l.op]? with
                | some g => g.code.all (fun w => let x := readInstruction w; !(x.op == 9 && x.dst == j && x.rnd == 5))
                | none => true))
  | 4 => (p.numbersOf l false).all (fun t => converts t.format 0) && (p.numbersOf l true).all (fun t => converts 0 t.format)
  | 5 => true
  | _ =>
    if decide (6 ≤ l.kind ∧ l.kind ≤ 8) then
      match p.tensor? l.a, p.tensor? l.y with
      | some a, some y => copySound l a y
      | _, _ => true
    else decide (3 ≤ l.kind) || (((p.tensor? l.y).map (fun y => decide (y.format ≤ 10))).getD true)

/-- Only the V engine writes a CARRY tensor, and only it reads the low half of a CARRY pair (R128). -/
def carryRules (p : Passage) (l : Leg) : Bool :=
  l.kind == 3 || l.kind == 4
    || ((p.writes l).all (fun id => !(((p.tensor? id).map Tensor.carry).getD false)) && !(p.reads l).any p.carryLow)

/-- Check 6 of one leg (R69, R70, R73, R92, R98, R108, R109, R111, R128, R135, R162, R166, R169, R173, R175, R194, R199, R235, R241,
R260, R269). -/
def checkLeg (p : Passage) (hostTranspose : Bool) (b : List Byte) (i : Nat) (l : Leg) : Option Nat :=
  let named := [l.y, l.a, l.b].filter (· ≠ 0xFFFF)
  let signals := fun (m : Leg) => m.signalEn && m.signalKnot == l.signalKnot && !(p.destinations m).any (· ≠ 0xFFFF)
  let prog := p.programs[l.op]?
  let coll := p.collectives[l.op]?
  let pages := if l.kind = 0 then p.fPages else if l.kind = 1 then p.dxPages / 2 else p.dwPages / 2
  let lowHalf := (p.reads l ++ p.writes l).any (fun id => ((p.tensor? id).map Tensor.kind) == some 1)
  firstCode
    [(!legReserved b || decide (11 < l.kind) || l.tileCount == 0
        || decide (p.streams.length < l.firstStream + l.streamCount), 1),
     (((l.kind == 7 || l.kind == 8) && hostTranspose) || !formatsSound p l || !carryRules p l, 3),
     ((l.kind != 11 && named.any (fun id => (p.tensor? id).isNone))
        || (decide (6 ≤ l.kind ∧ l.kind ≤ 8) && (l.y == 0xFFFF || l.a == 0xFFFF)), 4),
     (decide (l.kind < 3) && (productRules p l) == some 4, 4),
     (decide (l.kind < 3) && (productRules p l) == some 5, 5),
     (decide (l.kind < 3) && ((productRules p l) == some 6 || !chunkRules p i l), 6),
     (decide (l.kind < 3) && pages == 0, 7),
     ((l.kind == 3 && (match prog with | some g => !g.vUnit | none => true))
        || (l.kind == 5 && ((match prog with | some g => g.vUnit | none => true) || !updateRules p l))
        || (l.kind == 4 && decide (11 < l.op)) || (lowHalf && l.kind != 5)
        || (p.lanes l == 3 && (p.numbersOf l false).any (fun t => decide (4 ≤ t.format)))
        || (l.kind == 4 && (p.numbersOf l false).any (fun t => decide (2 ^ 24 < t.cols))), 8),
     (decide (16 < l.streamCount), 11),
     (decide (1024 < ((p.streamsOf l).map Stream.ringKib).foldl (· + ·) 0)
        || (l.waitEn && l.waitStep == 0)
        || (l.waitEn && p.legs.any (fun m => m.waitEn && m.waitKnot == l.waitKnot && decide (m.waitStep ≠ l.waitStep)))
        || (l.signalEn && ((List.range p.collectives.length).any (fun c =>
              ((p.collectiveKnots c).map Prod.fst).contains l.signalKnot)))
        || (signals l && decide (p.quota l.signalKnot < (p.legs.filter signals).length)), 12),
     ((l.kind == 10 && (coll.map Collective.kind) != some 1) || (l.kind == 11 && (coll.map Collective.kind) != some 0), 15)]

/-- The ring of chunk results of a product's chunk-0 leg holds CHUNK_COUNT − 1 of them (R245 condition 3, Table 7-11); any other
CHUNK_IN ring at least one. -/
def chunkRing (p : Passage) (l : Leg) : Bool :=
  let rings := (p.streamsOf l).filter Stream.chunkIn
  if decide (l.kind < 3) && l.chunk == 0 && decide (1 < l.chunkCount) then
    !rings.isEmpty && rings.all (fun s => decide (l.chunkCount - 1 ≤ s.ringTiles))
  else rings.all (fun s => decide (1 ≤ s.ringTiles))

/-- Tiles of an operand that a product leg reads for one of its output tiles: the tile's rows for A, its columns for B, over the
leg's part of the reduction. -/
def Passage.operandTile (p : Passage) (l : Leg) (isA : Bool) (k : Nat) : List Nat :=
  match p.tensor? (if isA then l.a else l.b), p.tensor? l.y with
  | some t, some y =>
    let w := tileWidth y.shape
    let per := max 1 (ceilDiv y.cols w)
    let m := if isA then (k / per * 64, 64) else (k % per * w, w)
    if (if isA then l.orientA else !l.orientB) then t.rectTiles l.kStart l.kLen m.1 m.2
    else t.rectTiles m.1 m.2 l.kStart l.kLen
  | _, _ => []

/-- Tiles of an operand that a product leg reads for all its output tiles. -/
def Passage.operandTiles (p : Passage) (l : Leg) (isA : Bool) : List Nat :=
  ((List.range l.tileCount).flatMap (fun j => p.operandTile l isA (l.firstTile + j))).eraseDups

/-- A leg reads a tile only through an inbound stream where an earlier leg of the step makes it; so it does the companion arrays of
the tensors it reads (R245 condition 2). Of a product's operands the tiles are those its output tiles need; of any other leg's
every tile counts (log 104). -/
def streamedSound (p : Passage) (i : Nat) (l : Leg) : Bool :=
  let earlier := p.legs.take i
  let ins := (p.streamsOf l).filter (fun s => !s.outbound && !s.chunkIn)
  let made := fun (id k : Nat) => earlier.any (fun m => p.makesTile m id k)
  let madeAny := fun (id : Nat) => earlier.any (fun m => (p.writes m).contains id || p.contributes m == some id)
  let through := fun (id k : Nat) => ins.any (fun s => s.tensor == id && s.tiles.contains k)
  let operand := fun (isA : Bool) =>
    let id := if isA then l.a else l.b
    if l.kind < 3 then (p.operandTiles l isA).all (fun k => !made id k || through id k)
    else id == 0xFFFF || !madeAny id || ins.any (fun s => s.tensor == id)
  l.kind == 11 || (operand true && operand false
    && (p.reads l).all (fun id => match p.tensor? id with
      | some t => !madeAny id || t.companions.all (fun c => ins.any (fun s => s.tensor == c))
      | none => true))

/-- A tensor whose tiles live within a step: an intermediate, or an activation saved for the backward pass, that some leg of the
passage makes and that INIT does not load (Table 6-6). -/
def Passage.withinStep (p : Passage) (t : Tensor) : Bool :=
  (t.kind == 4 || t.kind == 5) && t.init == 0 && p.legs.any (fun m => (p.writes m).contains t.id)

/-- Every tile that a leg streams in is made by an earlier leg of the step or may be resident at its start (R245 condition 1). Of
a tensor that does not live within the step the device cannot know: the host may load it, or an earlier step write it (log 104). -/
def residentSound (p : Passage) (i : Nat) (l : Leg) : Bool :=
  let earlier := p.legs.take i
  ((p.streamsOf l).filter (fun s => !s.outbound && !s.chunkIn)).all (fun s => match p.tensor? s.tensor with
    | some t => !p.withinStep t || s.tiles.all (fun k => earlier.any (fun m => p.makesTile m t.id k))
    | none => true)

/-- The Soundings collectors hold at most 2,048 open tensors (R124): in the leg order a tensor is open from the first leg that
writes it to the last one. Which die its tiles are converted on is not known at load; every die is taken to see all of them
(log 104). -/
def openTensors (p : Passage) (i : Nat) : Nat :=
  (p.tensors.filter (fun t =>
    let at_ := (List.range p.legs.length).filter (fun j => ((p.legs[j]?.map p.writes).getD []).contains t.id)
    decide (at_.headD p.legs.length ≤ i) && decide (i ≤ at_.getLastD 0) && !at_.isEmpty)).length

/-- Check 7: the order conditions (R124, R236, R238, R245, R258), by leg. -/
def checkOrder (p : Passage) : Option LoadError :=
  let n := p.legs.length
  let markOf := fun (f : Collective → Bool) => (List.range n).filter (fun i =>
    match p.legs[i]? with
    | some l => l.kind == 11 && ((p.collectives[l.op]?.map f).getD false)
    | none => false)
  let gc := markOf Collective.gradientClose
  let sc := markOf Collective.stepClose
  let close := gc.headD 0
  let bad := fun (i : Nat) => match p.legs[i]? with
    | none => none
    | some l =>
      let grad := l.kind == 10 || (p.writes l).any (fun id => ((p.tensor? id).map Tensor.kind) == some 3)
      firstCode
        [(decide (2048 < p.tensors.length) && decide (2048 < openTensors p i), 11),
         (grad && decide (l.kind ≠ 5) && decide (close < i), 12),
         (l.kind == 5 && decide (i < close), 12),
         (!streamedSound p i l, 12),
         (!residentSound p i l, 12),
         (!chunkRing p l, 12),
         (l.waitEn && (List.range n).any (fun j => decide (i ≤ j) && (match p.legs[j]? with
            | some m => m.signalEn && m.signalKnot == l.waitKnot
            | none => false)), 12),
         (l.signalEn && decide (1 < (p.destinations l).length), 12)]
  if gc.length ≠ 1 ∨ sc ≠ [n - 1] then some ⟨12, 1, 0⟩
  else if p.normCollective ≠ 0xFFFF ∧ (p.collectives[p.normCollective]?.map Collective.kind) ≠ some 2 then
    some ⟨15, 4, p.normCollective⟩
  else firstRecord 1 n bad

/-- NORM_COLLECTIVE is named where the passage has update legs; 0xFFFF names none (log 35). -/
def Passage.norm? (p : Passage) : Option Collective :=
  if p.normCollective = 0xFFFF then none else p.collectives[p.normCollective]?

end Sys2Proof.Machine
end

