-- ==== Sys2Proof/Machine/Chart.lean ====
section
/-! DEFINITION. The Chart: its entries and marks, free storage, and placement at load (spec/06_memory_and_placement.md
R203 to R210, R220 to R222, R225; log 36). -/

namespace Sys2Proof.Machine

/-! ### Entries -/

/-- A Chart entry. -/
def State.entry (s : State) (i : Nat) : ChartEntry := sparseGet ChartEntry.free i s.chart.entries

/-- Replace a Chart entry; each write to an entry is atomic (R207). -/
def State.setEntry (s : State) (i : Nat) (e : ChartEntry) : State :=
  let es := sparsePut ChartEntry.free i e s.chart.entries
  { s with chart := { s.chart with entries := es } }

/-- Change one Chart entry. -/
def State.mapEntry (s : State) (i : Nat) (f : ChartEntry → ChartEntry) : State := s.setEntry i (f (s.entry i))

/-- Change every entry that is not FREE. -/
def State.mapEntries (s : State) (f : Nat → ChartEntry → ChartEntry) : State :=
  s.chart.entries.foldl (fun t x => t.mapEntry x.1 (f x.1)) s

/-- A one-bit field. -/
def bit (b : Bool) (n : Nat) : Nat := if b then 2 ^ n else 0

/-- The four words of an entry (Table 6-4); an unused one reads zero (R203). -/
def ChartEntry.words (e : ChartEntry) : List W64 :=
  if e.state = 0 then [0, 0, 0, 0]
  else
    [BitVec.ofNat 64 (e.tensor * 2 ^ 48 + e.first * 2 ^ 16 + (e.tiles - 1)),
     BitVec.ofNat 64 (e.format * 2 ^ 60 + e.rung * 2 ^ 58 + bit e.mixed 57 + bit e.carry 56 + e.kind * 2 ^ 52
       + e.shape * 2 ^ 50 + e.units * 2 ^ 32 + e.heat * 2 ^ 24 + e.state * 2 ^ 20 + bit e.pending 19 + bit e.pinned 18
       + bit e.offloadOk 17 + bit e.isLocal 16 + e.aux),
     BitVec.ofNat 64 (e.tier * 2 ^ 61 + e.addr),
     BitVec.ofNat 64 (e.markBase * 2 ^ 32 + e.replicas)]

/-- Entries that are not FREE (Table 6-13). -/
def State.entriesUsed (s : State) : Nat := (s.chart.entries.filter (fun x => x.2.state ≠ 0)).length

/-- The entry that holds a tile of a tensor. -/
def State.entryOf (s : State) (tensor tile : Nat) : Option (Nat × ChartEntry) :=
  s.chart.entries.find? (fun x => x.2.state != 0 && x.2.tensor == tensor && decide (x.2.first ≤ tile)
    && decide (tile < x.2.first + x.2.tiles))

/-- Stride of an entry's tiles in bytes (R204). -/
def ChartEntry.stride (e : ChartEntry) : Nat := 64 * e.units

/-- Bytes of an entry's reservation. -/
def ChartEntry.bytes (e : ChartEntry) : Nat := e.tiles * e.stride

/-- The address of a tile at its home (R204). -/
def ChartEntry.tileAddr (e : ChartEntry) (tile : Nat) : Nat := e.addr + (tile - e.first) * e.stride

/-- The home of a tile: its entry index, the entry, and the address. -/
def State.home (s : State) (tensor tile : Nat) : Option (Nat × ChartEntry × Nat) :=
  (s.entryOf tensor tile).map (fun x => (x.1, x.2, x.2.tileAddr tile))

/-! ### Homes on the move (R205, R227) -/

/-- A LOCAL entry's home in a cluster store is to return to its HBM4E reservation: MOVING while its tiles are copied, at once when none
has been written. No rule says what makes a home move: DEDUCED, the re-placement of a leg that writes or reads it outside the
store's cluster does (log 110). -/
def State.startMove (s : State) (i : Nat) : State :=
  let e := s.entry i
  match s.chart.keptHomes.find? (fun k => k.1 == i) with
  | none => s
  | some k =>
    if e.state = 2 then s.setEntry i { e with state := 6 }
    else if e.state = 1 then
      let s1 := s.setEntry i { e with tier := 1, addr := k.2 }
      { s1 with chart := { s1.chart with keptHomes := s1.chart.keptHomes.filter (fun x => x.1 != i) } }
    else s

/-- A move ends: the tiles lie at the new home, which serves from here on. -/
def State.endMove (s : State) (i : Nat) : State :=
  let e := s.entry i
  match s.chart.keptHomes.find? (fun k => k.1 == i) with
  | some k =>
    if e.state = 6 then
      let s1 := (s.store k.2 (s.readBytes e.addr e.bytes)).setEntry i { e with state := 2, tier := 1, addr := k.2 }
      { s1 with chart := { s1.chart with keptHomes := s1.chart.keptHomes.filter (fun x => x.1 != i) } }
    else s
  | none => s

/-- Every move under way ends before the next leg (Table 6-11). -/
def State.endMoves (s : State) : State := (s.chart.keptHomes.map Prod.fst).foldl State.endMove s

/-! ### Marks (R206) -/

/-- The mark index of a tile. -/
def ChartEntry.markOf (e : ChartEntry) (tile : Nat) : Nat := e.markBase + tile - e.first

/-- Read the mark of index `j`. -/
def State.mark (s : State) (j : Nat) : Nat :=
  (s.readByte (s.get Reg.CHT_MARK_REGION.BASE + j / 2)).toNat / 16 ^ (j % 2) % 16

/-- Write the mark of index `j`. -/
def State.setMark (s : State) (j v : Nat) : State :=
  let a := s.get Reg.CHT_MARK_REGION.BASE + j / 2
  let old := (s.readByte a).toNat
  let new := if j % 2 = 0 then old / 16 * 16 + v % 16 else v % 16 * 16 + old % 16
  s.writeByte a (BitVec.ofNat 8 new)

/-- The rung at which a tile is stored: bits 1:0 of its mark. -/
def State.tileRung (s : State) (tensor tile : Nat) : Nat :=
  match s.entryOf tensor tile with
  | some x => s.mark (x.2.markOf tile) % 4
  | none => 0

/-! ### Usable storage (R209, R220, R302, R315) -/

/-- Stacks that can be used. -/
def State.usableStacks (s : State) : List Nat := (List.range 8).filter s.stackInUse

/-- The base stack: the lowest-numbered usable one (R220). -/
def State.baseStack (s : State) : Option Nat := s.usableStacks.head?

/-- Bytes of a stack's share of the mirror region: whole MiB, the remainder one each in ascending index (R315). -/
def State.mirrorShare (s : State) (n : Nat) : Nat :=
  let u := s.usableStacks.length
  let t := if s.part.variant.hasTwin then s.get Reg.TWN_CFG.MIRROR_GIB * 1024 else 0
  let place := (s.usableStacks.takeWhile (· != n)).length
  if s.usableStacks.contains n then (t / u + (if place < t % u then 1 else 0)) * 2 ^ 20 else 0

/-- The first address of a stack that load placement may not use: the mirror share lies at the top, on the base stack
below the 4 MiB of the sighting database (R315). -/
def State.stackTop (s : State) (n : Nat) : Nat :=
  (n + 1) * 2 ^ 36 - s.mirrorShare n - (if s.baseStack = some n then 4 * 2 ^ 20 else 0)

/-- Address and length of every range held in memory: homes, kept homes and the mark region. -/
def State.heldRanges (s : State) : List (Nat × Nat) :=
  (s.chart.entries.filter (fun x => x.2.state ≠ 0 ∧ (x.2.tier = 1 ∨ x.2.tier = 0))).map (fun x => (x.2.addr, x.2.bytes))
    ++ s.chart.keptHomes.map (fun k => (k.2, (s.entry k.1).bytes))
    ++ (if s.chart.markBytes = 0 then [] else [(s.get Reg.CHT_MARK_REGION.BASE, s.chart.markBytes)])
    ++ (match s.snap with
        | some x => [(x.reserveAddr, 8192 * x.slots)]
        | none => [])
    ++ (match s.fab.region with
        | some a => [(a, 4 * 2 ^ 20)]
        | none => [])

/-- Two ranges overlap. -/
def overlaps (a m b n : Nat) : Bool := decide (a < b + n) && decide (b < a + m)

/-- The lowest address from `lo` with room for `n` bytes below `hi` outside the ranges, aligned to `al`. -/
def firstFit (held : List (Nat × Nat)) (lo hi al n : Nat) : Option Nat :=
  let starts := (lo :: held.map (fun r => r.1 + r.2)).map (fun a => (a + al - 1) / al * al)
  let ok := starts.filter (fun a => decide (lo ≤ a) && decide (a + n ≤ hi) && held.all (fun r => !overlaps a n r.1 r.2))
  match ok with
  | [] => none
  | a :: as => some (as.foldl min a)

/-- Free space of `n` bytes in a stack, aligned to 4 KiB (R209). -/
def State.fitStack (s : State) (stack n : Nat) : Option Nat :=
  if s.stackInUse stack then firstFit s.heldRanges (stack * 2 ^ 36) (s.stackTop stack) 4096 n else none

/-- Free space of `n` bytes in any usable stack, the lowest first. -/
def State.fitAny (s : State) (n : Nat) : Option Nat := s.usableStacks.findSome? (fun k => s.fitStack k n)

/-- Free HBM4E of the module in bytes. -/
def State.freeHbm (s : State) : Nat :=
  let room := (s.usableStacks.map (fun n => s.stackTop n - n * 2 ^ 36)).foldl (· + ·) 0
  room - ((s.heldRanges.filter (fun r => isHbm r.1 && decide (r.1 < s.stackTop (addrStack r.1)))).map Prod.snd).foldl (· + ·) 0

/-! ### Cores and dies -/

/-- A logical core is usable (R211). -/
def State.logicalUsable (s : State) (n : Nat) : Bool :=
  match s.physicalCore n with
  | some p => s.coreUsable p
  | none => false

/-- Usable logical cores of a die, in ascending ID. -/
def State.dieCores (s : State) (d : Nat) : List Nat :=
  (List.range s.boot.numbering.length).filter (fun n => s.logicalUsable n && s.dieOf n == d)

/-- The present dies. -/
def State.presentDies (s : State) : List Nat := (List.range 4).filter s.dieUsed

/-! ### Placement at load (R209, R210) -/

/-- A range of a tensor's tiles: first tile, count, stack. -/
structure TileRange where
  first : Nat
  count : Nat
  stack : Nat
  deriving DecidableEq, Repr

/-- Tiles of a tensor by present die: floor(T × n_d / n), the remainder one each to the dies in ascending order (R209 step 2). -/
def dieShares (tiles : Nat) (cores : List Nat) : List Nat :=
  let n := cores.foldl (· + ·) 0
  let base := cores.map (fun c => if n = 0 then 0 else tiles * c / n)
  let left := tiles - base.foldl (· + ·) 0
  base.zipIdx.map (fun x => x.1 + (if x.2 < left then 1 else 0))

/-- The stack ranges of a tensor's tiles: within a die the first ceil(share / 2) tiles on h(2d), the rest on h(2d+1)
(R209 step 3); where one of the two is unused, the whole share on the other (Table 12-2). -/
def State.stackRanges (s : State) (tiles : Nat) : List TileRange :=
  let shares := dieShares tiles (s.presentDies.map (fun d => (s.dieCores d).length))
  (s.presentDies.zip shares).foldl (fun (acc : List TileRange × Nat) x =>
    let lo := if !s.stackInUse (2 * x.1 + 1) then x.2 else if !s.stackInUse (2 * x.1) then 0 else (x.2 + 1) / 2
    (acc.1 ++ [⟨acc.2, lo, 2 * x.1⟩, ⟨acc.2 + lo, x.2 - lo, 2 * x.1 + 1⟩], acc.2 + x.2)) (([] : List TileRange), 0) |>.1

/-- Cut a range into pieces of at most 65,536 tiles (R209 step 4). -/
def TileRange.pieces (r : TileRange) : List TileRange :=
  (List.range (ceilDiv r.count 65536)).map (fun i => ⟨r.first + 65536 * i, min 65536 (r.count - 65536 * i), r.stack⟩)

/-- The Chart index after the last entry in use. -/
def State.nextEntry (s : State) : Nat := (s.chart.entries.map (fun x => x.1 + 1)).foldl max 0

/-- The next free index of the tile-mark region. -/
def State.nextMark (s : State) : Nat := (s.chart.entries.map (fun x => x.2.markBase + x.2.tiles)).foldl max 0

/-- The entry that a tensor's range begins with: RESERVED, at a home. -/
def Tensor.newEntry (t : Tensor) (first tiles tier addr mark : Nat) : ChartEntry :=
  { ChartEntry.free with
    tensor := t.id, first := first, tiles := tiles, format := t.format, carry := t.carry, kind := t.kind, shape := t.shape,
    units := t.units, state := 1, pinned := t.pinned, offloadOk := t.offloadOk, isLocal := t.isLocal, tier := tier, addr := addr,
    markBase := mark }

/-- Add an entry at the end of the Chart. -/
def State.addEntry (s : State) (e : ChartEntry) : State := s.setEntry s.nextEntry e

/-- Home one range of a tensor; none when the stack has no room. A group that is off-loaded takes no storage yet (log 36). -/
def State.placeRange (t : Tensor) (away : Bool) (acc : Option State) (r : TileRange) : Option State :=
  acc.bind (fun s =>
    if away then some (s.addEntry (t.newEntry r.first r.count 7 0 s.nextMark))
    else (s.fitStack r.stack (r.count * 64 * t.units)).map (fun a =>
      s.addEntry (t.newEntry r.first r.count 1 a s.nextMark)))

/-- Storage of a tier that a reservation may take as it is named: in the module itself, in a stack in use below its top or in a
cluster store, and free of every other reservation (R209, R210); elsewhere the map alone decides (R193). -/
def State.storageFree (s : State) (tier a n : Nat) : Bool :=
  match tier with
  | 0 => s.heldRanges.all (fun r => !overlaps a n r.1 r.2)
  | 1 => s.stackInUse (addrStack a) && decide (a + n ≤ s.stackTop (addrStack a))
      && s.heldRanges.all (fun r => !overlaps a n r.1 r.2)
  | _ => true

/-- Home one tensor (R209 steps 1 to 4); none when a range finds no room where it has to lie. -/
def State.placeTensor (away : Bool) (peer : Nat) (acc : Option State) (t : Tensor) : Option State :=
  acc.bind (fun s =>
    if t.pinned then
      if !s.storageFree t.pinTier t.pinAddr (t.tiles * 64 * t.units) then none
      else (TileRange.pieces ⟨0, t.tiles, 0⟩).foldl (fun a r => a.map (fun u =>
        u.addEntry { t.newEntry r.first r.count t.pinTier (t.pinAddr + r.first * 64 * t.units) u.nextMark with
          aux := if t.pinTier = 3 then peer else 0 })) (some s)
    else ((s.stackRanges t.tiles).flatMap TileRange.pieces).foldl (State.placeRange t away) (some s))

/-- A home of the host's table lies in storage that its tier has: all of it mapped and present, and free (R193, R225). -/
def State.homeSound (s : State) (e : ChartEntry) (n : Nat) : Bool :=
  let v := s.part.variant
  let paired := s.twin.paired
  withinRange (tierRanges v e.tier) e.addr n && (decide (e.tier = 3) || !absentAddr v paired e.addr n)
    && (decide (e.tier ≠ 2) || twinReached v paired) && s.storageFree e.tier e.addr n

/-- Home a tensor as the host's homes table says (R225, R421): every home lies in a reservation, and every tile has one home. What
the table names for a group that the off-load plan takes away is not held until the group is written (log 36). -/
def State.placeByTable (homes : List ChartEntry) (away : Bool) (acc : Option State) (t : Tensor) : Option State :=
  let mine := (homes.filter (fun e => e.tensor == t.id)).ordered (fun a b => a.first ≤ b.first)
  let covered := mine.foldl (fun (n : Option Nat) e => n.bind (fun k => if e.first = k then some (k + e.tiles) else none)) (some 0)
  acc.bind (fun s =>
    if covered ≠ some t.tiles then none
    else mine.foldl (fun a e => a.bind (fun u =>
      if away then some (u.addEntry (t.newEntry e.first e.tiles 7 0 u.nextMark))
      else if u.homeSound e (e.tiles * 64 * t.units) then
        some (u.addEntry { t.newEntry e.first e.tiles e.tier e.addr u.nextMark with aux := e.aux })
      else none)) (some s))

/-- An entry of the homes table; every field the device does not take must be zero (R421). -/
def parseHome (b : List Byte) : Option ChartEntry :=
  let w := wordAt b 0
  let z := wordAt b 16
  let tier := bitsOf z 63 61
  let aux := bitsOf (wordAt b 8) 15 0
  if wordAt b 8 = aux ∧ (tier = 3 ∨ aux = 0) ∧ bitsOf z 60 52 = 0 ∧ wordAt b 24 = 0 ∧ tier ≤ 4 then
    some { ChartEntry.free with
      tensor := bitsOf w 63 48, first := bitsOf w 47 16, tiles := bitsOf w 15 0 + 1, tier := tier, addr := bitsOf z 51 0,
      aux := bitsOf aux 13 0 }
  else none

/-! ### Off-load plan at load (R222) -/

/-- A tensor whose tiles may be off-loaded: a saved activation with OFFLOAD_OK (R210, R222). -/
def Tensor.saved (t : Tensor) : Bool := decide (t.kind = 4) && t.offloadOk

/-- Bytes of an activation group: the reservations of its kind-4 tensors with OFFLOAD_OK. The rule gives every kind-4 tensor a group and
asks OFFLOAD_OK of what is off-loaded; DEDUCED, a tensor without it stays local and counts with the other reservations (log 109). -/
def Passage.groupBytes (p : Passage) (g : Nat) : Nat :=
  ((p.tensors.filter (fun t => t.saved && decide (t.group = g))).map (fun t => t.tiles * 64 * t.units)).foldl (· + ·) 0

/-- The activation groups, ascending. -/
def Passage.groups (p : Passage) : List Nat :=
  (((p.tensors.filter Tensor.saved).map Tensor.group).eraseDups).ordered (· ≤ ·)

/-- Assign groups, in descending index, to tiers: the first tier of the list fills first. None when the quotas cannot hold
them. -/
def assignTiers (size : Nat → Nat) : List Nat → List OffloadEntry → Nat → Option (List (Nat × Nat))
  | [], _, _ => some []
  | _, [], _ => none
  | g :: gs, e :: es, used =>
    if used + size g ≤ e.quota * 2 ^ 30 then (assignTiers size gs (e :: es) (used + size g)).map ((g, e.tier) :: ·)
    else (assignNext size (g :: gs) es)
where
  /-- Go on with the next tier of the list. -/
  assignNext (size : Nat → Nat) (gs : List Nat) : List OffloadEntry → Option (List (Nat × Nat))
    | [] => none
    | e :: es =>
      let here := takeFitting size (e.quota * 2 ^ 30) gs
      let rest := gs.drop here.length
      if rest = [] then some (here.map (fun g => (g, e.tier)))
      else (assignNext size rest es).map (here.map (fun g => (g, e.tier)) ++ ·)
  /-- The groups from the front that fit a quota together. -/
  takeFitting (size : Nat → Nat) (room : Nat) : List Nat → List Nat
    | [] => []
    | g :: gs => if size g ≤ room then g :: takeFitting size (room - size g) gs else []

/-- The off-loaded groups with their tiers, for `free` bytes left once every other reservation is made (R222). -/
def Passage.offloadPlan (p : Passage) (free : Nat) : Option (List (Nat × Nat)) :=
  let gs := p.groups
  let size := p.groupBytes
  let lead := (p.offload.head?.map OffloadEntry.lead).getD 2
  let b := free - lead * (gs.map size).foldl max 0
  let total := (gs.map size).foldl (· + ·) 0
  let k := ((List.range (gs.length + 1)).find? (fun n =>
    decide (total - ((gs.take n).map size).foldl (· + ·) 0 ≤ b))).getD gs.length
  if total ≤ free ∧ (total ≤ b ∨ p.offload = []) then some []
  else assignTiers size (gs.take k).reverse p.offload 0

/-- The image's tensor ID in the Chart: none, 0xFFFF (log 36). -/
def imageTensor (len : Nat) (kind : Nat) : Tensor :=
  { id := 0xFFFF, format := 12, kind := kind, carry := false, outMode := 0, rnd := 0, block := 0, zp := false, rowBlocks := false,
    alt6 := false, alt8 := false, ceiling := 0, drift := 0, driftGradient := false, outliers := false, master := false,
    pinned := false, offloadOk := false, isLocal := false, shape := 3, init := 0, rows := 1, cols := len, coarse := 0, group := 0,
    partner := 0xFFFF, scalesId := 0xFFFF, zpId := 0xFFFF, outIndexId := 0xFFFF, outSideId := 0xFFFF, pinTier := 0,
    pinAddr := 0, source := 0 }

/-- Home a byte table in the base stack. -/
def State.placeTable (t : Tensor) (acc : Option State) : Option State :=
  acc.bind (fun s => s.baseStack.bind (fun n =>
    ((TileRange.pieces ⟨0, t.tiles, n⟩)).foldl (State.placeRange t false) (some s)))

/-- Bytes of the marks of some tiles, four bits each (R206). -/
def markRegionBytes (tiles : Nat) : Nat := (tiles + 1) / 2

/-- Place the mark region last, in the base stack, with one mark for every tile (R209 step 6), all zero. -/
def State.placeMarks (s : State) : Option State :=
  let n := markRegionBytes s.nextMark
  s.baseStack.bind (fun k => (s.fitStack k n).map (fun a =>
    let s1 := (s.set Reg.CHT_MARK_REGION.BASE a).store a (List.replicate n 0)
    { s1 with chart := { s1.chart with markBytes := n } }))

/-- HBM4E left for saved activations once every other reservation is made, that of the marks of every tile among them (R222). -/
def State.leftFor (base : State) (groups : List Tensor) : Nat :=
  base.freeHbm - markRegionBytes (base.nextMark + (groups.map Tensor.tiles).foldl (· + ·) 0)

/-- Reserve and place a checked passage (R209, R210, R222, R225): the state with its entries and the off-loaded groups, or
the load code. Homes come from the rules, or from the host's table; the off-load plan is made the same way for both. -/
def State.place (s : State) (p : Passage) (homes : Option (List ChartEntry)) : Except Nat (State × List (Nat × Nat)) :=
  let sorted := p.tensors.ordered (fun a b => a.id ≤ b.id)
  let image := imageTensor p.image.length 10
  let seed := if s.get Reg.TWN_CFG.MIRROR_GIB ≠ 0 ∧ s.part.variant.hasTwin = true then [imageTensor (256 * 2 ^ 20) 9] else []
  let home := fun (away : Bool) (acc : Option State) (t : Tensor) => match homes with
    | some hs => State.placeByTable hs away acc t
    | none => State.placeTensor away p.peer acc t
  let noRoom := if homes.isSome then 13 else 10
  let placeTables := fun (acc : Option State) => (image :: seed).foldl (fun a t => State.placeTable t a) acc
  let stray := (homes.getD []).any (fun e => (p.tensor? e.tensor).isNone)
  if p.offload.any (fun e => (e.tier == 2 && !s.part.variant.hasTwin)) then .error 2
  else if stray then .error 13
  else match (sorted.filter (fun t => !t.saved)).foldl (home false) (some s) with
  | none => .error noRoom
  | some others =>
    match placeTables (some others) with
    | none => .error 10
    | some base =>
      match p.offloadPlan (base.leftFor (sorted.filter Tensor.saved)) with
      | none => .error (if p.offload = [] then 10 else 14)
      | some plan =>
        match sorted.foldl (fun a t => home (t.saved && plan.any (fun g => g.1 == t.group)) a t) (some s) with
        | none => .error noRoom
        | some all =>
          match (placeTables (some all)).bind State.placeMarks with
          | none => .error 10
          | some s2 => if s2.nextEntry ≤ 524288 then .ok (s2, plan) else .error 10

end Sys2Proof.Machine
end

