-- ==== Sys2Proof/Machine/Flags.lean ====
section
/-! DEFINITION. Sticky flags, first-fault records and the rounding probe (spec/02_number_formats.md R81 to R88). -/

namespace Sys2Proof.Machine

/-- The flags of an operation as the bits of NUM_FLAGS (Table 2-15). -/
def Flags.bits (f : Flags) : Nat :=
  (if f.overflow then 1 else 0) + (if f.underflow then 2 else 0) + (if f.inexact then 4 else 0)
    + (if f.invalid then 8 else 0) + (if f.divideByZero then 16 else 0)

/-- The register index of unit `u` of logical core `n` (R88). -/
def unitIndexOf (core u : Nat) : Nat := 8 * core + u

/-- Post a numeric-flag event for each flag that changes from 0 to 1 while its enable bit is 1 (R86). -/
def State.postFlags (s : State) (core u rose : Nat) : State :=
  (List.range 5).foldl (fun t b =>
    if rose / 2 ^ b % 2 = 1 ∧ (s.rd Reg.NUM_INT_ENABLE.INVALID.reg).getLsbD b = true then
      t.post Ev.numericFlag [core, u, b]
    else t) s

/-- Capture a first-fault record while VALID is 0 (R85). The record keeps the hub's DTIME; it shows what the core's local copy read
then, a lag between 0 and 6 ns that R48 leaves open (a free value, log 108; `State.computed`). -/
def State.captureFault (s : State) (i tensor tile element cause step : Nat) : State :=
  if s.flag (Reg.NUM_FF_LOC.VALID i) then s
  else
    (((((((s.set (Reg.NUM_FF_LOC.VALID i) 1).set (Reg.NUM_FF_LOC.TENSOR_ID i) tensor).set (Reg.NUM_FF_LOC.TILE i) tile).set
      (Reg.NUM_FF_DETAIL.STEP_LO i) step).set (Reg.NUM_FF_DETAIL.CAUSE i) cause).set
      (Reg.NUM_FF_DETAIL.ELEMENT i) element).set (Reg.NUM_FF_TIME.DTIME i) s.dtime)

/-- A unit raises flags for an element: sticky bits, events and the first-fault record (R82 to R86). -/
def State.raiseFlags (s : State) (core u : Nat) (f : Flags) (tensor tile element step : Nat) : State :=
  let i := unitIndexOf core u
  let key := (Reg.NUM_FLAGS.INVALID i).reg
  let old := (s.rd key).toNat
  let new := BitVec.toNat (BitVec.ofNat 64 old ||| BitVec.ofNat 64 f.bits)
  if f.bits = 0 then s
  else
    let s1 := (s.wr key (BitVec.ofNat 64 new)).postFlags core u (new - old)
    if f.invalid then s1.captureFault i tensor tile element f.cause step else s1

/-- Raise the flags of the elements of a tile in ascending element index: the record takes the lowest (R85). -/
def State.raiseTileFlags (s : State) (core u : Nat) (fs : List (Nat × Flags)) (tensor tile step : Nat) : State :=
  fs.foldl (fun t ef => t.raiseFlags core u ef.2 tensor tile ef.1 step) s

/-- A record that is emptied reads zero in all its fields (R85). -/
def State.emptyRecord (s : State) (i : Nat) : State :=
  ((s.wr (Reg.NUM_FF_LOC.VALID i).reg 0).wr (Reg.NUM_FF_DETAIL.CAUSE i).reg 0).wr (Reg.NUM_FF_TIME.DTIME i).reg 0

/-- The unit register indices of logical cores below N_CORES (R88). -/
def State.numUnits (s : State) : List Nat :=
  (List.range (s.get Reg.CAP_UNITS.N_CORES)).flatMap (fun n => (List.range 6).map (unitIndexOf n))

/-- NUM_SUMMARY: the OR of all unit flags and records (Table 2-19). -/
def State.numSummary (s : State) : W64 :=
  s.numUnits.foldl (fun w i =>
    w ||| s.rd (Reg.NUM_FLAGS.INVALID i).reg ||| (if s.flag (Reg.NUM_FF_LOC.VALID i) then 0x20 else 0)) 0

/-- The probe: NUM_SR_RESULT holds the final x and y of R78 (R81). -/
def State.probeResult (s : State) : State :=
  let xy := srWords (s.rd Reg.NUM_SR_SEED.SEED.reg) (s.rd Reg.NUM_SR_STEP.STEP.reg) (s.get Reg.NUM_SR_INDEX.TID)
    (s.get Reg.NUM_SR_INDEX.TILE) (s.get Reg.NUM_SR_INDEX.ELEM)
  (s.set Reg.NUM_SR_RESULT.X xy.1.toNat).set Reg.NUM_SR_RESULT.Y xy.2.toNat

/-- The registers of BAR0 can be written: the module is not OFF and BAR0 serves more than the CAP_ block (R393). -/
def State.served (s : State) : Bool := decide (s.dev ≠ .off) && s.pcie.wasReady

/-- Empty every first-fault record (R85). -/
def State.emptyRecords (s : State) : State := s.numUnits.foldl State.emptyRecord s

/-- Clear chosen flags in every unit (R88). -/
def State.clearAllFlags (s : State) (mask : Nat) : State :=
  s.numUnits.foldl (fun t i =>
    let key := (Reg.NUM_FLAGS.INVALID i).reg
    t.wr key (t.rd key &&& ~~~(BitVec.ofNat 64 (mask % 32)))) s

/-- Write one of the probe's inputs and recompute its result (R81). -/
def State.writeProbe (s : State) (probe : Probe) (value : W64) : State :=
  (match probe with
    | .seed => s.wr Reg.NUM_SR_SEED.SEED.reg value
    | .step => s.wr Reg.NUM_SR_STEP.STEP.reg value
    | .index => s.wr Reg.NUM_SR_INDEX.TID.reg value).probeResult

/-- NUM_FF_VALID_CLEAR (R85): the record is emptied; a unit outside the present cores ignores the write (R6). -/
def execNumFfValidClear (unit : Fin 2048) (s : State) : Host.Outcome State Fault Refusal :=
  .next (if s.served && s.numUnits.contains unit.val then s.emptyRecord unit.val else s)

/-- NUM_CLEAR_ALL_FLAGS (R88). -/
def execNumClearAllFlags (flags : BitVec 5) (s : State) : Host.Outcome State Fault Refusal :=
  .next (if s.served then s.clearAllFlags flags.toNat else s)

/-- NUM_CLEAR_ALL_RECORDS (R85). -/
def execNumClearAllRecords (s : State) : Host.Outcome State Fault Refusal :=
  .next (if s.served then s.emptyRecords else s)

/-- NUM_SR_PROBE_WRITE (R81). -/
def execNumSrProbeWrite (probe : Probe) (value : W64) (s : State) : Host.Outcome State Fault Refusal :=
  .next (if s.served then s.writeProbe probe value else s)

end Sys2Proof.Machine
end

