-- ==== Sys2Proof/Machine/Roles.lean ====
section
/-! DEFINITION. A role of the module and the units that work under it: leg queues, knots, tokens and credits
(spec/01_architecture.md R26 to R33, spec/07_passages.md R246 to R252, spec/08_sync_and_collectives.md R257 to R262). -/

namespace Sys2Proof

/-! ### Packets on a link (R296, R298) -/

/-- Flits of a packet: the head, and a data flit for each 128 bytes beyond the 64 that it holds inline (R298). -/
def Packet.flits (p : Packet) : Nat := if p.data.length ≤ 64 then 1 else 1 + ceilDiv p.data.length 128

/-- The virtual channel of a packet. -/
def Packet.vc (p : Packet) : Nat := p.cls.toNat + (if p.esc then 4 else 0)

/-- Rendezvous messages may use the flits that VC 3 keeps for them. -/
def Packet.isRdv (p : Packet) : Bool := p.ptype == 5 || p.ptype == 6

end Sys2Proof

namespace Sys2Proof.Machine

/-! ### Roles (R322) -/

/-- Change the role in force. -/
def State.mapRole (s : State) (f : Role → Role) : State := { s with role := f s.role }

/-- The module's own role and the carried one change places. -/
def State.swapRoles (s : State) : State :=
  match s.other with
  | none => s
  | some o => { s with role := o, other := some s.role }

/-- Run an operation under a role; nothing happens for a role that is not there. -/
def State.asRole (r : RoleSel) (f : State → State) (s : State) : State :=
  match r with
  | .own => f s
  | .carried => if s.other.isSome then (f s.swapRoles).swapRoles else s

/-- Run an operation under the module's own role, whichever is in force. -/
def State.asOwn (f : State → State) (s : State) : State := if s.role.carried then (f s.swapRoles).swapRoles else f s

/-- The selector of the role in force. -/
def State.sel (s : State) : RoleSel := if s.role.carried then .carried else .own

/-- Set a register field that shows the module's own role. -/
def State.setOwn (s : State) (f : Field) (v : Nat) : State := if s.role.carried then s else s.set f v

/-- A configuration field as it was latched at the step start (R248); between steps, as it stands. -/
def State.cfg (s : State) (f : Field) : Nat :=
  extractBits (if s.role.inStep then sparseGet (s.rd f.reg) f.reg s.role.latched else s.rd f.reg) f.hi f.lo

/-- Units work: a step is in progress, no settlement runs, and neither a hold nor a stop has halted issue. -/
def State.working (s : State) : Bool :=
  s.role.inStep && !s.role.settling && (s.dev == .running || s.dev == .draining) && s.pwr.stop.isNone

/-- The passage in force. -/
def State.passage (s : State) : Option Passage := s.role.passage

/-- A tensor of the passage in force. -/
def State.tensor? (s : State) (id : Nat) : Option Tensor := s.role.passage.bind (fun p => p.tensor? id)

/-! ### Legs and their units -/

/-- The kind of unit a leg runs on (Table 7-5). -/
def Leg.engine (l : Leg) : Engine :=
  match l.kind with
  | 0 => .f
  | 1 => .g
  | 2 => .g
  | 3 => .v
  | 4 => .v
  | 5 => .u
  | 6 => .dma
  | 7 => .dma
  | 8 => .dma
  | 9 => .g
  | 10 => .stage
  | _ => .knot

/-- A leg of the passage and how far it has run. -/
def State.legAt (s : State) (i : Nat) : Option (Leg × LegRun) :=
  s.role.passage.bind (fun p => (p.leg? i).bind (fun l =>
    ((s.role.legs.find? (fun x => x.1 == i)).map (fun x => (l, x.2)))))

/-- Change how far a leg has run. -/
def State.mapLeg (s : State) (i : Nat) (f : LegRun → LegRun) : State :=
  s.mapRole (fun r => { r with legs := r.legs.map (fun x => if x.1 == i then (x.1, f x.2) else x) })

/-- Change one stream of a leg. -/
def State.mapStream (s : State) (i slot : Nat) (f : StreamRun → StreamRun) : State :=
  s.mapLeg i (fun r => { r with streams := r.streams.zipIdx.map (fun x => if x.2 == slot then f x.1 else x.1) })

/-- The legs of a unit's queue for the step, in passage order (R112, R212). -/
def State.unitLegs (s : State) (core : Nat) (e : Engine) : List (Nat × Leg × LegRun) :=
  ((s.role.legs.filterMap (fun x => (s.legAt x.1).bind (fun lr =>
    if lr.2.core = some core ∧ lr.1.engine = e then some (x.1, lr.1, lr.2) else none)))).ordered
    (fun a b => a.1 ≤ b.1)

/-- The Navigator has entered a leg into its unit's queue: fewer than 32,768 unfinished legs stand before it (R250). -/
def State.entered (s : State) (core : Nat) (e : Engine) (position : Nat) : Bool :=
  decide (((s.unitLegs core e).filter (fun x => !x.2.2.finished && decide (x.2.2.position < position))).length < 32768)

/-- A leg stands in its unit's queue and is not finished. -/
def State.legActive (s : State) (i : Nat) : Bool :=
  match s.legAt i with
  | some (l, r) => !r.finished && (match r.core with
      | some c => s.entered c l.engine r.position
      | none => false)
  | none => false

/-- Streams of a leg. -/
def State.streamsOf (s : State) (l : Leg) : List Stream := (s.role.passage.map (fun p => p.streamsOf l)).getD []

/-! ### Knots (R257 to R262) -/

/-- The value of a knot. -/
def State.knot (s : State) (k : Nat) : W64 := sparseGet 0 k s.knots

/-- Advance a knot. R257 leaves the value open that a knot would take beyond 64 bits, but for its never decreasing: a free
value no lower than the old one (log 2). -/
def State.advance (s : State) (k n : Nat) : State :=
  if (s.knot k).toNat + n < 2 ^ 64 then { s with knots := sparsePut 0 k (s.knot k + BitVec.ofNat 64 n) s.knots }
  else { s.freeWord.2 with
    knots := sparsePut 0 k (BitVec.ofNat 64 (max (s.knot k).toNat s.freeWord.1.toNat)) s.knots }

/-- K0 of a knot. -/
def Role.base (r : Role) (k : Nat) : W64 := sparseGet 0 k r.armBase

/-- Q of a knot. -/
def Role.quotaOf (r : Role) (k : Nat) : Nat := ((r.passage.map (fun p => p.quota k))).getD 0

/-- The waypoint of a knot in the present attempt (R259). -/
def Role.waypoint (r : Role) (k : Nat) : Nat := (r.base k + BitVec.ofNat 64 (r.quotaOf k * (r.attempt + 1))).toNat

/-- A leg's wait is over (R259). -/
def State.waitMet (s : State) (l : Leg) : Bool := !l.waitEn || decide (s.role.waypoint l.waitKnot ≤ (s.knot l.waitKnot).toNat)

/-- Knots with a quota. -/
def Role.quotaKnots (r : Role) : List Nat := ((r.passage.map Passage.quotas).getD []).map Prod.fst

/-- Every knot short of its quota is raised to its waypoint (R261). -/
def State.settleKnots (s : State) : State :=
  s.role.quotaKnots.foldl (fun t k =>
    let w := t.role.waypoint k
    if t.role.quotaOf k ≠ 0 ∧ (t.knot k).toNat < w then t.advance k (w - (t.knot k).toNat) else t) s

/-- Knots above their quota at a closing Rendezvous are posted and counted (R262). -/
def State.reportOverruns (s : State) : State :=
  s.role.quotaKnots.foldl (fun t k =>
    if t.role.quotaOf k ≠ 0 ∧ t.role.waypoint k < (t.knot k).toNat then
      (t.bump Reg.KNT_STALE.OVERRUNS 1).post Ev.knotOverrun [t.role.attempt, k]
    else t) s

/-! ### Control messages (R250, Table 7-10) -/

/-- The kinds of unit queues that the control messages of a unit name. -/
inductive UnitQueue where
  | f | dx | dw | staging | soundings
  deriving DecidableEq, Repr

/-- The code of a unit queue. -/
def UnitQueue.code : UnitQueue → Nat
  | .f => 0
  | .dx => 1
  | .dw => 2
  | .staging => 3
  | .soundings => 4

/-- A message for a leg's queue. -/
def legMessage (mtype position slot count seq : Nat) : W64 :=
  BitVec.ofNat 64 (mtype * 2 ^ 60 + position % 32768 * 2 ^ 44 + slot % 16 * 2 ^ 40 + count % 256 * 2 ^ 32 + seq % 2 ^ 32)

/-- A message for a unit's own queue. -/
def unitMessage (mtype : Nat) (q : UnitQueue) (count seq : Nat) : W64 :=
  BitVec.ofNat 64 (mtype * 2 ^ 60 + 2 ^ 59 + q.code * 2 ^ 40 + count % 256 * 2 ^ 32 + seq % 2 ^ 32)

/-- TYPE of a message. -/
def msgType (m : W64) : Nat := extractBits m 63 60

/-- The message names a queue of the unit itself. -/
def msgUnit (m : W64) : Bool := m.getLsbD 59

/-- Leg position modulo 32,768. -/
def msgPosition (m : W64) : Nat := extractBits m 58 44

/-- Stream slot, or the kind of the unit's queue. -/
def msgSlot (m : W64) : Nat := extractBits m 43 40

/-- COUNT. -/
def msgCount (m : W64) : Nat := extractBits m 39 32

/-- SEQ. -/
def msgSeq (m : W64) : Nat := extractBits m 31 0

/-- Send a control message of the role in force to a unit of a logical core. -/
def State.sendControl (s : State) (x : Sender) (core : Nat) (e : Engine) (m : W64) : State :=
  s.launch s.sel x ⟨Fin.ofNat 256 core, e⟩ m

/-- A unit takes a message that has come to it, in the order its sender keeps (R40); nothing happens without one. -/
def State.takeControl (s : State) (u : UnitAddr) (m : W64) (f : State → State) : State :=
  match nextFlight s.flights s.sel u m with
  | some x => f { s with flights := s.flights.erase x }
  | none => s

/-- The unfinished leg that a message names at a unit: its position modulo 32,768 names one leg (R250). -/
def State.namedLeg (s : State) (u : UnitAddr) (m : W64) : Option (Nat × Leg × LegRun) :=
  ((s.unitLegs u.core.val u.engine).filter (fun x => !x.2.2.finished)).find? (fun x =>
    decide (x.2.2.position % 32768 = msgPosition m))

/-- Add a count to a leg's queue: 16 bits, tokens or credits; credits never exceed the pool (R251). -/
def StreamRun.add (r : StreamRun) (credit : Bool) (n : Nat) : StreamRun :=
  if credit then { r with credits := min r.pool (r.credits + n) } else { r with tokens := satCount 16 (r.tokens + n) }

/-- A count for a leg's queue arrives: it is added, or held by the Navigator for a leg not yet entered (R250). A leg that has finished
or has left the unit has no queue there, and nothing is left to count for it. -/
def State.countMessage (s : State) (u : UnitAddr) (m : W64) (credit : Bool) : State :=
  match s.namedLeg u m with
  | some x =>
    if s.entered u.core.val u.engine x.2.2.position then s.mapStream x.1 (msgSlot m) (fun r => r.add credit (msgCount m))
    else s.mapRole (fun r => { r with held := r.held ++ [HeldCount.mk u (msgPosition m) (msgSlot m) credit (msgCount m)] })
  | none => s

/-- The Navigator passes on the counts it holds for legs that have entered (R250). -/
def State.passHeld (s : State) : State :=
  s.role.held.foldl (fun t h =>
    let m := legMessage 0 h.position h.slot h.count 0
    match t.namedLeg h.unit m with
    | some x =>
      if t.entered h.unit.core.val h.unit.engine x.2.2.position then
        (t.mapRole (fun r => { r with held := r.held.erase h })).mapStream x.1 h.slot (fun q => q.add h.credit h.count)
      else t
    | none => t) s

/-! ### Credits of units (Table 7-11) -/

/-- Full tiles of pages that a region of the accumulator buffer holds: an F tile takes one page, a G tile two (R111). -/
def Passage.regionTiles (p : Passage) (q : UnitQueue) : Nat :=
  match q with
  | .f => p.fPages
  | .dx => p.dxPages / 2
  | .dw => p.dwPages / 2
  | .staging => 64
  | .soundings => 8

/-- Where a unit queue's credits are kept: by logical core, staging under 256 plus the die. -/
def creditKey (owner : Nat) (q : UnitQueue) : Nat := 8 * owner + q.code

/-- Pool of a unit queue; a die's staging buffer is short of the slots retired beyond its spares (Table 14-4). -/
def State.pool (s : State) (owner : Nat) (q : UnitQueue) : Nat :=
  (s.role.passage.map (fun p => p.regionTiles q)).getD 0 - (if q = .staging then sparseGet 0 (owner - 256) s.rel.slotsLost else 0)

/-- Credits that a core holds for one of its unit queues; a pool starts each step full (R251). -/
def State.credit (s : State) (owner : Nat) (q : UnitQueue) : Nat :=
  sparseGet (s.pool owner q) (creditKey owner q) s.role.regionCredits

/-- Set the credits of a unit queue, never beyond its pool. -/
def State.setCredit (s : State) (owner : Nat) (q : UnitQueue) (n : Nat) : State :=
  s.mapRole (fun r => { r with
    regionCredits := sparsePut (s.pool owner q) (creditKey owner q) (min n (s.pool owner q)) r.regionCredits })

/-- Take one credit. -/
def State.takeCredit (s : State) (owner : Nat) (q : UnitQueue) : State := s.setCredit owner q (s.credit owner q - 1)

/-- The unit queue of a kind code. -/
def queueOf : Nat → Option UnitQueue
  | 0 => some .f
  | 1 => some .dx
  | 2 => some .dw
  | 3 => some .staging
  | 4 => some .soundings
  | _ => none

/-- The region of the accumulator buffer that a product leg's tiles take. -/
def Leg.region (l : Leg) : UnitQueue := if l.kind = 0 then .f else if l.kind = 1 then .dx else .dw

/-- Return one credit of a region or of the Soundings collector by a control message. -/
def State.returnCredit (s : State) (x : Sender) (core : Nat) (e : Engine) (q : UnitQueue) : State :=
  s.sendControl x core e (unitMessage 1 q 1 0)

/-! ### Tiles that can be read -/

/-- Collectives that land a tile in the step. -/
def Passage.landsTile (p : Passage) (tensor tile : Nat) : Bool :=
  p.collectives.any (fun c => c.kind == 1 && c.tensor == tensor && decide (c.firstTile ≤ tile)
    && decide (tile < c.firstTile + c.tileCount))

/-- No earlier leg of the step writes a tile, or its token has been posted. -/
def State.plainFinal (s : State) (p : Passage) (i tensor tile : Nat) : Bool :=
  s.role.ready.contains (tensor, tile)
    || !((p.legs.take i).any (fun l => p.writesTile l tensor tile)
          || (p.landsTile tensor tile && (p.legs.take i).any (fun l => l.kind == 10)))

/-- A tile can be read by leg `i` (R245). A companion array of a tensor is final with the tensor's tiles. -/
def State.tileFinal (s : State) (i tensor tile : Nat) : Bool :=
  match s.role.passage with
  | none => false
  | some p =>
    s.plainFinal p i tensor tile
      && (p.tensors.filter (fun t => decide (tensor ≠ 0xFFFF) && (t.scalesId == tensor || t.zpId == tensor
            || t.outIndexId == tensor || t.outSideId == tensor))).all
          (fun t => (List.range t.tiles).all (fun k => s.plainFinal p i t.id k))

/-- The token of a written tile is posted, and with it that of the other half of a pair (R55). -/
def State.markReady (s : State) (tensor tile : Nat) : State :=
  let other := ((s.tensor? tensor).map Tensor.partner).getD 0xFFFF
  s.mapRole (fun r => { r with
    ready := ([(tensor, tile)] ++ (if other = 0xFFFF then [] else [(other, tile)])).foldl
      (fun xs x => if xs.contains x then xs else x :: xs) r.ready })

/-! ### Streams of a leg by direction -/

/-- Inbound streams of a leg with their slots. -/
def inboundSlots (ss : List Stream) : List (Stream × Nat) := ss.zipIdx.filter (fun x => !x.1.outbound && !x.1.chunkIn)

/-- Outbound streams of a leg with their slots. -/
def outboundSlots (ss : List Stream) : List (Stream × Nat) := ss.zipIdx.filter (fun x => x.1.outbound)

/-! ### Ports (R294, R295) -/

/-- A port; 16 is the twin link. -/
def State.port (s : State) (p : Nat) : Port := sparseGet Port.down p s.fab.ports

/-- Replace a port. -/
def State.setPort (s : State) (p : Nat) (q : Port) : State :=
  { s with fab := { s.fab with ports := sparsePut Port.down p q s.fab.ports } }

/-- Fields of a port's window; the twin link repeats the layout (R326). -/
def portField (f : Nat → Field) (p : Nat) : Field :=
  let g := f p
  if p = 16 then ⟨g.reg - (0x1801000 + 0x40 * 16) + 0x1C00100, g.hi, g.lo⟩ else g

/-! ### Sending packets (R298, R307) -/

/-- A packet of a type and class, with every other field zero (R299). -/
def blankPacket (ptype cls : Nat) : Packet where
  ptype := BitVec.ofNat 4 ptype
  cls := BitVec.ofNat 2 cls
  esc := false
  dest := 0
  src := 0
  hops := 0
  knot := 0
  addr := 0
  attempt := 0
  tag := 0
  arg := 0
  aux := 0
  ext0 := 0
  ext1 := 0
  data := []
  headOk := true
  dataOk := true

/-- The node ID that the role in force answers to: the module's own, or the alias of the role it carries (R322). -/
def State.nodeId (s : State) : Nat := s.get (if s.role.carried then Reg.FAB_NODE.ALIAS else Reg.FAB_NODE.NODE_ID)

/-- A packet of this module: its destination, its source and the hop limit (Table 9-3). -/
def State.addressed (s : State) (dest : Nat) (p : Packet) : Packet :=
  { p with
    dest := BitVec.ofNat 14 dest, src := BitVec.ofNat 14 s.nodeId, hops := BitVec.ofNat 8 (max 1 (s.cfg Reg.FAB_CFG.HOP_LIMIT)) }

/-- A packet that held receive storage has gone on or been handled: its credit returns to the sender, or its place in the
early-hold storage is free (R296, R297). -/
def State.leavesStorage (s : State) (p : Packet) : State :=
  match s.fab.storage.find? (fun x => x.2 == p) with
  | some x => ({ s with fab := { s.fab with storage := s.fab.storage.erase x } } : State).emit (.credits x.1 p.vc p.flits)
  | none => { s with fab := { s.fab with hold := s.fab.hold.eraseP (fun x => x.2 == p) } }

/-- An early packet moves into the early-hold storage of its port, 128 flits, and returns its credit. It stays in its virtual
channel when that storage is full, and a Rendezvous message always does (R297). -/
def State.holdEarly (s : State) (p : Packet) : State :=
  match s.fab.storage.find? (fun x => x.2 == p) with
  | none => s
  | some x =>
    let held := ((s.fab.hold.filter (fun y => y.1 == x.1)).map (fun y => y.2.flits)).sum
    if p.isRdv || decide (128 < held + p.flits) then s
    else
      let s1 : State := { s with fab := { s.fab with storage := s.fab.storage.erase x, hold := s.fab.hold ++ [x] } }
      s1.emit (.credits x.1 p.vc p.flits)

/-- Hand a packet to the router. -/
def State.sendPacket (s : State) (dest : Nat) (p : Packet) : State :=
  { s with fab := { s.fab with router := s.fab.router ++ [s.addressed dest p] } }

/-- The low 16 bits of the attempt number, which a packet carries (R265). -/
def State.attemptTag (s : State) : W16 := BitVec.ofNat 16 s.role.attempt

/-- Count writes and signals sent to a node and not yet acknowledged (R300). -/
def State.addUnacked (s : State) (dest n : Nat) : State :=
  { s with fab := { s.fab with unacked := sparsePut 0 dest (sparseGet 0 dest s.fab.unacked + n) s.fab.unacked } }

/-- Send bytes to an address at a node as WRITE packets of at most 4,096 bytes that a knot announces (R263, R298). -/
def State.sendWrites (s : State) (dest addr knot : Nat) (bs : List Byte) : State :=
  (List.range (ceilDiv bs.length 4096)).foldl (fun t i =>
    let p := { blankPacket 0 0 with
      knot := BitVec.ofNat 12 knot
      addr := BitVec.ofNat 52 (addr + 4096 * i)
      attempt := s.attemptTag
      data := (bs.drop (4096 * i)).take 4096 }
    (t.sendPacket dest p).addUnacked dest 1) s

/-- The node of the paired twin, under which writes to it are counted. -/
def State.twinNode (s : State) : Nat := s.twin.partnerNode.getD 0

/-- Send a packet to the twin: over the twin link, or over the fabric while PATH is 1 (R313, R320). -/
def State.twinPacket (s : State) (p : Packet) : State :=
  if s.flag Reg.TWN_STATUS.PATH then s.sendPacket s.twinNode p
  else { s with fab := { s.fab with twinQueue := s.fab.twinQueue ++ [s.addressed s.twinNode p] } }

/-- Send writes to the twin. -/
def State.twinWrites (s : State) (addr knot : Nat) (bs : List Byte) : State :=
  (List.range (ceilDiv bs.length 4096)).foldl (fun t i =>
    let p := { blankPacket 0 0 with
      knot := BitVec.ofNat 12 knot
      addr := BitVec.ofNat 52 (addr + 4096 * i)
      attempt := t.attemptTag
      data := (bs.drop (4096 * i)).take 4096 }
    (t.twinPacket p).addUnacked t.twinNode 1) s

/-- A remote signal that announces `n` writes (R263). -/
def State.signalPacket (s : State) (knot n : Nat) : Packet :=
  { blankPacket 4 3 with
    knot := BitVec.ofNat 12 knot, attempt := s.attemptTag, arg := BitVec.ofNat 32 n }

/-- Send a remote signal to a node. -/
def State.sendSignal (s : State) (dest knot n : Nat) : State :=
  (s.sendPacket dest (s.signalPacket knot n)).addUnacked dest 1

/-- Send a remote signal to the twin. -/
def State.twinSignal (s : State) (knot n : Nat) : State :=
  (s.twinPacket (s.signalPacket knot n)).addUnacked s.twinNode 1

/-! ### Marks for the next Rendezvous -/

/-- The next Rendezvous is to carry DISCARD (R219, R224, R281). -/
def State.discardMark (s : State) : State := s.mapRole (fun r => { r with discardMark := r.passage.isSome || r.discardMark })

/-- Every role of the module carries the mark. -/
def State.discardAll (s : State) : State :=
  { s.discardMark with other := s.other.map (fun r => { r with discardMark := true }) }

end Sys2Proof.Machine
end

