-- ==== Sys2Proof/Machine/Data.lean ====
section
/-! DEFINITION. What a unit reads of a tensor: the tile as it lies in a ring or at its home, its rung, its block scales,
zero points and outliers, and the value of an element (spec/02_number_formats.md R61 to R66; spec/04_precision_control.md
R131 to R133, R149 to R154; spec/06_memory_and_placement.md R202, R204, R206). -/

namespace Sys2Proof.Machine

/-! ### Bytes of a tile -/

/-- The ring copy of a tile that a leg's Pilots have landed. -/
def State.landedTile (s : State) (leg tensor tile : Nat) : Option LandedTile :=
  match s.legAt leg with
  | none => none
  | some (l, r) =>
    (inboundSlots (s.streamsOf l)).findSome? (fun x =>
      if x.1.tensor = tensor then (r.streams[x.2]?).bind (fun q => q.landed.find? (fun d => d.tile == tile)) else none)

/-- One byte of a tile as leg `leg` reads it: from its ring where it has landed, else from the home. -/
def State.tileByte (s : State) (leg tensor tile off : Nat) : Byte :=
  match s.landedTile leg tensor tile with
  | some d => d.bytes.getD off 0
  | none => match s.home tensor tile with
    | some h => s.readByte (h.2.2 + off)
    | none => 0

/-- The rung of a tile as leg `leg` reads it (R202, R206). -/
def State.rungOf (s : State) (leg tensor tile : Nat) : Nat :=
  match s.landedTile leg tensor tile with
  | some d => d.rung
  | none => s.tileRung tensor tile

/-- A byte of a byte-tiled companion array, by its index in the array (R203). -/
def State.sideByte (s : State) (leg id idx : Nat) : Byte := s.tileByte leg id (idx / 4096) (idx % 4096)

/-! ### Outliers (R149 to R151) -/

/-- Format codes that take the outlier path. -/
def outlierFormat (code : Nat) : Bool := decide (4 ≤ code ∧ code ≤ 6)

/-- Blocks of a full tile. -/
def Tensor.tileBlocks (t : Tensor) : Nat := if t.blockLen = 0 then 0 else tileElems t.shape / t.blockLen

/-- Block of an element within its tile, in ascending element index of the blocks' first elements, and the element's
position in it (R149). -/
def Tensor.blockIn (t : Tensor) (e : Nat) : Nat × Nat :=
  let w := if t.shape < 2 then tileWidth t.shape else 4096
  if t.blockLen = 0 then (0, 0)
  else if t.rowBlocks then ((e / w / t.blockLen) * w + e % w, e / w % t.blockLen)
  else ((e / w) * (w / t.blockLen) + e % w / t.blockLen, e % w % t.blockLen)

/-- The element at a position of a block. -/
def Tensor.elemIn (t : Tensor) (block pos : Nat) : Nat :=
  let w := if t.shape < 2 then tileWidth t.shape else 4096
  if t.blockLen = 0 then pos
  else if t.rowBlocks then (block / w * t.blockLen + pos) * w + block % w
  else block / (w / t.blockLen) * w + block % (w / t.blockLen) * t.blockLen + pos

/-- The 2-bit entry of a block in the outlier index: tile by tile, four blocks to a byte (R149, log 44). -/
def State.outlierIndex (s : State) (leg : Nat) (t : Tensor) (tile block : Nat) : Nat :=
  let i := tile * t.tileBlocks + block
  (s.sideByte leg t.outIndexId (i / 4)).toNat / 4 ^ (i % 4) % 4

/-- Entries of the side buffer that a tile owns: ceil(Vi / 256). -/
def Tensor.share (t : Tensor) (tile : Nat) : Nat := ceilDiv (t.validElems tile).length 256

/-- The first entry of a tile's share. -/
def Tensor.shareStart (t : Tensor) (tile : Nat) : Nat := ((List.range tile).map t.share).foldl (· + ·) 0

/-- Entries that a block takes by its index value. -/
def Tensor.entriesFor (t : Tensor) (index : Nat) : Nat := if index = 3 then 1 + t.blockLen / 8 else index

/-- A side-buffer entry of a tile. -/
def State.sideEntry (s : State) (leg : Nat) (t : Tensor) (tile n : Nat) : Nat :=
  ofLeBytes ((List.range 8).map (fun i => s.sideByte leg t.outSideId (8 * (t.shareStart tile + n) + i)))

/-- The number an EQ8a code stands for at an EQS8 scale. -/
def eq8aValue (code scale : Nat) (coarse : Rat) : Num := elementValue .eq8a code (some scale) 0 coarse

/-- The coarse scale S of a tensor. -/
def Tensor.s (t : Tensor) : Rat := if t.format < 11 then (decodeNum .fp32 t.coarse).toRat else 1

/-- The full value at a position of a block that holds an outlier; none where the position is an ordinary one (R151). -/
def State.outlierAt (s : State) (leg : Nat) (t : Tensor) (tile block pos : Nat) : Option Num :=
  let first := ((List.range block).map (fun b => t.entriesFor (s.outlierIndex leg t tile b))).foldl (· + ·) 0
  match s.outlierIndex leg t tile block with
  | 0 => none
  | 3 =>
    let head := s.sideEntry leg t tile first
    let data := s.sideEntry leg t tile (first + 1 + pos / 8)
    some (eq8aValue (data / 256 ^ (pos % 8) % 256) (bitsOf head 15 8) t.s)
  | n => (List.range n).findSome? (fun i =>
      let e := s.sideEntry leg t tile (first + i)
      if bitsOf e 22 16 = pos then some (eq8aValue (bitsOf e 7 0) (bitsOf e 15 8) t.s) else none)

/-! ### Elements -/

/-- An element as a product reads it: its format, code, block scale and zero point, the coarse scale, and its full value
where an outlier stands there. -/
structure Elem where
  fmt : Fmt
  code : Nat
  scale : Option Nat
  zero : Int
  coarse : Rat
  outlier : Option Num
  /-- The sum of its block's codes, where the DMA engine has written it beside the operand (R104). -/
  blockSum : Option Int

/-- The element's full value (R65). -/
def Elem.full (e : Elem) : Num := e.outlier.getD (elementValue e.fmt e.code e.scale e.zero e.coarse)

/-- The number that a run multiplies: the code's value without scales and zero point. In an all-zero block it is +0 and in a
poisoned one poison (R62). -/
def Elem.raw (e : Elem) : Num :=
  match e.scale with
  | some 0 => Num.zero
  | some 0xFF => .poison
  | _ => if e.fmt.isInt then .ofRat ((signedCode e.fmt.width e.code : Int) : Rat) else decodeNum e.fmt e.code

/-- The integer of a code that the block sums count. -/
def Elem.integer (e : Elem) : Int := signedCode e.fmt.width e.code

/-- The block scale that a run's sum takes. -/
def Elem.blockScale (e : Elem) : Rat :=
  match e.scale with
  | some 0 => 1
  | some 0xFF => 1
  | some c => scaleValue c
  | none => 1

/-- A format carries the tensor's blocks: EQ and INT formats of a tensor with blocks (R66, R131). -/
def Tensor.blocksAt (t : Tensor) (code : Nat) : Bool := decide (t.block ≠ 0) && decide (4 ≤ code ∧ code ≤ 10)

/-- The block sums of an INT tile with zero points, by block, formed as its bytes arrive (R104). A tile above its declared format
has zero point 0 and needs none (R131). -/
def Tensor.blockSums (t : Tensor) (tile rung : Nat) (bytes : List Byte) : List (Nat × Int) :=
  let fmt := (fmtOf (t.formatAt rung)).getD .fp32
  if !t.zp || !fmt.isInt || decide (rung ≠ 0) then []
  else
    let cells := (t.validElems tile).filterMap (fun e => (t.unplace tile e).map (fun rc =>
      (t.blockOf rc.1 rc.2, signedCode fmt.width (packedCode fmt (fun i => bytes.getD i 0) e))))
    ((cells.map Prod.fst).eraseDups).map (fun b => (b, ((cells.filter (fun c => c.1 == b)).map Prod.snd).foldl (· + ·) 0))

/-- A tile as a Pilot puts it in the ring: its rung by its mark, its bytes, and the block sums beside it (R104, R202). -/
def State.landed (s : State) (tensor tile : Nat) (bytes : List Byte) : LandedTile :=
  let rung := s.tileRung tensor tile
  ⟨tile, rung, bytes, ((s.tensor? tensor).map (fun t => t.blockSums tile rung bytes)).getD []⟩

/-- Read an element of a tensor at a row and column. -/
def State.element (s : State) (leg : Nat) (t : Tensor) (row col : Nat) : Elem :=
  let at_ := t.place row col
  let rung := s.rungOf leg t.id at_.1
  let code := t.formatAt rung
  let fmt := (fmtOf code).getD .fp32
  let q := packedCode fmt (fun i => s.tileByte leg t.id at_.1 i) at_.2
  let b := t.blockOf row col
  let bi := t.blockIn at_.2
  { fmt := fmt
    code := q
    scale := if t.blocksAt code then some (s.sideByte leg t.scalesId b).toNat else none
    zero := if t.zp && fmt.isInt && decide (rung = 0) then signedCode fmt.width (s.sideByte leg t.zpId b).toNat else 0
    coarse := t.s
    outlier := if t.outliers && outlierFormat code then s.outlierAt leg t at_.1 bi.1 bi.2 else none
    blockSum := if t.zp && fmt.isInt then
        (s.landedTile leg t.id at_.1).bind (fun d => (d.sums.find? (fun x => x.1 == b)).map Prod.snd) else none }

/-- The rows and columns of a flat element index. -/
def Tensor.flat (t : Tensor) (i : Nat) : Nat × Nat := (i / max t.cols 1, i % max t.cols 1)

/-- The element at a flat row-major index. -/
def State.flatElement (s : State) (leg : Nat) (t : Tensor) (i : Nat) : Elem := s.element leg t (t.flat i).1 (t.flat i).2

/-- An element decoded to FP32 (R73): a code and flags. An FP32 value is taken as it is, and a CARRY or master pair is
joined (R55). A signalling NaN of EQ8b raises INVALID with cause 0x03 by Table 2-8, although the row of Table 2-12 for a decoding
with coarse scale has no mark under INVALID (DEDUCED, log 102). -/
def Elem.toFp32 (e : Elem) : Nat × Flags :=
  if e.fmt = .fp32 then (e.code, Flags.none)
  else match e.full with
    | .fin neg m => roundCode .fp32 .rne neg m
    | .inf neg => (Fmt.fp32.infCode neg, Flags.none)
    | x => convertNum .fp32 .rne .ieee 0 1 x

/-- The other half of a pair and whether this tensor is its high half: the half of kind 0, or the lower tensor ID of a CARRY
pair (R55, R127, log 45). -/
def State.lowHalf? (s : State) (t : Tensor) : Option Tensor :=
  if t.partner = 0xFFFF then none
  else (s.tensor? t.partner).bind (fun q =>
    if t.kind = 0 ∧ q.kind = 1 then some q else if t.carry ∧ t.id < q.id then some q else none)

/-- The FP32 code of a flat element as the V or U engine reads it: the pair joined, or the element decoded. -/
def State.fp32At (s : State) (leg : Nat) (t : Tensor) (i : Nat) : Nat × Flags :=
  match s.lowHalf? t with
  | some q => ((s.flatElement leg t i).code * 65536 + (s.flatElement leg q i).code, Flags.none)
  | none => (s.flatElement leg t i).toFp32

end Sys2Proof.Machine
end

