-- ==== Sys2Proof/Machine/Tokens.lean ====
section
/-! DEFINITION. Tokens, credits and Pilots: which tiles of its streams a unit needs for a piece of work, the tokens that the work
consumes and the credits that it returns, and the Pilots of a core in passage order (spec/01_architecture.md R29, R30, R32;
spec/06_memory_and_placement.md R199; spec/07_passages.md R251, R252; spec/08_sync_and_collectives.md R259). -/

namespace Sys2Proof.Machine

/-! ### The tiles that a piece of work reads -/

/-- A copy leg turns its tensor: a transposed copy does, and a re-blocked one whose rows are the source's columns (R69,
R108). -/
def Leg.turns (l : Leg) (a y : Tensor) : Bool := l.kind == 7 || (l.kind == 8 && a.rows == y.cols && a.cols == y.rows)

/-- Rows and columns that a tile of a tensor covers: its first row, their count, its first column and their count; a flat tile
takes its rows whole. -/
def Tensor.tileRect (t : Tensor) (tile : Nat) : Nat × Nat × Nat × Nat :=
  if t.shape < 2 then
    let w := tileWidth t.shape
    let per := max 1 (ceilDiv t.cols w)
    (tile / per * 64, 64, tile % per * w, w)
  else
    let c := max t.cols 1
    let lo := 4096 * tile
    let hi := min (t.rows * t.cols) (lo + 4096)
    (lo / c, if hi ≤ lo then 0 else (hi - 1) / c + 1 - lo / c, 0, c)

/-- The flat elements of an element tile. -/
def Tensor.flatTiles (t : Tensor) (tile : Nat) : List Nat :=
  t.tilesBetween (4096 * tile) (min (t.rows * t.cols) (4096 * tile + 4096))

/-- Tiles that the bytes `lo` up to `hi` of a companion array lie in (R203). -/
def byteTiles (lo hi : Nat) : List Nat :=
  if hi ≤ lo then [] else (List.range ((hi - 1) / 4096 + 1 - lo / 4096)).map (lo / 4096 + ·)

/-- Tiles of a companion array that a tile of its tensor names. -/
def Tensor.companionTiles (t : Tensor) (id tile : Nat) : List Nat :=
  if id = t.outIndexId then byteTiles (tile * t.tileBlocks / 4) (ceilDiv ((tile + 1) * t.tileBlocks) 4)
  else if id = t.outSideId then byteTiles (8 * t.shareStart tile) (8 * (t.shareStart tile + t.share tile))
  else
    let x := t.tileRect tile
    let row := min (t.rows - 1) (x.1 + x.2.1 - 1)
    let col := min (t.cols - 1) (x.2.2.1 + x.2.2.2 - 1)
    byteTiles (t.blockOf x.1 x.2.2.1) (t.blockOf row col + 1)

/-- Tiles of a tensor that a leg reads as such for one of its output tiles; none where the leg reads the tensor whole: inputs of
another shape than a composite's x, masks, and everything where a composite's further outputs follow its last tile. -/
def Passage.directTiles (p : Passage) (l : Leg) (t : Tensor) (tile : Nat) : Option (List Nat) :=
  if l.kind < 3 then
    if t.id = l.a ∨ t.id = l.b then
      some ((if t.id = l.a then p.operandTile l true tile else []) ++ (if t.id = l.b then p.operandTile l false tile else []))
    else none
  else if l.kind = 3 then some (t.flatTiles tile)
  else if l.kind = 4 then
    match ((p.streamsOf l).find? (fun st => !st.outbound && !st.chunkIn)).bind (fun st => p.tensor? st.tensor) with
    | some x =>
      let more := decide (1 < ((p.streamsOf l).filter Stream.outbound).length) && decide (tile + 1 = l.firstTile + l.tileCount)
      if t.rows * t.cols ≠ x.rows * x.cols ∨ more = true then none
      else
        let n := max x.cols 1
        let hi := min (x.rows * x.cols) (4096 * tile + 4096)
        some (t.tilesBetween (4096 * tile / n * n) (min (x.rows * x.cols) (ceilDiv hi n * n)))
    | none => none
  else if l.kind = 5 then
    if (p.streamsOf l).any (fun st => st.tensor == t.id && st.role == 4) then none else some (t.flatTiles tile)
  else if l.kind < 9 then
    match p.tensor? l.y with
    | some y =>
      if t.id ≠ l.a then none
      else if y.shape = 3 then some [tile]
      else
        let x := y.tileRect tile
        some (if l.turns t y then t.rectTiles x.2.2.1 x.2.2.2 x.1 x.2.1 else t.rectTiles x.1 x.2.1 x.2.2.1 x.2.2.2)
    | none => none
  else if t.id = l.y ∨ p.contributes l = some t.id then some [tile]
  else none

/-- Tiles of an inbound stream's tensor that a leg reads for one of its output tiles: as such, or as a companion array of a tensor
that it reads. -/
def Passage.readTiles (p : Passage) (l : Leg) (id tile : Nat) : Option (List Nat) :=
  match p.tensor? id with
  | none => none
  | some t =>
    match (p.reads l).findSome? (fun k => (p.tensor? k).bind (fun u => if u.companions.contains id then some u else none)) with
    | some u => (p.directTiles l u tile).map (fun ks => (ks.flatMap (u.companionTiles id)).eraseDups)
    | none => p.directTiles l t tile

/-- Tokens of a stream that an output tile of a leg needs: those up to the last tile that it reads, in stream order; every tile of a
HOLD stream, and with the last output tile all that the stream declares (log 43). -/
def Passage.needed (p : Passage) (l : Leg) (st : Stream) (tile : Nat) (last : Bool) : Nat :=
  if st.hold || last then st.tileCount
  else match p.readTiles l st.tensor tile with
    | none => st.tileCount
    | some ks => ((st.tiles.zipIdx.filter (fun x => ks.contains x.1)).map (fun x => x.2 + 1)).foldl max 0

/-- Places of a stream before the first tile that one of a list of output tiles still needs. -/
def Passage.spent (p : Passage) (l : Leg) (st : Stream) (rest : List Nat) : Nat :=
  if rest = [] then st.tileCount
  else
    let still := rest.map (p.readTiles l st.tensor)
    if still.any Option.isNone then 0
    else (st.tiles.takeWhile (fun k => !still.any (fun x => (x.getD []).contains k))).length

/-! ### Output tiles of a leg -/

/-- A leg's next output tile: one to be run once more, before any further one. -/
def Leg.nextTile (l : Leg) (r : LegRun) : Nat := r.redo.headD (l.firstTile + r.started)

/-- A leg has a tile left to start. -/
def LegRun.more (r : LegRun) (l : Leg) : Bool := !r.redo.isEmpty || decide (r.started < l.tileCount)

/-- Output tiles of a leg that have not been started. A contribution leg takes its tiles as they are finished. -/
def Leg.rest (l : Leg) (r : LegRun) : List Nat :=
  let all := (List.range l.tileCount).map (l.firstTile + ·)
  if l.kind = 10 then all.filter (fun k => !r.committed.contains k) else all.drop r.started

/-- Pass 1 has measured every tile of an update leg. -/
def State.measuredLeg (s : State) (i : Nat) (l : Leg) : Bool :=
  (List.range l.tileCount).all (fun j => s.role.update.measured.any (fun m => m.1 == i && m.2.1 == l.firstTile + j))

/-! ### Pilots (R199) -/

/-- A stream of a leg that a Pilot follows at present: an update leg's GRADIENT streams until pass 1 has read them, none while pass 2
is to come, and then all (R238). -/
def State.follows (s : State) (i : Nat) (l : Leg) (st : Stream) : Bool :=
  l.kind != 5 || s.role.closed || (!st.outbound && st.role == 0 && !s.measuredLeg i l)

/-- A leg has its Pilots, and its rings their space: with the unfinished legs of the same core before it in the passage, it has at
most 16 streams and 1 MiB of rings (R194, R199). Pilots go to legs in passage order: DESIGN CHOICE, log 105. -/
def State.piloted (s : State) (i : Nat) : Bool :=
  match s.legAt i with
  | none => false
  | some (_, r) =>
    let mine := s.role.legs.filter (fun x => decide (x.1 ≤ i) && !x.2.finished && x.2.core.isSome && x.2.core == r.core)
    let ss : List Stream := mine.flatMap (fun x => match s.legAt x.1 with
      | some (l, _) => (s.streamsOf l).filter (s.follows x.1 l)
      | none => [])
    decide (ss.length ≤ 16) && decide ((ss.map Stream.ringKib).foldl (· + ·) (0 : Nat) ≤ (1024 : Nat))

/-! ### Starting and finishing work (R30) -/

/-- Tokens that streams of a leg must have given for an output tile. -/
def State.needs (s : State) (l : Leg) (st : Stream) (tile : Nat) (last : Bool) : Nat :=
  ((s.role.passage).map (fun p => p.needed l st tile last)).getD st.tileCount

/-- The leg's next output tile is its last. -/
def Leg.lastTile (l : Leg) (r : LegRun) : Bool := decide ((l.rest r).length ≤ 1)

/-- Every one of the leg's streams that a test admits has given the tokens for an output tile. -/
def State.tokensFor (s : State) (l : Leg) (r : LegRun) (only : Stream → Bool) (tile : Nat) (last : Bool) : Bool :=
  (inboundSlots (s.streamsOf l)).all (fun x => !only x.1 || (match r.streams[x.2]? with
    | some q => decide (s.needs l x.1 tile last ≤ q.taken + q.tokens)
    | none => false))

/-- A unit holds a token for each input of the leg's next tile. A tile that runs once more has had its tokens: its operands are
landed again from their homes (R217, R436). -/
def State.tokensHeld (s : State) (i : Nat) (l : Leg) (r : LegRun) : Bool :=
  if r.redo.isEmpty then s.tokensFor l r (fun _ => true) (l.nextTile r) (l.lastTile r)
  else (inboundSlots (s.streamsOf l)).all (fun x => match r.streams[x.2]? with
    | some q => (x.1.tiles.take q.taken).all (s.tileFinal i x.1.tensor)
    | none => false)

/-- A core is the lowest usable one of its cluster, and a replica of the passage has yet to land in its store: its DMA engine copies
that ahead of its leg queue (R213). -/
def State.replicaDue (s : State) (core : Nat) : Bool :=
  let c := s.clusterOf core
  (List.range s.boot.numbering.length).find? (fun n => s.logicalUsable n && s.clusterOf n == c) == some core
    && s.chart.entries.any (fun x => decide (x.2.replicas / 2 ^ c % 2 = 1) && (s.tensor? x.2.tensor).isSome
      && !s.chart.landedReplicas.contains (x.1, c))

/-- The next tile of a leg can start as far as the leg's own queues and knots go. -/
def State.legReady (s : State) (i : Nat) : Bool :=
  match s.legAt i with
  | some (l, r) => s.legActive i && r.more l && s.waitMet l && s.tokensHeld i l r
      && !(l.engine == .dma && (r.core.map s.replicaDue).getD false)
  | none => false

/-- Work consumes the tokens of the streams that a test admits. -/
def State.consumeFor (s : State) (i : Nat) (l : Leg) (only : Stream → Bool) (tile : Nat) (last : Bool) : State :=
  ((inboundSlots (s.streamsOf l)).filter (fun x => only x.1)).foldl (fun t x =>
    t.mapStream i x.2 (fun q =>
      let need := max q.taken (s.needs l x.1 tile last)
      { q with tokens := q.tokens - (need - q.taken), taken := need })) s

/-- Starting a tile consumes its tokens. -/
def State.consume (s : State) (i : Nat) : State :=
  match s.legAt i with
  | none => s
  | some (l, r) => s.consumeFor i l (fun _ => true) (l.nextTile r) (l.lastTile r)

/-- Ring slots of a stream up to a place are free: their credits return by messages of at most 255 (Table 7-10). -/
def State.freeSlots (s : State) (i slot upTo : Nat) : State :=
  match s.legAt i with
  | none => s
  | some (l, r) =>
    match r.streams[slot]? with
    | none => s
    | some q =>
      let n := upTo - q.passed
      let core := r.core.getD 0
      (List.range (ceilDiv n 255)).foldl (fun t k =>
        t.sendControl (.unit ⟨Fin.ofNat 256 core, l.engine⟩) core l.engine (legMessage 1 r.position slot (min 255 (n - 255 * k)) 0))
        (s.mapStream i slot (fun x => { x with passed := max x.passed upTo }))

/-- Finished work returns the credits of the inputs that no output tile of a list needs any longer (R30, R251). -/
def State.returnFor (s : State) (i : Nat) (l : Leg) (only : Stream → Bool) (rest : List Nat) : State :=
  match s.role.passage, s.legAt i with
  | some p, some (_, r) =>
    ((inboundSlots (s.streamsOf l)).filter (fun x => only x.1 && !x.1.hold)).foldl (fun t x =>
      match r.streams[x.2]? with
      | none => t
      | some q =>
        let n := min q.taken (p.spent l x.1 rest)
        let gone := x.1.tiles.take n
        (t.mapStream i x.2 (fun y => { y with landed := y.landed.filter (fun d => !gone.contains d.tile) })).freeSlots i x.2 n) s
  | _, _ => s

/-- A finished tile returns the credits of the inputs that the leg no longer needs. -/
def State.returnInputs (s : State) (i : Nat) : State :=
  match s.legAt i with
  | none => s
  | some (l, r) => if r.redo.isEmpty then s.returnFor i l (fun _ => true) (l.rest r) else s

/-- Count a started tile. -/
def State.startTile (s : State) (i : Nat) : State :=
  match s.legAt i with
  | some (_, r) =>
    if r.redo.isEmpty then (s.consume i).mapLeg i (fun q => { q with started := q.started + 1 })
    else s.mapLeg i (fun q => { q with redo := q.redo.drop 1 })
  | none => s

/-- A leg reads through the rings that are full before they hold all that its next tile needs: it takes the tiles that have landed
and returns their slots (R245, R252; log 43). -/
def State.readThrough (s : State) (i : Nat) (only : Stream → Bool) (tile : Nat) (last : Bool) : State :=
  match s.legAt i with
  | none => s
  | some (l, r) =>
    if s.legActive i && s.waitMet l && r.redo.isEmpty then
      ((inboundSlots (s.streamsOf l)).filter (fun x => only x.1 && !x.1.hold)).foldl (fun t x =>
        match r.streams[x.2]? with
        | none => t
        | some q =>
          if q.credits = 0 ∧ q.tokens ≠ 0 ∧ q.taken + q.tokens < s.needs l x.1 tile last then
            (t.mapStream i x.2 (fun y => { y with taken := y.taken + y.tokens, tokens := 0 })).freeSlots i x.2 (q.taken + q.tokens)
          else t) s
    else s

/-- The next tile of a leg reads through its full rings. -/
def State.readOn (s : State) (i : Nat) : State :=
  match s.legAt i with
  | some (l, r) => if r.more l then s.readThrough i (fun _ => true) (l.nextTile r) (l.lastTile r) else s
  | none => s

/-- Every leg of a unit that a test admits reads through its full rings. -/
def State.readOnAll (s : State) (core : Nat) (e : Engine) (ok : Leg → Bool) : State :=
  ((s.unitLegs core e).filter (fun x => ok x.2.1 && !x.2.2.finished)).foldl (fun t x => t.readOn x.1) s

/-- The first leg of a unit whose next tile can start and that a test admits; among ready work the lowest work index
starts (Table 1-3). An engine takes its legs in passage order (R112). -/
def State.nextLeg (s : State) (core : Nat) (e : Engine) (ok : Leg → Bool) : Option (Nat × Leg × LegRun) :=
  ((s.unitLegs core e).filter (fun x => ok x.2.1 && !x.2.2.finished && x.2.2.more x.2.1)).head?

/-- The first leg of a unit, in its queue's order, that is ready and that a test admits (Table 1-3). -/
def State.readyLeg (s : State) (core : Nat) (e : Engine) (ok : Nat → Leg → LegRun → Bool) : Option (Nat × Leg × LegRun) :=
  (s.unitLegs core e).find? (fun x => s.legReady x.1 && ok x.1 x.2.1 x.2.2)

/-- The slot of the outbound stream that carries a tensor, where the leg has one. -/
def State.outSlot? (s : State) (l : Leg) (tensor : Nat) : Option Nat :=
  ((outboundSlots (s.streamsOf l)).find? (fun x => x.1.tensor == tensor)).map Prod.snd

/-- An outbound ring has its Pilot and a free slot (R199, Table 7-11). -/
def State.outFree (s : State) (i : Nat) (l : Leg) (tensor : Nat) : Bool :=
  match s.outSlot? l tensor with
  | none => true
  | some k => s.piloted i && (match s.legAt i with
    | some (_, r) => decide (0 < ((r.streams[k]?).map StreamRun.credits).getD 0)
    | none => false)

end Sys2Proof.Machine
end

