-- ==== Sys2Proof/Machine/Product.lean ====
section
/-! DEFINITION. The value of a matrix product: runs, promotion, EX40 accumulation, outliers and the chunk tree
(spec/03_matrix_engines.md R92 to R105, R116; spec/04_precision_control.md R132, R133, R153). -/

namespace Sys2Proof.Machine

/-! ### Master-weight copies for a repeat (R132) -/

/-- Follow a copy back to the BF16 high half it was made from: through DMA legs that write it, turned by those that transpose
or re-block, or through the update leg that writes it. The result names the high half and whether it lies turned. -/
def Passage.masterOf (p : Passage) : Nat → Nat → Bool → Option (Nat × Bool)
  | 0, _, _ => none
  | n + 1, id, turned =>
    match p.tensor? id with
    | none => none
    | some t =>
      if t.kind = 0 ∧ t.format = 1 ∧ t.partner ≠ 0xFFFF then some (id, turned)
      else
        match p.legs.find? (fun l => decide (6 ≤ l.kind ∧ l.kind ≤ 8) && l.y == id) with
        | some l => p.masterOf n l.a (turned != ((p.tensor? l.a).map (fun a => l.turns a t)).getD false)
        | none =>
          match p.legs.find? (fun l => l.kind == 5 && (p.writes l).contains id) with
          | some l =>
            ((p.reads l).find? (fun k => match p.tensor? k with
              | some m => m.kind == 0 && m.format == 1 && decide (m.partner ≠ 0xFFFF)
              | none => false)).map (fun k => (k, turned))
          | none => none

/-- The high half that a master-weight operand was made from, and whether it lies turned. -/
def State.masterHalf (s : State) (t : Tensor) : Option (Tensor × Bool) :=
  s.role.passage.bind (fun p => (p.masterOf 8 t.id false).bind (fun m => (p.tensor? m.1).map (fun h => (h, m.2))))

/-- An element of a master-weight operand read as a copy at its own next rung: made from the high halves, blocked along the
product's reduction dimension, with RNE and scales by R68 (R132); with the flags that making it raises. -/
def State.widened (s : State) (leg : Nat) (t : Tensor) (along turned : Bool) (row col : Nat) : Elem × Flags :=
  match s.masterHalf t with
  | none => (s.element leg t row col, Flags.none)
  | some (h, flip) =>
    let rung := s.rungOf leg t.id (t.place row col).1
    let code := t.formatAt (min (rung + 1) t.ladder)
    let fmt := (fmtOf code).getD .fp32
    let value := fun r c => (if flip then s.element leg h c r else s.element leg h r c).full
    if t.blocksAt code then
      let byRow := along != turned
      let l := t.blockLen
      let start := (if byRow then row else col) / l * l
      let extent := if byRow then t.rows else t.cols
      let block := (List.range (min l (extent - start))).map (fun i =>
        if byRow then value (start + i) col else value row (start + i))
      let unscaled := block.map (fun v => match v with
        | .fin n m => Num.fin n (m / t.s)
        | x => x)
      let sc := chooseScale fmt unscaled
      let c := convertNum fmt .rne .ieee 0 (scaleValue sc * t.s) (value row col)
      ({ fmt := fmt, code := c.1, scale := some sc, zero := 0, coarse := t.s, outlier := none, blockSum := none }, c.2)
    else
      let c := convertNum fmt .rne .ieee 0 t.s (value row col)
      ({ fmt := fmt, code := c.1, scale := none, zero := 0, coarse := t.s, outlier := none, blockSum := none }, c.2)

/-- Operand A at (m, k), as stored, or for a repeat widened where it is a master-weight copy. -/
def State.operandA (s : State) (leg : Nat) (l : Leg) (t : Tensor) (wide : Bool) (m k : Nat) : Elem :=
  let rc := if l.orientA then (k, m) else (m, k)
  if wide && t.master then (s.widened leg t false l.orientA rc.1 rc.2).1 else s.element leg t rc.1 rc.2

/-- Operand B at (k, n). -/
def State.operandB (s : State) (leg : Nat) (l : Leg) (t : Tensor) (wide : Bool) (k n : Nat) : Elem :=
  let rc := if l.orientB then (n, k) else (k, n)
  if wide && t.master then (s.widened leg t true l.orientB rc.1 rc.2).1 else s.element leg t rc.1 rc.2

/-! ### Runs (R96, R133) -/

/-- The format code of a format. -/
def Fmt.code : Fmt → Nat
  | .fp32 => 0
  | .bf16 => 1
  | .fp16 => 2
  | .fp64 => 3
  | .eq4 => 4
  | .eq6a => 5
  | .eq6b => 6
  | .eq8a => 7
  | .eq8b => 8
  | .int8 => 9
  | .int4 => 10
  | .ex40 => 12

/-- A narrow operand whose pair is absent from Table 3-1 is converted to FP32 by R73, scales and S included (R133). -/
def Elem.widen (e : Elem) : Elem :=
  if e.fmt.isFp then e else
    { fmt := .fp32, code := e.toFp32.1, scale := none, zero := 0, coarse := 1, outlier := none, blockSum := none }

/-- Round a run sum to 22 fraction bits with a hidden bit, by RNE (R96). -/
def roundRun (r : Rat) : Rat × Bool :=
  if r = 0 then (0, false)
  else
    let neg := decide (r < 0)
    let mag := if neg then -r else r
    let u := pow2 (log2Rat mag - 22)
    let v := (roundUnits .rne neg 0 (mag / u) : Rat) * u
    (if neg then -v else v, decide (v ≠ mag))

/-- The exact product of two numbers in a matrix engine: NaN stays NaN, zero times infinity is INVALID (R84, R103). -/
def productNum (a b : Num) : Num × Flags :=
  if a.isNan || b.isNan then (.poison, Flags.none)
  else match mulNum a b with
    | some x => (x, Flags.none)
    | none => (.poison, Flags.bad 1)

/-- One addition of a run: rounded to 22 fraction bits in a float run, exact in an integer run. -/
def addRun (float : Bool) (a b : Num) : Num × Flags :=
  if a.isNan || b.isNan then (.poison, Flags.none)
  else match addNum .rne a b with
    | none => (.poison, Flags.bad 2)
    | some (.fin neg m) =>
      if float then
        let r := roundRun (Num.fin neg m).toRat
        (if r.1 = 0 then .fin neg 0 else .ofRat r.1, { Flags.none with inexact := r.2 })
      else (.fin neg m, Flags.none)
    | some x => (x, Flags.none)

/-- The sum of a run: it starts from its first product; outlier positions are skipped (R96, R153). -/
def runSum (float : Bool) (pairs : List (Elem × Elem)) : Num × Flags :=
  let terms := (pairs.filter (fun x => x.1.outlier.isNone && x.2.outlier.isNone)).map (fun x => productNum x.1.raw x.2.raw)
  match terms with
  | [] => (Num.zero, Flags.none)
  | t :: ts => ts.foldl (fun (acc : Num × Flags) x =>
      let y := addRun float acc.1 x.1
      (y.1, (acc.2.or x.2).or y.2)) t

/-- The correction of a run for zero points (R104): −z_b × RSa − z_a × CSb + L × z_a × z_b over the elements present, the sums as the
DMA engine has written them beside the operands, or over the run where it has written none. A block of scale 0x00 or 0xFF needs
none (R62). -/
def runCorr (pairs : List (Elem × Elem)) : Rat :=
  match pairs with
  | [] => 0
  | (a, b) :: _ =>
    if (a.zero = 0 && b.zero = 0) || a.scale == some 0 || a.scale == some 0xFF || b.scale == some 0 || b.scale == some 0xFF then 0
    else
      let rowSum := a.blockSum.getD ((pairs.map (fun x => x.1.integer)).foldl (· + ·) 0)
      let colSum := b.blockSum.getD ((pairs.map (fun x => x.2.integer)).foldl (· + ·) 0)
      ((-b.zero * rowSum - a.zero * colSum + (pairs.length : Int) * a.zero * b.zero : Int) : Rat)

/-- A run sum with its correction added, which is exact (R105). -/
def corrected (s : Num) (corr : Rat) : Num :=
  match s with
  | .fin n m => if corr = 0 then .fin n m else .ofRat ((Num.fin n m).toRat + corr)
  | x => x

/-- Promotion: a number times exact scales, rounded once to EX40 (R100). -/
def promote (x : Num) (scale : Rat) : Num × Flags :=
  match x with
  | .fin neg m =>
    let y := toEx40 (.fin neg (m * scale))
    (y.1, { Flags.none with inexact := y.2 })
  | .inf neg => (.inf neg, Flags.none)
  | _ => (.poison, Flags.none)

/-- Add a promoted term to the accumulator. -/
def accumulate (acc : Num × Flags) (term : Num × Flags) : Num × Flags :=
  let y := addEx40 acc.1 term.1
  (y.1, (acc.2.or term.2).or y.2)

/-- A product of two full values as a term of its own: outlier positions (R153) and single products (R96). -/
def fullTerm (x : Elem × Elem) : Num × Flags :=
  let p := productNum x.1.full x.2.full
  let q := promote p.1 1
  (q.1, p.2.or q.2)

/-- A single product of codes: the exact product times sab. -/
def singleTerm (x : Elem × Elem) : Num × Flags :=
  let a := x.1.widen
  let b := x.2.widen
  let p := productNum a.raw b.raw
  let q := promote p.1 (a.coarse * b.coarse)
  (q.1, p.2.or q.2)

/-- One run of the chunk (R97, R133, R153). The run has one pair: where it has no blocks and crosses tiles stored at different rungs,
that of its first element, whose block scales it takes too (R133 says only that the pair is chosen run by run: DEDUCED, log 102). -/
def addRunTo (acc : Num × Flags) (pairs : List (Elem × Elem)) : Num × Flags :=
  match pairs with
  | [] => acc
  | (a, b) :: _ =>
    match pairClass a.fmt.code b.fmt.code with
    | some (_, kind, _) =>
      if kind = 2 then pairs.foldl (fun acc x => accumulate acc (singleTerm x)) acc
      else
        let r := runSum (decide (kind = 1)) pairs
        let q := promote (corrected r.1 (runCorr pairs)) (a.blockScale * b.blockScale * (a.coarse * b.coarse))
        let acc1 := accumulate acc (q.1, r.2.or q.2)
        (pairs.filter (fun x => x.1.outlier.isSome || x.2.outlier.isSome)).foldl (fun acc x => accumulate acc (fullTerm x)) acc1
    | none => pairs.foldl (fun acc x => accumulate acc (singleTerm x)) acc

/-- Cut a chunk into its runs: boundaries fall at multiples of the run length from k = 0 (R93). -/
def runStarts (run start len : Nat) : List (Nat × Nat) :=
  let r := max run 1
  let first := start / r
  let last := ceilDiv (start + len) r
  (List.range (last - first)).map (fun i =>
    let lo := max start ((first + i) * r)
    (lo, min (start + len) ((first + i + 1) * r) - lo))

/-- The chunk result of one element: an EX40 value and the flags raised (R97). -/
def State.elementChunk (s : State) (i : Nat) (l : Leg) (a b : Tensor) (wide : Bool) (m n : Nat) : Num × Flags :=
  let cls := (pairClass a.format b.format).getD (1, 2, 1)
  (runStarts (runLength a b cls) l.kStart l.kLen).foldl (fun acc r =>
    addRunTo acc ((List.range r.2).map (fun j =>
      (s.operandA i l a wide m (r.1 + j), s.operandB i l b wide (r.1 + j) n)))) (Num.zero, Flags.none)

/-- The chunk results of a tile: EX40 codes by element index, 0 outside the valid extent, and the flags by element. -/
def State.tileChunk (s : State) (i : Nat) (l : Leg) (tile : Nat) (wide : Bool) : List Nat × List (Nat × Flags) :=
  match s.tensor? l.a, s.tensor? l.b, s.tensor? l.y with
  | some a, some b, some y =>
    let rs := (List.range (tileElems y.shape)).map (fun e =>
      match y.unplace tile e with
      | some (m, n) =>
        let r := s.elementChunk i l a b wide m n
        (ex40Code r.1, r.2)
      | none => (0, Flags.none))
    (rs.map Prod.fst, (rs.zipIdx.filter (fun x => decide (x.1.2 ≠ Flags.none))).map (fun x => (x.2, x.1.2)))
  | _, _, _ => ([], [])

/-! ### Combining (R98, R116) -/

/-- EX40 addition of two codes with its flags. -/
def addCodes (a b : Nat) : Nat × Flags :=
  let r := addEx40 (decodeNum .ex40 a) (decodeNum .ex40 b)
  (ex40Code r.1, r.2)

/-- Add two results element by element: codes, and flags by element. -/
def addTiles (x y : List (Nat × Flags)) : List (Nat × Flags) :=
  (x.zip y).map (fun p =>
    let r := addCodes p.1.1 p.2.1
    (r.1, (p.1.2.or p.2.2).or r.2))

/-- The fixed tree over the chunk results of a tile in ascending chunk index (R98). -/
def combineChunks (chunks : List (List Nat)) : List (Nat × Flags) :=
  (treeFold addTiles 8 (chunks.map (fun c => c.map (fun v => (v, Flags.none))))).headD []

/-- The elements with flags. -/
def flagged (xs : List (Nat × Flags)) : List (Nat × Flags) :=
  ((xs.map Prod.snd).zipIdx.filter (fun x => decide (x.1 ≠ Flags.none))).map (fun x => (x.2, x.1))

/-- Chunk legs of a leg's product, in ascending chunk index, with their work indices. -/
def Passage.chunkLegs (p : Passage) (l : Leg) : List (Nat × Leg) :=
  ((p.legs.zipIdx.filter (fun x => decide (x.1.kind < 3) && sameProduct l x.1)).map (fun x => (x.2, x.1))).ordered
    (fun a b => a.2.chunk ≤ b.2.chunk)

/-- Recompute a whole product tile, every chunk and the tree (R144): codes and flags. -/
def State.wholeTile (s : State) (p : Passage) (l : Leg) (tile : Nat) (wide : Bool) : List Nat × List (Nat × Flags) :=
  let parts := (p.chunkLegs l).map (fun x => s.tileChunk x.1 x.2 tile wide)
  let tree := combineChunks (parts.map Prod.fst)
  (tree.map Prod.fst, parts.flatMap Prod.snd ++ flagged tree)

/-! ### Issue (R95, R153) -/

/-- The first and last valid rows and columns of an output tile. -/
def Tensor.corners (y : Tensor) (tile : Nat) : List Nat × List Nat :=
  let cells := ([(y.validElems tile).head?, (y.validElems tile).getLast?]).filterMap (fun e => e.bind (fun x => y.unplace tile x))
  ((cells.map Prod.fst).eraseDups, (cells.map Prod.snd).eraseDups)

/-- 64 issue cycles' worth of a k for a pair of format codes: 1 at the rate of EQ4, 64 at that of FP32, which is also the rate of a
pair absent from Table 3-1 (R95, R133). -/
def pairCost (a b : Nat) : Nat := 64 / max 1 ((pairClass a b).getD (1, 2, 1)).1

/-- Outlier positions that a tile chunk meets: those of the rows of A and the columns of B of its output tile (R153). -/
def State.outlierCycles (s : State) (i : Nat) (l : Leg) (a b y : Tensor) (tile : Nat) (wide : Bool) : Nat :=
  let cells := (y.validElems tile).filterMap (y.unplace tile)
  let ks := (List.range l.kLen).map (l.kStart + ·)
  let inA := if a.outliers then
      ((cells.map Prod.fst).eraseDups.flatMap (fun m => ks.filter (fun k => (s.operandA i l a wide m k).outlier.isSome))).length else 0
  let inB := if b.outliers then
      ((cells.map Prod.snd).eraseDups.flatMap (fun n => ks.filter (fun k => (s.operandB i l b wide k n).outlier.isSome))).length else 0
  inA + inB

/-- Issue cycles of a tile chunk (R95): its reduction length over the k per cycle of the pairs it meets run by run, at the formats
the operands' tiles are stored in, the slowest row or column of the tile counting; and one more for each outlier position (R153). -/
def State.issueCycles (s : State) (i : Nat) (l : Leg) (tile : Nat) (wide : Bool) : Nat :=
  match s.tensor? l.a, s.tensor? l.b, s.tensor? l.y with
  | some a, some b, some y =>
    let at_ := y.corners tile
    let cls := (pairClass a.format b.format).getD (1, 2, 1)
    let cost := fun k => (at_.1.flatMap (fun m => at_.2.map (fun n =>
      pairCost (s.operandA i l a wide m k).fmt.code (s.operandB i l b wide k n).fmt.code))).foldl max 0
    let runs := if cls.2.1 = 2 then [(l.kStart, l.kLen)] else runStarts (runLength a b cls) l.kStart l.kLen
    ceilDiv ((runs.map (fun r => r.2 * cost r.1)).foldl (· + ·) 0) 4 + s.outlierCycles i l a b y tile wide
  | _, _, _ => 0

/-- The issue cycles of a tile chunk at the declared formats, as the Navigator reckons with them (R201). -/
def State.declaredCycles (s : State) (l : Leg) : Nat :=
  match s.tensor? l.a, s.tensor? l.b with
  | some a, some b => ceilDiv (l.kLen * pairCost a.format b.format) 4
  | _, _ => 0

/-! ### Flags of conversions on the way in (R132, R133) -/

/-- Flags that the DMA engine raises as it converts an operand's elements to FP32 for runs whose pair Table 3-1 does not have
(R133): by tile and element of the operand. -/
def State.widenFlags (s : State) (i : Nat) (l : Leg) (tile : Nat) (wide : Bool) : List (Nat × Nat × Nat × Flags) :=
  match s.tensor? l.a, s.tensor? l.b, s.tensor? l.y with
  | some a, some b, some y =>
    let ra := (List.range 4).map a.formatAt
    let rb := (List.range 4).map b.formatAt
    if ra.all (fun x => rb.all (fun z => (pairClass x z).isSome)) then []
    else
      let cells := (y.validElems tile).filterMap (y.unplace tile)
      let at_ := y.corners tile
      let ks := (List.range l.kLen).map (l.kStart + ·)
      let absent := fun (x z : Elem) => !x.fmt.isFp && (pairClass x.fmt.code z.fmt.code).isNone
      let fromA := (cells.map Prod.fst).eraseDups.flatMap (fun m => ks.filterMap (fun k =>
        let x := s.operandA i l a wide m k
        let p := if l.orientA then a.place k m else a.place m k
        if at_.2.any (fun n => absent x (s.operandB i l b wide k n)) then some (a.id, p.1, p.2, x.toFp32.2) else none))
      let fromB := (cells.map Prod.snd).eraseDups.flatMap (fun n => ks.filterMap (fun k =>
        let x := s.operandB i l b wide k n
        let p := if l.orientB then b.place n k else b.place k n
        if at_.1.any (fun m => absent x (s.operandA i l a wide m k)) then some (b.id, p.1, p.2, x.toFp32.2) else none))
      (fromA ++ fromB).filter (fun f => decide (f.2.2.2 ≠ Flags.none))
  | _, _, _ => []

/-- Raise such flags in the flag set of a core's first DMA engine. -/
def State.raiseWidened (s : State) (core : Nat) (fs : List (Nat × Nat × Nat × Flags)) : State :=
  fs.foldl (fun t f => t.raiseTileFlags core 4 [(f.2.2.1, f.2.2.2)] f.1 f.2.1 s.role.step) s

/-- The copy of a master-weight operand at its next rung is made when the step first needs it, and every later repeat uses it
(R132): the first DMA engine of the core raises what the conversion raises. -/
def State.makeCopy (s : State) (core i : Nat) (t : Tensor) (along turned : Bool) : State :=
  if !t.master || s.role.copies.contains t.id || (s.masterHalf t).isNone then s
  else
    let cells := (List.range t.rows).flatMap (fun r => (List.range t.cols).map (fun c => (r, c)))
    let fs := cells.filterMap (fun rc =>
      let f := (s.widened i t along turned rc.1 rc.2).2
      let p := t.place rc.1 rc.2
      if f = Flags.none then none else some (t.id, p.1, p.2, f))
    (s.mapRole (fun r => { r with copies := t.id :: r.copies })).raiseWidened core fs

/-- The copies that a widened product needs (R132). -/
def State.makeCopies (s : State) (core i : Nat) (l : Leg) : State :=
  match s.tensor? l.a, s.tensor? l.b with
  | some a, some b => (s.makeCopy core i a false l.orientA).makeCopy core i b true l.orientB
  | _, _ => s

end Sys2Proof.Machine
end

