-- ==== Sys2Proof/Machine/Convert.lean ====
section
/-! DEFINITION. Output conversion of a tile: block scales, outliers, stochastic rounding, the writes it makes and the
Soundings it takes (spec/02_number_formats.md R68, R71 to R80; spec/03_matrix_engines.md R102; spec/04_precision_control.md
R122, R123, R149 to R152). -/

namespace Sys2Proof.Machine

/-! ### Soundings of stored values (R122, R123) -/

/-- No element counted. -/
def Partial.zero : Partial := ⟨0, 0, 0, 0, 0, false, 0, 0, false⟩

/-- Two partials together; the sums of squares add exactly. -/
def Partial.add (a b : Partial) : Partial :=
  ⟨a.elements + b.elements, a.zeros + b.zeros, a.saturations + b.saturations, a.nonfinite + b.nonfinite,
    a.sumsq + b.sumsq, a.overRange || b.overRange, a.outliers + b.outliers, a.promoted + b.promoted,
    a.overflowed || b.overflowed⟩

/-- A square truncated toward zero to a multiple of 2^-448, in those units; none at 2^448 or more. -/
def squareUnits (r : Rat) : Option Nat :=
  if pow2 448 ≤ r * r then none else some (r * r * pow2 448).floor.toNat

/-- Count one stored value. -/
def Partial.count (x : Num) (saturated nanSource : Bool) : Partial :=
  let sq := match x with
    | .fin _ m => squareUnits m
    | _ => some 0
  { Partial.zero with
    elements := 1
    zeros := (match x with
      | .fin _ m => if m = 0 then 1 else 0
      | _ => 0)
    saturations := if saturated then 1 else 0
    nonfinite := if nanSource || !x.isFinite then 1 else 0
    sumsq := sq.getD 0
    overRange := sq.isNone }

/-- SUMSQ in FP64: the accumulator rounded once by RNE, +∞ where a square went out of range. -/
def Partial.sumsq64 (p : Partial) : Nat :=
  if p.overRange then Fmt.fp64.infCode false else (roundRat .fp64 .rne false ((p.sumsq : Rat) * pow2 (-448))).1

/-- The RMS in FP64: division and square root each rounded by RNE; +0 with no element (R123). -/
def Partial.rms (p : Partial) : Nat :=
  if p.elements = 0 then 0
  else (fpSqrt .fp64 .rne (fpDiv .fp64 .rne p.sumsq64 (roundRat .fp64 .rne false (p.elements : Rat)).1).1).1

/-! ### The rounding of a tensor -/

/-- The rounding in force for a conversion into a tensor: gradients and optimiser state take SR (R71). -/
def Tensor.rounding (t : Tensor) (code : Nat) : Rnd := if t.kind = 2 ∨ t.kind = 3 then .sr else rndOf code

/-- What converting a tile gives. -/
structure Converted where
  rung : Nat
  /-- Element index and code. -/
  codes : List (Nat × Nat)
  /-- Block index in the companion array and scale code. -/
  scales : List (Nat × Nat)
  /-- Outlier index values by block of the tile, and the side entries in order. -/
  index : List (Nat × Nat)
  entries : List Nat
  counts : Partial
  flags : List (Nat × Flags)

/-- The generator's draw for an element (R77). -/
def State.draw (s : State) (tensor tile elem : Nat) : Nat :=
  srDraw ((s.role.passage.map Passage.seed).getD 0) (BitVec.ofNat 64 s.role.step) tensor tile elem

/-- Convert one value into a tensor at a format and scale (R72). -/
def State.convertElem (s : State) (t : Tensor) (fmt : Fmt) (rnd : Rnd) (scale : Rat) (tile e : Nat) (v : Num) : Nat × Flags :=
  convertNum fmt rnd (outModeOf t.outMode) (s.draw t.id tile e) scale v

/-- A value divided by S (R68 step 1). -/
def unscale (c : Rat) (v : Num) : Num :=
  match v with
  | .fin n m => .fin n (m / c)
  | x => x

/-- Stored value of a code with its block's scale. -/
def storedValue (t : Tensor) (fmt : Fmt) (scale : Option Nat) (code : Nat) : Num := elementValue fmt code scale 0 t.s

/-- A tile converted without blocks. -/
def State.convertPlain (s : State) (t : Tensor) (fmt : Fmt) (rnd : Rnd) (rung tile : Nat) (vals : List (Nat × Num)) : Converted :=
  let out := vals.map (fun v => (v.1, v.2, s.convertElem t fmt rnd t.s tile v.1 v.2))
  { rung := rung
    codes := out.map (fun o => (o.1, o.2.2.1))
    scales := []
    index := []
    entries := []
    counts := (out.map (fun o => Partial.count (storedValue t fmt none o.2.2.1) o.2.2.2.overflow o.2.1.isNan)).foldl
      Partial.add Partial.zero
    flags := (out.filter (fun o => decide (o.2.2.2 ≠ Flags.none))).map (fun o => (o.1, o.2.2.2)) }

/-- A number's magnitude, if it is finite. -/
def finiteMag (v : Num) : Option Rat :=
  match v with
  | .fin _ m => some m
  | _ => none

/-- The outliers of a block: positions of finite elements beyond 2^RATIO_LOG2 times the fourth-largest magnitude (R150). -/
def outlierPositions (ratioLog2 len : Nat) (vals : List (Nat × Num)) : List Nat :=
  let mags := vals.filterMap (fun v => finiteMag v.2)
  let all := (mags ++ List.replicate (len - vals.length) 0).ordered (fun a b => b ≤ a)
  let mref := all.getD 3 0
  if mref = 0 then []
  else (vals.filter (fun v => match finiteMag v.2 with
    | some m => decide ((2 ^ ratioLog2 : Nat) * mref < m)
    | none => false)).map Prod.fst

/-- One converted block: codes, scale, index value, side entries, counts and flags. -/
structure ConvBlock where
  codes : List (Nat × Nat)
  scale : Nat
  index : Nat
  entries : List Nat
  counts : Partial
  flags : List (Nat × Flags)

/-- An ordinary block: its scale over the elements that are not outliers; each outlier an EQ8a entry with its own scale
(R68, R151). `vals` holds position, element index and value. -/
def State.ordinaryBlock (s : State) (t : Tensor) (fmt : Fmt) (rnd : Rnd) (tile block : Nat) (outs : List Nat)
    (vals : List (Nat × Nat × Num)) : ConvBlock :=
  let rest := vals.filter (fun v => !outs.contains v.1)
  let sc := chooseScale fmt (rest.map (fun v => unscale t.s v.2.2))
  let factor := if sc = 0 ∨ sc = 0xFF then t.s else scaleValue sc * t.s
  let conv := rest.map (fun v =>
    let c := if sc = 0xFF then (fmt.canonicalNan, (s.convertElem t fmt rnd factor tile v.2.1 v.2.2).2)
      else s.convertElem t fmt rnd factor tile v.2.1 v.2.2
    (v.2.1, c, Partial.count (storedValue t fmt (some sc) c.1) c.2.overflow v.2.2.isNan))
  let big := (vals.filter (fun v => outs.contains v.1)).map (fun v =>
    let osc := chooseScale .eq8a [unscale t.s v.2.2]
    let c := s.convertElem t .eq8a rnd (scaleValue osc * t.s) tile v.2.1 v.2.2
    (v.1, v.2.1, c, osc, Partial.count (eq8aValue c.1 osc t.s) c.2.overflow false))
  { codes := conv.map (fun c => (c.1, c.2.1.1)) ++ big.map (fun b => (b.2.1, 0))
    scale := sc
    index := outs.length
    entries := big.map (fun b => block * 2 ^ 32 + b.1 * 2 ^ 16 + b.2.2.2.1 * 2 ^ 8 + b.2.2.1.1)
    counts := { (conv.map (fun c => c.2.2) ++ big.map (fun b => b.2.2.2.2)).foldl Partial.add Partial.zero with
      outliers := big.length }
    flags := ((conv.map (fun c => (c.1, c.2.1.2))) ++ (big.map (fun b => (b.2.1, b.2.2.1.2)))).filter
      (fun f => decide (f.2 ≠ Flags.none)) }

/-- A promoted block: scale 0x00 in the main tensor; a header and data entries of EQ8a codes (R151). -/
def State.promotedBlock (s : State) (t : Tensor) (rnd : Rnd) (tile block : Nat) (vals : List (Nat × Nat × Num)) : ConvBlock :=
  let sc := chooseScale .eq8a (vals.map (fun v => unscale t.s v.2.2))
  let conv := vals.map (fun v => (v.1, v.2.1, v.2.2, s.convertElem t .eq8a rnd (scaleValue sc * t.s) tile v.2.1 v.2.2))
  let byteAt := fun pos => ((conv.find? (fun c => c.1 == pos)).map (fun c => c.2.2.2.1)).getD 0
  { codes := vals.map (fun v => (v.2.1, 0))
    scale := 0
    index := 3
    entries := (block * 2 ^ 32 + sc * 2 ^ 8) :: (List.range (t.blockLen / 8)).map (fun i =>
      ((List.range 8).map (fun j => byteAt (8 * i + j) * 256 ^ j)).foldl (· + ·) 0)
    counts := { (conv.map (fun c => Partial.count (eq8aValue c.2.2.2.1 sc t.s) c.2.2.2.2.overflow c.2.2.1.isNan)).foldl
        Partial.add Partial.zero with outliers := vals.length, promoted := 1 }
    flags := (conv.map (fun c => (c.2.1, c.2.2.2.2))).filter (fun f => decide (f.2 ≠ Flags.none)) }

/-- A tile converted with block scales, and outliers where the path is enabled. -/
def State.convertBlocks (s : State) (t : Tensor) (fmt : Fmt) (rnd : Rnd) (rung tile : Nat) (outliers : Bool)
    (vals : List (Nat × Num)) : Converted :=
  let ratio := max 1 (min 6 (s.cfg Reg.SND_OUTLIER_CFG.RATIO_LOG2))
  let withBlock := vals.map (fun v => (t.blockIn v.1, v))
  let blocks := ((withBlock.map (fun v => v.1.1)).eraseDups).ordered (· ≤ ·)
  let done := blocks.map (fun b =>
    let mine := (withBlock.filter (fun v => v.1.1 == b)).map (fun v => (v.1.2, v.2.1, v.2.2))
    let outs := if outliers then outlierPositions ratio t.blockLen (mine.map (fun v => (v.1, v.2.2))) else []
    (b, mine, if outs.length = 3 then s.promotedBlock t rnd tile b mine else s.ordinaryBlock t fmt rnd tile b outs mine))
  { rung := rung
    codes := done.flatMap (fun d => d.2.2.codes)
    scales := done.filterMap (fun d => (d.2.1.head?.bind (fun v => t.unplace tile v.2.1)).map (fun rc =>
      (t.blockOf rc.1 rc.2, d.2.2.scale)))
    index := if outliers then done.map (fun d => (d.1, d.2.2.index)) else []
    entries := done.flatMap (fun d => d.2.2.entries)
    counts := (done.map (fun d => d.2.2.counts)).foldl Partial.add Partial.zero
    flags := done.flatMap (fun d => d.2.2.flags) }

/-- Convert a tile at a rung: by blocks where the format carries them; a tile that overruns its outlier share is written one
rung up, without outliers (R102, R152). DEDUCED: so it is also where the rung stands at the tensor's ceiling, which R152 does
not except although R134 reserves storage at the ceiling (log 98). -/
def State.convertTile (s : State) (t : Tensor) (rung tile rndCode : Nat) (engineMade : Bool) (vals : List (Nat × Num)) :
    Converted :=
  let rnd := t.rounding rndCode
  let at_ := fun n (outs : Bool) =>
    let code := t.formatAt n
    let fmt := (fmtOf code).getD .fp32
    if t.blocksAt code then s.convertBlocks t fmt rnd n tile (outs && t.outliers && outlierFormat code) vals
    else s.convertPlain t fmt rnd n tile vals
  let first := at_ rung engineMade
  if t.share tile < first.entries.length then
    let next := at_ (rung + 1) false
    { next with
      index := if t.outliers then (List.range t.tileBlocks).map (fun b => (b, 0)) else []
      counts := { next.counts with overflowed := true } }
  else if t.outliers && first.index == [] then { first with index := (List.range t.tileBlocks).map (fun b => (b, 0)) }
  else first

/-! ### Writes of a converted tile -/

/-- How many codes of a format fill whole bytes: two of 4 bits, four of 6 bits, one of any other. -/
def Fmt.codeGroup (f : Fmt) : Nat := 8 / Nat.gcd 8 f.width

/-- The codes of a tile up to its last new one and on to the end of that code's group: the new ones, and what the home holds
elsewhere, so that no code beyond the valid extent changes (R91). -/
def State.mergedCodes (s : State) (t : Tensor) (fmt : Fmt) (tile : Nat) (codes : List (Nat × Nat)) : List Nat :=
  let old := fun i => match s.home t.id tile with
    | some h => s.readByte (h.2.2 + i)
    | none => 0
  let top := (codes.map Prod.fst).foldl max 0
  (List.range (ceilDiv (top + 1) fmt.codeGroup * fmt.codeGroup)).map (fun e =>
    ((codes.find? (fun c => c.1 == e)).map Prod.snd).getD (packedCode fmt old e))

/-- One byte of a companion array as a write. -/
def sideWrite (id idx : Nat) (b : Byte) : TileWrite := ⟨id, idx / 4096, idx % 4096, [b]⟩

/-- The byte of the outlier index that holds block `i`, with new 2-bit values put in. -/
def State.indexByte (s : State) (t : Tensor) (byteIdx : Nat) (vals : List (Nat × Nat)) : Byte :=
  let old := (s.sideByte (2 ^ 20) t.outIndexId byteIdx).toNat
  BitVec.ofNat 8 (((List.range 4).map (fun j =>
    ((vals.find? (fun v => v.1 == 4 * byteIdx + j)).map Prod.snd).getD (old / 4 ^ j % 4) * 4 ^ j)).foldl (· + ·) 0)

/-- The writes of a converted tile: the tile, its scales, zero points of 0, its outlier index and its side entries. -/
def State.tileWrites (s : State) (t : Tensor) (tile : Nat) (c : Converted) : List TileWrite :=
  let fmt := (fmtOf (t.formatAt c.rung)).getD .fp32
  let main : List TileWrite := [⟨t.id, tile, 0, packCodes fmt (s.mergedCodes t fmt tile c.codes)⟩]
  let scales := c.scales.map (fun x => sideWrite t.scalesId x.1 (BitVec.ofNat 8 x.2))
  let zeros := if t.zp && fmt.isInt then c.scales.map (fun x => sideWrite t.zpId x.1 0) else []
  let idx := c.index.map (fun x => (tile * t.tileBlocks + x.1, x.2))
  let idxBytes := ((idx.map (fun x => x.1 / 4)).eraseDups).map (fun b => sideWrite t.outIndexId b (s.indexByte t b idx))
  let side := c.entries.zipIdx.flatMap (fun x => (leBytes 8 x.1).zipIdx.map (fun y =>
    sideWrite t.outSideId (8 * (t.shareStart tile + x.2) + y.2) y.1))
  main ++ scales ++ zeros ++ idxBytes ++ side

/-- Raise the flags of a converted tile in a unit's flag set (R101). -/
def State.raiseConverted (s : State) (core u : Nat) (t : Tensor) (tile : Nat) (fs : List (Nat × Flags)) : State :=
  s.raiseTileFlags core u (fs.ordered (fun a b => a.1 ≤ b.1)) t.id tile s.role.step

/-- A converted tile of a leg: its writes wait for their commit and its partial is on its way (R124, R176). -/
def State.putTile (s : State) (leg : Nat) (t : Tensor) (tile : Nat) (c : Converted) : State :=
  let o : OutTile := ⟨leg, t.id, tile, c.rung, s.tileWrites t tile c⟩
  s.mapRole (fun r => { r with
    outTiles := r.outTiles.filter (fun x => !(x.tensor == t.id && x.tile == tile)) ++ [o]
    inFlight := r.inFlight.filter (fun x => !(x.1 == t.id && x.2.1 == tile)) ++ [(t.id, tile, c.counts)] })

/-- Raise a tensor's own rung for the steps that follow: it applies from the next step start (R152). DEDUCED: every overflow of
a step raises it by one, to at most 3, R152 speaking of one tile (log 98). -/
def State.raiseTensorRung (s : State) (id : Nat) : State :=
  let now := ((s.role.setRungs.find? (fun x => x.1 == id)).map Prod.snd).getD (sparseGet 0 id s.role.rungs)
  s.mapRole (fun r => { r with setRungs := r.setRungs.filter (fun x => x.1 != id) ++ [(id, min 3 (now + 1))] })

/-- The outlier counts of a tile, and its overflow where it was widened (R152, R156). -/
def State.countOutliers (s : State) (t : Tensor) (c : Converted) : State :=
  let single := ((c.index.filter (fun x => x.2 < 3)).map Prod.snd).foldl (· + ·) 0
  let s1 := (s.bump Reg.SND_OUTLIER_COUNT.PROMOTED_BLOCKS c.counts.promoted).bump Reg.SND_OUTLIER_COUNT.OUTLIERS single
  if c.counts.overflowed then
    ((s1.bump Reg.SND_OUTLIER_COUNT.SHARE_OVERFLOWS 1).raiseTensorRung t.id).post Ev.outlierOverflow [t.id]
  else s1

/-- The rung of a tensor at the start of the step (R131). -/
def State.startRung (s : State) (t : Tensor) : Nat := min (s.role.level + sparseGet 0 t.id s.role.rungs) t.top

end Sys2Proof.Machine
end

