-- ==== Sys2Proof/Machine/Precision.lean ====
section
/-! DEFINITION. Soundings records, Drift watch, held tokens, repeats and the fallback budget
(spec/04_precision_control.md R124 to R126, R135 to R147, R155 to R157). -/

namespace Sys2Proof.Machine

/-! ### Shared lookups -/

/-- Fallback policy runs in hardware mode (R155). -/
def State.fallbackHw (s : State) : Bool := !s.flag Reg.CAP_DUTY_MODE.FALLBACK

/-- The leg whose unit converts a tile: the last that writes it in passage order (R237). -/
def Passage.owner (p : Passage) (tensor tile : Nat) : Option (Nat × Leg) :=
  ((p.legs.zipIdx.filter (fun x => p.writesTile x.1 tensor tile)).map (fun x => (x.2, x.1))).getLast?

/-- The owner of a tile under the role in force. -/
def State.owner (s : State) (tensor tile : Nat) : Option (Nat × Leg) := s.role.passage.bind (fun p => p.owner tensor tile)

/-- The logical core of a leg; 0 for a leg without one. -/
def State.coreOf (s : State) (leg : Nat) : Nat := ((s.legAt leg).bind (fun x => x.2.core)).getD 0

/-- The slot of the outbound stream through which a leg writes a tensor. -/
def State.outSlot (s : State) (l : Leg) (tensor : Nat) : Nat :=
  (((outboundSlots (s.streamsOf l)).find? (fun x => x.1.tensor == tensor)).map Prod.snd).getD 0

/-- A converted tile waits for its commit. -/
def State.uncommitted (s : State) (tensor tile : Nat) : Bool :=
  s.role.outTiles.any (fun o => o.tensor == tensor && o.tile == tile)

/-- The rung at which a tile is stored, or waits to be. -/
def State.storedRung (s : State) (tensor tile : Nat) : Nat :=
  match s.role.outTiles.find? (fun o => o.tensor == tensor && o.tile == tile) with
  | some o => o.rung
  | none => s.tileRung tensor tile

/-! ### Sampling (R140, R141) -/

/-- The window of Sight check is open, or it is forced (R140). -/
def State.sightOn (s : State) : Bool :=
  decide (s.role.sightSteps < s.cfg Reg.SND_SIGHT_CFG.WINDOW) || decide (s.cfg Reg.SND_SIGHT_CFG.FORCE = 1)

/-- Sight check is active in the step (R140). -/
def State.sightActive (s : State) : Bool := s.role.inStep && s.sightOn

/-- SIGHT_ACTIVE shows it, at each step start and once a commit has closed the window (R140). -/
def State.showSight (s : State) : State := s.setOwn Reg.SND_STATUS.SIGHT_ACTIVE (if s.sightOn then 1 else 0)

/-- A tile is sampled: the low RATE_LOG2 bits of the final x are zero (R141). -/
def State.sampled (s : State) (tensor tile : Nat) : Bool :=
  let rate := min 16 (s.cfg Reg.SND_SIGHT_CFG.RATE_LOG2)
  let x := (srWords ((s.role.passage.map Passage.seed).getD 0) (BitVec.ofNat 64 s.role.step ^^^ BitVec.allOnes 64)
    tensor tile 0).1.toNat
  decide (x % 2 ^ rate = 0)

/-! ### Held tokens (R138, R143) -/

/-- Send the release of a tile's tokens once no verdict is open and its commit is posted (R250). -/
def State.tryRelease (s : State) (tensor tile : Nat) : State :=
  let held := s.role.heldTokens.find? (fun h => h.tensor == tensor && h.tile == tile)
  match held, s.owner tensor tile with
  | some h, some (i, l) =>
    if h.drift || h.sight || s.uncommitted tensor tile then s
    else
      let pos := ((s.legAt i).map (fun x => x.2.position)).getD 0
      s.sendControl (.collector (s.dieOf (s.coreOf i))) (s.coreOf i) l.engine (legMessage 3 pos (s.outSlot l tensor) 1 tile)
  | _, _ => s

/-- Close a verdict of a tile: `drift` or `sight`, and release its tokens if no other stays open. -/
def State.closeVerdict (s : State) (tensor tile : Nat) (drift sight : Bool) : State :=
  (s.mapRole (fun r => { r with heldTokens := r.heldTokens.map (fun h =>
    if h.tensor = tensor ∧ h.tile = tile then { h with drift := h.drift && !drift, sight := h.sight && !sight } else h) })).tryRelease
    tensor tile

/-- Close the Drift watch verdicts of every tile of a tensor. -/
def State.closeLayer (s : State) (tensor : Nat) : State :=
  ((s.role.heldTokens.filter (fun h => h.tensor == tensor)).map HeldToken.tile).foldl
    (fun t k => t.closeVerdict tensor k true false) s

/-- Close every open verdict: no repeat will be made (R146). -/
def State.closeAll (s : State) : State :=
  (s.role.heldTokens.map (fun h => (h.tensor, h.tile))).foldl (fun t x => t.closeVerdict x.1 x.2 true true) s

/-- Tokens of a converted tile are held for its verdicts, in hardware mode (R138, R143). -/
def State.holdTokens (s : State) (t : Tensor) (tile : Nat) (sight : Bool) : State :=
  let drift := decide (t.drift ≠ 0)
  if s.fallbackHw && !s.role.stormMark && (drift || sight) then
    s.mapRole (fun r => { r with
      heldTokens := r.heldTokens.filter (fun h => !(h.tensor == t.id && h.tile == tile)) ++ [HeldToken.mk t.id tile drift sight] })
  else s

/-- VERDICT_TOKEN_RELEASE: the tokens of the tiles that the message covers are posted. -/
def State.releaseTokens (s : State) (u : UnitAddr) (m : W64) : State :=
  match ((s.unitLegs u.core.val u.engine).find? (fun x => decide (x.2.2.position % 32768 = msgPosition m))) with
  | none => s
  | some (_, l, _) =>
    let tensor := (((s.streamsOf l)[msgSlot m]?).bind (fun st => if st.outbound then some st.tensor else none)).getD l.y
    ((List.range (msgCount m)).map (msgSeq m + ·)).foldl (fun t k =>
      if t.role.heldTokens.any (fun h => h.tensor == tensor && h.tile == k && !h.drift && !h.sight)
          && !t.uncommitted tensor k then
        (t.mapRole (fun r => { r with
          heldTokens := r.heldTokens.filter (fun h => !(h.tensor == tensor && h.tile == k)) })).markReady tensor k
      else t) s

/-! ### Storms (R145 to R147) -/

/-- The budget of a step (R145). -/
def State.budget (s : State) : Nat := min 256 (s.cfg Reg.SND_BUDGET.FRACTION) * s.role.budgetTiles / 256

/-- The budget has been crossed (R146): no further repeat starts, and the storm mark crosses to the next Rendezvous. Tokens that wait
for a verdict are released at once, so that the legs before that Rendezvous can finish: R146 does not say when (DEDUCED, log 99). -/
def State.startStorm (s : State) (tensor : Nat) : State :=
  ((s.mapRole (fun r => { r with stormMark := true, stormTensor := tensor, triggers := [] })).setOwn Reg.SND_STATUS.STORM_HOLD 1).closeAll

/-- Tiles are to be run in repeats: they count, and the budget is compared (R145 to R147). -/
def State.countRepeats (s : State) (tensor n : Nat) : State :=
  let s1 := s.mapRole (fun r => { r with repeatedTiles := r.repeatedTiles + n })
  let s2 := s1.setOwn Reg.SND_STEP_TILES.REPEATED (satCount 32 s1.role.repeatedTiles)
  if s2.role.repeatedTiles ≤ s2.budget then s2
  else if s2.role.rerun then
    (if s2.role.stormRerunPosted then s2
     else (s2.mapRole (fun r => { r with stormRerunPosted := true })).post Ev.stormInRerun [tensor])
  else s2.startStorm tensor

/-! ### Triggers (R144) -/

/-- LADDER_TOP is counted, and posted at most once per tensor per step. -/
def State.ladderTop (s : State) (tensor : Nat) : State :=
  let s1 := s.bump Reg.SND_FALLBACK_COUNT.LADDER_TOP 1
  if s1.role.ladderPosted.contains tensor then s1
  else (s1.mapRole (fun r => { r with ladderPosted := tensor :: r.ladderPosted })).post Ev.ladderTop [tensor]

/-- FALLBACK_REQUEST in host-assisted mode, at most once per tensor per step (R155). -/
def State.fallbackRequest (s : State) (tensor : Nat) : State :=
  if s.role.requestPosted.contains tensor then s
  else (s.mapRole (fun r => { r with requestPosted := tensor :: r.requestPosted })).post Ev.fallbackRequest [tensor]

/-- Tiles of a tensor that the passage's legs and collectives write in a step. -/
def Passage.writtenTiles (p : Passage) (t : Tensor) : Nat :=
  ((List.range t.tiles).filter (fun k => p.legs.any (fun l => p.writesTile l t.id k) || p.landsTile t.id k)).length

/-- The 64 bytes of a record (Table 4-1). -/
def SndOpen.bytes (o : SndOpen) (id step : Nat) : List Byte :=
  let p := (o.partials.map Prod.snd).foldl Partial.add Partial.zero
  leBytes 8 step
    ++ leBytes 8 (bit (o.overflow || p.overflowed) 22 + bit o.sightMiss 21 + bit o.drifted 20 + bit p.overRange 19 + bit o.mixed 18
        + o.rung * 2 ^ 16 + id)
    ++ leBytes 8 p.elements ++ leBytes 8 p.zeros ++ leBytes 8 p.saturations ++ leBytes 8 p.nonfinite
    ++ leBytes 8 p.sumsq64 ++ leBytes 8 (satCount 32 p.outliers * 2 ^ 32 + satCount 32 o.repeats)

/-- Write bytes at a module address: host bus addresses leave through PCIe, every other lies in the module (Table 6-1). -/
def State.storeAt (s : State) (a : Nat) (bs : List Byte) : State :=
  if 0x8000000000000 ≤ a then s.emit (.hostWrite (a - 0x8000000000000) bs) else s.store a bs

/-- The hub writes a complete record into the Soundings table (R126). -/
def State.writeRecord (s : State) (p : Passage) (id : Nat) (o : SndOpen) : State :=
  s.storeAt (p.sndBase + s.role.step % max p.sndDepth 1 * p.sndStride + 64 * id) (o.bytes id s.role.step)

/-- A new record of a tensor. -/
def State.openRecord (s : State) (p : Passage) (t : Tensor) : SndOpen :=
  ⟨[], p.writtenTiles t, s.startRung t, false, false, false, false, false, 0⟩

/-- A tensor's record in the step: the open one, or a new one. -/
def State.record (s : State) (p : Passage) (t : Tensor) : SndOpen :=
  ((s.role.snd.find? (fun x => x.1 == t.id)).map Prod.snd).getD (s.openRecord p t)

/-- Change a tensor's record, which opens with the first thing that the step has to note in it. -/
def State.mapSnd (s : State) (t : Tensor) (f : SndOpen → SndOpen) : State :=
  match s.role.passage with
  | none => s
  | some p => s.mapRole (fun r => { r with snd := r.snd.filter (fun x => x.1 != t.id) ++ [(t.id, f (s.record p t))] })

/-- The hub writes a tensor's record as it stands, where it is complete: a mark that comes after the last partial reaches the
table too (R126, R155, R156). -/
def State.refreshRecord (s : State) (id : Nat) : State :=
  match s.role.passage, s.role.snd.find? (fun x => x.1 == id) with
  | some p, some x => if x.2.complete then s.writeRecord p id x.2 else s
  | _, _ => s

/-- Ask for a tile's repeat; a tile already asked for keeps one repeat, placed elsewhere if either asks so (R157). -/
def State.addTrigger (s : State) (tensor tile rung : Nat) (elsewhere : Bool) : State :=
  s.mapRole (fun r =>
    if r.triggers.any (fun x => x.tensor == tensor && x.tile == tile) then
      { r with triggers := r.triggers.map (fun x =>
          if x.tensor = tensor ∧ x.tile = tile then { x with elsewhere := x.elsewhere || elsewhere } else x) }
    else { r with triggers := r.triggers ++ [⟨tensor, tile, rung, elsewhere⟩] })

/-- Ask for repeats of tiles one rung up; their old partials leave the record (R125, R144). -/
def State.askRepeats (s : State) (t : Tensor) (tiles : List Nat) (elsewhere : Bool) (step : Nat) : State :=
  let fresh := tiles.filter (fun k => !s.role.triggers.any (fun x => x.tensor == t.id && x.tile == k))
  let s1 := tiles.foldl (fun u k => u.addTrigger t.id k (u.storedRung t.id k + step) elsewhere) s
  let s2 := s1.mapSnd t (fun o => { o with
    partials := o.partials.filter (fun x => !fresh.contains x.1), complete := false, repeats := o.repeats + fresh.length })
  s2.countRepeats t.id fresh.length

/-- A tile of the role's passage that a collective lands: no unit of the module can run its reduction again. -/
def State.landedBy (s : State) (tensor tile : Nat) : Bool := (s.role.passage.map (fun p => p.landsTile tensor tile)).getD false

/-- A Drift watch trigger on tiles of a tensor (R136, R144, R155). It is counted, and one that finds a tile at its ceiling or at
the top of its ladder counts as LADDER_TOP, whatever then becomes of it (R144, R146, R155; log 99). The result of a reduction
stands (log 99). -/
def State.driftTrigger (s : State) (t : Tensor) (tiles : List Nat) : State :=
  let s1 := (s.mapSnd t (fun o => { o with drifted := true })).mapRole (fun r => { r with driftTriggers := r.driftTriggers + 1 })
  let own := tiles.filter (fun k => !s1.landedBy t.id k)
  let climb := own.filter (fun k => decide (s1.storedRung t.id k < t.top))
  if !s1.fallbackHw then
    (if climb.length = own.length then s1 else s1.bump Reg.SND_FALLBACK_COUNT.LADDER_TOP 1).fallbackRequest t.id
  else
    let s2 := if climb.length = own.length then s1 else s1.ladderTop t.id
    if s2.role.stormMark then s2
    else if climb = [] then tiles.foldl (fun u k => u.closeVerdict t.id k true false) s2
    else s2.askRepeats t climb false 1

/-! ### Drift watch (R135 to R137) -/

/-- A ratio field: 0 disables, 1 to 0xFF act as 0x0100. -/
def ratioField (n : Nat) : Nat := if n = 0 then 0 else max n 0x100

/-- The history slot of a tensor. -/
def State.history (s : State) (t : Tensor) : HistSlot := sparseGet ⟨t.drift, t.rows, t.cols, 0, 0⟩ t.id s.role.history

/-- An FP64 code compared with an exact bound; an infinity is above every bound. -/
def above (q : Nat) (bound : Rat) : Bool :=
  match decodeNum .fp64 q with
  | .fin n m => decide (bound < (Num.fin n m).toRat)
  | .inf neg => !neg
  | _ => false

/-- Drift watch triggers on a partial (R136). -/
def State.drifts (s : State) (t : Tensor) (p : Partial) : Bool :=
  let slot := s.history t
  let h := (decodeNum .fp64 slot.h).toRat
  let q := p.rms
  let up := ratioField (s.cfg Reg.SND_DRIFT_CFG.RATIO_UP)
  let down := ratioField (s.cfg Reg.SND_DRIFT_CFG.RATIO_DOWN)
  let warm := decide (s.cfg Reg.SND_DRIFT_CFG.WARMUP ≤ slot.n)
  let below := match decodeNum .fp64 q with
    | .fin n m => decide ((Num.fin n m).toRat * ((down : Rat) / 256) < h)
    | _ => false
  (warm && decide (up ≠ 0) && decide (h ≠ 0) && above q ((up : Rat) / 256 * h))
    || (warm && decide (down ≠ 0) && decide (h ≠ 0) && below)
    || (decide (s.cfg Reg.SND_DRIFT_CFG.NONFINITE_TRIGGER = 1) && decide (p.nonfinite ≠ 0))

/-- ALPHA_SHIFT: 0 acts as 1, 9 to 15 act as 8. -/
def alphaShift (n : Nat) : Nat := max 1 (min 8 n)

/-- The next history of a tensor from the RMS of its record (R137). -/
def nextHistory (slot : HistSlot) (rms shift : Nat) : HistSlot :=
  let h := if slot.n = 0 then rms
    else
      let d := (fpAdd .fp64 .rne rms (negCode .fp64 slot.h)).1
      let scaled := (roundRat .fp64 .rne false ((decodeNum .fp64 d).toRat / ((2 ^ shift : Nat) : Rat))).1
      add64 slot.h scaled
  { slot with h := h, n := min (slot.n + 1) 255 }

/-- At the commit, every watched tensor whose record is complete with a finite RMS (R137). -/
def State.updateHistory (s : State) : State :=
  let shift := alphaShift (s.cfg Reg.SND_DRIFT_CFG.ALPHA_SHIFT)
  s.role.snd.foldl (fun u x =>
    match u.tensor? x.1 with
    | none => u
    | some t =>
      let total := (x.2.partials.map Prod.snd).foldl Partial.add Partial.zero
      if t.drift ≠ 0 ∧ x.2.complete = true ∧ (decodeNum .fp64 total.rms).isFinite = true then
        u.mapRole (fun r => { r with
          history := sparsePut ⟨t.drift, t.rows, t.cols, 0, 0⟩ t.id (nextHistory (u.history t) total.rms shift) r.history })
      else u) s

/-! ### Soundings records (R124 to R126) -/

/-- Fold a tile's partial into its tensor's record; a later partial of the tile replaces the earlier (R124, R125). -/
def State.foldPartial (s : State) (t : Tensor) (tile : Nat) (c : Partial) : State :=
  s.mapSnd t (fun o =>
    let parts := o.partials.filter (fun x => x.1 != tile) ++ [(tile, c)]
    { o with
      partials := parts, complete := decide (o.expected ≤ parts.length), overflow := o.overflow || c.overflowed
      mixed := o.mixed || decide (s.startRung t < s.storedRung t.id tile) })

/-- Drift watch judges what a partial has completed: the tile, or the whole layer (R136, R138). -/
def State.judge (s : State) (t : Tensor) (tile : Nat) (c : Partial) : State :=
  match s.role.snd.find? (fun x => x.1 == t.id) with
  | none => s
  | some (_, o) =>
    if t.drift = 2 then (if s.drifts t c then s.driftTrigger t [tile] else s.closeVerdict t.id tile true false)
    else if t.drift = 1 ∧ o.complete = true then
      (if s.drifts t ((o.partials.map Prod.snd).foldl Partial.add Partial.zero) then
        s.driftTrigger t (o.partials.map Prod.fst)
       else s.closeLayer t.id)
    else s

/-- The core that converts a tile and sends its partial. -/
def State.partialCore (s : State) (tensor tile : Nat) : Option Nat := (s.owner tensor tile).map (fun x => s.coreOf x.1)

/-- No partial of the same core was sent before it and is still on its way: one source's packets keep their order (R40). -/
def State.nextPartial (s : State) (x : Nat × Nat × Partial) : Bool :=
  (s.role.inFlight.find? (fun y => s.partialCore y.1 y.2.1 == s.partialCore x.1 x.2.1)) == some x

/-- A tile's partial reaches the die collector: its entry is free again, the record takes it, Drift watch judges it, and a
complete record is written to the table (R124, R126, Table 7-11). -/
def State.partialArrives (s : State) (tensor tile : Nat) : State :=
  match s.role.inFlight.find? (fun x => x.1 == tensor && x.2.1 == tile), s.tensor? tensor with
  | some x, some t =>
    if s.nextPartial x then
      let s1 := s.mapRole (fun r => { r with inFlight := r.inFlight.erase x })
      let s2 := match s1.owner tensor tile with
        | some (i, l) => s1.returnCredit (.collector (s1.dieOf (s1.coreOf i))) (s1.coreOf i) l.engine .soundings
        | none => s1
      ((s2.foldPartial t tile x.2.2).judge t tile x.2.2).refreshRecord tensor
    else s
  | _, _ => s

/-! ### Repeats (R144) -/

/-- The contributions to a tile in ascending use index: the chunk-0 legs that write it (R116). -/
def Passage.contributions (p : Passage) (tensor tile : Nat) : List (Nat × Leg) :=
  ((p.legs.zipIdx.filter (fun x => decide (x.1.kind < 3) && x.1.chunk == 0 && p.writesTile x.1 tensor tile)).map
    (fun x => (x.2, x.1))).ordered (fun a b => a.2.useIndex ≤ b.2.useIndex)

/-- The last use index of a tile's contributions. -/
def Passage.lastUse (p : Passage) (tensor tile : Nat) : Nat :=
  ((p.contributions tensor tile).map (fun x => x.2.useIndex)).foldl max 0

/-- The region code of a tile that folds in place and holds no pages of its own, or that a repeat keeps for Sight check. -/
def foldRegion : Nat := 3

/-- The final value of a product tile computed anew: every chunk, tree and fold (R98, R116, R144). -/
def State.finalTile (s : State) (p : Passage) (tensor tile : Nat) (wide : Bool) : List Nat × List (Nat × Flags) :=
  match p.contributions tensor tile with
  | [] => ([], [])
  | c :: cs =>
    let first := s.wholeTile p c.2 tile wide
    let all := cs.foldl (fun (acc : List (Nat × Flags) × List (Nat × Flags)) x =>
      let w := s.wholeTile p x.2 tile wide
      (addTiles acc.1 (w.1.map (fun v => (v, Flags.none))), acc.2 ++ w.2)) (first.1.map (fun v => (v, Flags.none)), first.2)
    (all.1.map Prod.fst, all.2 ++ flagged all.1)

/-- The valid elements of a tile with their EX40 values. -/
def Tensor.values (t : Tensor) (tile : Nat) (codes : List Nat) : List (Nat × Num) :=
  (t.validElems tile).map (fun e => (e, decodeNum .ex40 (codes.getD e 0)))

/-- The core that repeats a tile which missed Sight check on `core`. R143 says only "another core": DESIGN CHOICE, it is the next
usable core of the die, in ascending logical ID and then from the lowest, and where the die has no other the first usable core of
the next die of the ring that has one (log 99). The core itself stays only when the module has no other. -/
def State.otherCore (s : State) (core : Nat) : Nat :=
  let d := s.dieOf core
  let mine := s.dieCores d
  let rest := ((List.range 3).map (fun k => (d + k + 1) % 4)).flatMap s.dieCores
  ((mine.find? (fun c => decide (core < c))).orElse (fun _ => (mine ++ rest).find? (· ≠ core))).getD core

/-- The unit of the flag set of an engine (R88). -/
def flagUnit : Engine → Nat
  | .f => 0
  | .g => 1
  | .v => 2
  | .u => 3
  | _ => 4

/-- Run a tile again from its first run, at the rung its trigger names (R144). The engines issue it anew (R95), its tokens wait for
the verdicts on the repeat (R138), and a sampled tile is there to be checked again (R141, R143). -/
def State.repeatTile (s : State) (tensor tile : Nat) : State :=
  match s.role.triggers.find? (fun x => x.tensor == tensor && x.tile == tile), s.role.passage, s.tensor? tensor,
      s.owner tensor tile with
  | some tr, some p, some t, some (i, l) =>
    if s.working && !s.role.stormMark && s.fallbackHw then
      -- a miss has moved its entry to another core already
      let core := ((s.role.acc.find? (fun a => a.tensor == tensor && a.tile == tile)).map AccTile.core).getD
        (if tr.elsewhere then s.otherCore (s.coreOf i) else s.coreOf i)
      let v := s.finalTile p tensor tile (decide (s.startRung t < tr.rung))
      let c := s.convertTile t tr.rung tile t.rnd true (t.values tile v.1)
      let sight := s.sightActive && s.sampled tensor tile
      let entry : AccTile :=
        { leg := i, tensor := tensor, tile := tile, core := core, region := foldRegion, rung := tr.rung, issuing := false
          chunks := [], value := some v.1, folded := p.lastUse tensor tile, repeated := true }
      let kept := s.role.acc.any (fun a => a.tensor == tensor && a.tile == tile)
      let s1 := s.mapRole (fun r => { r with
        triggers := r.triggers.filter (fun x => !(x.tensor == tensor && x.tile == tile))
        sightJudged := r.sightJudged.filter (· ≠ (tensor, tile))
        acc := r.acc.map (fun a => if a.tensor = tensor ∧ a.tile = tile then
            { a with value := some v.1, core := core, rung := tr.rung, repeated := true } else a)
          ++ (if sight && !kept then [entry] else []) })
      let wide := decide (s.startRung t < tr.rung)
      let parts := (p.contributions tensor tile).flatMap (fun x => p.chunkLegs x.2)
      let cycles := parts.map (fun x => s.issueCycles x.1 x.2 tile wide)
      let dma := fun (u : State) => parts.foldl (fun w x =>
        (if wide then w.makeCopies core x.1 x.2 else w).raiseWidened core (s.widenFlags x.1 x.2 tile wide)) u
      let s2 := (((dma s1).bump Reg.SND_FALLBACK_COUNT.REPEATED 1).raiseTileFlags core (flagUnit l.engine)
        (v.2.ordered (fun a b => a.1 ≤ b.1)) t.id tile s.role.step).bump
          (if l.engine == .f then Reg.NUM_MX_F_ISSUE.COUNT core else Reg.NUM_MX_G_ISSUE.COUNT core) (cycles.foldl (· + ·) 0)
      if p.landsTile tensor tile then s2
      else (((s2.raiseConverted core (flagUnit l.engine) t tile c.flags).countOutliers t c).putTile i t tile c).holdTokens t tile
        sight
    else s
  | _, _, _, _ => s

/-! ### Meanings -/

/-- VERDICT_TOKEN_RELEASE (R138, R143, R250). -/
def execVerdictTokenRelease (r : RoleSel) (unit : UnitAddr) (msg : W64) (s : State) : Host.Outcome State Fault Refusal :=
  .next (s.asRole r (fun t => if t.working && msgType msg == 3 && !msgUnit msg then
    t.takeControl unit msg (fun u => u.releaseTokens unit msg) else t))

/-- SOUNDINGS_PARTIAL (R124). -/
def execSoundingsPartial (r : RoleSel) (tensor : W16) (tile : W32) (s : State) : Host.Outcome State Fault Refusal :=
  .next (s.asRole r (fun t => if t.working then t.partialArrives tensor.toNat tile.toNat else t))

/-- TILE_REPEAT (R144). -/
def execTileRepeat (r : RoleSel) (tensor : W16) (tile : W32) (s : State) : Host.Outcome State Fault Refusal :=
  .next (s.asRole r (fun t => t.repeatTile tensor.toNat tile.toNat))

/-- TOKEN_MESSAGE (R250): a token counts at the receiving unit's queue, or is held for a leg not yet entered. -/
def execTokenMessage (r : RoleSel) (unit : UnitAddr) (msg : W64) (s : State) : Host.Outcome State Fault Refusal :=
  .next (s.asRole r (fun t => if t.working && msgType msg == 0 && !msgUnit msg then
    t.takeControl unit msg (fun u => u.countMessage unit msg false) else t))

/-- A credit message: a leg's queue, or a pool of the unit itself (R250, R251). -/
def State.creditMessage (s : State) (u : UnitAddr) (m : W64) : State :=
  if msgUnit m then
    match queueOf (msgSlot m) with
    | some .staging => s.setCredit (256 + s.dieOf u.core.val) .staging (s.credit (256 + s.dieOf u.core.val) .staging + msgCount m)
    | some q => s.setCredit u.core.val q (s.credit u.core.val q + msgCount m)
    | none => s
  else s.countMessage u m true

/-- CREDIT_MESSAGE (R250). -/
def execCreditMessage (r : RoleSel) (unit : UnitAddr) (msg : W64) (s : State) : Host.Outcome State Fault Refusal :=
  .next (s.asRole r (fun t => if t.working && msgType msg == 1 then
    t.takeControl unit msg (fun u => u.creditMessage unit msg) else t))

end Sys2Proof.Machine
end

