-- ==== Sys2Proof/Machine/Engines.lean ====
section
/-! DEFINITION. The F and G engines at work, and the Pilots: tile chunks, the combine and the fold, output conversion, the
commit of a tile, the end of a leg, and the landing of input tiles (spec/01_architecture.md R29 to R31;
spec/03_matrix_engines.md R95 to R98, R111 to R118; spec/05_vector_and_update.md R176; spec/06_memory_and_placement.md R199 to
R202, R206, R214). -/

namespace Sys2Proof.Machine

/-! ### Pages and chunks (R98, R111, R117) -/

/-- The region code of results that wait at the owner for chunk 0 (R98). -/
def waitRegion : Nat := 4

/-- The queue of a region code. -/
def regionQueue (n : Nat) : Option UnitQueue := if n < 3 then queueOf n else none

/-- Free the pages of an entry: the credit of its region returns (R111, R113). -/
def State.freePages (s : State) (a : AccTile) : State :=
  match regionQueue a.region with
  | some q =>
    let e : Engine := if a.region = 0 then .f else .g
    s.returnCredit (.unit ⟨Fin.ofNat 256 a.core, e⟩) a.core e q
  | none => s

/-- An engine of a core has a tile chunk in issue. -/
def State.issuing (s : State) (core : Nat) (g : Bool) : Bool :=
  s.role.acc.any (fun a => a.core == core && a.issuing && (decide (a.region ≠ 0) == g))

/-- The chunk-0 leg of a product. -/
def Passage.chunkOwner (p : Passage) (l : Leg) : Option (Nat × Leg) := (p.chunkLegs l).find? (fun x => x.2.chunk == 0)

/-- The CHUNK_IN stream of the leg that owns a product: leg index and slot (R237). -/
def State.chunkIn (s : State) (l : Leg) : Option (Nat × Nat) :=
  s.role.passage.bind (fun p => (p.chunkOwner l).bind (fun x =>
    ((s.streamsOf x.2).zipIdx.find? (fun y => y.1.chunkIn)).map (fun y => (x.1, y.2))))

/-- Carriage slots free at the owner for a chunk leg's result (Table 7-11). -/
def State.carriageFree (s : State) (l : Leg) : Bool :=
  if l.chunk = 0 then true
  else match s.chunkIn l with
    | some x => match s.legAt x.1 with
      | some (_, r) => decide (0 < ((r.streams[x.2]?).map StreamRun.credits).getD 0)
      | none => false
    | none => false

/-- Take or return carriage slots. -/
def State.moveCarriage (s : State) (l : Leg) (take give : Nat) : State :=
  match s.chunkIn l with
  | some x => s.mapStream x.1 x.2 (fun q => { q with credits := min q.pool (q.credits - take + give) })
  | none => s

/-- The entry on a core that already holds the fold of every use index below `u` (R117). -/
def State.foldEntry (s : State) (core tensor tile u : Nat) : Option AccTile :=
  s.role.acc.find? (fun a => a.core == core && a.tensor == tensor && a.tile == tile && a.value.isSome
    && decide (a.folded + 1 = u))

/-- The tile can fold into an entry that stands, so it needs no credit (R111). -/
def State.foldsInPlace (s : State) (core : Nat) (l : Leg) (tile : Nat) : Bool :=
  decide (l.kind = 2) && decide (l.useIndex ≠ 0) && l.chunk == 0 && (s.foldEntry core l.y tile l.useIndex).isSome

/-- R30 for the next tile of a product leg: tokens for every input, and a credit for the output. -/
def State.canStart (s : State) (core i : Nat) (l : Leg) (r : LegRun) : Bool :=
  s.legReady i && s.carriageFree l
    && (s.foldsInPlace core l (l.nextTile r) || decide (0 < s.credit core l.region))

/-- Start the next tile chunk of a product leg: its inputs' tokens and its output's credit are consumed, and the engine issues
it (R30, R97); operands that have to be widened for it raise their flags in the DMA engine (R133). -/
def State.startChunk (s : State) (core i : Nat) (l : Leg) (r : LegRun) : State :=
  let tile := l.nextTile r
  let fold := s.foldsInPlace core l tile
  let v := s.tileChunk i l tile false
  let rung := ((s.tensor? l.y).map s.startRung).getD 0
  let waiting := (s.role.acc.filter (fun a => a.leg == i && a.tile == tile && a.region == waitRegion)).flatMap AccTile.chunks
  let entry : AccTile :=
    { leg := i, tensor := l.y, tile := tile, core := core, region := if fold then foldRegion else l.region.code, rung := rung
      issuing := true, chunks := (l.chunk, v.1) :: waiting, value := none, folded := 0, repeated := false }
  let s1 := if fold then s else s.takeCredit core l.region
  let s2 := if l.chunk = 0 then s1 else s1.moveCarriage l 1 0
  let s3 := (s2.startTile i).mapRole (fun q => { q with
    acc := q.acc.filter (fun a => !(a.leg == i && a.tile == tile && a.region == waitRegion)) ++ [entry] })
  (s3.raiseWidened core (s.widenFlags i l tile false)).raiseTileFlags core (if l.kind = 0 then 0 else 1) v.2 l.y tile s.role.step

/-- A leg's next tile finds no token although a Pilot has it in flight (`CHT_PILOT_LATE`). -/
def State.inFlightLate (s : State) (l : Leg) (r : LegRun) : Bool :=
  (inboundSlots (s.streamsOf l)).any (fun x =>
    match r.streams[x.2]? with
    | some q => r.redo.isEmpty && decide (q.taken + q.tokens < s.needs l x.1 (l.nextTile r) (l.lastTile r)) && decide (q.posted < q.asked)
    | none => false)

/-- Count a consumer that waits on a tile in flight. -/
def State.countLate (s : State) (core : Nat) (x : Option (Nat × Leg × LegRun)) : State :=
  match x with
  | some (_, l, r) => if s.inFlightLate l r then s.bump (Reg.CHT_PILOT_LATE.CYCLES core) 1 else s
  | none => s

/-! ### Choosing tiles (R112) -/

/-- The F engine of a core takes its next tile, or counts a cycle without one. -/
def State.forwardProduct (s : State) (core : Nat) : State :=
  if !s.working || s.issuing core false || s.skipsIssue core then s
  else
    let next := s.nextLeg core .f (fun l => l.kind == 0)
    match next with
    | some (i, l, r) =>
      if s.canStart core i l r then s.startChunk core i l r
      else ((s.countLate core next).bump (Reg.NUM_MX_STALL.F_NO_START core) 1).readOn i
    | none => s.bump (Reg.NUM_MX_STALL.F_NO_START core) 1

/-- The stream a G engine's pattern names: true the weight gradient. -/
def State.wanted (s : State) (core : Nat) : Bool :=
  match s.role.passage with
  | some p => decide (p.pattern / 2 ^ (sparseGet 0 core s.role.patternPtr % max p.patternLen 1) % 2 = 1)
  | none => false

/-- Move a core's pattern pointer on. -/
def State.turnPattern (s : State) (core : Nat) : State :=
  let len := (s.role.passage.map Passage.patternLen).getD 1
  s.mapRole (fun r => { r with
    patternPtr := sparsePut 0 core ((sparseGet 0 core r.patternPtr + 1) % max len 1) r.patternPtr })

/-- The next tile of a G engine's stream. -/
def State.gStream (s : State) (core : Nat) (dw : Bool) : Option (Nat × Leg × LegRun) :=
  s.nextLeg core .g (fun l => l.kind == (if dw then 2 else 1))

/-- The next tile of a stream can start. -/
def State.gCan (s : State) (core : Nat) (dw : Bool) : Bool :=
  match s.gStream core dw with
  | some (i, l, r) => s.canStart core i l r
  | none => false

/-- Start the next tile of a stream. -/
def State.gStart (s : State) (core : Nat) (dw : Bool) : State :=
  match s.gStream core dw with
  | some (i, l, r) => s.startChunk core i l r
  | none => s

/-- The G engine of a core chooses its next tile by the procedure of R112. -/
def State.gChoice (s : State) (core : Nat) : State :=
  if !s.working || s.issuing core true || s.skipsIssue core then s
  else
    let want := s.wanted core
    let s0 := if want && decide (s.credit core .dw = 0) && !s.gCan core true then
        s.bump (Reg.NUM_MX_DW_CREDIT_WAIT.COUNT core) 1 else s
    if s0.gCan core want then (s0.gStart core want).turnPattern core
    else if s0.gCan core (!want) then
      let s1 := s0.gStart core (!want)
      if (s0.gStream core want).isSome then
        s1.bump (if want then Reg.NUM_MX_G_OVERRIDE.DX_FOR_DW core else Reg.NUM_MX_G_OVERRIDE.DW_FOR_DX core) 1
      else s1
    else ((s0.countLate core (s0.gStream core want)).bump (Reg.NUM_MX_STALL.G_NO_START core) 1).readOnAll core .g
      (fun l => decide (l.kind < 3))

/-! ### Results (R95, R98, R116, R117) -/

/-- Replace an entry of the accumulator buffer. -/
def State.setAcc (s : State) (a b : AccTile) : State :=
  s.mapRole (fun r => { r with acc := r.acc.map (fun x => if x = a then b else x) })

/-- Drop an entry and free its pages. -/
def State.dropAcc (s : State) (a : AccTile) : State :=
  (s.mapRole (fun r => { r with acc := r.acc.filter (· ≠ a) })).freePages a

/-- The flag unit of an entry's engine. -/
def AccTile.unit (a : AccTile) : Nat := if a.region = 0 then 0 else 1

/-- Fold a whole contribution: in place where an entry of the core holds every earlier use index, and otherwise as a separate
partial; the first stays where it is (R117). -/
def State.foldValue (s : State) (a : AccTile) (u : Nat) (v : List Nat) : State :=
  if u = 0 then s.setAcc a { a with value := some v, folded := 0 }
  else
    match s.foldEntry a.core a.tensor a.tile u with
    | some e =>
      let sum := addTiles ((e.value.getD []).map (fun c => (c, Flags.none))) (v.map (fun c => (c, Flags.none)))
      let s1 := (s.setAcc e { e with value := some (sum.map Prod.fst), folded := u }).dropAcc a
      (s1.bump (Reg.NUM_MX_FOLD.IN_PLACE a.core) 1).raiseTileFlags a.core 1 (flagged sum) a.tensor a.tile s.role.step
    | none =>
      let s1 := (s.mapRole (fun r => { r with partials := r.partials ++ [Carriage.mk a.leg a.tensor a.tile u v] })).dropAcc a
      s1.bump (Reg.NUM_MX_FOLD.PARTIALS a.core) 1

/-- Combine the chunk results of an entry once every one is present and its own chunk is issued (R98). -/
def State.tryCombine (s : State) (i tile : Nat) : State :=
  match s.role.acc.find? (fun a => a.leg == i && a.tile == tile), s.legAt i with
  | some a, some (l, _) =>
    if a.issuing || a.value.isSome || a.region == waitRegion || decide (a.chunks.length < max l.chunkCount 1) then s
    else
      let sorted := a.chunks.ordered (fun x y => x.1 ≤ y.1)
      let tree := combineChunks (sorted.map Prod.snd)
      let s1 := (s.raiseTileFlags a.core a.unit (flagged tree) a.tensor tile s.role.step).moveCarriage l 0 (l.chunkCount - 1)
      s1.foldValue a l.useIndex (tree.map Prod.fst)
  | _, _ => s

/-- A tile chunk's issue ends (R95): chunk 0 waits for the others, every other result travels to the owner in carriage form. -/
def State.issueEnd (s : State) (core : Nat) (g : Bool) : State :=
  match s.role.acc.find? (fun a => a.core == core && a.issuing && (decide (a.region ≠ 0) == g)) with
  | none => s
  | some a =>
    match s.legAt a.leg with
    | none => s
    | some (l, _) =>
      let cycles := s.issueCycles a.leg l a.tile false
      let s1 := s.bump (if g then Reg.NUM_MX_G_ISSUE.COUNT core else Reg.NUM_MX_F_ISSUE.COUNT core) cycles
      let s2 := (s1.setAcc a { a with issuing := false }).returnInputs a.leg
      if l.chunk = 0 then s2.tryCombine a.leg a.tile
      else
        let codes := (a.chunks.head?.map Prod.snd).getD []
        (s2.mapRole (fun r => { r with carriage := r.carriage ++ [Carriage.mk a.leg a.tensor a.tile l.chunk codes] })).dropAcc
          { a with issuing := false }

/-- The core that a chunk result comes from and the one that owns its product. -/
def State.carriageWay (s : State) (p : Passage) (c : Carriage) : Nat × Nat :=
  (s.coreOf c.leg, match s.legAt c.leg with
    | some (l, _) => ((p.chunkOwner l).map (fun o => s.coreOf o.1)).getD 0
    | none => 0)

/-- A chunk result reaches the core of chunk 0, which holds it until the tree can use it (R98). Results that one core sends another
arrive in the order they were sent (R40). -/
def State.chunkArrives (s : State) (i tile : Nat) : State :=
  match s.role.carriage.find? (fun c => c.leg == i && c.tile == tile), s.role.passage, s.legAt i with
  | some c, some p, some (l, _) =>
    match p.chunkOwner l with
    | none => s
    | some (o, _) =>
      if s.role.carriage.find? (fun x => s.carriageWay p x == s.carriageWay p c) ≠ some c then s
      else
      let s1 := s.mapRole (fun r => { r with carriage := r.carriage.erase c })
      match s1.role.acc.find? (fun a => a.leg == o && a.tile == tile) with
      | some a => (s1.setAcc a { a with chunks := a.chunks ++ [(c.index, c.codes)] }).tryCombine o tile
      | none =>
        s1.mapRole (fun r => { r with acc := r.acc ++ [{
          leg := o, tensor := c.tensor, tile := tile, core := s1.coreOf o, region := waitRegion, rung := 0, issuing := false
          chunks := [(c.index, c.codes)], value := none, folded := 0, repeated := false }] })
  | _, _, _ => s

/-- What the next tile of a reduction leg adds: the entry that holds the fold from u0, and the partials of every later use index in
ascending order; none while one of them is missing. -/
def State.foldParts (s : State) (i : Nat) : Option (AccTile × List Carriage) :=
  match s.legAt i, s.role.passage with
  | some (l, r), some p =>
    let tile := l.nextTile r
    (s.role.acc.find? (fun a => a.tensor == l.y && a.tile == tile && a.value.isSome)).bind (fun a =>
      let uses := ((p.contributions l.y tile).map (fun x => x.2.useIndex)).filter (fun u => decide (a.folded < u))
      let parts := uses.filterMap (fun u => s.role.partials.find? (fun c => c.tensor == l.y && c.tile == tile && c.index == u))
      if parts.length = uses.length then some (a, parts) else none)
  | _, _ => none

/-- The leg that a sender names is the one its unit takes: of the unit's ready legs, the one of lowest work index (Table 1-3). -/
def State.chosen (s : State) (i : Nat) (ok : Nat → Leg → LegRun → Bool) : Bool :=
  match s.legAt i with
  | some (l, r) => match r.core with
    | some c => (s.readyLeg c l.engine ok).map (fun x => x.1) == some i
    | none => false
  | none => false

/-- Add the partials of a reduction leg's next tile in ascending use index, on the engine that holds the fold from u0 (R117). -/
def State.foldPartials (s : State) (i : Nat) : State :=
  match s.legAt i, s.role.passage with
  | some (l, r), some p =>
    if !s.working || l.kind != 9 || (r.core.map s.skipsIssue).getD false then s
    else if s.chosen i (fun j m _ => m.kind == 9 && (s.foldParts j).isSome) then
      match s.foldParts i with
      | none => s
      | some (a, parts) =>
        let tile := l.nextTile r
        let sum := parts.foldl (fun acc c => addTiles acc (c.codes.map (fun v => (v, Flags.none))))
          ((a.value.getD []).map (fun v => (v, Flags.none)))
        let s1 := (s.setAcc a { a with value := some (sum.map Prod.fst), folded := p.lastUse l.y tile }).startTile i
        let s2 := s1.mapRole (fun q => { q with
          partials := q.partials.filter (fun c => !(c.tensor == l.y && c.tile == tile)) })
        (s2.raiseTileFlags a.core 1 (flagged sum) l.y tile s.role.step).returnInputs i
    else s.readOn i
  | _, _ => s

/-! ### Output conversion (R102, R122 to R124, R138, R143) -/

/-- A tensor that a gradient reduction of the passage lands: its tiles leave the accumulator through contribution legs. -/
def Passage.reducedTile (p : Passage) (tensor tile : Nat) : Bool := p.landsTile tensor tile

/-- The entry that holds a tile's final value: every contribution folded (R116). -/
def State.finalEntry (s : State) (p : Passage) (tensor tile : Nat) : Option AccTile :=
  s.role.acc.find? (fun a => a.tensor == tensor && a.tile == tile && a.value.isSome
    && decide (a.folded = p.lastUse tensor tile))

/-- A converted tile takes a slot of its outbound ring, or gives it back when its commit is posted. -/
def State.outMove (s : State) (i : Nat) (l : Leg) (tensor : Nat) (take : Bool) : State :=
  match s.outSlot? l tensor with
  | none => s
  | some k => s.mapStream i k (fun q =>
      if take then { q with credits := q.credits - 1, tokens := q.tokens + 1 }
      else { q with credits := min q.pool (q.credits + 1), tokens := q.tokens - 1 })

/-- Convert a finished tile (R102): its Soundings partial is sent, its tokens wait for the verdicts it needs, and its pages
are freed, those of a sampled tile once it has been checked. -/
def State.convertEntry (s : State) (p : Passage) (i : Nat) (l : Leg) (t : Tensor) (tile : Nat) (a : AccTile) : State :=
  let c := s.convertTile t (s.startRung t) tile t.rnd true (t.values tile (a.value.getD []))
  let sight := s.sightActive && s.sampled t.id tile
  let s1 := ((s.raiseConverted a.core a.unit t tile c.flags).countOutliers t c).putTile i t tile c
  let s2 := ((s1.takeCredit a.core .soundings).outMove i l t.id true).holdTokens t tile sight
  if sight && decide (p.lastUse t.id tile = a.folded) then s2.setAcc a { a with rung := c.rung } else s2.dropAcc a

/-- The output converter takes a tile whose value is final and that has a slot and a partial entry free. -/
def State.tileConvert (s : State) (i tile : Nat) : State :=
  match s.legAt i, s.role.passage with
  | some (l, _), some p =>
    match s.tensor? l.y, s.finalEntry p l.y tile with
    | some t, some a =>
      if s.working && (decide (l.kind < 3) || l.kind == 9) && ((p.owner l.y tile).map Prod.fst == some i)
          && !p.reducedTile l.y tile && !s.uncommitted t.id tile && !s.role.ready.contains (t.id, tile)
          && !s.role.heldTokens.any (fun h => h.tensor == t.id && h.tile == tile)
          && !s.role.sightJudged.contains (t.id, tile) && s.outFree i l t.id && decide (0 < s.credit a.core .soundings) then
        s.convertEntry p i l t tile a
      else s
    | _, _ => s
  | _, _ => s

/-! ### The commit of a tile (R176, R186, R206, R214, R258) -/

/-! ### Saved activations (R222, R223) -/

/-- The activation group of an entry that may be off-loaded. -/
def State.savedGroup (s : State) (e : ChartEntry) : Option Nat :=
  (s.tensor? e.tensor).bind (fun t => if t.saved then some t.group else none)

/-- Chart entries of an activation group. -/
def State.groupEntries (s : State) (g : Nat) : List (Nat × ChartEntry) :=
  s.chart.entries.filter (fun x => s.savedGroup x.2 == some g)

/-- The tier that the plan gives a group. -/
def State.groupTier (s : State) (g : Nat) : Option Nat := (s.role.groups.find? (fun x => x.1 == g)).map Prod.snd

/-- MiB held in each tier: the entries that are AWAY, and those on their way back (Table 6-15). -/
def State.showAway (s : State) : State :=
  let held := fun (tier : Nat) =>
    ((s.chart.entries.filter (fun x => decide (x.2.state = 4 ∨ x.2.state = 5) &&
      decide ((s.savedGroup x.2).bind s.groupTier = some tier))).map (fun x => x.2.bytes)).foldl (· + ·) 0 / 2 ^ 20
  if s.role.carried then s
  else ((s.set Reg.CHT_AWAY.TWIN (held 2)).set Reg.CHT_AWAY.PEER (held 3)).set Reg.CHT_AWAY.HOST (held 4)

/-- An entry that holds nothing and takes no storage until it is written (log 36). -/
def ChartEntry.unhomed (e : ChartEntry) : ChartEntry := { e with state := 1, tier := 7, addr := 0, aux := 0, replicas := 0 }

/-- The data of some entries are needed no longer: their storage is free, and a fetch under way lands nowhere. -/
def State.unhomeEntries (s : State) (ids : List Nat) : State :=
  let homes := ids.map s.entry
  let s1 := ids.foldl (fun t i => t.mapEntry i ChartEntry.unhomed) s
  { s1 with fab := { s1.fab with reads := s1.fab.reads.map (fun r =>
      match r.target with
      | some a => if homes.any (fun e => decide (e.addr ≤ a) && decide (a < e.addr + e.bytes)) then { r with target := none } else r
      | none => r) } }

/-- At step start no activation is saved yet: where a plan is in force, the groups in local storage give it up, and each takes storage
again as it is written. What is AWAY or on its way there stays (Table 6-11). -/
def State.freeSaved (s : State) : State :=
  if s.role.groups = [] then s
  else s.unhomeEntries ((s.chart.entries.filter (fun x => decide (x.2.state = 1 ∨ x.2.state = 2 ∨ x.2.state = 5)
    && decide (x.2.tier = 1) && (s.savedGroup x.2).isSome)).map Prod.fst)

/-! ### Homes of what is written -/

/-- The stack that R209 homes a tile in. -/
def State.homeStack (s : State) (t : Tensor) (tile : Nat) : Nat :=
  (((s.stackRanges t.tiles).find? (fun r => decide (r.first ≤ tile) && decide (tile < r.first + r.count))).map
    TileRange.stack).getD 0

/-- A home for an entry that has none: an off-loaded group takes local storage when it is written again (log 36). -/
def State.giveHome (s : State) (i : Nat) : Option State :=
  let e := s.entry i
  if e.tier = 7 ∨ e.state = 4 then
    match s.tensor? e.tensor with
    | none => some s
    | some t =>
      ((s.fitStack (s.homeStack t e.first) e.bytes).orElse (fun _ => s.fitAny e.bytes)).map (fun a =>
        (s.setEntry i { e with tier := 1, addr := a, state := 1, aux := 0 }).showAway)
  else some s

/-- Homes for everything that writes go to; none when one of them has to wait. -/
def State.giveHomes (s : State) (ws : List TileWrite) : Option State :=
  ws.foldl (fun acc w => acc.bind (fun t =>
    match t.entryOf w.tensor w.tile with
    | some x => t.giveHome x.1
    | none => some t)) (some s)

/-- Bytes written at an address of a tier (Table 6-1): here, at the twin, at a peer or in host memory. A write here passes through the
slice of its address with its stream's hint (R195, R197). -/
def State.writeTier (s : State) (bypass : Bool) (knot tier peer a : Nat) (bs : List Byte) : State :=
  match tier with
  | 2 => s.twinWrites (a - 0x4000000000000) knot bs
  | 3 => s.sendWrites peer a knot bs
  | 4 => s.emit (.hostWrite (a - 0x8000000000000) bs)
  | _ => s.storeBy bypass a bs

/-- Bytes written at a tile's home, wherever it is. -/
def State.writeHomeBy (s : State) (bypass : Bool) (knot : Nat) (w : TileWrite) : State :=
  match s.home w.tensor w.tile with
  | none => s
  | some (_, e, a) => s.writeTier bypass knot e.tier e.aux (a + w.offset) w.bytes

/-- A write that no stream makes: its hint is ALLOCATE. -/
def State.writeHome (s : State) (knot : Nat) (w : TileWrite) : State := s.writeHomeBy false knot w

/-- The hint of the outbound stream of a leg that carries a tensor. -/
def State.bypasses (s : State) (l : Leg) (tensor : Nat) : Bool :=
  (s.streamsOf l).any (fun st => st.outbound && st.tensor == tensor && st.bypass)

/-- A tile is pending for Snapshot and its old high half is not yet in the reserve (R186, R206). -/
def State.needsCopy (s : State) (tensor tile : Nat) : Bool :=
  match s.entryOf tensor tile with
  | some x => let m := s.mark (x.2.markOf tile); decide (m / 4 % 4 = 1)
  | none => false

/-- Free slots of the copy-on-write reserve. -/
def State.reserveFree (s : State) : Nat := (s.snap.map (fun x => x.slots - x.reserve.length - x.waiting)).getD 0

/-- Copy a pending tile's old high half into the reserve, and mark it COPIED (R186). -/
def State.copyOld (s : State) (tensor tile : Nat) : State :=
  match s.home tensor tile, s.snap with
  | some (_, e, a), some x =>
    let old := s.readBytes a (min e.stride 8192)
    let j := e.markOf tile
    let s1 : State := { s with snap := some { x with reserve := x.reserve ++ [(tensor, tile, old)] } }
    (s1.setMark j (s1.mark j + 8)).bump Reg.NUM_SNAP_COW.COPIES 1
  | _, _ => s

/-- Clear an entry's replicas before a write commits (R214). -/
def State.clearReplicas (s : State) (i : Nat) : State :=
  let s1 := if (s.entry i).replicas = 0 then s else s.mapEntry i (fun e => { e with replicas := 0 })
  { s1 with chart := { s1.chart with landedReplicas := s1.chart.landedReplicas.filter (fun x => x.1 != i) } }

/-- Set a written tile's mark and its entry's MIXED, and make a reserved entry resident (Table 6-8). -/
def State.markWritten (s : State) (tensor tile rung : Nat) : State :=
  match s.entryOf tensor tile with
  | none => s
  | some (i, e) =>
    let j := e.markOf tile
    (s.setMark j (s.mark j / 4 * 4 + rung % 4)).setEntry i { e with
      mixed := e.mixed || decide (rung ≠ e.rung), state := if e.state = 1 then 2 else e.state }

/-- Nodes that the writes of a leg go to, and whether any stays here. -/
def State.writeNodes (s : State) (ws : List TileWrite) : List Nat :=
  (ws.filterMap (fun w => (s.home w.tensor w.tile).bind (fun h => if h.2.1.tier = 3 then some h.2.1.aux else none))).eraseDups

/-- Another module that a leg's streams write to: the twin, or a peer by its node ID. -/
inductive Elsewhere where
  | twin
  | node (n : Nat)
  deriving DecidableEq, Repr

/-- The module that every outbound stream of a leg writes to, when it is another one. -/
def State.legNode (s : State) (l : Leg) : Option Elsewhere :=
  match s.role.passage with
  | none => none
  | some p => (p.writes l).findSome? (fun t =>
      (s.chart.entries.find? (fun x => x.2.tensor == t && (x.2.tier == 2 || x.2.tier == 3))).map
        (fun x => if x.2.tier = 2 then .twin else .node x.2.aux))

/-- The knot that announces a leg's remote writes; 0xFFF none. -/
def Leg.announce (l : Leg) : Nat := if l.signalEn then l.signalKnot else 0xFFF

/-- WRITE packets that carry the tiles of a leg to a peer: those of its committed tiles. -/
def State.announced (s : State) (l : Leg) : Nat :=
  match s.role.passage with
  | none => 0
  | some p => ((p.tensors.filter (fun t => (p.writes l).contains t.id)).map (fun t =>
      ((List.range t.tiles).filter (fun k => p.writesTile l t.id k)).length
        * ceilDiv (codeBytes (t.formatAt (s.startRung t)) (if t.shape = 3 then 4096 else tileElems t.shape)) 4096)).foldl (· + ·) 0

/-- A leg's knot advances, here or at the module its streams write to (R258). -/
def State.legSignal (s : State) (i : Nat) (l : Leg) : State :=
  match s.legAt i with
  | none => s
  | some (_, r) =>
    if !l.signalEn || r.signalled then s
    else
      let s1 := s.mapLeg i (fun q => { q with signalled := true })
      match s.legNode l with
      | some (.node n) => s1.sendSignal n l.signalKnot (s1.announced l)
      | some .twin => s1.twinSignal l.signalKnot (s1.announced l)
      | none => s1.advance l.signalKnot 1

/-- Product legs that own no conversion finish with their own chunk; every other tile of a leg has been converted (R237). -/
def State.tilesOut (s : State) (i : Nat) (l : Leg) : Bool :=
  if decide (l.kind < 3) || l.kind == 9 then
    match s.role.passage with
    | none => false
    | some p => (List.range l.tileCount).all (fun j =>
        let k := l.firstTile + j
        !((p.owner l.y k).map Prod.fst == some i) || p.reducedTile l.y k || s.role.ready.contains (l.y, k)
          || s.role.heldTokens.any (fun h => h.tensor == l.y && h.tile == k))
  else true

/-- Every tile of a leg has been started, issued, converted and committed. -/
def State.legDone (s : State) (i : Nat) : Bool :=
  match s.legAt i with
  | none => false
  | some (l, r) =>
    decide (r.started = l.tileCount) && r.redo.isEmpty && !s.role.acc.any (fun a => a.leg == i && a.issuing)
      && !s.role.outTiles.any (fun o => o.leg == i) && s.tilesOut i l

/-- Apply one converted tile (R176): replicas cleared, old high half copied, bytes and mark written, its token posted unless
a verdict holds it. -/
def State.commitOut (s : State) (l : Leg) (o : OutTile) : State :=
  let s1 := if s.needsCopy o.tensor o.tile then s.copyOld o.tensor o.tile else s
  let s2 := o.writes.foldl (fun t w => match t.entryOf w.tensor w.tile with
    | some x => (t.clearReplicas x.1).writeHomeBy (s.bypasses l w.tensor) l.announce w
    | none => t) s1
  let s3 := (o.writes.filter (fun w => w.tensor ≠ o.tensor)).foldl (fun t w => t.markWritten w.tensor w.tile 0) s2
  let s4 := (s3.markWritten o.tensor o.tile o.rung).mapRole (fun r => { r with outTiles := r.outTiles.erase o })
  if s4.role.heldTokens.any (fun h => h.tensor == o.tensor && h.tile == o.tile) then s4.tryRelease o.tensor o.tile
  else if ((s4.role.passage.map (fun p => p.reducedTile o.tensor o.tile))).getD false then s4
  else s4.markReady o.tensor o.tile

/-- Post the commit of a leg's output tile; a pending tile with no reserve slot makes its writer wait (R176, R186). -/
def State.tileCommit (s : State) (i tile : Nat) : State :=
  match s.legAt i with
  | none => s
  | some (l, r) =>
    let outs := s.role.outTiles.filter (fun o => o.leg == i && o.tile == tile)
    if outs = [] || !s.working then s
    else if s.reserveFree < (outs.filter (fun o => s.needsCopy o.tensor o.tile)).length then
      s.bump Reg.NUM_SNAP_COW.WAIT_CYCLES 1
    else match s.giveHomes (outs.flatMap OutTile.writes) with
      | none => s
      | some s1 =>
        let s2 := outs.foldl (fun t o => (t.commitOut l o).outMove i l o.tensor false) s1
        let s2 := if l.kind = 5 then s2.mapRole (fun x => { x with update := { x.update with committed := true } }) else s2
        let s3 := (s2.bump (Reg.CHT_PILOT_TILES.OUT (r.core.getD 0)) outs.length).mapLeg i (fun q => { q with
          committed := if q.committed.contains tile then q.committed else tile :: q.committed })
        if s3.legDone i then s3.legSignal i l else s3

/-! ### The end of a leg (R30, R250) -/

/-- A leg finishes: its streams' rings are free, the Navigator enters further legs, and homes on the move serve at their new place
(Table 6-11). Slots of a CHUNK_IN ring stay with the results that still hold them (R251). -/
def State.legFinish (s : State) (i : Nat) : State :=
  match s.legAt i with
  | none => s
  | some (l, _) =>
    if s.working && s.legActive i && s.legDone i then
      let s1 := s.legSignal i l
      let chunks := ((s.streamsOf l).zipIdx.filter (fun x => x.1.chunkIn)).map Prod.snd
      (s1.mapLeg i (fun q => { q with
        finished := true
        streams := q.streams.zipIdx.map (fun x => if chunks.contains x.2 then x.1 else { x.1 with landed := [], credits := x.1.pool }) })).passHeld.endMoves
    else s

/-! ### Pilots (R199, R200, R202, R223) -/

/-- The address of a replica that has landed in a cluster (R202, R213). -/
def State.replicaAddr (s : State) (i : Nat) (e : ChartEntry) (cluster tile : Nat) : Option Nat :=
  if e.replicas / 2 ^ cluster % 2 = 1 ∧ s.chart.landedReplicas.contains (i, cluster) then
    some (0x10000000000 + cluster * 0x1000000 + 256 * e.aux + (tile - e.first) * e.stride)
  else none

/-- The next request of an inbound stream, in stream order, while the leg has its Pilots, its knot has reached the waypoint, and a
ring slot is free. It goes to the replica of its cluster where that has landed: a clear that follows does not reach it (Table 6-11). -/
def State.pilotRequest (s : State) (i slot : Nat) : State :=
  match s.legAt i with
  | none => s
  | some (l, r) =>
    match (s.streamsOf l)[slot]?, r.streams[slot]? with
    | some st, some q =>
      if s.working && !s.halted (32 + s.dieOf (r.core.getD 0)) && s.legActive i && s.waitMet l && s.piloted i && s.follows i l st && !st.outbound && !st.chunkIn
          && decide (q.asked < st.tileCount) && decide (0 < q.credits) then
        let tile := st.tileAt q.asked
        match s.entryOf st.tensor tile with
        | none => s
        | some entry =>
          let e := entry.2
          if e.state = 5 ∧ !s.role.ready.contains (st.tensor, tile) then
            let s1 := s.bump Reg.CHT_OFFLOAD_WAIT.CYCLES 1
            if s1.role.latePosted then s1
            else
              let g := ((s1.tensor? st.tensor).map Tensor.group).getD 0
              (s1.mapRole (fun x => { x with latePosted := true })).post Ev.offloadLate [g]
          else if e.state = 4 ∨ e.state = 7 ∨ e.tier = 7 ∨ !s.tileFinal i st.tensor tile then s
          else
            let from_ := ((s.replicaAddr entry.1 entry.2 (s.clusterOf (r.core.getD 0)) tile).map (fun b => (tile, b))).toList
            s.mapStream i slot (fun x => { x with asked := x.asked + 1, credits := x.credits - 1, sources := x.sources ++ from_ })
      else s
    | _, _ => s

/-- The bytes of a tile as a Pilot lands it: from the replica that its request went to, or from the home; those of a home outside the
module come with the reply (log 6). -/
def State.landingBytes (s : State) (q : StreamRun) (tensor tile : Nat) (remote : List Byte) : List Byte :=
  match s.home tensor tile with
  | none => []
  | some (_, e, a) =>
    match q.sources.find? (fun x => x.1 == tile) with
    | some b => s.readBytes b.2 e.stride
    | none => if e.tier ≤ 1 then s.readBytes a e.stride else sliceBytes remote 0 e.stride

/-- A Pilot's read of a home in HBM4E passes through the slice of its address with its stream's hint (R195, R197). -/
def State.readSlice (s : State) (q : StreamRun) (tensor tile : Nat) (bypass : Bool) : State :=
  match s.home tensor tile with
  | none => s
  | some (_, e, a) => if e.tier = 1 ∧ q.sources.any (fun x => x.1 == tile) = false then s.touchCache a e.stride false bypass else s

/-- The stack that holds a tile's home is clamped: its controller issues no command other than refresh (Table 10-4). -/
def State.homeHalted (s : State) (q : StreamRun) (tensor tile : Nat) : Bool :=
  match s.home tensor tile with
  | none => false
  | some (_, e, a) => e.tier == 1 && !q.sources.any (fun x => x.1 == tile) && s.halted (40 + addrStack a)

/-- Tiles from place `n` on that have landed without a gap. -/
def Stream.landedRun (st : Stream) (landed : List LandedTile) : Nat → Nat → Nat
  | 0, n => n
  | fuel + 1, n =>
    if n < st.tileCount ∧ landed.any (fun d => d.tile == st.tileAt n) = true then st.landedRun landed fuel (n + 1) else n

/-- Token messages for `n` tiles that have landed in order: at most 255 to a message (Table 7-10). -/
def State.postTokens (s : State) (core : Nat) (e : Engine) (position slot first n : Nat) (st : Stream) : State :=
  (List.range (ceilDiv n 255)).foldl (fun t k =>
    t.sendControl (.pilot core) core e (legMessage 0 position slot (min 255 (n - 255 * k)) (st.tileAt (first + 255 * k)))) s

/-- Count a read of an entry for HEAT (R208). -/
def State.countRead (s : State) (i : Nat) : State :=
  { s with chart := { s.chart with reads := sparsePut 0 i (sparseGet 0 i s.chart.reads + 1) s.chart.reads } }

/-- A reply lands a tile; tokens are posted for the tiles that have landed in order (R200). -/
def State.pilotReply (s : State) (i slot tile : Nat) (remote : List Byte) : State :=
  match s.legAt i with
  | none => s
  | some (l, r) =>
    match (s.streamsOf l)[slot]?, r.streams[slot]? with
    | some st, some q =>
      let asked := (List.range q.asked).map st.tileAt
      let posted := (List.range q.posted).map st.tileAt
      if s.working && !s.homeHalted q st.tensor tile && asked.contains tile && !posted.contains tile && !q.landed.any (fun d => d.tile == tile) then
        let core := r.core.getD 0
        let d := s.landed st.tensor tile (s.landingBytes q st.tensor tile remote)
        let landed := q.landed ++ [d]
        let now := st.landedRun landed st.tileCount q.posted
        let left := q.sources.filter (fun x => x.1 != tile)
        let s1 := (s.mapStream i slot (fun x => { x with
          landed := landed, posted := now, sources := left })).bump (Reg.CHT_PILOT_TILES.IN core) 1
        let s2 := (match s.entryOf st.tensor tile with
          | some x => s1.countRead x.1
          | none => s1).readSlice q st.tensor tile st.bypass
        let s3 := if st.transpose then s2.bump (Reg.NUM_MX_DMA_SHAPE.TRANSPOSED core) 1 else s2
        s3.postTokens core l.engine r.position slot q.posted (now - q.posted) st
      else s
    | _, _ => s

/-! ### Meanings -/

/-- FORWARD_PRODUCT (R97, R112). -/
def execForwardProduct (r : RoleSel) (core : Fin 256) (s : State) : Host.Outcome State Fault Refusal :=
  .next (s.asRole r (fun t => t.forwardProduct core.val))

/-- G_ENGINE_TILE_CHOICE (R112). -/
def execGEngineTileChoice (r : RoleSel) (core : Fin 256) (s : State) : Host.Outcome State Fault Refusal :=
  .next (s.asRole r (fun t => t.gChoice core.val))

/-- TILE_ISSUE_END (R95). -/
def execTileIssueEnd (r : RoleSel) (core : Fin 256) (g : Bool) (s : State) : Host.Outcome State Fault Refusal :=
  .next (s.asRole r (fun t => if t.working then t.issueEnd core.val g else t))

/-- CHUNK_RESULT_ARRIVAL (R98). -/
def execChunkResultArrival (r : RoleSel) (leg : BitVec 20) (tile : W32) (s : State) : Host.Outcome State Fault Refusal :=
  .next (s.asRole r (fun t => if t.working then t.chunkArrives leg.toNat tile.toNat else t))

/-- PARTIAL_FOLD (R117): the next tile of a reduction leg. -/
def execPartialFold (r : RoleSel) (leg : BitVec 20) (s : State) : Host.Outcome State Fault Refusal :=
  .next (s.asRole r (fun t => t.foldPartials leg.toNat))

/-- TILE_CONVERT (R102). -/
def execTileConvert (r : RoleSel) (leg : BitVec 20) (tile : W32) (s : State) : Host.Outcome State Fault Refusal :=
  .next (s.asRole r (fun t => t.tileConvert leg.toNat tile.toNat))

/-- TILE_COMMIT (R176). -/
def execTileCommit (r : RoleSel) (leg : BitVec 20) (tile : W32) (s : State) : Host.Outcome State Fault Refusal :=
  .next (s.asRole r (fun t => t.tileCommit leg.toNat tile.toNat))

/-- LEG_FINISH (R30). -/
def execLegFinish (r : RoleSel) (leg : BitVec 20) (s : State) : Host.Outcome State Fault Refusal :=
  .next (s.asRole r (fun t => t.legFinish leg.toNat))

/-- PILOT_REQUEST (R200). -/
def execPilotRequest (r : RoleSel) (leg : BitVec 20) (slot : Fin 16) (s : State) : Host.Outcome State Fault Refusal :=
  .next (s.asRole r (fun t => t.pilotRequest leg.toNat slot.val))

/-- PILOT_REPLY (R200). -/
def execPilotReply (r : RoleSel) (leg : BitVec 20) (slot : Fin 16) (tile : W32) (remote : List Byte) (s : State) :
    Host.Outcome State Fault Refusal :=
  .next (s.asRole r (fun t => t.pilotReply leg.toNat slot.val tile.toNat remote))

end Sys2Proof.Machine
end

