-- ==== Sys2Proof/Machine/Vector.lean ====
section
/-! DEFINITION. The V engine: element-wise programs and composite operations (spec/05_vector_and_update.md R160 to R172). -/

namespace Sys2Proof.Machine

/-! ### Values with flags -/

/-- A code and the flags raised in forming it. -/
abbrev FV := Nat × Flags

/-- A constant. -/
def fv (c : Nat) : FV := (c, Flags.none)

/-- Apply an operation of one operand. -/
def FV.op1 (f : Nat → Nat × Flags) (a : FV) : FV :=
  let r := f a.1
  (r.1, a.2.or r.2)

/-- Apply an operation of two operands. -/
def FV.op2 (f : Nat → Nat → Nat × Flags) (a b : FV) : FV :=
  let r := f a.1 b.1
  (r.1, (a.2.or b.2).or r.2)

/-- FP32 sum by RNE. -/
def FV.add (a b : FV) : FV := FV.op2 (fpAdd .fp32 .rne) a b

/-- Flip the sign, exactly. -/
def FV.neg (a : FV) : FV := (negCode .fp32 a.1, a.2)

/-- FP32 difference by RNE. -/
def FV.sub (a b : FV) : FV := a.add b.neg

/-- FP32 product by RNE. -/
def FV.mul (a b : FV) : FV := FV.op2 (fpMul .fp32 .rne) a b

/-- FP32 quotient by RNE. -/
def FV.div (a b : FV) : FV := FV.op2 (fpDiv .fp32 .rne) a b

/-- FP32 fma by RNE. -/
def FV.fma (a b c : FV) : FV :=
  let r := fpFma .fp32 .rne a.1 b.1 c.1
  (r.1, ((a.2.or b.2).or c.2).or r.2)

/-- The larger of two values under the MAX rule. -/
def FV.max (a b : FV) : FV := FV.op2 (fpMax .fp32) a b

/-- A transcendental function by RNE. -/
def FV.tr (fn : Nat) (a : FV) : FV := FV.op1 (fpTr .rne fn) a

/-- Reciprocal square root by RNE. -/
def FV.rsqrt (a : FV) : FV := FV.op1 (fpRsqrt .fp32 .rne) a

/-- The FP32 code of 1. -/
def one32 : Nat := 0x3F800000

/-- The FP32 code of −∞. -/
def negInf32 : Nat := 0xFF800000

/-- A natural number as FP32; exact up to 2^24. -/
def natFv (n : Nat) : FV := fv (roundRat .fp32 .rne false (n : Rat)).1

/-- combine32 with flags (R168). -/
def combineFv (xs : List FV) : FV := (treeFold FV.add 24 xs).headD (fv 0)

/-- rsum with flags: 128 interleaved partial sums, then the tree (R168). -/
def rsumFv (v : List FV) : FV :=
  let n := min v.length 128
  combineFv ((List.range n).map (fun j =>
    let mine := (v.zipIdx.filter (fun x => x.2 % 128 == j)).map Prod.fst
    match mine with
    | [] => fv 0
    | x :: xs => xs.foldl FV.add x))

/-- rmax (R168). -/
def rmaxFv (v : List FV) : FV :=
  match v with
  | [] => fv negInf32
  | x :: xs => xs.foldl FV.max x

/-! ### Element-wise programs (R163 to R167) -/

/-- The value of an operand: a register or a scalar, its sign flipped where the NEG bit says so (R164). -/
def operandValue (f : Fmt) (regs scalars : List Nat) (k : Nat) (neg : Bool) : Nat :=
  let v := if k < 16 then regs.getD k 0 else scalars.getD (k - 16) 0
  if neg then negCode f v else v

/-- The result of an arithmetic instruction (Table 5-4). -/
def operate (f : Fmt) (x : Instruction) (a b c : Nat) : Nat × Flags :=
  let rnd := rndOf x.rnd
  match x.op with
  | 0 => fpAdd f rnd a b
  | 1 => fpMul f rnd a b
  | 2 => fpFma f rnd a b c
  | 3 => fpRsqrt f rnd a
  | 4 => fpRcp f rnd a
  | 5 => fpSqrt f rnd a
  | 6 => fpMax f a b
  | 7 => fpSel f x.cond a b c
  | 8 => fpClip f a b
  | 10 => fpDiv f rnd a b
  | 11 => fpTr rnd x.cond a
  | 12 => fpMin f a b
  | _ => (a, Flags.none)

/-- What a program has done on one element: its registers, its CVT results (output, rounding code, value) and its flags. -/
structure ElementRun where
  regs : List Nat
  outs : List (Nat × Nat × Nat)
  flags : Flags

/-- One instruction on one element: operands are read before the destination is written (R165). -/
def ElementRun.step (f : Fmt) (scalars : List Nat) (r : ElementRun) (x : Instruction) : ElementRun :=
  let a := operandValue f r.regs scalars x.a x.na
  let b := operandValue f r.regs scalars x.b x.nb
  let c := operandValue f r.regs scalars x.c x.nc
  if x.op = 9 then { r with outs := r.outs ++ [(x.dst % 4, x.rnd, a)] }
  else
    let v := operate f x a b c
    { r with regs := r.regs.set x.dst v.1, flags := r.flags.or v.2 }

/-- A program on one element. -/
def Program.run (p : Program) (f : Fmt) (scalars : List Nat) (inputs : List FV) : ElementRun :=
  let start : ElementRun := ⟨inputs.map Prod.fst, [], (inputs.map Prod.snd).foldl Flags.or Flags.none⟩
  (p.code.map readInstruction).foldl (ElementRun.step f scalars) start

/-- An element as a program reads it: FP32, or FP64 on the FP64 lanes. -/
def State.programValue (s : State) (leg : Nat) (t : Tensor) (fp64 : Bool) (i : Nat) : FV :=
  if fp64 then
    let e := s.flatElement leg t i
    if (s.lowHalf? t).isSome then convertNum .fp64 .rne .ieee 0 1 (decodeNum .fp32 (s.fp32At leg t i).1)
    else if e.fmt = .fp64 then (e.code, Flags.none)
    else convertNum .fp64 .rne .ieee 0 1 e.full
  else s.fp32At leg t i

/-- The tensor bound to an input register, or to an output stream, by SLOT (Table 7-6). -/
def State.slotTensor (s : State) (l : Leg) (outbound : Bool) (k : Nat) : Option (Stream × Tensor) :=
  ((s.streamsOf l).find? (fun st => st.outbound == outbound && !st.chunkIn && st.slot == k && decide (st.role ≠ 4))).bind
    (fun st => (s.tensor? st.tensor).map (fun t => (st, t)))

/-! ### Outputs of the V and U engines -/

/-- The two 16-bit halves of FP32 values are stored by R55; the Soundings are those of the high half (log 41). -/
def pairConverted (t : Tensor) (rung : Nat) (vals : List (Nat × Nat)) : Converted :=
  { rung := rung
    codes := vals.map (fun v => (v.1, v.2 / 65536 % 65536))
    scales := []
    index := []
    entries := []
    counts := (vals.map (fun v => Partial.count (storedValue t .bf16 none (v.2 / 65536 % 65536)) false
      (decodeNum .fp32 v.2).isNan)).foldl Partial.add Partial.zero
    flags := [] }

/-- The writes of both halves of a pair. -/
def State.pairWrites (s : State) (t low : Tensor) (tile : Nat) (vals : List (Nat × Nat)) : List TileWrite :=
  [⟨t.id, tile, 0, packCodes .bf16 (s.mergedCodes t .bf16 tile (vals.map (fun v => (v.1, v.2 / 65536 % 65536))))⟩,
   ⟨low.id, tile, 0, packCodes .bf16 (s.mergedCodes low .bf16 tile (vals.map (fun v => (v.1, v.2 % 65536))))⟩]

/-- Put an output tile of a V- or U-engine leg: a pair is split, any other tensor is converted by R72; its flags are those
of the output conversion. -/
def State.putValues (s : State) (leg : Nat) (l : Leg) (core u : Nat) (t : Tensor) (tile rndCode : Nat) (f : Fmt)
    (vals : List (Nat × Nat)) : State :=
  let rung := s.startRung t
  let s1 : State := match s.lowHalf? t with
    | some low =>
      let codes : List (Nat × Nat) := if f == Fmt.fp32 then vals else vals.map (fun v => (v.1, (convertNum .fp32 .rne .ieee 0 1 (decodeNum f v.2)).1))
      let c := pairConverted t rung codes
      let o : OutTile := ⟨leg, t.id, tile, rung, s.pairWrites t low tile codes⟩
      s.mapRole (fun r => { r with
        outTiles := r.outTiles.filter (fun x => !(x.tensor == t.id && x.tile == tile)) ++ [o]
        inFlight := r.inFlight.filter (fun x => !(x.1 == t.id && x.2.1 == tile)) ++ [(t.id, tile, c.counts)] })
    | none =>
      let c := s.convertTile t rung tile rndCode false (vals.map (fun v => (v.1, decodeNum f v.2)))
      (s.raiseConverted core u t tile c.flags).putTile leg t tile c
  (s1.takeCredit core .soundings).outMove leg l t.id true

/-- Inbound tensors of a leg, in stream order. -/
def State.inputsOf (s : State) (l : Leg) : List Tensor := (inboundSlots (s.streamsOf l)).filterMap (fun x => s.tensor? x.1.tensor)

/-- Outbound tensors of a leg in stream order, or its Y where it has none. -/
def State.outputsOf (s : State) (l : Leg) : List Tensor :=
  match (outboundSlots (s.streamsOf l)).filterMap (fun x => s.tensor? x.1.tensor) with
  | [] => (s.tensor? l.y).toList
  | ts => ts

/-- The outputs of a leg have room: a slot in each ring and a partial entry for each. -/
def State.outputsFree (s : State) (core i : Nat) (l : Leg) (n : Nat) : Bool :=
  (s.outputsOf l).all (fun t => s.outFree i l t.id) && decide (n ≤ s.credit core .soundings)

/-- Rates of Table 5-1 in elements per cycle. -/
def vRate (fp64 : Bool) (op : Nat) : Nat :=
  if fp64 then (if op = 3 ∨ op = 4 ∨ op = 5 ∨ op = 10 then 4 else 16)
  else if op = 3 ∨ op = 4 then 64
  else if op = 5 ∨ op = 10 ∨ op = 11 then 32
  else 128

/-- Issue cycles of a program over `n` elements (R160). -/
def Program.vCycles (p : Program) (n : Nat) : Nat :=
  ((p.code.map (fun w => ceilDiv n (vRate p.fp64 (readInstruction w).op))).foldl (· + ·) 0)

/-- One output tile of a V program (R163 to R167). -/
def State.programTile (s : State) (core i : Nat) (l : Leg) (r : LegRun) (g : Program) : State :=
  let tile := l.nextTile r
  let f := if g.fp64 then Fmt.fp64 else Fmt.fp32
  let outs := (List.range 4).filterMap (fun j =>
    if bitAt g.outMask j then (s.slotTensor l true j).map (fun x => (j, x.2)) else none)
  let elems := ((outs.head?.map (fun o => o.2.validElems tile)).getD [])
  let runs := elems.map (fun e =>
    (e, g.run f [] ((List.range 16).map (fun k =>
      if k < 8 ∧ bitAt g.inMask k = true then
        match s.slotTensor l false k with
        | some x => s.programValue i x.2 g.fp64 (4096 * tile + e)
        | none => fv 0
      else fv 0))))
  let s1 := (s.startTile i).raiseTileFlags core 2
    ((runs.filter (fun x => decide (x.2.flags ≠ Flags.none))).map (fun x => (x.1, x.2.flags)))
    ((outs.head?.map (fun o => o.2.id)).getD l.y) tile s.role.step
  let s2 := outs.foldl (fun t o =>
    let rnd := ((g.code.map readInstruction).find? (fun x => x.op == 9 && x.dst % 4 == o.1)).map Instruction.rnd
    t.putValues i l core 2 o.2 tile (rnd.getD 0) f (runs.filterMap (fun x =>
      (x.2.outs.find? (fun y => y.1 == o.1)).map (fun y => (x.1, y.2.2))))) s1
  (s2.bump (Reg.NUM_UV_ISSUE.V core) (g.vCycles elems.length)).returnInputs i

/-- The V engine of a core takes the next tile of a program leg. -/
def State.vProgram (s : State) (core : Nat) : State :=
  if !s.working || s.skipsIssue core then s
  else match s.readyLeg core .v (fun i l _ => l.kind == 3 && s.outputsFree core i l (s.outputsOf l).length), s.role.passage with
    | some (i, l, r), some p =>
      match p.programs[l.op]? with
      | some g => s.programTile core i l r g
      | none => s
    | _, _ => s.readOnAll core .v (fun l => l.kind == 3)

/-! ### Composite operations (R168 to R172) -/

/-- What a composite reads: its inputs by their order among the leg's streams (log 40). -/
structure Composite where
  op : Nat
  rows : Nat
  len : Nat
  /-- The input of a place at a flat index. -/
  read : Nat → Nat → FV
  /-- The input of a place stands bound. -/
  bound : Nat → Bool
  /-- A position of a row is masked. -/
  masked : Nat → Nat → Bool
  /-- The target of a row of XENT. -/
  target : Nat → Nat
  param : FV

/-- A masked position of a SOFTMAX row: a set bit of the mask's byte array (log 40). -/
def State.maskBit (s : State) (leg : Nat) (t : Tensor) (i : Nat) : Bool :=
  (s.sideByte leg t.id (i / 8)).getLsbD (i % 8)

/-- The 32-bit target of a row: the code of an FP32 element, or four bytes of a byte array. -/
def State.targetAt (s : State) (leg : Nat) (t : Tensor) (row : Nat) : Nat :=
  if t.format = 0 then (s.flatElement leg t row).code
  else ofLeBytes ((List.range 4).map (fun k => s.sideByte leg t.id (4 * row + k)))

/-- The composite of a leg. -/
def State.composite (s : State) (i : Nat) (l : Leg) : Composite :=
  let ins := s.inputsOf l
  let x := ins.head?
  { op := l.op
    rows := (x.map Tensor.rows).getD 0
    len := (x.map Tensor.cols).getD 0
    read := fun k j => match ins[k]? with
      | some t => s.fp32At i t j
      | none => fv 0
    bound := fun k => (ins[k]?).isSome
    masked := fun row j => l.op == 4 && (match ins[1]? with
      | some t => s.maskBit i t (row * (x.map Tensor.cols).getD 0 + j)
      | none => false)
    target := fun row => match ins[1]? with
      | some t => s.targetAt i t row
      | none => 0xFFFFFFFF
    param := fv l.param0 }

/-- An input at a row and column. -/
def Composite.at (c : Composite) (k row j : Nat) : FV := c.read k (row * c.len + j)

/-- L as FP32. -/
def Composite.lenFv (c : Composite) : FV := natFv c.len

/-- Place of x: the first input of a forward operation, the second of a normalisation's backward one. -/
def Composite.xPlace (c : Composite) : Nat := if c.op = 1 ∨ c.op = 3 then 1 else 0

/-- Place of γ. -/
def Composite.gammaPlace (c : Composite) : Nat := if c.op = 1 ∨ c.op = 3 then 2 else 1

/-- The row-reduction phases of an operation. -/
def Composite.phases (c : Composite) : Nat :=
  match c.op with
  | 0 => 2
  | 1 => 4
  | 2 => 1
  | 3 => 2
  | 4 => 1
  | 5 => 1
  | 6 => 1
  | _ => 0

/-- The value that phase `n` of a row has given. -/
def prevAt (prev : List (List FV)) (n k : Nat) : FV := (prev.getD n []).getD k (fv 0)

/-- μ of a row of LAYERNORM: saved, or formed from the first phase. -/
def Composite.mu (c : Composite) (prev : List (List FV)) (row : Nat) : FV :=
  if c.op = 1 ∧ c.bound 3 = true then c.read 3 row else (prevAt prev 0 0).div c.lenFv

/-- r of a row of a normalisation. -/
def Composite.r (c : Composite) (prev : List (List FV)) (row : Nat) : FV :=
  match c.op with
  | 0 => (((prevAt prev 1 0).div c.lenFv).add c.param).rsqrt
  | 1 => if c.bound 4 then c.read 4 row else (((prevAt prev 1 0).div c.lenFv).add c.param).rsqrt
  | 3 => if c.bound 3 then c.read 3 row else (((prevAt prev 0 0).div c.lenFv).add c.param).rsqrt
  | _ => (((prevAt prev 0 0).div c.lenFv).add c.param).rsqrt

/-- d_j of LAYERNORM. -/
def Composite.d (c : Composite) (prev : List (List FV)) (row j : Nat) : FV := (c.at c.xPlace row j).sub (c.mu prev row)

/-- t_j of LAYERNORM. -/
def Composite.t (c : Composite) (prev : List (List FV)) (row j : Nat) : FV := (c.d prev row j).mul (c.r prev row)

/-- g_j of a normalisation's backward operation. -/
def Composite.g (c : Composite) (row j : Nat) : FV := (c.at 0 row j).mul (c.read c.gammaPlace j)

/-- x′_j of SOFTMAX and XENT. -/
def Composite.xScaled (c : Composite) (row j : Nat) : FV :=
  if c.masked row j then fv negInf32
  else if c.op = 6 then c.at 0 row j else (c.at 0 row j).mul c.param

/-- e_j against a maximum. -/
def Composite.e (c : Composite) (m : FV) (row j : Nat) : FV :=
  if c.masked row j then fv 0 else ((c.xScaled row j).sub m).tr 0

/-- One chunk's result of a phase over the columns of its segment (R168 to R170). -/
def Composite.chunkResult (c : Composite) (prev : List (List FV)) (row phase : Nat) (cols : List Nat) : List FV :=
  match c.op, phase with
  | 0, 0 => [rsumFv (cols.map (c.at 0 row))]
  | 0, _ => [rsumFv (cols.map (fun j => (c.d prev row j).mul (c.d prev row j)))]
  | 1, 0 => [rsumFv (cols.map (c.at 1 row))]
  | 1, 1 => [rsumFv (cols.map (fun j => (c.d prev row j).mul (c.d prev row j)))]
  | 1, 2 => [rsumFv (cols.map (c.g row))]
  | 1, _ => [rsumFv (cols.map (fun j => (c.g row j).mul (c.t prev row j)))]
  | 2, _ => [rsumFv (cols.map (fun j => (c.at 0 row j).mul (c.at 0 row j)))]
  | 3, 0 => [rsumFv (cols.map (fun j => (c.at 1 row j).mul (c.at 1 row j)))]
  | 3, _ => [rsumFv (cols.map (fun j => (c.g row j).mul (c.at 1 row j)))]
  | 5, _ => [rsumFv (cols.map (fun j => (c.at 0 row j).mul (c.at 1 row j)))]
  | _, _ =>
    let m := rmaxFv (cols.map (c.xScaled row))
    if cols.all (c.masked row) then [fv negInf32, fv 0] else [m, rsumFv (cols.map (c.e m row))]

/-- One step of the combine of R170. -/
def combinePair (a b : List FV) : List FV :=
  let ma := a.getD 0 (fv negInf32)
  let mb := b.getD 0 (fv negInf32)
  let m := ma.max mb
  if m.1 = negInf32 then [m, fv 0]
  else [m, FV.fma (a.getD 1 (fv 0)) ((ma.sub m).tr 0) ((b.getD 1 (fv 0)).mul ((mb.sub m).tr 0))]

/-- The chunk results of a phase combined in ascending chunk index (R168, R170). -/
def Composite.combine (c : Composite) (results : List (List FV)) : List FV :=
  if c.op = 4 ∨ c.op = 6 then (treeFold combinePair 24 results).headD [fv negInf32, fv 0]
  else [combineFv (results.map (fun r => r.getD 0 (fv 0)))]

/-- The columns of a chunk of a row; a whole row is one chunk. -/
def chunkCols (len chunk k : Nat) : List Nat :=
  if chunk = 0 then List.range len else (List.range (min chunk (len - k * chunk))).map (k * chunk + ·)

/-- Every phase of a row that one core holds whole. -/
def Composite.wholeRow (c : Composite) (row : Nat) : List (List FV) :=
  (List.range c.phases).foldl (fun prev n => prev ++ [c.combine [c.chunkResult prev row n (List.range c.len)]]) []

/-- A row of SOFTMAX is entirely masked. -/
def Composite.allMasked (c : Composite) (row : Nat) : Bool := (List.range c.len).all (c.masked row)

/-- GELU's u, w and t. -/
def geluT (x : FV) : FV × FV :=
  let u := x.mul x
  let w := u.fma (fv 0x3D372713) (fv one32)
  (u, ((x.mul (fv 0x3F4C422A)).mul w).tr 4)

/-- The canonical NaN with INVALID, cause 0x04 (R172). -/
def badTarget : FV := (Fmt.fp32.canonicalNan, Flags.bad 4)

/-- The first output of a composite at a row and column (Table 5-5). -/
def Composite.value (c : Composite) (prev : List (List FV)) (row j : Nat) : FV :=
  match c.op with
  | 0 => (c.t prev row j).fma (c.read 1 j) (c.read 2 j)
  | 1 =>
    let a := prevAt prev 2 0
    let b := prevAt prev 3 0
    ((c.r prev row).div c.lenFv).mul ((c.t prev row j).neg.fma b (c.lenFv.fma (c.g row j) a.neg))
  | 2 => ((c.at 0 row j).mul (c.r prev row)).mul (c.read 1 j)
  | 3 =>
    let r := c.r prev row
    let k := (((prevAt prev 1 0).mul r).mul r).div c.lenFv
    r.mul ((c.at 1 row j).neg.fma k (c.g row j))
  | 4 => if c.allMasked row then fv 0 else (c.e (prevAt prev 0 0) row j).div (prevAt prev 0 1)
  | 5 => ((c.at 1 row j).mul ((c.at 0 row j).sub (prevAt prev 0 0))).mul c.param
  | 6 =>
    let tg := c.target row
    if tg = 0xFFFFFFFF then fv 0
    else if c.len ≤ tg then badTarget
    else (((c.e (prevAt prev 0 0) row j).div (prevAt prev 0 1)).sub (fv (if j = tg then one32 else 0))).mul c.param
  | 7 =>
    let x := c.at 0 row j
    ((fv 0x3F000000).mul x).mul ((fv one32).add (geluT x).2)
  | 8 =>
    let x := c.at 1 row j
    let t := (geluT x).2
    let h := t.neg.fma t (fv one32)
    let a := (geluT x).1.fma (fv 0x3E09_5D4E) (fv one32)
    let q := ((fv 0x3F000000).mul x).mul h
    let o := (fv 0x3F000000).mul ((fv one32).add t)
    (c.at 0 row j).mul (q.fma ((fv 0x3F4C422A).mul a) o)
  | 9 => let x := c.at 0 row j; x.mul (x.tr 5)
  | 10 =>
    let x := c.at 1 row j
    let g := x.tr 5
    (c.at 0 row j).mul ((x.mul g).fma ((fv one32).sub g) g)
  | _ => (c.at 0 row j).add (c.at 1 row j)

/-- loss_row of XENT (Table 5-5). -/
def Composite.loss (c : Composite) (prev : List (List FV)) (row : Nat) : FV :=
  if c.len ≤ c.target row then badTarget
  else (((prevAt prev 0 1).tr 2).add (prevAt prev 0 0)).sub (c.at 0 row (c.target row))

/-- Sums over rows: within a group of 4,096 rows in ascending row index, then the groups by combine32 (R171). -/
def groupSum (rows : Nat) (v : Nat → FV) : FV :=
  combineFv ((List.range (ceilDiv rows 4096)).map (fun g =>
    match (List.range (min 4096 (rows - 4096 * g))).map (fun i => v (4096 * g + i)) with
    | [] => fv 0
    | x :: xs => xs.foldl FV.add x))

/-- A further output of a composite: μ and r of the rows, or the dγ and dβ contributions of the columns (Table 5-5). -/
def Composite.extra (c : Composite) (place : Nat) (prev : Nat → List (List FV)) : List FV :=
  match c.op, place with
  | 0, 1 => (List.range c.rows).map (fun r => c.mu (prev r) r)
  | 0, 2 => (List.range c.rows).map (fun r => c.r (prev r) r)
  | 2, 1 => (List.range c.rows).map (fun r => c.r (prev r) r)
  | 1, 1 => (List.range c.len).map (fun j => groupSum c.rows (fun r => (c.at 0 r j).mul (c.t (prev r) r j)))
  | 1, 2 => (List.range c.len).map (fun j => groupSum c.rows (fun r => c.at 0 r j))
  | 3, 1 => (List.range c.len).map (fun j => groupSum c.rows (fun r =>
      (c.at 0 r j).mul ((c.at 1 r j).mul (c.r (prev r) r))))
  | _, _ => []

/-- FP32 instructions per element of a phase of a composite's row reductions, at 128 and at 32 elements a cycle (Tables 5-1 and 5-5;
log 106). A backward normalisation forms μ and r only where they are not saved. -/
def Composite.phaseOps (c : Composite) (phase : Nat) : Nat × Nat :=
  match c.op, phase with
  | 0, 0 => (1, 0)
  | 0, _ => (3, 0)
  | 1, 0 => (if c.bound 3 then 0 else 1, 0)
  | 1, 1 => (if c.bound 4 then 0 else 3, 0)
  | 1, 2 => (2, 0)
  | 1, _ => (if c.bound 4 then 4 else 3, 0)
  | 2, _ => (2, 0)
  | 3, 0 => (if c.bound 3 then 0 else 2, 0)
  | 3, _ => (3, 0)
  | 4, _ => (4, 1)
  | 5, _ => (2, 0)
  | 6, _ => (3, 1)
  | _, _ => (0, 0)

/-- FP32 instructions per element that follow the reductions. -/
def Composite.lastOps (c : Composite) : Nat × Nat :=
  match c.op with
  | 0 => (2, 0)
  | 1 => (6, 0)
  | 2 => (2, 0)
  | 3 => (5, 0)
  | 4 => (0, 1)
  | 5 => (3, 0)
  | 6 => (2, 1)
  | 7 => (7, 1)
  | 8 => (13, 1)
  | 9 => (1, 1)
  | 10 => (4, 1)
  | _ => (1, 0)

/-- Rates of the instructions that a composite runs once on a row. -/
def Composite.rowRates (c : Composite) : List Nat :=
  match c.op with
  | 0 => [32, 32, 128, 64]
  | 1 => (if c.bound 3 then [] else [32]) ++ (if c.bound 4 then [] else [32, 128, 64]) ++ [32]
  | 2 => [32, 128, 64]
  | 3 => (if c.bound 3 then [] else [32, 128, 64]) ++ [128, 128, 32]
  | 6 => [32, 128, 128]
  | _ => []

/-- Issue cycles of instructions over `n` elements, each rounded up to whole cycles (R160). -/
def opCycles (ops : Nat × Nat) (n : Nat) : Nat := ops.1 * ceilDiv n 128 + ops.2 * ceilDiv n 32

/-- Issue cycles of every phase of a composite over `n` elements. -/
def Composite.phaseCycles (c : Composite) (n : Nat) : Nat :=
  ((List.range c.phases).map (fun k => opCycles (c.phaseOps k) n)).foldl (· + ·) 0

/-- Issue cycles of a composite over an output tile of `n` elements in `rows` rows. The phases of a chunked row have been counted with
its chunk results. -/
def Composite.cycles (c : Composite) (chunked : Bool) (n rows : Nat) : Nat :=
  opCycles c.lastOps n + (c.rowRates.map (ceilDiv rows)).foldl (· + ·) 0 + (if chunked then 0 else c.phaseCycles n)

/-! ### Rows in chunks (R168) -/

/-- The entry of a row's phase. -/
def State.rowPhase? (s : State) (y row phase : Nat) : Option RowPhase :=
  s.role.rowPhases.find? (fun x => x.y == y && x.row == row && x.phase == phase)

/-- The phases of a row that have been combined, from the first on. -/
def State.combinedPhases (s : State) (y row n : Nat) : List (List FV) :=
  (((List.range n).map (fun k => (s.rowPhase? y row k).bind RowPhase.combined)).takeWhile Option.isSome).map
    (fun x => (x.getD []).map fv)

/-- Flags of values that belong to a row are raised in the V engine of a core, at the element of the leg's output that the row's column
`j` is. -/
def State.raiseRow (s : State) (core : Nat) (l : Leg) (c : Composite) (row j : Nat) (vs : List FV) : State :=
  let f := (vs.map Prod.snd).foldl Flags.or Flags.none
  let at_ := row * c.len + j
  if f = Flags.none then s else s.raiseFlags core 2 f l.y (at_ / 4096) (at_ % 4096) s.role.step

/-- A leg reports its chunk's result of a row's next phase, once. -/
def State.reportChunk (s : State) (core : Nat) (c : Composite) (l : Leg) (row : Nat) : State :=
  let prev := s.combinedPhases l.y row c.phases
  if c.phases ≤ prev.length then s
  else
    let n := prev.length
    let have_ := (s.rowPhase? l.y row n).map RowPhase.results
    if ((have_.getD []).any (fun x => x.1 == l.chunk)) then s
    else
      let cols := chunkCols c.len l.rowChunk l.chunk
      let v := c.chunkResult prev row n cols
      let codes := v.map Prod.fst
      let s1 := (s.raiseRow core l c row (cols.headD 0) v).bump (Reg.NUM_UV_ISSUE.V core) (opCycles (c.phaseOps n) cols.length)
      s1.mapRole (fun r => { r with rowPhases :=
        if have_.isSome then r.rowPhases.map (fun x =>
          if x.y = l.y ∧ x.row = row ∧ x.phase = n then { x with results := x.results ++ [(l.chunk, codes)] } else x)
        else r.rowPhases ++ [RowPhase.mk l.y row n [(l.chunk, codes)] none] })

/-- Combine every phase of the leg's rows whose chunk results are all present, and hand the value to every chunk. -/
def State.combineChunkRows (s : State) (i : Nat) : State :=
  match s.legAt i with
  | none => s
  | some (l, r) =>
    let c := s.composite i l
    let due := s.role.rowPhases.filter (fun x => decide (x.y = l.y) && x.combined.isNone && decide (max l.chunkCount 1 ≤ x.results.length))
    due.foldl (fun t x =>
      let v := c.combine ((x.results.ordered (fun a b => a.1 ≤ b.1)).map (fun y => y.2.map fv))
      (t.raiseRow (r.core.getD 0) l c x.row 0 v).mapRole (fun q => { q with rowPhases := q.rowPhases.map (fun y =>
        if y.y = x.y ∧ y.row = x.row ∧ y.phase = x.phase then { y with combined := some (v.map Prod.fst) } else y) })) s

/-! ### One output tile of a composite -/

/-- The rows that an element tile of the output touches. -/
def rowsTouched (len total tile : Nat) : List Nat :=
  if len = 0 then []
  else
    let lo := 4096 * tile
    let hi := min total (lo + 4096)
    if hi ≤ lo then [] else (List.range ((hi - 1) / len + 1 - lo / len)).map (lo / len + ·)

/-- The combined phases of a row: formed at once for a whole row, gathered for a chunked one; none while some are missing. -/
def State.rowValues (s : State) (c : Composite) (l : Leg) (row : Nat) : Option (List (List FV)) :=
  if l.rowChunk = 0 then some (c.wholeRow row)
  else
    let got := s.combinedPhases l.y row c.phases
    if c.phases ≤ got.length then some got else none

/-- The losses of a tile's rows: each row once, with its first element (R171, R172). -/
def State.recordLosses (s : State) (core i : Nat) (l : Leg) (c : Composite) (prev : Nat → List (List FV)) (rows : List Nat)
    (lo hi : Nat) : State :=
  rows.foldl (fun t row =>
    if c.op = 6 ∧ lo ≤ row * c.len ∧ row * c.len < hi then
      let ignored := decide (c.target row = 0xFFFFFFFF)
      let v := if ignored then fv 0 else c.loss (prev row) row
      (t.raiseRow core l c row 0 [v]).mapRole (fun r => { r with
        lossGroups := r.lossGroups.filter (fun x => !(x.1 == i && x.2.1 == row)) ++ [(i, row, v.1, if ignored then 1 else 0)] })
    else t) s

/-- Write a further output whole, as element tiles. -/
def State.putExtra (s : State) (i : Nat) (l : Leg) (core : Nat) (t : Tensor) (vals : List FV) : State :=
  (List.range t.tiles).foldl (fun u k =>
    let mine := (t.validElems k).map (fun e => (e, (vals.getD (4096 * k + e) (fv 0))))
    let u1 := u.raiseTileFlags core 2 ((mine.filter (fun x => decide (x.2.2 ≠ Flags.none))).map (fun x => (x.1, x.2.2))) t.id k
      u.role.step
    u1.putValues i l core 2 t k t.rnd .fp32 (mine.map (fun x => (x.1, x.2.1)))) s

/-- The composite's next output tile: its chunk results are reported first where a row is chunked; with the last tile of the
last leg that writes them, the further outputs follow, which read every row as its phases were combined (R168). -/
def State.compositeTile (s : State) (p : Passage) (core i : Nat) (l : Leg) (r : LegRun) (c : Composite) : State :=
  let tile := l.nextTile r
  match s.outputsOf l with
  | [] => s
  | y :: more =>
    let rows := rowsTouched c.len (c.rows * c.len) tile
    let mine := if tile + 1 = l.firstTile + l.tileCount then
        more.zipIdx.filter (fun x => (p.owner x.1.id 0).map Prod.fst == some i) else []
    let got := (if mine = [] then rows else List.range c.rows).map (fun row => (row, s.rowValues c l row))
    if got.any (fun x => x.2.isNone) then rows.foldl (fun t row => t.reportChunk core c l row) s
    else
      let prev := fun row => ((got.find? (fun x => x.1 == row)).bind Prod.snd).getD []
      let elems := (y.validElems tile).map (fun e =>
        let i := 4096 * tile + e
        (e, c.value (prev (i / max c.len 1)) (i / max c.len 1) (i % max c.len 1)))
      let s1 := (s.startTile i).raiseTileFlags core 2
        ((elems.filter (fun x => decide (x.2.2 ≠ Flags.none))).map (fun x => (x.1, x.2.2))) y.id tile s.role.step
      let s2 := (s1.putValues i l core 2 y tile y.rnd .fp32 (elems.map (fun x => (x.1, x.2.1)))).recordLosses core i l c prev rows
        (4096 * tile) (4096 * tile + 4096)
      let s3 := mine.foldl (fun t x => t.putExtra i l core x.1 (c.extra (x.2 + 1) prev)) s2
      (s3.bump (Reg.NUM_UV_ISSUE.V core) (c.cycles (decide (l.rowChunk ≠ 0)) elems.length rows.length)).returnInputs i

/-- The V engine of a core takes the next tile of a composite leg. -/
def State.vComposite (s : State) (core : Nat) : State :=
  if !s.working || s.skipsIssue core then s
  else match s.readyLeg core .v (fun i l _ => l.kind == 4 && s.outputsFree core i l 1), s.role.passage with
    | some (i, l, r), some p => s.compositeTile p core i l r (s.composite i l)
    | _, _ => s.readOnAll core .v (fun l => l.kind == 4)

/-! ### The loss of a step (R171, R172) -/

/-- Rows of losses by the tensor that the loss leg writes, in passage order: the leg of each tensor's first row, the tensor, and its
rows with their codes, those of ignored rows marked 1. -/
def State.lossRows (s : State) : List (Nat × List (Nat × Nat × Nat)) :=
  let rows := s.role.lossGroups.map (fun x => (((s.legAt x.1).map (fun lr => lr.1.y)).getD 0xFFFF, x))
  let ys := ((rows.ordered (fun a b => a.2.1 ≤ b.2.1)).map Prod.fst).eraseDups
  ys.map (fun y => (y, ((rows.filter (fun x => x.1 == y)).map (fun x => x.2.2)).ordered (fun a b => a.1 ≤ b.1)))

/-- The sum of each group of 4,096 consecutive rows, in ascending group index: its counted rows in ascending order; a group in which
every row is ignored gives +0. -/
def lossSums (rows : List (Nat × Nat × Nat)) : List FV :=
  ((rows.map (fun x => x.1 / 4096)).eraseDups).map (fun g =>
    match (rows.filter (fun x => x.1 / 4096 == g && x.2.2 == 0)).map (fun x => fv x.2.1) with
    | [] => fv 0
    | x :: xs => xs.foldl FV.add x)

/-- fl32(SUM / COUNTED): the quotient is rounded once. -/
def meanLoss (sum n : Nat) : FV :=
  if n = 0 then fv 0
  else match decodeNum .fp32 sum with
    | .fin neg m => roundCode .fp32 .rne neg (m / n)
    | _ => fpDiv .fp32 .rne sum (natFv n).1

/-- NUM_VEC_LOSS and NUM_VEC_ROWS of a committed step (R171, R172). The spec does not say which core adds the losses: their flags are
raised in the V engine that ran the first row (log 106). -/
def State.showLoss (s : State) : State :=
  let groups := s.lossRows
  let rows := groups.flatMap Prod.snd
  let n := (rows.filter (fun x => x.2.2 == 0)).length
  let sum := combineFv (groups.flatMap (fun g => lossSums g.2))
  let mean := meanLoss sum.1 n
  let f := sum.2.or mean.2
  let s1 := match s.role.lossGroups.head? with
    | some x => if f = Flags.none then s
      else s.raiseFlags (((s.legAt x.1).bind (fun lr => lr.2.core)).getD 0) 2 f ((groups.head?.map Prod.fst).getD 0xFFFF) 0 0 s.role.step
    | none => s
  (((s1.setOwn Reg.NUM_VEC_LOSS.SUM sum.1).setOwn Reg.NUM_VEC_LOSS.MEAN mean.1).setOwn Reg.NUM_VEC_ROWS.COUNTED (satCount 32 n)).setOwn
    Reg.NUM_VEC_ROWS.IGNORED (satCount 32 (rows.length - n))

/-! ### Meanings -/

/-- V_PROGRAM (R166). -/
def execVProgram (r : RoleSel) (core : Fin 256) (s : State) : Host.Outcome State Fault Refusal :=
  .next (s.asRole r (fun t => t.vProgram core.val))

/-- V_COMPOSITE (R169). -/
def execVComposite (r : RoleSel) (core : Fin 256) (s : State) : Host.Outcome State Fault Refusal :=
  .next (s.asRole r (fun t => t.vComposite core.val))

/-- ROW_CHUNK_COMBINE (R168). -/
def execRowChunkCombine (r : RoleSel) (leg : BitVec 20) (s : State) : Host.Outcome State Fault Refusal :=
  .next (s.asRole r (fun t => if t.working then t.combineChunkRows leg.toNat else t))

end Sys2Proof.Machine
end

