-- ==== Sys2Proof/Machine/Dma.lean ====
section
/-! DEFINITION. Copies made by the DMA engines: plain, transposed and re-blocked (spec/02_number_formats.md R69, R72, R73;
spec/03_matrix_engines.md R108; spec/04_precision_control.md R122, R154). -/

namespace Sys2Proof.Machine

/-- Where an element of a copy comes from. -/
def copySource (turn : Bool) (rc : Nat × Nat) : Nat × Nat := if turn then (rc.2, rc.1) else rc

/-- The elements of a tile of a copy with the row and column they come from. -/
def copyElems (turn : Bool) (y : Tensor) (tile : Nat) : List (Nat × Nat × Nat) :=
  (y.validElems tile).filterMap (fun e => (y.unplace tile e).map (fun rc => (e, copySource turn rc)))

/-- The tiles of the source that a tile of a copy reads. -/
def copyTiles (turn : Bool) (a y : Tensor) (tile : Nat) : List Nat :=
  ((copyElems turn y tile).map (fun x => (a.place x.2.1 x.2.2).1)).eraseDups

/-- Codes can move unchanged: one format, one block layout, one S (R108). -/
def sameCoding (turn : Bool) (a y : Tensor) (aCode yCode : Nat) : Bool :=
  aCode == yCode && a.coarse == y.coarse && a.zp == y.zp && a.outliers == y.outliers
    && (!a.blocksAt aCode || (a.block == y.block && (y.rowBlocks == (a.rowBlocks != turn))))

/-- The rung at which a tile of a copy takes the source's codes unchanged, if there is one: a plain copy writes at its own
rung, a transposition at the rung that gives the format of its source tiles, the highest of them where they differ (log 105). -/
def State.moveRung (s : State) (i : Nat) (l : Leg) (turn : Bool) (a y : Tensor) (tile : Nat) : Option Nat :=
  match (copyTiles turn a y tile).map (fun k => s.rungOf i a.id k) with
  | [] => some (s.startRung y)
  | r :: rs =>
    if l.kind = 7 then
      (List.range 4).find? (fun n => sameCoding turn a y (a.formatAt (rs.foldl max r)) (y.formatAt n))
    else if rs.all (· == r) ∧ sameCoding turn a y (a.formatAt r) (y.formatAt (s.startRung y)) then some (s.startRung y)
    else none

/-- The code that a moved element takes at a format: its own, or, where its tile stands at a lower rung than others that go into the
same tile, the code of its value in the wider format, with no flag (R108, log 105). -/
def Elem.movedCode (e : Elem) (y : Tensor) (code : Nat) : Nat :=
  let fmt := (fmtOf code).getD .fp32
  if e.fmt = fmt then e.code
  else
    let factor := match e.scale with
      | some c => if y.blocksAt code then scaleValue c * y.s else y.s
      | none => y.s
    let v := if outlierFormat code then elementValue e.fmt e.code e.scale e.zero e.coarse else e.full
    (convertNum fmt .rne .ieee 0 factor v).1

/-- The outlier entries of a moved tile: those of the source blocks, numbered anew. -/
def State.movedOutliers (s : State) (i : Nat) (turn : Bool) (a y : Tensor) (tile : Nat) : List (Nat × Nat) × List Nat :=
  let firsts := (List.range y.tileBlocks).filterMap (fun b => (y.unplace tile (y.elemIn b 0)).map (fun rc =>
    let src := copySource turn rc
    let p := a.place src.1 src.2
    (b, p.1, (a.blockIn p.2).1)))
  let parts := firsts.map (fun x =>
    let n := s.outlierIndex i a x.2.1 x.2.2
    let first := ((List.range x.2.2).map (fun b => a.entriesFor (s.outlierIndex i a x.2.1 b))).foldl (· + ·) 0
    let old := (List.range (a.entriesFor n)).map (fun k => s.sideEntry i a x.2.1 (first + k))
    let renumber := fun (e : Nat) => e - bitsOf e 47 32 * 2 ^ 32 + x.1 * 2 ^ 32
    (x.1, n, if n = 3 then (old.take 1).map renumber ++ old.drop 1 else old.map renumber))
  (parts.map (fun x => (x.1, x.2.1)), parts.flatMap (fun x => x.2.2))

/-- A tile of a copy whose codes, block scales and zero points move unchanged: no flag and no Soundings (R108, R122). -/
def State.movedTile (s : State) (i : Nat) (turn : Bool) (a y : Tensor) (tile rung : Nat) : OutTile :=
  let fmt := (fmtOf (y.formatAt rung)).getD .fp32
  let cells := (copyElems turn y tile).map (fun x => (x.1, x.2, s.element i a x.2.1 x.2.2))
  let codes := cells.map (fun x => (x.1, x.2.2.movedCode y (y.formatAt rung)))
  let blocks := ((cells.filterMap (fun x => (y.unplace tile x.1).map (fun rc =>
    (y.blockOf rc.1 rc.2, x.2.2.scale.getD 0, (x.2.2.zero : Int)))))).foldl
      (fun (acc : List (Nat × Nat × Int)) b => match acc with
        | c :: _ => if c.1 = b.1 then acc else if acc.any (fun d => d.1 == b.1) then acc else b :: acc
        | [] => [b]) []
  let scaled := y.blocksAt (y.formatAt rung)
  let scales := if scaled then blocks.map (fun b => sideWrite y.scalesId b.1 (BitVec.ofNat 8 b.2.1)) else []
  let zeros := if y.zp && fmt.isInt then blocks.map (fun b => sideWrite y.zpId b.1 (BitVec.ofInt 8 b.2.2)) else []
  let outs := if y.outliers && outlierFormat (y.formatAt rung) then s.movedOutliers i turn a y tile else ([], [])
  let idx := outs.1.map (fun x => (tile * y.tileBlocks + x.1, x.2))
  let idxBytes := ((idx.map (fun x => x.1 / 4)).eraseDups).map (fun b => sideWrite y.outIndexId b (s.indexByte y b idx))
  let side := outs.2.zipIdx.flatMap (fun x => (leBytes 8 x.1).zipIdx.map (fun z =>
    sideWrite y.outSideId (8 * (y.shareStart tile + x.2) + z.2) z.1))
  ⟨i, y.id, tile, rung, [⟨y.id, tile, 0, packCodes fmt (s.mergedCodes y fmt tile codes)⟩] ++ scales ++ zeros ++ idxBytes ++ side⟩

/-- A tile of a byte array, copied whole. -/
def State.byteTile (s : State) (i : Nat) (a y : Tensor) (tile : Nat) : OutTile :=
  ⟨i, y.id, tile, 0, [⟨y.id, tile, 0, (List.range (min 4096 (y.rows * y.cols - 4096 * tile))).map (fun k => s.tileByte i a.id tile k)⟩]⟩

/-- Queue an output tile that takes no Soundings. -/
def State.putMoved (s : State) (i : Nat) (l : Leg) (o : OutTile) : State :=
  (s.mapRole (fun r => { r with
    outTiles := r.outTiles.filter (fun x => !(x.tensor == o.tensor && x.tile == o.tile)) ++ [o] })).outMove i l o.tensor true

/-- Count a shaped tile (Table 3-9). -/
def State.countShape (s : State) (l : Leg) (core : Nat) : State :=
  if l.kind = 7 then s.bump (Reg.NUM_MX_DMA_SHAPE.TRANSPOSED core) 1
  else if l.kind = 8 then s.bump (Reg.NUM_MX_DMA_SHAPE.REBLOCKED core) 1
  else s

/-- Convert a tile of a copy that changes its values: a re-blocked copy keeps the source's S and takes SR (R69; log 105), an EQ or INT
value that becomes FP32 is rounded by RNE (R73), and any other conversion follows the copy's descriptor. -/
def State.convertCopy (s : State) (i : Nat) (l : Leg) (turn : Bool) (a y : Tensor) (tile : Nat) : Converted :=
  let vals := (copyElems turn y tile).map (fun x => (x.1, (s.element i a x.2.1 x.2.2).full))
  if l.kind = 8 then s.convertTile { y with coarse := a.coarse } (s.startRung y) tile 5 true vals
  else s.convertTile y (s.startRung y) tile (if 4 ≤ a.format ∧ y.format = 0 then 0 else y.rnd) false vals

/-- A copy leg's next tile can be made. -/
def State.copyReady (s : State) (i : Nat) (l : Leg) (r : LegRun) : Bool :=
  decide (6 ≤ l.kind ∧ l.kind ≤ 8) && s.outFree i l l.y && decide (0 < s.credit (r.core.getD 0) .soundings)

/-- The next tile of a copy leg, by one of the core's two DMA engines. -/
def State.copyTile (s : State) (i dma : Nat) : State :=
  match s.legAt i with
  | none => s
  | some (l, r) =>
    match s.tensor? l.a, s.tensor? l.y with
    | some a, some y =>
      let core := r.core.getD 0
      let tile := l.nextTile r
      let turn := l.turns a y
      if !s.working then s
      else if s.chosen i s.copyReady then
        let s1 := s.startTile i
        let s2 : State :=
          if y.shape = 3 then s1.putMoved i l (s.byteTile i a y tile)
          else match (if l.kind = 8 then none else s.moveRung i l turn a y tile) with
            | some n => s1.putMoved i l (s.movedTile i turn a y tile n)
            | none =>
              let c := s.convertCopy i l turn a y tile
              let s3 := ((s1.raiseConverted core (4 + dma) y tile c.flags).countOutliers y c).putTile i y tile c
              (s3.takeCredit core .soundings).outMove i l y.id true
        (s2.countShape l core).returnInputs i
      else s.readOn i
    | _, _ => s

/-- A copy leg of one kind. -/
def State.copyKind (s : State) (i dma kind : Nat) : State :=
  match s.legAt i with
  | some (l, _) => if l.kind = kind then s.copyTile i dma else s
  | none => s

/-! ### Meanings -/

/-- COPY (R73, R108). -/
def execCopy (r : RoleSel) (leg : BitVec 20) (dma : Fin 2) (s : State) : Host.Outcome State Fault Refusal :=
  .next (s.asRole r (fun t => t.copyKind leg.toNat dma.val 6))

/-- TRANSPOSED_COPY (R108). -/
def execTransposedCopy (r : RoleSel) (leg : BitVec 20) (dma : Fin 2) (s : State) : Host.Outcome State Fault Refusal :=
  .next (s.asRole r (fun t => t.copyKind leg.toNat dma.val 7))

/-- RE_BLOCKED_COPY (R69). -/
def execReBlockedCopy (r : RoleSel) (leg : BitVec 20) (dma : Fin 2) (s : State) : Host.Outcome State Fault Refusal :=
  .next (s.asRole r (fun t => t.copyKind leg.toNat dma.val 8))

end Sys2Proof.Machine
end

