-- ==== Sys2Proof/Machine/Update.lean ====
section
/-! DEFINITION. The update: pass 1, the norm and the clip coefficient, the parameter entry, and pass 2 with its frozen masks
(spec/05_vector_and_update.md R173 to R184; spec/09_fabric_and_twin.md R316, R318). -/

namespace Sys2Proof.Machine

/-! ### The twin's share (R316) -/

/-- Records are shipped to the partner: the twins seed or mirror, and the role is the module's own. -/
def State.shipping (s : State) : Bool :=
  (s.twin.state == 5 || s.twin.state == 6) && !s.role.carried && decide (s.twin.shipFrom ≤ s.role.step)

/-- Send a message to the partner over the path in use (R320). -/
def State.sendTwin (s : State) (m : TwinMsg) : State := s.emit (.twin (s.flag Reg.TWN_STATUS.PATH) m)

/-- Change the update in progress. -/
def State.mapUpdate (s : State) (f : UpdateRun → UpdateRun) : State := s.mapRole (fun r => { r with update := f r.update })

/-- The role updates in hardware mode (R253). -/
def State.updateHw (s : State) : Bool := !s.flag Reg.CAP_DUTY_MODE.UPDATE

/-! ### Pass 1 (R180) -/

/-- Gradient tensors of an update leg. -/
def State.gradients (s : State) (l : Leg) : List Tensor :=
  ((s.streamsOf l).filter (fun st => !st.outbound && st.role == 0)).filterMap (fun st => s.tensor? st.tensor)

/-- A leg reads an element tile in its range. -/
def Leg.hasTile (l : Leg) (tile : Nat) : Bool := decide (l.firstTile ≤ tile) && decide (tile < l.firstTile + l.tileCount)

/-- The elements of an element tile that a tensor has, as flat indices. -/
def Tensor.flatTile (t : Tensor) (tile : Nat) : List Nat :=
  (List.range (min 4096 (t.rows * t.cols - 4096 * tile))).map (4096 * tile + ·)

/-- The exact sum of squares of the finite values in units of 2^-448, and the count of the others. -/
def measureCodes (cs : List Nat) : Nat × Nat :=
  cs.foldl (fun acc c => match decodeNum .fp32 c with
    | .fin _ m => (acc.1 + (squareUnits m).getD 0, acc.2)
    | _ => (acc.1, acc.2 + 1)) (0, 0)

/-- Pass 1 has measured every tile of the passage's update legs. -/
def State.pass1Done (s : State) : Bool :=
  match s.role.passage with
  | none => true
  | some p => p.legs.zipIdx.all (fun x => decide (x.1.kind ≠ 5) || s.measuredLeg x.2 x.1)

/-- Element tiles of an update leg that pass 1 has not measured. -/
def State.unmeasured (s : State) (i : Nat) (l : Leg) : List Nat :=
  ((List.range l.tileCount).map (l.firstTile + ·)).filter (fun k => !s.role.update.measured.any (fun m => m.1 == i && m.2.1 == k))

/-- A stream brings a gradient to an update leg. -/
def Stream.isGradient (st : Stream) : Bool := !st.outbound && st.role == 0

/-- The GRADIENT streams of an update leg begin anew for pass 2 once pass 1 has read them. -/
def State.rewindGradients (s : State) (i : Nat) (l : Leg) : State :=
  if !s.measuredLeg i l then s
  else ((inboundSlots (s.streamsOf l)).filter (fun x => x.1.isGradient)).foldl (fun t x =>
    t.mapStream i x.2 (fun q => { q with asked := 0, landed := [], posted := 0, tokens := 0, taken := 0, passed := 0 })) s

/-- Pass 1 over one element tile: the next one of the core's update legs in passage order, once it holds the tokens of its gradients
(R180, R238). The tokens are consumed and the credits returned, and the gradients' decoding raises its flags in the U engine. -/
def State.pass1 (s : State) (i tile : Nat) : State :=
  match s.legAt i with
  | none => s
  | some (l, r) =>
    let core := r.core.getD 0
    let first := (s.unitLegs core .u).findSome? (fun x => ((s.unmeasured x.1 x.2.1).head?).map (fun k => (x.1, k)))
    if !s.working || s.skipsIssue core || s.role.closed || l.kind != 5 || !s.legActive i || !s.waitMet l || first != some (i, tile) then s
    else
      let rest := (s.unmeasured i l).drop 1
      if s.tokensFor l r Stream.isGradient tile rest.isEmpty then
        let parts := (s.gradients l).map (fun t => (t, (t.flatTile tile).map (fun k => (k % 4096, s.fp32At i t k))))
        let sums := parts.map (fun x => measureCodes (x.2.map (fun y => y.2.1)))
        let s1 := parts.foldl (fun (u : State) x => u.raiseTileFlags core 3
          ((x.2.filter (fun y => decide (y.2.2 ≠ Flags.none))).map (fun y => (y.1, y.2.2))) x.1.id tile s.role.step) s
        let s2 := (s1.consumeFor i l Stream.isGradient tile rest.isEmpty).mapUpdate (fun u => { u with
          measured := u.measured ++ [(i, tile, (sums.map Prod.fst).foldl (· + ·) 0, (sums.map Prod.snd).foldl (· + ·) 0)] })
        ((s2.setOwn Reg.NUM_UPD_STATUS.PASS 1).returnFor i l Stream.isGradient rest).rewindGradients i l
      else s.readThrough i Stream.isGradient tile rest.isEmpty

/-! ### The norm and the clip coefficient (R181, R182, R254) -/

/-- The module's own terms of the norm combine. -/
def UpdateRun.terms (u : UpdateRun) : Nat × Nat :=
  u.measured.foldl (fun acc m => (acc.1 + m.2.2.1, acc.2 + m.2.2.2)) (0, 0)

/-- MAX_NORM clips: positive and finite (Table 5-13). -/
def clipThreshold (code : Nat) : Option Rat :=
  match decodeNum .fp32 code with
  | .fin false m => if m = 0 then none else some m
  | _ => none

/-- The norm of a combined sum: FP64 code. -/
def normOf (sum : Nat) : Nat :=
  (fpSqrt .fp64 .rne (roundRat .fp64 .rne false ((sum : Rat) * pow2 (-448))).1).1

/-- c for a threshold and a norm: FP32 code. -/
def clipOf (maxNorm norm : Nat) : Nat :=
  match clipThreshold maxNorm, decodeNum .fp64 norm with
  | some m, .fin _ n => if n ≤ m then one32 else (roundRat .fp32 .rne false (m / n)).1
  | _, _ => one32

/-- The address of the step's parameter entry (R184). -/
def State.paramAddr (s : State) : Nat :=
  match s.role.passage with
  | some p => p.paramBase + 64 * (s.role.step % max p.paramDepth 1)
  | none => 0

/-- Read the parameter entry; what host memory holds is open to the model (log 2). -/
def State.paramBytes (s : State) : List Byte × State :=
  if 0x8000000000000 ≤ s.paramAddr then s.freeBytes 64 else (s.readBytes s.paramAddr 64, s)

/-- The scalars of an entry whose tag matches a step (R184). -/
def paramScalars (bs : List Byte) (step : Nat) : Option (List Nat) :=
  let tag := fieldAt bs 0 8
  if tag = step ∨ tag = 2 ^ 64 - 1 then some ((List.range 14).map (fun k => fieldAt bs (8 + 4 * k) 4)) else none

/-- The norm as an FP32 code, which a program reads beside c. -/
def UpdateRun.norm32 (u : UpdateRun) : Nat := (convertNum .fp32 .rne .ieee 0 1 (decodeNum .fp64 u.norm)).1

/-- The closing part of the step's record goes to the partner (R316). -/
def State.sendClosing (s : State) : State :=
  let u := s.role.update
  if s.shipping then
    s.sendTwin (.closing (BitVec.ofNat 64 s.role.step) (BitVec.ofNat 32 u.clip) (BitVec.ofNat 32 u.norm32) u.skip
      ((u.entry.getD []).map (BitVec.ofNat 32)))
  else s

/-- Read the parameter entry at the start of pass 2, or again while it is stale (R184). -/
def State.readEntry (s : State) : State :=
  let r := s.paramBytes
  match paramScalars r.1 s.role.step with
  | some xs => ((r.2.mapUpdate (fun u => { u with entry := some xs })).setOwn Reg.NUM_UPD_STATUS.STALE 0).sendClosing
  | none =>
    let s1 := r.2.setOwn Reg.NUM_UPD_STATUS.STALE 1
    if s1.role.update.stalePosted then s1
    else (s1.mapUpdate (fun u => { u with stalePosted := true })).post Ev.updParamStale []

/-- Pass 2 is skipped: every update leg is at its end (R182). -/
def State.skipPass2 (s : State) : State :=
  match s.role.passage with
  | none => s
  | some p =>
    let s1 := s.mapRole (fun r => { r with
      update := { r.update with skip := true }
      legs := r.legs.map (fun x => match p.leg? x.1 with
        | some l => if l.kind = 5 then (x.1, { x.2 with started := l.tileCount, finished := true }) else x
        | none => x) })
    (((s1.setOwn Reg.NUM_UPD_STATUS.SKIPPED 1).setOwn Reg.NUM_UPD_STATUS.PASS 0).sendClosing)

/-- c is known: pass 2 is skipped or may start (R181 to R184). -/
def State.applyClip (s : State) (clip : Nat) (proceed : Bool) : State :=
  let s1 := (s.mapUpdate (fun u => { u with clip := clip })).setOwn Reg.NUM_UPD_STATUS.CLIP clip
  if s1.role.update.nonfinite ≠ 0 && !proceed then
    ((s1.bump Reg.NUM_UPD_SKIPS.COUNT 1).post Ev.updGradNonfinite []).skipPass2
  else
    let s2 := (s1.setOwn Reg.NUM_UPD_STATUS.SKIPPED 0).setOwn Reg.NUM_UPD_STATUS.PASS 3
    match s2.role.passage with
    | some p => if p.legs.any (fun l => l.kind == 5) then s2.readEntry else s2
    | none => s2

/-- The members' terms have been combined (R181): in host-assisted update the host supplies c and the policy (R254). -/
def State.combineNorm (s : State) (sum nonfinite : Nat) : State :=
  let norm := normOf sum
  let s1 := (s.mapUpdate (fun u => { u with sum := sum, nonfinite := nonfinite, combined := true, norm := norm })).setOwn
    Reg.NUM_UPD_NORM.NORM norm
  if s1.updateHw then
    s1.applyClip (clipOf (s1.cfg Reg.NUM_UPD_CFG.MAX_NORM) norm) (decide (s1.cfg Reg.NUM_UPD_CFG.NONFINITE_POLICY = 1))
  else match s1.role.update.hostClip with
    | some x => s1.applyClip x.1 x.2
    | none => (s1.setOwn Reg.CAP_RUN.HOST_WAIT 1).setOwn Reg.NUM_UPD_STATUS.PASS 2

/-! ### Frozen elements (R177 to R179) -/

/-- The block grain of a leg: the block length of its STATE streams, 64 without one (R174). -/
def State.grain (s : State) (l : Leg) : Nat :=
  (((s.streamsOf l).filter (fun st => st.role == 2)).findSome? (fun st => (s.tensor? st.tensor).map Tensor.blockLen)).getD 64

/-- A mask stream freezes an element: one bit per element where the mask has that many, else one bit per block grain. -/
def State.maskFreezes (s : State) (i : Nat) (l : Leg) (st : Stream) (elems flat : Nat) : Bool :=
  match s.tensor? st.tensor with
  | none => false
  | some m =>
    let bytes := codeBytes m.format (m.rows * m.cols)
    let k := if elems ≤ 8 * bytes then flat else flat / s.grain l
    (s.sideByte i m.id (k / 8)).getLsbD (k % 8)

/-- An element is frozen by a mask of its leg, or by the mask bound to one weight slot. -/
def State.frozen (s : State) (i : Nat) (l : Leg) (slot : Option Nat) (elems flat : Nat) : Bool :=
  ((s.streamsOf l).filter (fun st => !st.outbound && st.role == 4 && (match slot with
    | some k => st.slot == k
    | none => true))).any (fun st => s.maskFreezes i l st elems flat)

/-- The input slot of the weight that an output writes. -/
def State.weightSlot (s : State) (l : Leg) (t : Tensor) : Option Nat :=
  ((s.streamsOf l).find? (fun st => !st.outbound && st.role == 1 && (st.tensor == t.id || st.tensor == t.partner))).map
    Stream.slot

/-- The high half of the pair a stream names. -/
def State.highHalf (s : State) (t : Tensor) : Tensor :=
  if (s.lowHalf? t).isSome then t else (s.tensor? t.partner).getD t

/-- An element of a STATE block that an element-grain mask mixes (Table 5-7): the old scale kept, a new one chosen over the
unfrozen values, or the block left poisoned. The result gives its scale, its codes, and whether poison was kept. -/
def State.mixedBlock (s : State) (i : Nat) (t : Tensor) (fmt : Fmt) (tile old : Nat) (els : List (Nat × Nat × Bool × Nat)) :
    Nat × List (Nat × Nat × Flags) × Bool :=
  -- els: element index, flat index, frozen, new FP32 value
  let mode := outModeOf t.outMode
  let fresh := fun (scale : Nat) (x : Nat × Nat × Bool × Nat) =>
    convertNum fmt .sr mode (s.draw t.id tile x.1) (scaleValue scale * t.s) (decodeNum .fp32 x.2.2.2)
  let keep := fun (x : Nat × Nat × Bool × Nat) => (s.flatElement i t x.2.1).code
  if old = 0xFF then (old, els.map (fun x => (x.1, keep x, Flags.none)), els.any (fun x => !x.2.2.1))
  else if old = 0 then
    let sc := chooseScale fmt ((els.filter (fun x => !x.2.2.1)).map (fun x => unscale t.s (decodeNum .fp32 x.2.2.2)))
    (sc, els.map (fun x => if x.2.2.1 then (x.1, 0, Flags.none) else (x.1, (fresh sc x).1, (fresh sc x).2)), false)
  else (old, els.map (fun x => if x.2.2.1 then (x.1, keep x, Flags.none) else (x.1, (fresh old x).1, (fresh old x).2)), false)

/-- A STATE tile with frozen elements (R177, R179). -/
def State.stateTile (s : State) (i : Nat) (t : Tensor) (tile : Nat) (vals : List (Nat × Nat × Bool × Nat)) : Converted × Bool :=
  let rung := s.tileRung t.id tile
  let fmt := (fmtOf (t.formatAt rung)).getD .eq8a
  let len := max t.blockLen 1
  let blocks := ((vals.map (fun v => v.2.1 / len)).eraseDups)
  let done := blocks.map (fun b =>
    let mine := vals.filter (fun v => v.2.1 / len == b)
    let old := (s.sideByte i t.scalesId b).toNat
    if mine.all (fun v => v.2.2.1) then (b, old, mine.map (fun v => (v.1, (s.flatElement i t v.2.1).code, Flags.none)), false)
    else if mine.all (fun v => !v.2.2.1) then
      let c := s.convertBlocks t fmt .sr rung tile false (mine.map (fun v => (v.1, decodeNum .fp32 v.2.2.2)))
      (b, (c.scales.head?.map Prod.snd).getD 0, c.codes.map (fun x => (x.1, x.2,
        ((c.flags.find? (fun f => f.1 == x.1)).map Prod.snd).getD Flags.none)), false)
    else
      let m := s.mixedBlock i t fmt tile old mine
      (b, m.1, m.2.1, m.2.2))
  let cells := done.flatMap (fun d => d.2.2.1.map (fun x => (x, d.2.1)))
  ({ rung := rung
     codes := cells.map (fun x => (x.1.1, x.1.2.1))
     scales := done.map (fun d => (d.1, d.2.1))
     index := []
     entries := []
     counts := (cells.map (fun x => Partial.count (elementValue fmt x.1.2.1 (some x.2) 0 t.s) x.1.2.2.overflow false)).foldl
       Partial.add Partial.zero
     flags := (cells.filter (fun x => decide (x.1.2.2 ≠ Flags.none))).map (fun x => (x.1.1, x.1.2.2)) },
   done.any (fun d => d.2.2.2))

/-! ### Pass 2 (R173, R183) -/

/-- An input of the update program at a flat index: gradients take c, weights are joined, the rest is decoded (Table 5-6). -/
def State.updateInput (s : State) (i : Nat) (l : Leg) (clip k flat : Nat) : FV :=
  match s.slotTensor l false k with
  | none => fv 0
  | some (st, t) =>
    if st.role = 0 then FV.mul (s.fp32At i t flat) (fv clip)
    else if st.role = 1 then s.fp32At i (s.highHalf t) flat
    else s.fp32At i t flat

/-- The digest of R318 takes the bytes of a written element tile with its scales. -/
def UpdateRun.digested (u : UpdateRun) (ws : List TileWrite) : UpdateRun :=
  { u with digest := u.digest ^^^ BitVec.ofNat 32 (crc32c (ws.flatMap TileWrite.bytes)) }

/-- Queue an element tile that pass 2 wrote. -/
def State.putUpdated (s : State) (i : Nat) (l : Leg) (core : Nat) (t : Tensor) (tile rung : Nat) (ws : List TileWrite)
    (counts : Partial) : State :=
  let o : OutTile := ⟨i, t.id, tile, rung, ws⟩
  let s1 := s.mapRole (fun r => { r with
    outTiles := r.outTiles.filter (fun x => !(x.tensor == t.id && x.tile == tile)) ++ [o]
    inFlight := r.inFlight.filter (fun x => !(x.1 == t.id && x.2.1 == tile)) ++ [(t.id, tile, counts)]
    update := r.update.digested ws })
  (s1.takeCredit core .soundings).outMove i l t.id true

/-- Frozen elements of a weight tensor are counted once in a pass 2, also where their tile runs once more (R177, R178). -/
def State.countFrozen (s : State) (i tile : Nat) (t : Tensor) (n : Nat) : State :=
  if s.role.update.done.contains (i, tile) then s
  else s.mapUpdate (fun u => { u with frozen := sparsePut 0 t.id (sparseGet 0 t.id u.frozen + n) u.frozen })

/-- A tile of a WEIGHT output: unfrozen elements are split into their halves, frozen ones keep theirs (R173, R177). -/
def State.putWeight (s : State) (i : Nat) (l : Leg) (core : Nat) (t : Tensor) (tile elems : Nat) (vals : List (Nat × Nat)) :
    State :=
  let hi := s.highHalf t
  let slot := s.weightSlot l t
  let free := vals.filter (fun v => !s.frozen i l slot elems (4096 * tile + v.1))
  let all := vals.map (fun v => if s.frozen i l slot elems (4096 * tile + v.1) then (v.1, (s.fp32At i hi (4096 * tile + v.1)).1) else v)
  let counts := (pairConverted hi 0 all).counts
  let s1 := s.countFrozen i tile hi (vals.length - free.length)
  match s.lowHalf? hi with
  | some low =>
    if free = [] then s1.mapRole (fun r => { r with inFlight := r.inFlight ++ [(hi.id, tile, counts)] })
    else s1.putUpdated i l core hi tile (s.startRung hi) (s.pairWrites hi low tile free) counts
  | none => s1

/-- A tile of a STATE output; nothing is written of one that is frozen whole (R177). -/
def State.putState (s : State) (i : Nat) (l : Leg) (core : Nat) (t : Tensor) (tile elems : Nat) (vals : List (Nat × Nat)) : State :=
  let marked := vals.map (fun v => (v.1, 4096 * tile + v.1, s.frozen i l none elems (4096 * tile + v.1), v.2))
  if marked.all (fun v => v.2.2.1) then s.mapRole (fun r => { r with inFlight := r.inFlight ++ [(t.id, tile, Partial.zero)] })
  else if marked.all (fun v => !v.2.2.1) then
    let c := s.convertTile t (s.startRung t) tile 5 false (vals.map (fun v => (v.1, decodeNum .fp32 v.2)))
    (s.raiseConverted core 3 t tile c.flags).putUpdated i l core t tile c.rung (s.tileWrites t tile c) c.counts
  else
    let r := s.stateTile i t tile marked
    let s1 := (s.raiseConverted core 3 t tile r.1.flags).putUpdated i l core t tile r.1.rung (s.tileWrites t tile r.1) r.1.counts
    if r.2 then s1.set Reg.NUM_UPD_STATUS.POISON_KEPT 1 else s1

/-- UPD_MASKED once per weight tensor and step, when the last update tile of the tensor has run (R178). -/
def State.reportMasked (s : State) (p : Passage) : State :=
  let legs := p.legs.zipIdx.filter (fun x => x.1.kind == 5)
  s.role.update.frozen.foldl (fun t x =>
    let mine := legs.filter (fun y => (p.writes y.1).contains x.1)
    let strict := mine.any (fun y => ((p.programs[y.1.op]?).map Program.strict).getD false)
    let whole := mine.all (fun y => (List.range y.1.tileCount).all (fun j => s.role.update.done.contains (y.2, y.1.firstTile + j)))
    let last := (s.role.update.done.head?.bind (fun d => mine.find? (fun y => y.2 == d.1))).isSome
    if strict && whole && last && decide (x.2 ≠ 0) then t.post Ev.updMasked [x.1, x.2] else t) s

/-- The update program over one element tile. A tile of which nothing is written is not read (R177). With masks of several WEIGHT
streams each weight keeps to its own; an element that any of them freezes keeps its STATE values and is counted once (DESIGN CHOICE,
log 107). -/
def State.updateTile (s : State) (p : Passage) (i : Nat) (l : Leg) (core tile : Nat) (g : Program) (entry : List Nat) : State :=
  let u := s.role.update
  let outs := (List.range 4).filterMap (fun j => if bitAt g.outMask j then s.slotTensor l true j else none)
  let elems := ((outs.head?.map (fun o => o.2.rows * o.2.cols)).getD 0)
  let here := List.range (min 4096 (elems - 4096 * tile))
  let again := u.done.contains (i, tile)
  let froze := (here.filter (fun e => s.frozen i l none elems (4096 * tile + e))).length
  let s1 := (s.startTile i).bump Reg.NUM_UPD_MASKED_COUNT.COUNT (if again then 0 else froze)
  let idle := outs.all (fun o => here.all (fun e => s.frozen i l (if o.1.role = 1 then s.weightSlot l o.2 else none) elems (4096 * tile + e)))
  let s2 := if idle ∧ here ≠ [] then
      outs.foldl (fun t o =>
        let hi := s.highHalf o.2
        let t1 := t.mapRole (fun r => { r with inFlight := r.inFlight ++ [(hi.id, tile, Partial.zero)] })
        if o.1.role = 1 then t1.countFrozen i tile hi here.length else t1) s1
    else
      let scalars := entry ++ [u.clip, u.norm32]
      let runs := here.map (fun e => (e, g.run .fp32 scalars ((List.range 16).map (fun k =>
        if k < 8 ∧ bitAt g.inMask k = true then s.updateInput i l u.clip k (4096 * tile + e) else fv 0))))
      let t1 := s1.raiseTileFlags core 3 ((runs.filter (fun x => decide (x.2.flags ≠ Flags.none))).map (fun x => (x.1, x.2.flags)))
        ((outs.head?.map (fun o => o.2.id)).getD l.y) tile s.role.step
      (outs.foldl (fun t o =>
        let vals := runs.filterMap (fun x => (x.2.outs.find? (fun y => y.1 == o.1.slot)).map (fun y => (x.1, y.2.2)))
        if o.1.role = 1 then t.putWeight i l core o.2 tile elems vals else t.putState i l core o.2 tile elems vals) t1).bump
        (Reg.NUM_UV_ISSUE.U core) (g.code.length * ceilDiv here.length 64)
  let s3 := if again then s2 else (s2.mapUpdate (fun v => { v with done := (i, tile) :: v.done })).reportMasked p
  s3.returnInputs i

/-- Pass 2 may write: GRADIENT_CLOSE has completed, the entry applies, and a mirroring partner holds the closing part (R182 to
R184, R316). -/
def State.pass2Open (s : State) : Bool :=
  s.working && s.role.closed && s.role.update.combined && !s.role.update.skip && s.role.update.entry.isSome
    && !s.role.discardMark && (!s.shipping || s.twin.ackedClosing == some s.role.step)

/-- Pass 2 over the next element tile of a core's update legs, in passage order (R238). -/
def State.pass2 (s : State) (i tile : Nat) : State :=
  match s.legAt i, s.role.passage with
  | some (l, r), some p =>
    if l.kind ≠ 5 then s
    else if s.working && s.role.closed && s.role.update.combined && !s.role.update.skip && s.role.update.entry.isNone
        && !s.role.update.stalePosted && s.flag Reg.CAP_RUN.HOST_WAIT == false then s.readEntry
    else
      let core := r.core.getD 0
      let first := (s.unitLegs core .u).find? (fun x => x.2.2.more x.2.1)
      if s.pass2Open && !s.skipsIssue core && decide (first.map (fun x => x.1) = some i) && decide (l.nextTile r = tile) then
        if s.legReady i && s.outputsFree core i l (s.outputsOf l).length then
          match p.programs[l.op]?, s.role.update.entry with
          | some g, some e => s.updateTile p i l core tile g e
          | _, _ => s
        else s.readOn i
      else s
  | _, _ => s

/-! ### Meanings -/

/-- UPDATE_PASS_1 (R180). -/
def execUpdatePass1 (r : RoleSel) (leg : BitVec 20) (tile : W32) (s : State) : Host.Outcome State Fault Refusal :=
  .next (s.asRole r (fun t => t.pass1 leg.toNat tile.toNat))

/-- UPDATE_PASS_2 (R183). -/
def execUpdatePass2 (r : RoleSel) (leg : BitVec 20) (tile : W32) (s : State) : Host.Outcome State Fault Refusal :=
  .next (s.asRole r (fun t => t.pass2 leg.toNat tile.toNat))

/-- PARAM_ENTRY_REREAD (R184): while pass 2 is held for its entry. -/
def execParamEntryReread (r : RoleSel) (s : State) : Host.Outcome State Fault Refusal :=
  .next (s.asRole r (fun t =>
    if t.working && t.role.closed && t.role.update.entry.isNone && t.role.update.stalePosted then t.readEntry else t))

end Sys2Proof.Machine
end

