-- ==== Sys2Proof/Machine/Snapshot.lean ====
section
/-! DEFINITION. Snapshot: pending marks, the shipper, the image at the destination, and its end (spec/05_vector_and_update.md
R185 to R188). -/

namespace Sys2Proof.Machine

/-! ### The image (Table 5-10) -/

/-- Element tiles of a tensor. -/
def State.snapTiles (s : State) (id : Nat) : Nat := ((s.tensor? id).map Tensor.tiles).getD 0

/-- The first image tile of each named tensor, in ascending ID. -/
def State.snapFirst (s : State) (x : SnapRun) (id : Nat) : Nat :=
  ((x.tensors.filter (fun t => decide (t < id))).map s.snapTiles).foldl (· + ·) 0

/-- Tiles of the image. -/
def State.snapTotal (s : State) (x : SnapRun) : Nat := (x.tensors.map s.snapTiles).foldl (· + ·) 0

/-- The offset of the first tile: the first 8 KiB boundary after the table. -/
def SnapRun.tilesAt (x : SnapRun) : Nat := ceilDiv (64 + 16 * x.tensors.length) 8192 * 8192

/-- Header and table of the image. -/
def State.snapHead (s : State) (x : SnapRun) : List Byte :=
  leBytes 8 x.boundary ++ leBytes 8 x.passageId ++ leBytes 4 x.tensors.length ++ leBytes 4 (s.snapTotal x)
    ++ List.replicate 40 0
    ++ x.tensors.flatMap (fun id =>
      let n := s.snapTiles id
      let elems := ((s.tensor? id).map (fun t => t.rows * t.cols)).getD 0
      leBytes 2 id ++ leBytes 2 (elems - 4096 * (n - 1)) ++ leBytes 4 (s.snapFirst x id) ++ leBytes 4 n ++ leBytes 4 0)

/-- Write bytes of the image at its destination: host memory, or a fabric peer (R185). -/
def State.snapWrite (s : State) (x : SnapRun) (off : Nat) (bs : List Byte) : State :=
  match x.node with
  | none => s.emit (.hostWrite (x.dest + off) bs)
  | some n => s.sendWrites n (x.dest + off) 0xFFF bs

/-! ### Pending tiles (R186) -/

/-- The mark of a tile. -/
def State.markAt (s : State) (tensor tile : Nat) : Nat :=
  match s.entryOf tensor tile with
  | some x => s.mark (x.2.markOf tile)
  | none => 0

/-- A tile is pending for Snapshot. -/
def State.isPending (s : State) (tensor tile : Nat) : Bool := decide (s.markAt tensor tile / 4 % 2 = 1)

/-- Tiles still to be shipped, in ascending tensor ID and tile index. -/
def State.pendingTiles (s : State) (x : SnapRun) : List (Nat × Nat) :=
  x.tensors.flatMap (fun id => ((List.range (s.snapTiles id)).filter (s.isPending id)).map (fun k => (id, k)))

/-- Show how many tiles are left. -/
def State.showLeft (s : State) : State :=
  match s.snap with
  | some x => s.set Reg.NUM_SNAP_STATUS.TILES_LEFT (if x.marked then (s.pendingTiles x).length else s.snapTotal x)
  | none => s.set Reg.NUM_SNAP_STATUS.TILES_LEFT 0

/-- Mark every element tile of the named high halves pending, at the commit of the boundary step (R186). -/
def State.markSnapshot (s : State) (step : Nat) : State :=
  match s.snap with
  | none => s
  | some x =>
    if x.marked || s.role.carried || decide (x.boundary ≠ step) then s
    else
      let tiles := x.tensors.flatMap (fun id => (List.range (s.snapTiles id)).map (fun k => (id, k)))
      let s1 := tiles.foldl (fun t y => match t.entryOf y.1 y.2 with
        | some e =>
          let j := e.2.markOf y.2
          (t.setMark j (t.mark j % 4 + 4)).mapEntry e.1 (fun c => { c with pending := true })
        | none => t) s
      { s1 with snap := some { x with marked := true } }.showLeft

/-- Clear a tile's pending and copied bits, and PENDING of an entry without a pending tile. -/
def State.clearPending (s : State) (tensor tile : Nat) : State :=
  match s.entryOf tensor tile with
  | none => s
  | some (i, e) =>
    let j := e.markOf tile
    let s1 := s.setMark j (s.mark j % 4)
    let left := (List.range e.tiles).any (fun k => decide (s1.mark (e.markBase + k) / 4 % 2 = 1))
    if left then s1 else s1.mapEntry i (fun c => { c with pending := false })

/-- The snapshot ends: every pending mark is cleared and the reserve released (R188). -/
def State.endSnapshot (s : State) : State :=
  match s.snap with
  | none => s
  | some x =>
    let s1 := (s.pendingTiles x).foldl (fun t y => t.clearPending y.1 y.2) s
    ({ s1 with snap := none }.set Reg.NUM_SNAP_STATUS.ACTIVE 0).set Reg.NUM_SNAP_STATUS.TILES_LEFT 0

/-- The snapshot fails with a cause (R188, R191). -/
def State.failSnapshot (s : State) (cause : Nat) : State :=
  match s.snap with
  | none => s
  | some _ => (s.asOwn State.endSnapshot).post Ev.snapshotFailed [cause]

/-- Packets that this module has sent are lost where no resend recovers them: the snapshot whose image one of them carries fails with
cause 3 (R188, R191). The spec does not say which fabric errors a link cannot recover: DEDUCED, packets dropped with a port that
goes DOWN, and a packet that this module's router drops (log 111). -/
def State.snapshotDropped (s : State) (ps : List Packet) : State :=
  match s.snap with
  | none => s
  | some x =>
    let last := x.dest + x.tilesAt + 8196 * s.snapTotal x + 8192
    if ps.any (fun p => p.ptype == 0 && p.src.toNat == s.nodeId && x.node == some p.dest.toNat && p.knot == 0xFFF
        && decide (x.dest ≤ p.addr.toNat) && decide (p.addr.toNat < last)) then s.failSnapshot 3
    else s

/-! ### The shipper -/

/-- Send one tile of the image; the header and the table go with the first. -/
def State.sendSnapTile (s : State) (x : SnapRun) (tensor tile : Nat) (bytes : List Byte) : State :=
  let n := s.snapFirst x tensor + tile
  let data := sliceBytes bytes 0 8192
  let s1 := if x.crcs = [] then s.snapWrite x 0 (s.snapHead x) else s
  let s2 := s1.snapWrite x (x.tilesAt + 8192 * n) data
  { s2 with snap := s2.snap.map (fun y => { y with crcs := y.crcs ++ [(n, BitVec.ofNat 32 (crc32c data))] }) }

/-- The trailer: the CRC-32C of each tile in tile order, once every tile has gone. -/
def State.sendTrailer (s : State) : State :=
  match s.snap with
  | none => s
  | some x =>
    if x.marked && !x.trailer && decide (x.crcs.length = s.snapTotal x) then
      let sorted := x.crcs.ordered (fun a b => a.1 ≤ b.1)
      let s1 := s.snapWrite x (x.tilesAt + 8192 * s.snapTotal x) (sorted.flatMap (fun c => leBytes 4 c.2.toNat))
      { s1 with snap := some { x with trailer := true } }
    else s

/-- The destination can be reached now. -/
def State.snapReady (s : State) (x : SnapRun) : Bool := x.node.isSome || s.trafficOk

/-- Ship the next tile: a copy in the reserve first, else the lowest pending tile (R186). -/
def State.shipTile (s : State) : State :=
  match s.snap with
  | none => s
  | some x =>
    if !x.marked || !s.snapReady x then s
    else match x.reserve with
      | c :: rest =>
        let s1 : State := { s with snap := some { x with reserve := rest, waiting := x.waiting + 1 } }
        (((s1.sendSnapTile x c.1 c.2.1 c.2.2).clearPending c.1 c.2.1).sendTrailer).showLeft
      | [] => match (s.pendingTiles x).head? with
        | some (id, k) =>
          let bytes := match s.home id k with
            | some h => s.readBytes h.2.2 8192
            | none => []
          (((s.sendSnapTile x id k bytes).clearPending id k).sendTrailer).showLeft
        | none => s.sendTrailer

/-- The footer, last and behind all the data (R187): a peer has acknowledged every write. -/
def State.sendFooter (s : State) : State :=
  match s.snap with
  | none => s
  | some x =>
    let settled := match x.node with
      | some n => decide (sparseGet 0 n s.fab.unacked = 0)
      | none => true
    if x.trailer && settled && s.snapReady x then
      let total := s.snapTotal x
      let at_ := x.tilesAt + 8192 * total + 4 * total
      ((s.snapWrite x at_ (leBytes 8 x.boundary ++ leBytes 8 1)).endSnapshot).post Ev.snapshotDone [x.boundary]
    else s

/-! ### Meanings -/

/-- SNAPSHOT_SHIP_TILE (R186). -/
def execSnapshotShipTile (s : State) : Host.Outcome State Fault Refusal := .next s.shipTile

/-- RESERVE_SLOT_FREED (R186): a sent copy's slot is free, so a waiting writer can proceed. -/
def execReserveSlotFreed (s : State) : Host.Outcome State Fault Refusal :=
  .next { s with snap := s.snap.map (fun x => { x with waiting := x.waiting - 1 }) }

/-- SNAPSHOT_FOOTER (R187). -/
def execSnapshotFooter (s : State) : Host.Outcome State Fault Refusal := .next s.sendFooter

end Sys2Proof.Machine
end

