-- ==== Sys2Proof/Machine/Links.lean ====
section
/-! DEFINITION. The ports and the module's sighting record, as far as other units act on them: a port that goes DOWN, the pruning
of the routes, and the loss of the twin link (spec/09_fabric_and_twin.md R295, R302, R308, R320). -/

namespace Sys2Proof.Machine

/-! ### Ports -/

/-- The port lies in a fitted, powered, enabled unit that is not retired. -/
def State.portUsable (s : State) (p : Nat) : Bool :=
  (s.regionState 38 == 3 || s.regionState 38 == 4)
    && (if p = 16 then s.part.variant.hasTwin && !s.isRetired (unitCode 8 0)
        else decide (s.cfg Reg.FAB_CFG.PORT_ENABLE / 2 ^ p % 2 = 1) && !s.isRetired (unitCode 7 p))

/-- STATE of a port, shown in its window. -/
def State.setPortState (s : State) (p n : Nat) : State :=
  (s.setPort p { s.port p with state := n }).set (portField Reg.FAB_PORT_STATUS.STATE p) n

/-- Set or clear a port's bit in a field of FAB_STATUS. -/
def State.setPortBit (s : State) (f : Field) (p : Nat) (b : Bool) : State :=
  if p = 16 then s
  else
    let v := s.get f
    if decide (v / 2 ^ p % 2 = 1) = b then s else s.set f (if b then v + 2 ^ p else v - 2 ^ p)

/-- Ports that are UP. -/
def State.portsUp (s : State) : List Nat := (List.range 16).filter (fun p => (s.port p).state == 5)

/-! ### The module's own record (R302, Table 9-5) -/

/-- The module claims the lost node ID as the replacement of a handover (Table 9-10 step 3). -/
def State.claimsId (s : State) : Bool := s.twin.state == 9 && s.dev == DevState.ready

/-- The module's own sighting record as it stands; a pinned module carries the ID it claims. -/
def State.ownRecord (s : State) : SightRecord where
  uid := s.part.uid
  seq := s.fab.seq
  variant := BitVec.ofNat 16 s.part.variant.code
  handover := s.claimsId
  aka := if s.flag Reg.FAB_NODE.ALIAS_VALID then some (BitVec.ofNat 14 (s.get Reg.FAB_NODE.ALIAS)) else none
  pinned := s.flag Reg.FAB_NODE.PIN_EN
  nodeId :=
    if s.flag Reg.FAB_NODE.PIN_EN && !s.claimsId then some (BitVec.ofNat 14 (s.get Reg.FAB_NODE.PIN_ID))
    else if s.flag Reg.FAB_NODE.VALID then some (BitVec.ofNat 14 (s.get Reg.FAB_NODE.NODE_ID)) else none
  twinUid := if s.twin.paired then s.twin.partnerUid else 0
  peers := (List.range 16).map (fun p => s.rd (Reg.FAB_PORT_PEER.UID p).reg)

/-- Send a sighting record on every up port but one. -/
def State.floodRecord (s : State) (r : SightRecord) (except : Option Nat) : State :=
  (s.portsUp.filter (fun p => except != some p)).foldl (fun t p => t.emit (.sight p (.record r))) s

/-- Put a record into the database, refreshed now. -/
def State.storeRecord (s : State) (r : SightRecord) : State :=
  let s1 : State := { s with fab := { s.fab with
    database := s.fab.database.filter (fun d => d.record.uid != r.uid) ++ [⟨r, false⟩] } }
  s1.set Reg.FAB_STATUS.MODULES (min 16384 s1.fab.database.length)

/-- A record has changed: sighting is no longer quiet (R303). -/
def State.flooding (s : State) : State :=
  { s with fab := { s.fab with quiet := false } }.set Reg.FAB_STATUS.SIGHTING 1

/-- The module's record changes: SEQ rises, the database takes it, and it is flooded (R302). -/
def State.recordChanged (s : State) : State :=
  let s1 : State := { s with fab := { s.fab with seq := s.fab.seq + 1 } }
  let r := s1.ownRecord
  (s1.storeRecord r).flooding.floodRecord r none

/-! ### A port goes DOWN (R295, R308) -/

/-- A route entry without a port. -/
def pruneEntry (w : W64) (p : Nat) : W64 :=
  let n := w.toNat
  let ports := if n / 2 ^ p % 2 = 1 then n - 2 ^ p else n
  if bitAt n 52 ∧ bitsOf n 51 48 = p then BitVec.ofNat 64 (ports - 2 ^ 52) else BitVec.ofNat 64 ports

/-- Keys of the active table that hold an entry. -/
def State.routeKeys (s : State) : List Nat :=
  (s.regs.map Prod.fst).filter (fun k => decide (0x1810000 ≤ k ∧ k < 0x1830000))

/-- Hardware removes a port from every entry of the active table (R308). -/
def State.pruneRoutes (s : State) (p : Nat) : State :=
  s.routeKeys.foldl (fun t k => t.wr k (pruneEntry (t.rd k) p)) s

/-- Nothing of a link is left in its registers. -/
def State.clearPort (s : State) (p : Nat) : State :=
  let s1 := ((s.set (portField Reg.FAB_PORT_STATUS.WIDTH p) 0).set (portField Reg.FAB_PORT_STATUS.REVERSED p) 0).set
    (portField Reg.FAB_PORT_STATUS.POLARITY p) 0
  let s2 := s1.wr (portField Reg.FAB_PORT_PEER.UID p).reg 0
  (s2.setPortBit Reg.FAB_STATUS.PORTS_UP p false).setPortBit Reg.FAB_STATUS.PORTS_DEGRADED p false

/-- The twin link is lost: heartbeats and mirror traffic go over the fabric (R320). -/
def State.twinPathLost (s : State) : State :=
  if !s.twin.paired || s.flag Reg.TWN_STATUS.PATH then s
  else
    let t : State := { s with fab := { s.fab with router := s.fab.router ++ s.fab.twinQueue, twinQueue := [] } }
    let s1 := ((t.set Reg.TWN_STATUS.PATH 1).bump Reg.TWN_COUNT.PATH_CHANGES 1).post Ev.twinLinkLost []
    s1.sendTwin (.heartbeat (s1.flag Reg.TWN_STATUS.MIRROR_VALID) s1.isArmed)

/-- A port goes DOWN and stays so for FLAP_HOLD: its packets are dropped, the routes are pruned, LINK_DOWN is posted and the
changed record is flooded. `hold` is the state it is kept in. -/
def State.portDown (s : State) (p hold : Nat) : State :=
  let q := s.port p
  let s0 : State := if p = 16 then { s with fab := { s.fab with twinQueue := [] } } else s
  let s1 := s0.setPort p { q with
    aligned := false, unacked := [], nakSending := false, failures := 0, retraining := false, credits := [] }
  let s2 := ((s1.setPortState p hold).clearPort p).bump (portField Reg.FAB_PORT_RETRY.DOWNS p) 1
  let s3 := (s2.post Ev.linkDown [p]).snapshotDropped (q.unacked.flatMap Prod.snd)
  if p = 16 then s3.twinPathLost else (s3.pruneRoutes p).recordChanged

/-- A port goes DOWN by R295. -/
def State.portLost (s : State) (p : Nat) : State :=
  s.portDown p (if s.cfg Reg.FAB_CFG.FLAP_HOLD = 0 then 1 else 6)

/-- Ports that PORT_ENABLE no longer allows are DISABLED, and ports it allows again may train (Table 9-14). -/
def State.applyPortEnable (s : State) : State :=
  (List.range 16).foldl (fun t p =>
    let up := (t.port p).state
    if t.portUsable p then (if up = 0 then t.setPortState p 2 else t)
    else if up = 0 then t
    else if up = 5 ∨ up = 4 then t.portDown p 0
    else ((t.setPort p { t.port p with loopback := false }).setPortState p 0).clearPort p) s

/-- With hub.q2 every port and the twin link lose their supply (R25). -/
def State.portsOff (s : State) : State :=
  (List.range 17).foldl (fun t p => (t.setPort p Port.down).setPortState p 0 |>.clearPort p) s

end Sys2Proof.Machine
end

