-- ==== Sys2Proof/Machine/Assign.lean ====
section
/-! DEFINITION. Step start and the Navigator's assignment: bands and rotation, legs to cores, cluster-store homes and
replicas, leads and pools (spec/06_memory_and_placement.md R201, R211 to R216, R220, R225; spec/07_passages.md R248, R251;
spec/04_precision_control.md R131, R139, R140, R148). -/

namespace Sys2Proof.Machine

/-! ### Bands and rotation (R211, R212) -/

/-- The band that a step start gives a cluster: by its hottest sensor, one higher, up to 3, while its region runs on its neighbours. It
stands in HELM_CL_STATUS until the next step start (R211, Table 6-11). -/
def State.band (s : State) (c : Nat) : Nat :=
  let t := s.hottestOf (clusterSensors c)
  let b := if t < 600 then 0 else if t < 680 then 1 else if t < 736 then 2 else 3
  let ok := (List.range 8).filter (fun i => decide (s.get (Reg.HELM_RGN_STATUS.PHASES_OK c) / 2 ^ i % 2 = 1))
  if ok.length + 1 = s.part.variant.phasesFitted c then min 3 (b + 1) else b

/-- r of the rotation: it stays 0 where the host places (R225). -/
def State.rotationNow (s : State) : Nat :=
  let period := s.cfg Reg.CHT_CFG.ROTATE_PERIOD
  if period = 0 ∨ s.flag Reg.CAP_DUTY_MODE.PLACEMENT = true then 0 else s.role.step / period

/-- Clusters of a die with a usable core, ascending. -/
def State.dieClusters (s : State) (d : Nat) : List Nat := ((s.dieCores d).map s.clusterOf).eraseDups.ordered (· ≤ ·)

/-- The place of a core in the order in which legs are dealt, where `cl` lists the clusters of its die: by the band of the last step
start, by rotated cluster position, by logical ID. -/
def State.corePlace (s : State) (cl : List Nat) (r n : Nat) : Nat :=
  let q := max cl.length 1
  let c := s.clusterOf n
  let pos := (cl.takeWhile (· != c)).length
  (s.get (Reg.HELM_CL_STATUS.BAND c) * 64 + (pos + (q - r % q)) % q) * 65536 + n

/-- The usable cores of a die in the order in which legs are dealt. -/
def State.coreOrder (s : State) (d r : Nat) : List Nat :=
  let cl := s.dieClusters d
  (s.dieCores d).ordered (fun a b => s.corePlace cl r a ≤ s.corePlace cl r b)

/-! ### Legs to cores (R212) -/

/-- The die whose stack homes the first tile of a leg's first inbound stream. -/
def State.homeDie (s : State) (l : Leg) : Option Nat :=
  ((inboundSlots (s.streamsOf l)).head?).bind (fun x =>
    (s.home x.1.tensor x.1.firstTile).bind (fun h => if h.2.1.tier = 1 then some (addrStack h.2.2 / 2) else none))

/-- The present die with the fewest legs so far, the lowest on a tie. -/
def State.leastDie (s : State) (counts : List (Nat × Nat)) : Nat :=
  let ds := s.presentDies
  (ds.foldl (fun (best : Option (Nat × Nat)) d =>
    let n := sparseGet 0 d counts
    match best with
    | none => some (d, n)
    | some b => if n < b.2 then some (d, n) else some b) none).map Prod.fst |>.getD 0

/-- The die itself or the next one in the ring with a usable core. -/
def State.ringDie (s : State) (d : Nat) : Option Nat :=
  ((List.range 4).map (fun k => (d + k) % 4)).find? (fun e => !(s.dieCores e).isEmpty)

/-- The assignment of R212: one logical core for each leg, in passage order. -/
def State.assignCores (s : State) (p : Passage) : List (Option Nat) :=
  let r := s.rotationNow
  let orders := (List.range 4).map (fun d => s.coreOrder d r)
  (p.legs.foldl (fun (acc : List (Nat × Nat) × List (Option Nat)) l =>
    match s.ringDie ((s.homeDie l).getD (s.leastDie acc.1)) with
    | none => (acc.1, none :: acc.2)
    | some d =>
      let n := sparseGet 0 d acc.1
      let cores := orders.getD d []
      (sparsePut 0 d (n + 1) acc.1, cores[n % max cores.length 1]? :: acc.2)) ([], [])).2.reverse

/-- In host-assisted placement the host's map places the legs, and a leg whose core is not usable is held (R225). -/
def State.mappedCores (s : State) (p : Passage) : List (Option Nat) :=
  (List.range p.legs.length).map (fun i =>
    match p.hostmap[i]? with
    | some c => if s.logicalUsable c then some c else none
    | none => none)

/-- A leg reads a tile of a Chart entry. -/
def Passage.readsEntry (p : Passage) (l : Leg) (e : ChartEntry) : Bool :=
  (p.streamsOf l).any (fun st => !st.outbound && decide (st.tensor = e.tensor)
    && st.tiles.any (fun k => decide (e.first ≤ k) && decide (k < e.first + e.tiles)))

/-- A leg writes a tile of a Chart entry. -/
def Passage.writesEntry (p : Passage) (l : Leg) (e : ChartEntry) : Bool :=
  (List.range e.tiles).any (fun k => p.writesTile l e.tensor (e.first + k))

/-- A leg reads data that are lost, so it is not placed (R219). -/
def State.readsLost (s : State) (p : Passage) (l : Leg) : Bool :=
  s.chart.entries.any (fun x => decide (x.2.state = 7) && p.readsEntry l x.2)

/-! ### Leads and pools (R201, R251) -/

/-- The allowance of Table 6-3 in ns for a tile's home and the die that reads it. -/
def allowance (e : ChartEntry) (die : Nat) : Nat :=
  match e.tier with
  | 0 => 100
  | 1 => if addrStack e.addr / 2 = die then 250 else 400
  | 2 => 3000
  | 3 => 8000
  | _ => 5000

/-- Issue cycles of a consumer for one tile: a product's by R95, a program's and a composite's by Table 5-1, a copy's by the rates of R108,
and 64 for any other unit, which takes 4,096 elements at 64 a cycle. -/
def State.tileCycles (s : State) (i : Nat) (l : Leg) : Nat :=
  let program := s.role.passage.bind (fun p => p.programs[l.op]?)
  let source := ((s.tensor? l.a).map Tensor.slotBytes).getD 4096
  match l.kind with
  | 0 | 1 | 2 => s.declaredCycles l
  | 3 => (program.map (fun g => g.vCycles 4096)).getD 64
  | 4 => let c := s.composite i l; c.cycles (decide (l.rowChunk ≠ 0)) 4096 (ceilDiv 4096 (max 1 c.len))
  | 5 => (program.map (fun g => 64 * g.code.length)).getD 64
  | 6 => ceilDiv source 256
  | 7 | 8 => ceilDiv source 128
  | _ => 64

/-- Tiles of a stream that fit in the ring space the passage gives it (R106, R201). -/
def State.ringFit (s : State) (st : Stream) : Nat :=
  st.ringKib * 1024 / max 1 (((s.tensor? st.tensor).map Tensor.slotBytes).getD 4096)

/-- The lead of an inbound stream without a depth of its own (R201). -/
def State.lead (s : State) (i : Nat) (l : Leg) (st : Stream) (core : Nat) : Nat :=
  match s.entryOf st.tensor st.firstTile with
  | none => 2
  | some (_, e) =>
    let t := max 1 (s.tileCycles i l)
    min (s.ringFit st) (max 2 (ceilDiv (3 * allowance e (s.dieOf core)) (2 * t) + 1))

/-- The pool of a stream's credits (Table 7-11). -/
def State.streamPool (s : State) (i : Nat) (l : Leg) (st : Stream) (core : Nat) : Nat :=
  if st.chunkIn then max st.ringTiles (l.chunkCount - 1)
  else if st.hold && !st.outbound then st.tileCount
  else if st.ringTiles ≠ 0 then st.ringTiles
  else if st.outbound then max 1 (s.ringFit st)
  else s.lead i l st core

/-- A stream at the start of its leg. -/
def StreamRun.start (pool : Nat) : StreamRun where
  asked := 0
  landed := []
  posted := 0
  tokens := 0
  credits := pool
  taken := 0
  passed := 0
  pool := pool
  sources := []

/-- A leg at the start of the step. -/
def State.startLeg (s : State) (i : Nat) (l : Leg) (core : Option Nat) (position : Nat) : LegRun where
  core := core
  position := position
  started := 0
  redo := []
  committed := []
  finished := false
  signalled := false
  streams := (s.streamsOf l).map (fun st => StreamRun.start (s.streamPool i l st (core.getD 0)))

/-- Legs in their units' queues, counted in the order in which the Navigator enters them (R250). -/
def State.queueLegs (s : State) (p : Passage) (cores : List (Option Nat)) : List (Nat × LegRun) :=
  let go := (p.legs.zip cores).zipIdx.foldl (fun (acc : List ((Nat × Engine) × Nat) × List (Nat × LegRun)) x =>
    let l := x.1.1
    let core := if s.readsLost p l then none else x.1.2
    match core with
    | none => (acc.1, (x.2, s.startLeg x.2 l none 0) :: acc.2)
    | some c =>
      let key := (c, l.engine)
      let n := ((acc.1.find? (fun y => y.1 == key)).map Prod.snd).getD 0
      ((key, n + 1) :: acc.1.filter (fun y => y.1 != key), (x.2, s.startLeg x.2 l (some c) n) :: acc.2)) ([], [])
  go.2.reverse

/-! ### Cluster-store homes and replicas (R213, R214) -/

/-- Base of a cluster's store, and the bytes of it that can be used (Table 6-1). -/
def storeBase (c : Nat) : Nat := 0x10000000000 + c * 0x1000000

/-- Usable bytes of a cluster store. -/
def storeSize : Nat := 12 * 2 ^ 20

/-- Offsets in use in a cluster's store: homes and replicas. -/
def State.storeHeld (s : State) (c : Nat) : List (Nat × Nat) :=
  s.chart.entries.filterMap (fun x =>
    if x.2.tier = 0 ∧ x.2.state ≠ 0 ∧ storeBase c ≤ x.2.addr ∧ x.2.addr < storeBase c + storeSize then
      some (x.2.addr - storeBase c, x.2.bytes)
    else if x.2.replicas / 2 ^ c % 2 = 1 then some (256 * x.2.aux, x.2.bytes)
    else none)

/-- Clusters whose cores run the legs that a test admits. -/
def State.clustersOfLegs (s : State) (p : Passage) (ok : Leg → Bool) : List Nat :=
  (s.role.legs.filterMap (fun x => (p.leg? x.1).bind (fun l => if ok l then x.2.core.map s.clusterOf else none))).eraseDups

/-- Home a LOCAL entry in the store of the one cluster that writes and reads it, when there is room; its HBM4E reservation stays. -/
def State.homeLocal (s : State) (p : Passage) (i : Nat) : State :=
  let e := s.entry i
  match s.clustersOfLegs p (fun l => p.readsEntry l e || p.writesEntry l e) with
  | [c] =>
    match firstFit (s.storeHeld c) 0 storeSize 256 e.bytes with
    | some off =>
      let s1 := s.setEntry i { e with tier := 0, addr := storeBase c + off }
      { s1 with chart := { s1.chart with keptHomes := s1.chart.keptHomes ++ [(i, e.addr)] } }
    | none => s
  | _ => s

/-- LOCAL entries of the passage, in passage order: by the first leg that writes or reads them. -/
def State.localEntries (s : State) (p : Passage) : List Nat :=
  let mine := s.chart.entries.filter (fun x => x.2.isLocal && decide (x.2.tier = 1) && decide (x.2.state ≠ 7)
    && (p.tensor? x.2.tensor).isSome)
  let first := fun (e : ChartEntry) =>
    ((p.legs.zipIdx.find? (fun y => p.writesEntry y.1 e || p.readsEntry y.1 e)).map Prod.snd).getD p.legs.length
  ((mine.map (fun x => (first x.2, x.1))).ordered (fun a b => a.1 ≤ b.1)).map Prod.snd

/-- A home in a cluster store whose writers and readers no longer all run in its cluster goes back to HBM4E (R205). -/
def State.moveHomes (s : State) : State :=
  match s.role.passage with
  | none => s
  | some p => (s.chart.keptHomes.map Prod.fst).foldl (fun t i =>
      let e := t.entry i
      if (p.tensor? e.tensor).isSome && decide (e.tier = 0) && (t.clustersOfLegs p (fun l => p.readsEntry l e || p.writesEntry l e)).any
          (fun c => e.addr < storeBase c || storeBase c + storeSize ≤ e.addr) then t.startMove i
      else t) s

/-- Clusters that are to hold a replica of an entry (R213). -/
def State.replicaClusters (s : State) (p : Passage) (e : ChartEntry) : List Nat :=
  let die := addrStack e.addr / 2
  let cs := (s.clustersOfLegs p (fun l => p.readsEntry l e)).filter (fun c => c / 8 == die)
  let last := ((p.legs.zipIdx.filter (fun x => p.readsEntry x.1 e)).map Prod.snd).foldl max 0
  let written := (p.legs.take last).any (fun l => p.writesEntry l e)
  if (e.kind = 0 ∨ e.kind = 6) ∧ e.tier = 1 ∧ (e.state = 1 ∨ e.state = 2) ∧ s.cfg Reg.CHT_CFG.REPLICATE_EN = 1
      ∧ s.cfg Reg.CHT_CFG.REPLICATE_HEAT ≤ e.heat ∧ 2 ≤ cs.length ∧ written = false then cs else []

/-- Give an entry its replicas, at one offset common to their stores. -/
def State.replicate (s : State) (p : Passage) (i : Nat) : State :=
  let e := s.entry i
  let cs := s.replicaClusters p e
  if cs = [] then s
  else match firstFit (cs.flatMap s.storeHeld) 0 storeSize 256 e.bytes with
    | some off => s.setEntry i { e with aux := off / 256, replicas := (cs.map (2 ^ ·)).foldl (· + ·) 0 }
    | none => s

/-- Replicas in descending HEAT. -/
def State.replicaOrder (s : State) (p : Passage) : List Nat :=
  ((s.chart.entries.filter (fun x => (p.tensor? x.2.tensor).isSome)).ordered (fun a b => b.2.heat ≤ a.2.heat)).map Prod.fst

/-- Cluster-store homes return to HBM4E and the replicas of the passage are dropped (R214). -/
def State.releaseHomes (s0 : State) (p : Passage) : State :=
  let s := s0.endMoves
  let mine := fun (i : Nat) => (p.tensor? (s.entry i).tensor).isSome
  let s1 := (s.chart.keptHomes.filter (fun k => mine k.1)).foldl (fun t k =>
    t.mapEntry k.1 (fun e => { e with tier := 1, addr := k.2 })) s
  let s2 := (s1.chart.entries.filter (fun x => decide (x.2.replicas ≠ 0) && (p.tensor? x.2.tensor).isSome)).foldl (fun t x =>
    t.mapEntry x.1 (fun e => { e with replicas := 0, aux := 0 })) s1
  { s2 with chart := { s2.chart with
    keptHomes := s2.chart.keptHomes.filter (fun k => !mine k.1)
    landedReplicas := s2.chart.landedReplicas.filter (fun x => !mine x.1) } }

/-- A DMA engine lands the replica of an entry in a cluster's store (R213). -/
def State.copyReplica (s : State) (i c : Nat) : State :=
  let e := s.entry i
  if e.replicas / 2 ^ c % 2 = 1 ∧ s.chart.landedReplicas.contains (i, c) = false ∧ e.tier = 1 then
    let bytes := s.readBytes e.addr e.bytes
    let s1 := s.store (storeBase c + 256 * e.aux) bytes
    { s1 with chart := { s1.chart with landedReplicas := s1.chart.landedReplicas ++ [(i, c)] } }
  else s

/-! ### Work lost with a placement (R220, R221) -/

/-- PLACEMENT_FAILED: the module is to stop at its next Rendezvous in HELD (R221). It is posted once until then. -/
def State.placementFailed (s : State) (unit : Nat) : State :=
  if s.role.placeFailed then s else (s.mapRole (fun r => { r with placeFailed := true })).post Ev.placementFailed [unit]

/-- After the base stack is lost, a new mark region in the new base stack, with every tile at the rung its entry held in the
last committed step, 0 before the first (R220). -/
def State.relocateMarks (s : State) : State :=
  if !s.chart.relocateMarks then s
  else
    let n := s.chart.markBytes
    let s0 : State := { s with chart := { s.chart with relocateMarks := false, markBytes := 0 } }
    match s0.baseStack.bind (fun k => s0.fitStack k n) with
    | none => ({ s0 with chart := { s0.chart with markBytes := n } }).placementFailed (unitCode 5 (s0.baseStack.getD 0))
    | some a =>
      let s1 := (s0.set Reg.CHT_MARK_REGION.BASE a).store a (List.replicate n 0)
      let s2 : State := { s1 with chart := { s1.chart with markBytes := n } }
      s2.chart.entries.foldl (fun t x =>
        (List.range x.2.tiles).foldl (fun u k =>
          u.setMark (x.2.markBase + k) (sparseGet 0 x.1 s.chart.lastRungs)) t) s2

/-! ### Step start (R248) -/

/-- The registers whose fields are latched at step start. -/
def latchedKeys : List Nat :=
  [Reg.SND_DRIFT_CFG.WARMUP.reg, Reg.SND_SIGHT_CFG.WINDOW.reg, Reg.SND_BUDGET.FRACTION.reg, Reg.SND_OUTLIER_CFG.RATIO_LOG2.reg,
   Reg.NUM_UPD_CFG.MAX_NORM.reg, Reg.NUM_SNAP_CFG.RATE.reg, Reg.CHT_CFG.ROTATE_PERIOD.reg, Reg.KNT_CFG.SPILL_WAIT.reg,
   Reg.FAB_CFG.HOP_LIMIT.reg, Reg.TWN_CFG.ENABLE.reg]

/-- Latch the configuration fields. -/
def State.latch (s : State) : State := s.mapRole (fun r => { r with latched := latchedKeys.map (fun k => (k, s.rd k)) })

/-- Pending mode switches take effect: the update and the fallback policy (R253). -/
def State.switchModes (s : State) : State :=
  let pend := s.get Reg.CAP_DUTY_MODE.PENDING
  let flip := fun (t : State) (f : Field) (i : Nat) => if pend / 2 ^ i % 2 = 1 then t.setFlag f (!t.flag f) else t
  if s.role.carried then s
  else (flip (flip s Reg.CAP_DUTY_MODE.UPDATE 3) Reg.CAP_DUTY_MODE.FALLBACK 6).set Reg.CAP_DUTY_MODE.PENDING (pend &&& 0x37)

/-- Show a tensor's own rung. -/
def rungField (t : Nat) : Field := ⟨(Reg.SND_TENSOR_RUNG.RUNG_0 (t / 32)).reg, 2 * (t % 32) + 1, 2 * (t % 32)⟩

/-- Clears and rung and history commands take effect (R148, R420). -/
def State.applyRungs (s : State) : State :=
  let r := s.role
  let cleared := if r.clearAll then [] else r.rungs.filter (fun x => !r.clearRungs.contains x.1)
  let rungs := r.setRungs.foldl (fun m x => sparsePut 0 x.1 (min 3 x.2) m) cleared
  let history := r.setHistory.foldl (fun m x =>
    match s.tensor? x.1 with
    | some t => sparsePut ⟨t.drift, t.rows, t.cols, 0, 0⟩ t.id ⟨t.drift, t.rows, t.cols, x.2.1, x.2.2⟩ m
    | none => m) r.history
  let s1 := s.mapRole (fun q => { q with
    rungs := rungs
    history := history
    level := if q.clearPromotion then 0 else q.level
    clearPromotion := false
    clearAll := false
    clearRungs := []
    setRungs := []
    setHistory := [] })
  let shown := (r.rungs.map Prod.fst ++ rungs.map Prod.fst).eraseDups
  (shown.foldl (fun t k => t.setOwn (rungField k) (sparseGet 0 k rungs)) s1).setOwn Reg.SND_PROMOTE.LEVEL s1.role.level

/-- The Chart's RUNG of every tensor of the passage, and MIXED clear (Table 6-8). -/
def State.chartRungs (s : State) : State :=
  s.mapEntries (fun _ e => match s.tensor? e.tensor with
    | some t => { e with rung := s.startRung t, mixed := false }
    | none => e)

/-- A role with no work of a step in hand. -/
def Role.clean (r : Role) : Role :=
  { r with
    legs := [], held := [], regionCredits := [], acc := [], partials := [], carriage := [], outTiles := [], ready := []
    heldTokens := [], grants := [], staged := [], snd := [], inFlight := [], triggers := [], ladderPosted := [], requestPosted := []
    sightJudged := [], patternPtr := [], rowPhases := [], lossGroups := [], repeatedTiles := 0, stormMark := false
    stormTensor := 0xFFFF, stormRerunPosted := false, latePosted := false, closed := false, update := UpdateRun.empty }

/-- Show what the step starts with. -/
def State.showStart (s : State) : State :=
  ((s.showSight.setOwn Reg.SND_STATUS.RERUN
    (if s.role.rerun then 1 else 0)).setOwn Reg.SND_STATUS.STORM_HOLD 0).setOwn Reg.SND_STEP_TILES.REPEATED 0

/-- The rotation is recorded: COUNT r, and the step of its last change. -/
def State.recordRotation (s : State) : State :=
  let r := s.rotationNow
  if s.role.carried then s
  else if s.get Reg.CHT_ROTATION.COUNT = r % 2 ^ 32 then s
  else (s.set Reg.CHT_ROTATION.COUNT r).set Reg.CHT_ROTATION.STEP_LO s.role.step

/-- Every cluster shows its band (R211, Table 11-11). -/
def State.showBands (s : State) : State :=
  s.clusters.foldl (fun t c => t.set (Reg.HELM_CL_STATUS.BAND c) (s.band c)) s

/-- What an assignment is made for (R215): the passage stands with the role, and these are the usable cores, the bands and r. -/
def State.assignment (s : State) (cores : List (Option Nat)) : Assignment where
  usable := (List.range s.boot.numbering.length).filter s.logicalUsable
  bands := s.clusters.map (fun c => s.get (Reg.HELM_CL_STATUS.BAND c))
  rotation := s.rotationNow
  cores := cores

/-- The cores of a step's legs: the host's map, the last step's assignment where nothing that it was made for has changed, or a new
one (R212, R215). -/
def State.legCores (s : State) (p : Passage) : List (Option Nat) :=
  if s.flag Reg.CAP_DUTY_MODE.PLACEMENT then s.mappedCores p
  else match s.role.assigned with
    | some a => if a = s.assignment a.cores then a.cores else s.assignCores p
    | none => s.assignCores p

/-- The Navigator's assignment (R212, R213, R215): it changes timing only (R216). Leads follow the homes that the step has (R201). -/
def State.assign (s0 : State) (p : Passage) : State :=
  let s := s0.showBands
  let cores := s.legCores p
  let made := s.assignment cores
  let s1 := (s.mapRole (fun r => { r with legs := s.queueLegs p cores, assigned := some made })).recordRotation
  let s2 := (s1.localEntries p).foldl (fun t i => t.homeLocal p i) s1
  let s3 := (s2.replicaOrder p).foldl (fun t i => t.replicate p i) s2
  (s3.mapRole (fun r => { r with legs := s3.queueLegs p cores })).set Reg.CHT_STATUS.ASSIGNING 1

/-- A role may start a step: the device runs or drains, no step runs, and nothing that the step needs is outstanding. -/
def State.mayStart (s : State) : Bool :=
  (s.dev == .running || s.dev == .draining) && !s.role.inStep && !s.role.settling && s.restore.isNone && s.pwr.stop.isNone

/-- Landings of a discarded attempt count for no HEAT (R208). -/
def State.clearReads (s : State) : State :=
  let mine := fun (i : Nat) => (s.tensor? (s.entry i).tensor).isSome
  { s with chart := { s.chart with reads := s.chart.reads.filter (fun r => !mine r.1) } }

/-- Step start (R248). -/
def State.stepStart (s : State) : State :=
  match s.role.passage with
  | none => s
  | some p =>
    if !s.mayStart then s
    else
      let s1 := (s.relocateMarks.releaseHomes p).clearReads.freeSaved
      let s2 := (s1.mapRole (fun r => { r.clean with inStep := true })).latch.switchModes.applyRungs.chartRungs
      let s3 := s2.asOwn (fun t => { t with helm := { t.helm with tokens := t.get Reg.HELM_RK_CFG.TOKENS } })
      let s4 := (List.range 4).foldl (fun t d => t.setOwn (Reg.NUM_STG_LEVEL.CURRENT d) 0) s3
      (s4.showStart.applyPortEnable).assign p

/-! ### Meanings -/

/-- ASSIGNMENT_DONE (R215). -/
def execAssignmentDone (r : RoleSel) (s : State) : Host.Outcome State Fault Refusal :=
  .next (s.asRole r (fun t => if t.role.inStep then t.set Reg.CHT_STATUS.ASSIGNING 0 else t))

/-- REPLICA_COPY (R213). -/
def execReplicaCopy (entry : BitVec 19) (cluster : Fin 32) (s : State) : Host.Outcome State Fault Refusal :=
  .next (if s.dev = .running ∨ s.dev = .draining then s.copyReplica entry.toNat cluster.val else s)

end Sys2Proof.Machine
end

