-- ==== Sys2Proof/Machine/Crypto.lean ====
section
/-! DEFINITION. The algorithms the security block runs: SHA-384, HMAC and HKDF over it, ECDSA on P-384 with the nonces
of RFC 6979, and the derivation of the attestation key (R453 to R458). -/

namespace Sys2Proof.Machine

/-! ### SHA-384 -/

/-- The 64-bit words that make up the numeral `row`, `n` of them, the most significant first. -/
def wordsOf (n row : Nat) : List W64 :=
  (List.range n).map (fun i => BitVec.ofNat 64 (row >>> (64 * (n - 1 - i))))

/-- The additive constants of rounds 0 to 39, five to a row: the first 64 fraction bits of the cube roots of the primes. -/
def shaRowsLow : List Nat :=
  [ 0x428a2f98d728ae227137449123ef65cdb5c0fbcfec4d3b2fe9b5dba58189dbbc3956c25bf348b538,
    0x59f111f1b605d019923f82a4af194f9bab1c5ed5da6d8118d807aa98a303024212835b0145706fbe,
    0x243185be4ee4b28c550c7dc3d5ffb4e272be5d74f27b896f80deb1fe3b1696b19bdc06a725c71235,
    0xc19bf174cf692694e49b69c19ef14ad2efbe4786384f25e30fc19dc68b8cd5b5240ca1cc77ac9c65,
    0x2de92c6f592b02754a7484aa6ea6e4835cb0a9dcbd41fbd476f988da831153b5983e5152ee66dfab,
    0xa831c66d2db43210b00327c898fb213fbf597fc7beef0ee4c6e00bf33da88fc2d5a79147930aa725,
    0x06ca6351e003826f142929670a0e6e7027b70a8546d22ffc2e1b21385c26c9264d2c6dfc5ac42aed,
    0x53380d139d95b3df650a73548baf63de766a0abb3c77b2a881c2c92e47edaee692722c851482353b ]

/-- The additive constants of rounds 40 to 79. -/
def shaRowsHigh : List Nat :=
  [ 0xa2bfe8a14cf10364a81a664bbc423001c24b8b70d0f89791c76c51a30654be30d192e819d6ef5218,
    0xd69906245565a910f40e35855771202a106aa07032bbd1b819a4c116b8d2d0c81e376c085141ab53,
    0x2748774cdf8eeb9934b0bcb5e19b48a8391c0cb3c5c95a634ed8aa4ae3418acb5b9cca4f7763e373,
    0x682e6ff3d6b2b8a3748f82ee5defb2fc78a5636f43172f6084c87814a1f0ab728cc702081a6439ec,
    0x90befffa23631e28a4506cebde82bde9bef9a3f7b2c67915c67178f2e372532bca273eceea26619c,
    0xd186b8c721c0c207eada7dd6cde0eb1ef57d4f7fee6ed17806f067aa72176fba0a637dc5a2c898a6,
    0x113f9804bef90dae1b710b35131c471b28db77f523047d8432caab7b40c724933c9ebe0a15c9bebc,
    0x431d67c49c100d4c4cc5d4becb3e42b6597f299cfc657e2a5fcb6fab3ad6faec6c44198c4a475817 ]

/-- The chaining words before the first block, as one 512-bit number. -/
def shaStart : Nat :=
  0xcbbb9d5dc1059ed8629a292a367cd5079159015a3070dd17152fecd8f70e593967332667ffc00b318eb44a8768581511db0c2e0d64f98fa747b5481dbefa4fa4

/-- The additive constants, one a round. -/
def shaAdditive : List W64 := (shaRowsLow ++ shaRowsHigh).flatMap (wordsOf 5)

/-- The exclusive or of a word turned right by each of the distances. -/
def turned (w : W64) (distances : List Nat) : W64 := distances.foldl (fun x k => x ^^^ w.rotateRight k) 0

/-- The chaining words after one round: the eight in order, `m` the round's message word plus its constant. -/
def shaTurn (v : List W64) (m : W64) : List W64 :=
  let word := fun i => v.getD i 0
  let mix := m + word 7 + turned (word 4) [14, 18, 41] + (word 6 ^^^ (word 4 &&& (word 5 ^^^ word 6)))
  let fold := turned (word 0) [28, 34, 39] + ((word 0 &&& word 1) ||| (word 2 &&& (word 0 ||| word 1)))
  (mix + fold) :: (v.take 3 ++ (word 3 + mix) :: (v.drop 4).take 3)

/-- The window of sixteen message words moved on by one round, the oldest word first. -/
def shaSlide (win : List W64) : List W64 :=
  let late := win.getD 14 0
  let early := win.getD 1 0
  win.drop 1 ++
    [win.getD 0 0 + (turned early [1, 8] ^^^ early >>> 7) + win.getD 9 0 + (turned late [19, 61] ^^^ late >>> 6)]

/-- The rounds of one block: each takes the oldest word of the window, which then moves on. -/
def shaRun : List W64 → List W64 → List W64 → List W64
  | [], _, v => v
  | k :: ks, win, v => shaRun ks (shaSlide win) (shaTurn v (win.headD 0 + k))

/-- One block of 128 bytes taken into the chaining words. -/
def shaAbsorb (v : List W64) (block : List Byte) : List W64 :=
  List.zipWith (· + ·) v (shaRun shaAdditive (wordsOf 16 (ofBeBytes block)) v)

/-- `n` blocks of a padded message taken in, in order. -/
def shaMessage : Nat → List Byte → List W64 → List W64
  | 0, _, v => v
  | n + 1, bs, v => shaMessage n (bs.drop 128) (shaAbsorb v (bs.take 128))

/-- What follows a message of `n` bytes: the bit 1, zeros to the length field, and the length in bits. -/
def shaTail (n : Nat) : List Byte :=
  0x80 :: List.replicate ((239 - n % 128) % 128) 0 ++ beBytes 16 (8 * n)

/-- SHA-384: the first six chaining words after the last block. -/
def sha384 (bs : List Byte) : Digest :=
  let padded := bs ++ shaTail bs.length
  ((shaMessage (padded.length / 128) padded (wordsOf 8 shaStart)).take 6).flatMap (fun w => beBytes 8 w.toNat)

/-- HMAC with SHA-384. -/
def hmac384 (key msg : List Byte) : Digest :=
  let k0 := if 128 < key.length then sha384 key else key
  let k := k0 ++ List.replicate (128 - k0.length) 0
  sha384 (k.map (· ^^^ 0x5C) ++ sha384 (k.map (· ^^^ 0x36) ++ msg))

/-- HKDF with SHA-384, `n` at most 96 bytes. -/
def hkdf384 (salt ikm info : List Byte) (n : Nat) : List Byte :=
  let prk := hmac384 salt ikm
  let t1 := hmac384 prk (info ++ [1])
  let t2 := hmac384 prk (t1 ++ info ++ [2])
  (t1 ++ t2).take n

/-! ### P-384 -/

/-- The field prime. -/
def p384 : Nat := 2 ^ 384 - 2 ^ 128 - 2 ^ 96 + 2 ^ 32 - 1

/-- The group order. -/
def n384 : Nat :=
  0xffffffffffffffffffffffffffffffffffffffffffffffffc7634d81f4372ddf581a0db248b0a77aecec196accc52973

/-- The coefficient b. -/
def b384 : Nat :=
  0xb3312fa7e23ee7e4988e056be3f82d19181d9c6efe8141120314088f5013875ac656398d8a2ed19d2a85c8edd3ec2aef

/-- A point in Jacobian coordinates; Z = 0 is the point at infinity. -/
structure JPoint where
  x : Nat
  y : Nat
  z : Nat
  deriving DecidableEq, Repr

/-- The generator. -/
def g384 : JPoint :=
  ⟨0xaa87ca22be8b05378eb1c71ef320ad746e1d3b628ba79b9859f741e082542a385502f25dbf55296c3a545e3872760ab7,
    0x3617de4a96262c6f5d9e98bf9292dc29f8f41dbd289a147ce9da3113b5f0b8c00a60b1ce1d7e819d7a431d7c90ea0e5f, 1⟩

/-- Subtraction modulo the prime of two reduced values. -/
def subP (a b : Nat) : Nat := (a + p384 - b) % p384

/-- Point doubling, a = −3. -/
def JPoint.double (q : JPoint) : JPoint :=
  if q.z = 0 ∨ q.y = 0 then ⟨1, 1, 0⟩
  else
    let delta := q.z * q.z % p384
    let gamma := q.y * q.y % p384
    let beta := q.x * gamma % p384
    let alpha := 3 * (subP q.x delta * ((q.x + delta) % p384)) % p384
    let x := subP (alpha * alpha % p384) (8 * beta % p384)
    let z := 2 * q.y * q.z % p384
    ⟨x, subP (alpha * subP (4 * beta % p384) x % p384) (8 * gamma * gamma % p384), z⟩

/-- Point addition. -/
def JPoint.add (q r : JPoint) : JPoint :=
  if q.z = 0 then r
  else if r.z = 0 then q
  else
    let z1 := q.z * q.z % p384
    let z2 := r.z * r.z % p384
    let u1 := q.x * z2 % p384
    let u2 := r.x * z1 % p384
    let s1 := q.y * r.z * z2 % p384
    let s2 := r.y * q.z * z1 % p384
    if u1 = u2 then (if s1 = s2 then q.double else ⟨1, 1, 0⟩)
    else
      let h := subP u2 u1
      let rr := subP s2 s1
      let hh := h * h % p384
      let hhh := h * hh % p384
      let v := u1 * hh % p384
      let x := subP (subP (rr * rr % p384) hhh) (2 * v % p384)
      ⟨x, subP (rr * subP v x % p384) (s1 * hhh % p384), h * q.z * r.z % p384⟩

/-- `k` times a point, over the low `n` bits of `k`. -/
def JPoint.scale (q : JPoint) (k : Nat) : Nat → JPoint
  | 0 => ⟨1, 1, 0⟩
  | n + 1 =>
    let half := (q.scale (k / 2) n).double
    if k % 2 = 1 then half.add q else half

/-- `b ^ e` modulo `m`, over the low `n` bits of `e`. -/
def powMod (m b e : Nat) : Nat → Nat
  | 0 => 1 % m
  | n + 1 =>
    let half := powMod m b (e / 2) n
    if e % 2 = 1 then half * half % m * b % m else half * half % m

/-- The inverse modulo a prime of 384 bits. -/
def invMod (m a : Nat) : Nat := powMod m a (m - 2) 384

/-- The affine x of a finite point. -/
def JPoint.affineX (q : JPoint) : Nat :=
  let i := invMod p384 q.z
  q.x * (i * i % p384) % p384

/-- The affine y of a finite point. -/
def JPoint.affineY (q : JPoint) : Nat :=
  let i := invMod p384 q.z
  q.y * (i * i % p384 * i % p384) % p384

/-- Whether 96 bytes x ‖ y name a point of the curve. -/
def onCurve (x y : Nat) : Bool :=
  decide (x < p384) && decide (y < p384) && decide (y * y % p384 = ((x * x % p384 * x) + (p384 - 3) * x + b384) % p384)

/-- ECDSA verification of a signature r ‖ s over a SHA-384 digest with a public key x ‖ y, all big-endian (R455). -/
def ecdsaVerify (key digest sig : List Byte) : Bool :=
  let x := ofBeBytes (sliceBytes key 0 48)
  let y := ofBeBytes (sliceBytes key 48 48)
  let r := ofBeBytes (sliceBytes sig 0 48)
  let s := ofBeBytes (sliceBytes sig 48 48)
  if onCurve x y && decide (0 < r) && decide (r < n384) && decide (0 < s) && decide (s < n384) then
    let w := invMod n384 s
    let e := ofBeBytes digest
    let q := (g384.scale (e * w % n384) 384).add ((JPoint.mk x y 1).scale (r * w % n384) 384)
    decide (q.z ≠ 0) && decide (q.affineX % n384 = r)
  else false

/-- The search for k of RFC 6979 with SHA-384. -/
def nonceSearch : Nat → List Byte → List Byte → Nat
  | 0, _, _ => 1
  | n + 1, k, v =>
    let v1 := hmac384 k v
    let t := ofBeBytes v1
    if 0 < t ∧ t < n384 then t
    else
      let k1 := hmac384 k (v1 ++ [0])
      nonceSearch n k1 (hmac384 k1 v1)

/-- The deterministic nonce of RFC 6979. -/
def rfc6979 (d : Nat) (digest : List Byte) : Nat :=
  let seed := beBytes 48 d ++ beBytes 48 (ofBeBytes digest % n384)
  let v0 : List Byte := List.replicate 48 1
  let k1 := hmac384 (List.replicate 48 0) (v0 ++ [0] ++ seed)
  let v1 := hmac384 k1 v0
  let k2 := hmac384 k1 (v1 ++ [1] ++ seed)
  nonceSearch 8 k2 (hmac384 k2 v1)

/-- An ECDSA signature r ‖ s over a SHA-384 digest (R454). -/
def ecdsaSign (d : Nat) (digest : List Byte) : List Byte :=
  let k := rfc6979 d digest
  let r := (g384.scale k 384).affineX % n384
  let s := invMod n384 k * ((ofBeBytes digest + r * d) % n384) % n384
  beBytes 48 r ++ beBytes 48 s

/-- The public key x ‖ y of a scalar. -/
def publicKey (d : Nat) : List Byte :=
  let q := g384.scale d 384
  beBytes 48 q.affineX ++ beBytes 48 q.affineY

/-- The attestation key of R458: HKDF over the DeviceID scalar with salt M0 ‖ M1, then the extra-random-bits method
of FIPS 186-5. -/
def attestationKey (device : Nat) (m0 m1 : Digest) : Nat :=
  let info : List Byte := [0x47, 0x53, 0x2D, 0x41, 0x54, 0x54, 0x45, 0x53, 0x54]
  ofBeBytes (hkdf384 (m0 ++ m1) (beBytes 48 device) info 56) % (n384 - 1) + 1

end Sys2Proof.Machine
end

