-- ==== Sys2Proof/Machine/Offload.lean ====
section
/-! DEFINITION. Off-load of activation groups, lost entries, and the restore of weights and state
(spec/06_memory_and_placement.md R219, R221 to R224; spec/12_startup_and_recovery.md R396 to R400). -/

namespace Sys2Proof.Machine

/-! ### Groups (R222, R223) -/

/-- The first leg of the backward pass: the first on a G engine. -/
def Passage.backward (p : Passage) : Nat :=
  ((p.legs.zipIdx.find? (fun x => x.1.kind == 1 || x.1.kind == 2)).map Prod.snd).getD p.legs.length

/-- A leg reads a tensor of a group. -/
def Passage.readsGroup (p : Passage) (l : Leg) (g : Nat) : Bool :=
  (p.reads l).any (fun id => match p.tensor? id with
    | some t => decide (t.kind = 4) && t.offloadOk && t.group == g
    | none => false)

/-- A leg of the step has finished. -/
def State.legFinished (s : State) (i : Nat) : Bool :=
  match s.legAt i with
  | some (_, r) => r.finished
  | none => false

/-- A leg of the step has started a tile. -/
def State.legStarted (s : State) (i : Nat) : Bool :=
  match s.legAt i with
  | some (_, r) => decide (0 < r.started)
  | none => false

/-- Every forward leg that reads a group has finished. -/
def State.forwardDone (s : State) (p : Passage) (g : Nat) : Bool :=
  (List.range p.backward).all (fun i => match p.leg? i with
    | some l => !p.readsGroup l g || s.legFinished i
    | none => true)

/-- The backward pass has started a group, or has started at all where that group does not exist. -/
def State.backwardReached (s : State) (p : Passage) (g : Nat) : Bool :=
  let back := (List.range p.legs.length).filter (fun i => decide (p.backward ≤ i))
  if p.groups.contains g then
    back.any (fun i => match p.leg? i with
      | some l => p.readsGroup l g && s.legStarted i
      | none => false)
  else back.any s.legStarted

/-- The peer that tier 3 of the plan names. -/
def State.offloadPeer (s : State) : Nat := ((s.role.quotas.find? (fun e => e.tier == 3)).map OffloadEntry.peer).getD 0

/-- Send an entry's data to a tier; where they lie there no rule gives (log 46). -/
def State.shipEntry (s : State) (tier i : Nat) (e : ChartEntry) : State :=
  let bytes := s.readBytes e.addr e.bytes
  let a := Config.offloadAddr tier i
  match tier with
  | 2 => s.twinWrites a 0xFFF bytes
  | 3 => s.sendWrites s.offloadPeer a 0xFFF bytes
  | _ => s.emit (.hostWrite a bytes)

/-- The mover ships a group: its entries are OUTBOUND and stay readable (R223). -/
def State.offloadShip (s : State) (g : Nat) : State :=
  match s.role.passage, s.groupTier g with
  | some p, some tier =>
    let es := s.groupEntries g
    if s.working && !es.isEmpty && es.all (fun x => decide (x.2.state = 2)) && s.forwardDone p g
        && (decide (tier ≠ 4) || s.trafficOk) then
      let s1 := es.foldl (fun t x => (t.shipEntry tier x.1 x.2).mapEntry x.1 (fun e => { e with state := 3 })) s
      s1.bump Reg.CHT_OFFLOAD.SHIPPED ((es.map (fun x => x.2.tiles)).foldl (· + ·) 0)
    else s
  | _, _ => s

/-- The address that HOME names for data at a tier (Table 6-1, Table 6-4). -/
def awayAddr (tier i : Nat) : Nat :=
  let a := Config.offloadAddr tier i
  if tier = 2 then 0x4000000000000 + a else if tier = 4 then 0x8000000000000 + a else a

/-- The tier has confirmed the data, by the signal behind them: local storage is released and the entries are AWAY. -/
def State.offloadConfirm (s : State) (g : Nat) : State :=
  match s.groupTier g with
  | none => s
  | some tier =>
    let es := s.groupEntries g
    let node := if tier = 2 then s.twinNode else s.offloadPeer
    if !es.isEmpty && es.all (fun x => decide (x.2.state = 3)) && (decide (tier = 4) || decide (sparseGet 0 node s.fab.unacked = 0)) then
      (es.foldl (fun t x => t.mapEntry x.1 (fun e => { e with
        state := 4, tier := tier, addr := awayAddr tier x.1, aux := if tier = 3 then s.offloadPeer else 0 })) s).showAway
    else s

/-- Issue a READ_REQ for `n` bytes at a node, with a tag of its own (R300); the data may have a place to land. -/
def State.sendRead (s : State) (twin : Bool) (dest addr n : Nat) (target : Option Nat) : State :=
  let tag := s.fab.nextTag
  let p := { blankPacket 1 0 with
    addr := BitVec.ofNat 52 addr, tag := tag, arg := BitVec.ofNat 32 n }
  let s1 : State := { s with fab := { s.fab with
    nextTag := tag + 1, reads := s.fab.reads ++ [PendingRead.mk tag twin dest addr n false target] } }
  if twin then s1.twinPacket p else s1.sendPacket dest p

/-- Issue the reads that fetch a tile of an entry from the twin or a peer, at most 4 KiB each, to land at its new home; the host's
memory is read through PCIe. -/
def State.fetchTile (s : State) (tier i tile : Nat) : State :=
  let e := s.entry i
  if tier = 4 then s
  else
    let node := if tier = 2 then s.twinNode else s.offloadPeer
    let off := (tile - e.first) * e.stride
    (List.range (ceilDiv e.stride 4096)).foldl (fun t k =>
      t.sendRead (tier == 2) node (Config.offloadAddr tier i + off + 4096 * k) (min 4096 (e.stride - 4096 * k))
        (some (e.addr + off + 4096 * k))) s

/-- The tiles of some entries in the order in which the backward legs read them; tiles that none reads come last (R223). -/
def State.backwardOrder (s : State) (p : Passage) (es : List (Nat × ChartEntry)) : List (Nat × Nat) :=
  let all := es.flatMap (fun x => (List.range x.2.tiles).map (fun k => (x.1, x.2.first + k)))
  let read := (p.legs.drop p.backward).flatMap (fun l => ((p.streamsOf l).filter (fun st => !st.outbound)).flatMap (fun st =>
    st.tiles.filterMap (fun k => all.find? (fun y => (s.entry y.1).tensor == st.tensor && y.2 == k))))
  (read ++ all).eraseDups

/-- The storage of a later group whose every leg has finished is free (R223). -/
def State.freeLater (s : State) (p : Passage) (g : Nat) : State :=
  let over_ := (p.groups.filter (fun h => decide (g < h))).filter (fun h =>
    (List.range p.legs.length).all (fun i => match p.leg? i with
      | some l => !p.readsGroup l h || s.legFinished i
      | none => true))
  s.unhomeEntries (over_.flatMap (fun h => ((s.groupEntries h).filter (fun x => decide (x.2.state = 2) && decide (x.2.tier = 1))).map Prod.fst))

/-- Tokens of tiles that come back are given anew: none is readable before it has landed (Table 6-7). -/
def State.unreadyEntries (s : State) (ids : List Nat) : State :=
  let es := ids.map s.entry
  s.mapRole (fun r => { r with ready := r.ready.filter (fun x =>
    !es.any (fun e => e.tensor == x.1 && decide (e.first ≤ x.2) && decide (x.2 < e.first + e.tiles))) })

/-- The movers fetch a group back, into storage that later groups have freed or that is free: its entries are INBOUND, and its tiles
come in the order in which the backward legs read them (R223). -/
def State.offloadFetch (s : State) (g : Nat) : State :=
  match s.role.passage, s.groupTier g with
  | some p, some tier =>
    let es := s.groupEntries g
    let lead := (p.offload.head?.map OffloadEntry.lead).getD 2
    if s.working && !es.isEmpty && es.all (fun x => decide (x.2.state = 4)) && s.backwardReached p (g + lead)
        && (decide (tier ≠ 4) || s.trafficOk) then
      let placed := es.foldl (fun (acc : Option State) x => acc.bind (fun t =>
        let home := match t.tensor? x.2.tensor with
          | some d => t.homeStack d x.2.first
          | none => 0
        ((t.fitStack home x.2.bytes).orElse (fun _ => t.fitAny x.2.bytes)).map (fun a =>
          t.setEntry x.1 { x.2 with state := 5, tier := 1, addr := a, aux := 0 }))) (some (s.freeLater p g))
      match placed with
      | some t => (s.backwardOrder p es).foldl (fun u x => u.fetchTile tier x.1 x.2) (t.unreadyEntries (es.map Prod.fst))
      | none => s
    else s
  | _, _ => s

/-- A reply of a fetch lands; a tile whose every reply has landed is readable (R223, Table 6-7). -/
def State.landFetched (s : State) (a : Nat) (bytes : List Byte) : State :=
  match s.chart.entries.find? (fun x => decide (x.2.state = 5) && decide (x.2.addr ≤ a) && decide (a < x.2.addr + x.2.bytes)) with
  | none => s
  | some (_, e) =>
    let s1 := s.store a bytes
    let k := (a - e.addr) / max 1 e.stride
    let lo := e.addr + k * e.stride
    if s1.fab.reads.any (fun r => match r.target with
        | some b => decide (lo ≤ b) && decide (b < lo + e.stride)
        | none => false) then s1
    else
      let give := fun (t : State) => if (t.tensor? e.tensor).isSome then
        t.mapRole (fun r => { r with ready := (r.ready ++ [(e.tensor, e.first + k)]).eraseDups }) else t
      State.asRole .carried give (give s1)

/-- Bytes land in storage that some entries hold. -/
def State.landIn (s : State) (es : List Nat) (shipment : List (Addr × List Byte)) : State :=
  shipment.foldl (fun t x =>
    if es.any (fun i => let e := t.entry i
        decide (e.tier ≤ 1) && decide (e.addr ≤ x.1.toNat) && decide (x.1.toNat + x.2.length ≤ e.addr + e.bytes)) then
      t.store x.1.toNat x.2
    else t) s

/-- Replies of a fetch are still to come for some entry. -/
def State.fetching (s : State) (es : List ChartEntry) : Bool :=
  s.fab.reads.any (fun r => match r.target with
    | some a => es.any (fun e => decide (e.addr ≤ a) && decide (a < e.addr + e.bytes))
    | none => false)

/-- A group has come back: RESIDENT again, every tile readable, and the remote copy is released (R223). -/
def State.offloadDone (s : State) (g : Nat) (shipment : List (Addr × List Byte)) : State :=
  let es := s.groupEntries g
  if !es.isEmpty && es.all (fun x => decide (x.2.state = 5)) && !s.fetching (es.map Prod.snd) then
    let s1 := s.landIn (es.map Prod.fst) shipment
    let tiles := es.flatMap (fun x => (List.range x.2.tiles).map (fun k => (x.2.tensor, x.2.first + k)))
    let s2 := (es.foldl (fun t x => t.mapEntry x.1 (fun e => { e with state := 2 })) s1).mapRole (fun r => { r with
      ready := (r.ready ++ tiles).eraseDups })
    (s2.bump Reg.CHT_OFFLOAD.FETCHED ((es.map (fun x => x.2.tiles)).foldl (· + ·) 0)).showAway
  else s

/-! ### A tier fails (R224) -/

/-- Deal groups, in descending index, to the first tier each that has room beside the groups that keep theirs. None when the quotas
cannot hold them. -/
def dealAnew (size : Nat → Nat) (tiers : List OffloadEntry) (kept : List (Nat × Nat)) : List Nat → Option (List (Nat × Nat))
  | [] => some kept
  | g :: gs =>
    let used := fun (tier : Nat) => ((kept.filter (fun x => x.2 == tier)).map (fun x => size x.1)).foldl (· + ·) 0
    match tiers.find? (fun e => decide (used e.tier + size g ≤ e.quota * 2 ^ 30)) with
    | some e => dealAnew size tiers (kept ++ [(g, e.tier)]) gs
    | none => none

/-- An off-load tier of the plan in force fails: what it held is LOST, what was on its way there stays, the step is to be
discarded and the tier leaves the plan. Its groups go to the tiers that are left. -/
def State.tierFailed (s : State) (tier : Nat) : State :=
  if !s.role.quotas.any (fun e => e.tier == tier) then s
  else
    let held := s.role.groups.filter (fun x => x.2 == tier)
    let mine := held.flatMap (fun x => (s.groupEntries x.1).map (fun y => (x.1, y.1, y.2.state)))
    let lost := mine.filter (fun x => x.2.2 == 4 || x.2.2 == 5)
    let s1 := mine.foldl (fun t x =>
      if x.2.2 = 4 ∨ x.2.2 = 5 then t.mapEntry x.2.1 (fun e => { e with state := 7 })
      else if x.2.2 = 3 then t.mapEntry x.2.1 (fun e => { e with state := 2 })
      else t) s
    let left := s1.role.quotas.filter (fun e => e.tier != tier)
    let kept := s1.role.groups.filter (fun x => x.2 != tier)
    let plan := s1.role.passage.bind (fun p =>
      dealAnew p.groupBytes left kept ((held.map Prod.fst).ordered (fun a b => b ≤ a)))
    let s2 := (s1.mapRole (fun r => { r with quotas := left, groups := plan.getD kept })).showAway
    let s3 := (s2.post Ev.offloadFailed [tier, (lost.head?.map Prod.fst).getD 0xFFFF]).discardMark
    if plan.isNone then s3.placementFailed 0 else s3

/-- A tier fails for every role of the module. -/
def State.tierFailedAll (s : State) (tier : Nat) : State :=
  State.asRole .carried (fun t => t.tierFailed tier) (s.tierFailed tier)

/-! ### Restore (R396 to R400) -/

/-- Kinds of entries whose loss needs a restore. -/
def restoreKind (k : Nat) : Bool := [0, 1, 2, 6, 8, 10].contains k

/-- Tensors bound to the update legs as WEIGHT or STATE, with their other halves and their scales. -/
def Passage.stateful (p : Passage) : List Nat :=
  let bound := (p.legs.filter (fun l => l.kind == 5)).flatMap (fun l =>
    ((p.streamsOf l).filter (fun st => st.role == 1 || st.role == 2)).map Stream.tensor)
  (bound.flatMap (fun id => match p.tensor? id with
    | some t => [id] ++ [t.partner, t.scalesId].filter (· ≠ 0xFFFF)
    | none => [id])).eraseDups

/-- An entry belongs to the role in force: one of its tensors, or its image copy. -/
def State.roleEntry (s : State) (e : ChartEntry) : Bool := (s.tensor? e.tensor).isSome || decide (e.tensor = 0xFFFF)

/-- LOST entries of the kinds that a restore puts back. -/
def State.lostKinds (s : State) : List Nat :=
  (s.chart.entries.filter (fun x => decide (x.2.state = 7) && restoreKind x.2.kind && s.roleEntry x.2)).map Prod.fst

/-- The restore set (R396). -/
def State.restoreSet (s : State) (late : Bool) : List Nat :=
  match s.role.passage with
  | none => []
  | some p =>
    let ids := p.stateful
    ((if late then (s.chart.entries.filter (fun x => decide (x.2.state ≠ 0) && ids.contains x.2.tensor)).map Prod.fst else [])
      ++ s.lostKinds).eraseDups

/-- The twin can serve: it is paired and holds a valid mirror of this module (R397). -/
def State.twinServes (s : State) : Bool := s.twin.paired && s.twin.partnerValid && !s.role.carried

/-- LOST entries of the role in force, of every kind. -/
def State.lostEntries (s : State) : List Nat :=
  (s.chart.entries.filter (fun x => decide (x.2.state = 7) && s.roleEntry x.2)).map Prod.fst

/-- Re-place the LOST entries of a set in free HBM4E; none when there is no room. An activation group under an off-load plan takes
storage when it is written. -/
def State.replaceLost (s : State) (es : List Nat) : Option State :=
  es.foldl (fun (acc : Option State) i => acc.bind (fun t =>
    let e := t.entry i
    if e.state ≠ 7 then some t
    else if t.role.groups ≠ [] ∧ (t.savedGroup e).isSome = true then some (t.setEntry i e.unhomed)
    else (t.fitAny e.bytes).map (fun a => t.setEntry i { e with tier := 1, addr := a, state := 1, aux := 0, replicas := 0 }))) (some s)

/-- The surviving units can hold the reservations of everything that is LOST, or PLACEMENT_FAILED is posted (R221). -/
def State.checkRoom (s : State) (unit : Nat) : State :=
  if (s.replaceLost s.lostEntries).isNone then s.placementFailed unit else s

/-- Bytes of a set of entries. -/
def State.setBytes (s : State) (es : List Nat) : Nat := (es.map (fun i => (s.entry i).bytes)).foldl (· + ·) 0

/-- Enter HELD by the device's own doing (R415). -/
def State.holdBy (s : State) (cause : Nat) : State :=
  if s.dev = .running ∨ s.dev = .draining then s.enter .held cause else s

/-- Start the restore that a discard, or a disarm, needs (R396, R397, R400). Every LOST reservation is made anew, of the kinds that the
passage writes again too (R221). -/
def State.startRestore (s : State) (late disarm : Bool) : State :=
  let es := s.restoreSet late
  if es = [] then (match s.replaceLost s.lostEntries with
    | some t => t
    | none => s.placementFailed 0)
  else
    let lost := !s.lostKinds.isEmpty
    let cause := (if late then 1 else 0) + (if lost then 2 else 0)
    let mib := ceilDiv (s.setBytes es) (2 ^ 20)
    let s1 := ((s.set Reg.CAP_RECOVERY.RESTORE 1).set Reg.CAP_RECOVERY.CAUSE cause).set Reg.CAP_RECOVERY.MIB_LEFT mib
    match s1.replaceLost s1.lostEntries with
    | none => s1.placementFailed 0
    | some s2 =>
      let s3 : State := { s2 with restore := some ⟨es, s.setBytes es, [], disarm⟩ }
      if s3.twinServes then (s3.set Reg.CAP_RECOVERY.RESTORE 2).sendTwin
        (.restoreAsk ((es.map (fun i => BitVec.ofNat 16 (s3.entry i).tensor)).eraseDups))
      else
        let s4 := (s3.set Reg.CAP_RECOVERY.RESTORE 3).post Ev.restoreRequired [cause, mib]
        if disarm then s4 else s4.holdBy (eventCause Ev.restoreRequired)

/-- Entries of a set are RESIDENT. -/
def State.restored (s : State) (es : List Nat) : State := es.foldl (fun t i => t.mapEntry i (fun e => { e with state := 2 })) s

/-- Tiles of an entry that a restore has brought. -/
def RestoreRun.tilesOf (x : RestoreRun) (e : ChartEntry) : Nat :=
  (x.landed.filter (fun t => t.1 == e.tensor && decide (e.first ≤ t.2) && decide (t.2 < e.first + e.tiles))).length

/-- A tile of the restore set has landed: an entry is RESIDENT once its last tile has, and MIB_LEFT shows what is still to land (R397). -/
def State.restoreTile (s : State) (tensor tile : Nat) : State :=
  match s.restore with
  | none => s
  | some x =>
    let x1 := { x with landed := if x.landed.contains (tensor, tile) then x.landed else (tensor, tile) :: x.landed }
    let done := x.entries.filter (fun i => (s.entry i).tiles == x1.tilesOf (s.entry i))
    let left := x.bytes - (x.entries.map (fun i => x1.tilesOf (s.entry i) * (s.entry i).stride)).foldl (· + ·) 0
    ({ s with restore := some x1 }.restored done).set Reg.CAP_RECOVERY.MIB_LEFT (ceilDiv left (2 ^ 20))

/-- The last tile of a set has landed from the twin (R397): after a disarm the member enters READY (R400). -/
def State.restoreLanded (s : State) (shipment : List (Addr × List Byte)) : State :=
  match s.restore with
  | none => s
  | some x =>
    if s.get Reg.CAP_RECOVERY.RESTORE ≠ 2 then s
    else
      let mib := ceilDiv x.bytes (2 ^ 20)
      let s1 := { (s.landIn x.entries shipment).restored x.entries with restore := none }
      let s2 := ((s1.set Reg.CAP_RECOVERY.RESTORE 4).set Reg.CAP_RECOVERY.MIB_LEFT 0).bump Reg.CAP_RECOVERY.FROM_TWIN 1
      let s3 := s2.post Ev.restoreDone [s2.get Reg.CAP_RECOVERY.CAUSE, mib]
      if x.disarm && (s3.dev == .armed || s3.dev == .held) then s3.enter .ready 0x0109 else s3

/-- The twin is lost while it serves: the restore is abandoned and the host is to restore (Table 12-4). -/
def State.abandonRestore (s : State) : State :=
  match s.restore with
  | none => s
  | some x =>
    if s.get Reg.CAP_RECOVERY.RESTORE ≠ 2 then s
    else
      let s1 := (s.set Reg.CAP_RECOVERY.RESTORE 3).post Ev.restoreRequired
        [s.get Reg.CAP_RECOVERY.CAUSE, ceilDiv x.bytes (2 ^ 20)]
      if x.disarm then (if s1.dev = .armed ∨ s1.dev = .held then s1.enter .ready 0x0109 else s1)
      else s1.holdBy (eventCause Ev.restoreRequired)

/-- The host declares its restore written (R398). -/
def State.hostRestored (s : State) : State :=
  let es := (s.restore.map RestoreRun.entries).getD []
  ((({ s.restored es with restore := none }).set Reg.CAP_RECOVERY.RESTORE 4).set Reg.CAP_RECOVERY.MIB_LEFT 0).bump
    Reg.CAP_RECOVERY.FROM_HOST 1

/-! ### Meanings -/

/-- OFFLOAD_SHIP (R223). -/
def execOffloadShip (r : RoleSel) (group : W16) (s : State) : Host.Outcome State Fault Refusal :=
  .next (s.asRole r (fun t => t.offloadShip group.toNat))

/-- OFFLOAD_CONFIRM (R223). -/
def execOffloadConfirm (r : RoleSel) (group : W16) (s : State) : Host.Outcome State Fault Refusal :=
  .next (s.asRole r (fun t => t.offloadConfirm group.toNat))

/-- OFFLOAD_FETCH (R223). -/
def execOffloadFetch (r : RoleSel) (group : W16) (s : State) : Host.Outcome State Fault Refusal :=
  .next (s.asRole r (fun t => t.offloadFetch group.toNat))

/-- OFFLOAD_FETCH_DONE (R223). -/
def execOffloadFetchDone (r : RoleSel) (group : W16) (shipment : List (Addr × List Byte)) (s : State) :
    Host.Outcome State Fault Refusal :=
  .next (s.asRole r (fun t => t.offloadDone group.toNat shipment))

end Sys2Proof.Machine
end

