-- ==== Sys2Proof/Machine/Mirror.lean ====
section
/-! DEFINITION. The twin's mirror: what is shipped and seeded, the mirror computation, failover, carrying and handover
(spec/09_fabric_and_twin.md R314 to R324; logs 50 to 54). -/

namespace Sys2Proof.Machine

/-! ### State of the pair (R314) -/

/-- STATE of TWN_STATUS. -/
def State.setTwin (s : State) (n : Nat) : State :=
  { s with twin := { s.twin with state := n } }.set Reg.TWN_STATUS.STATE n

/-- Change the twin unit. -/
def State.mapTwin (s : State) (f : TwinUnit → TwinUnit) : State := { s with twin := f s.twin }

/-- STATE of an unpaired twin link, by its port. -/
def State.twinIdle (s : State) : Nat :=
  if (s.port 16).state = 2 ∨ (s.port 16).state = 3 then 2
  else if (s.port 16).state = 4 ∨ (s.port 16).state = 5 then 3
  else if s.twin.present then 1
  else 0

/-- STATE follows the port while the twins are not paired. -/
def State.showTwin (s : State) : State := if s.twin.state ≤ 3 then s.setTwin s.twinIdle else s

/-- With hub.q2 the ports and the twin link may train. -/
def State.portsOn (s : State) : State :=
  let s1 := s.applyPortEnable
  if s1.portUsable 16 && !(s1.port 16).loopback then (s1.setPortState 16 2).showTwin else s1

/-- TWIN_PAIR_FAILED with its cause in FAIL_CAUSE. -/
def State.pairFailed (s : State) (cause : Nat) : State :=
  (s.set Reg.TWN_STATUS.FAIL_CAUSE cause).post Ev.twinPairFailed [cause]

/-- MIRROR_VALID clears. -/
def State.mirrorLost (s : State) : State := s.set Reg.TWN_STATUS.MIRROR_VALID 0

/-! ### What the mirror holds (Table 9-8, R315) -/

/-- Bytes of a tensor's reservation. -/
def Tensor.bytes (t : Tensor) : Nat := t.tiles * 64 * t.units

/-- Bytes of a passage's tensors (R134). -/
def Passage.reservation (p : Passage) : Nat := (p.tensors.map Tensor.bytes).foldl (· + ·) 0

/-- The tiles of the step record: the GRADIENT streams and the masks of the update legs. -/
def Passage.recordTiles (p : Passage) (role : Nat) : List (Nat × Nat) :=
  ((p.legs.filter (fun l => l.kind == 5)).flatMap (fun l =>
    ((p.streamsOf l).filter (fun st => !st.outbound && st.role == role)).flatMap (fun st => st.tiles.map (fun k => (st.tensor, k))))).eraseDups

/-- Mirrored content with two gradient buffers, in bytes. -/
def Passage.mirrorBytes (p : Passage) : Nat :=
  let size := fun (id : Nat) => ((p.tensor? id).map (fun t => 64 * t.units)).getD 0
  let buffer := ((p.recordTiles 0 ++ p.recordTiles 4).map (fun x => size x.1)).foldl (· + ·) 0
  ((p.stateful.filterMap p.tensor?).map Tensor.bytes).foldl (· + ·) 0 + p.image.length + 2 * buffer

/-- The knots that a passage uses. -/
def Passage.knotsUsed (p : Passage) : List Nat :=
  (p.quotas.map Prod.fst ++ (p.legs.filter Leg.signalEn).map Leg.signalKnot).eraseDups

/-- The member lists a module copied at load, by the addresses in its image (R269). -/
def Passage.memberLists (p : Passage) : List (Nat × List Byte) :=
  p.collectives.zipIdx.map (fun x =>
    (bitsOf (wordAt (recordAt p.image 4 x.2 64) 8) 51 0, x.1.members.flatMap (leBytes 2)))

/-- The partner's passage, read from the copy of its image. -/
def State.partnerPassage (s : State) : Passage :=
  parsePassage s.twin.partnerImage (fun a n => sliceBytes (((s.twin.partnerLists.find? (fun x => x.1 == a)).map Prod.snd).getD []) 0 n)

/-- Tell the partner that this module is armed (R315, R322). -/
def State.sendArmed (s : State) : State :=
  match s.role.passage with
  | none => s
  | some p => s.sendTwin (.armed (BitVec.ofNat 16 (s.get Reg.TWN_CFG.MIRROR_GIB)) p.mirrorBytes
      (p.tensors.map (fun t => BitVec.ofNat 16 t.id)) (p.knotsUsed.map (BitVec.ofNat 12)) p.reservation p.image
      (p.memberLists.map (fun x => (BitVec.ofNat 52 x.1, x.2))))

/-- CARRY_READY by the three conditions of R322. -/
def State.carryReady (s : State) (p : Passage) : Bool :=
  !p.tensors.any (fun t => s.twin.partnerTensors.contains t.id) && !p.knotsUsed.any s.twin.partnerKnots.contains
    && decide (s.twin.partnerReservation ≤ s.freeHbm + s.get Reg.TWN_CFG.MIRROR_GIB * 2 ^ 30)

/-- When both twins are PAIRED and ARMED: CARRY_READY, the checks of R315, and the start of mirroring with a seed due at the next
commit. -/
def State.checkMirror (s : State) : State :=
  match s.role.passage with
  | none => s
  | some p =>
    if !(s.isArmed && s.twin.paired && s.twin.partnerArmed && s.twin.state == 4) then s
    else
      let s1 := s.set Reg.TWN_STATUS.CARRY_READY (if s.carryReady p then 1 else 0)
      let gib := s1.get Reg.TWN_CFG.MIRROR_GIB
      if gib = 0 ∨ s.twin.partnerGib = 0 then s1
      else if !p.collectives.any (fun c => c.kind == 0 && c.stepClose && (match s.twin.partnerNode with
          | some n => c.members.contains n
          | none => false)) then s1.pairFailed 6
      else if gib * 2 ^ 30 < s.twin.partnerContent then s1.pairFailed 4
      else (s1.mirrorLost.setTwin 5).mapTwin (fun t => { t with
        seedDue := true, shipFrom := if s.role.inStep then s.role.step + 1 else s.role.step
        records := [], mirror := [], seedStep := none, computed := none, ackedClosing := none, ackedRecord := none })

/-! ### The step record (R316, R317) -/

/-- Bytes of a tile at its home in this module. -/
def State.homeBytes (s : State) (tensor tile : Nat) : List Byte :=
  match s.home tensor tile with
  | some h => s.readBytes h.2.2 h.2.1.stride
  | none => []

/-- A gradient tile has landed: it goes to the partner (R279, R316). -/
def State.shipLanded (s : State) (tensor tile : Nat) : State :=
  match s.role.passage with
  | none => s
  | some p =>
    if s.shipping && (p.recordTiles 0).contains (tensor, tile) then
      s.sendTwin (.recordTile (BitVec.ofNat 64 s.role.step) (BitVec.ofNat 16 tensor) (BitVec.ofNat 32 tile) (s.homeBytes tensor tile))
    else s

/-- At GRADIENT_CLOSE: the gradient tiles that no collective lands, and the mask tiles that the update legs read. -/
def State.shipMasks (s : State) : State :=
  match s.role.passage with
  | none => s
  | some p =>
    if !s.shipping then s
    else
      let local_ := (p.recordTiles 0).filter (fun x => !p.landsTile x.1 x.2)
      let s1 := local_.foldl (fun t x => t.shipLanded x.1 x.2) s
      (p.recordTiles 4).foldl (fun t x => t.sendTwin (.maskTile (BitVec.ofNat 64 t.role.step) (BitVec.ofNat 16 x.1)
        (BitVec.ofNat 32 x.2) (t.homeBytes x.1 x.2))) s1

/-- A record of the partner as received so far. -/
def State.twinRecord (s : State) (step : Nat) : TwinRecord :=
  (s.twin.records.find? (fun r => r.step == step)).getD ⟨step, [], [], none, none⟩

/-- Put a record back. -/
def State.setRecord (s : State) (r : TwinRecord) : State :=
  s.mapTwin (fun t => { t with records := t.records.filter (fun x => x.step != r.step) ++ [r] })

/-- Replace a tile in a list of tiles. -/
def replaceTile (xs : List (Nat × Nat × List Byte)) (tensor tile : Nat) (bs : List Byte) : List (Nat × Nat × List Byte) :=
  xs.filter (fun x => !(x.1 == tensor && x.2.1 == tile)) ++ [(tensor, tile, bs)]

/-- Every tile of a record and its closing part have come. -/
def State.recordWhole (s : State) (r : TwinRecord) : Bool :=
  let p := s.partnerPassage
  r.closing.isSome && (p.recordTiles 0).all (fun x => r.tiles.any (fun y => y.1 == x.1 && y.2.1 == x.2))
    && (p.recordTiles 4).all (fun x => r.masks.any (fun y => y.1 == x.1 && y.2.1 == x.2))

/-- Acknowledge a whole record. -/
def State.ackWhole (s : State) (r : TwinRecord) : State :=
  if s.recordWhole r then s.sendTwin (.ackRecord (BitVec.ofNat 64 r.step)) else s

/-- A gradient tile of the partner's record; one that follows the closing part begins the record of a re-run. -/
def State.takeRecordTile (s : State) (step tensor tile : Nat) (bs : List Byte) : State :=
  let r := s.twinRecord step
  let r1 := if r.closing.isSome then ⟨step, [], [], none, none⟩ else r
  s.setRecord { r1 with tiles := replaceTile r1.tiles tensor tile bs }

/-- A mask tile of the partner's record. -/
def State.takeMaskTile (s : State) (step tensor tile : Nat) (bs : List Byte) : State :=
  let r := s.twinRecord step
  s.setRecord { r with masks := replaceTile r.masks tensor tile bs }

/-- The closing part: it is acknowledged, and with it the record when it is whole. -/
def State.takeClosing (s : State) (step clip norm : Nat) (skip : Bool) (entry : List Nat) : State :=
  let r : TwinRecord := { s.twinRecord step with closing := some (clip, norm, skip, entry) }
  ((s.setRecord r).sendTwin (.ackClosing (BitVec.ofNat 64 step))).ackWhole r

/-- The partner's state record at its commit (R318). -/
def State.takeCommit (s : State) (st : MirrorState) (digest : W32) : State :=
  let n := st.step.toNat
  let s1 := s.setRecord { s.twinRecord n with commit := some (st, digest) }
  s1.mapTwin (fun t => { t with partnerState := some st })

/-- Records of steps that did not commit are dropped with a discard. -/
def State.dropOpenRecords (s : State) : State :=
  s.mapTwin (fun t => { t with
    records := t.records.filter (fun r => r.commit.isSome), ackedClosing := none, ackedRecord := none })

/-- The mirror computation of every committed record is done, or a seed covers it (R317). -/
def State.mirrorCurrent (s : State) : Bool :=
  s.twin.records.all (fun r => r.commit.isNone || (match s.twin.computed, s.twin.seedStep with
    | some c, some n => decide (r.step ≤ c) || decide (r.step ≤ n)
    | some c, none => decide (r.step ≤ c)
    | none, some n => decide (r.step ≤ n)
    | none, none => false))

/-- The mirror's conditions for arriving at a Rendezvous (R317). -/
def State.mirrorReady (s : State) (gradientClose stepClose : Bool) : Bool :=
  !(s.twin.state == 5 || s.twin.state == 6) || s.role.carried || ((!gradientClose || s.mirrorCurrent)
    && (!stepClose || !s.shipping || s.twin.ackedRecord == some s.role.step))

/-! ### The commit (R317 to R319) -/

/-- The state record of a role, with the attempt that follows. -/
def State.mirrorState (s : State) (attempt : Nat) : MirrorState where
  step := BitVec.ofNat 64 s.role.step
  attempt := BitVec.ofNat 64 attempt
  level := BitVec.ofNat 2 s.role.level
  rungs := s.role.rungs.map (fun x => (BitVec.ofNat 16 x.1, BitVec.ofNat 2 x.2))
  history := s.role.history.map (fun x => (BitVec.ofNat 16 x.1, BitVec.ofNat 64 x.2.h, BitVec.ofNat 8 x.2.n))
  updCfg := s.rd Reg.NUM_UPD_CFG.MAX_NORM.reg

/-- Send the mirrored content as it stands at a commit (R319). -/
def State.sendSeed (s : State) : State :=
  match s.role.passage with
  | none => s
  | some p =>
    let tiles := (p.stateful.filterMap p.tensor?).flatMap (fun t => (List.range t.tiles).map (fun k => (t.id, k)))
    (tiles.foldl (fun t x => t.sendTwin (.seedTile (BitVec.ofNat 64 t.role.step) (BitVec.ofNat 16 x.1) (BitVec.ofNat 32 x.2)
      (BitVec.ofNat 2 (t.tileRung x.1 x.2)) (t.homeBytes x.1 x.2))) s).mapTwin (fun t => { t with seedDue := false })

/-- The mirror point (R317): the state record goes with its digest, records that are done are freed, and a seed that is due is
sent. -/
def State.mirrorPoint (s : State) : State :=
  if s.role.carried then s
  else
    let s1 := if s.shipping then s.sendTwin (.commit (s.mirrorState (s.role.attempt + 1)) s.role.update.digest) else s
    let s2 := s1.mapTwin (fun t => { t with
      commitAttempt := s.role.attempt + 1
      records := t.records.filter (fun r => !(decide (r.step < s.role.step) && (match t.computed with
        | some c => decide (r.step ≤ c)
        | none => false))) })
    if s2.twin.seedDue && s2.shipping then s2.sendSeed else s2

/-- Both twins stop mirroring, part and squelch the link (R324). -/
def State.detach (s : State) : State :=
  let s1 := (s.sendTwin .farewell).mirrorLost.mapTwin (fun t => { t with
    detachPending := false, paired := false, greeted := false, records := [], mirror := [], seedDue := false, partnerArmed := false })
  let s2 := ((s1.setPort 16 { s1.port 16 with aligned := false, unacked := [], loopback := true }).setPortState 16 1).clearPort 16
  (((s2.set Reg.TWN_STATUS.CARRY_READY 0).set Reg.TWN_STATUS.PATH 0).setTwin 1).post Ev.twinDetached []

/-- A TWIN_DETACH that waited for the commit is carried out. -/
def State.detachAtCommit (s : State) : State := if s.twin.detachPending && !s.role.carried then s.detach else s

/-! ### The mirror computation (R316, R318) -/

/-- The tensors that the update legs of a passage read or write, with their companions. -/
def Passage.updateTensors (p : Passage) : List Tensor :=
  let ids := (p.legs.filter (fun l => l.kind == 5)).flatMap (fun l => p.reads l ++ p.writes l)
  p.tensors.filter (fun t => ids.contains t.id || p.stateful.contains t.id)

/-- Entries for the update's tensors one after another, in a memory of their own. -/
def mirrorEntries : List Tensor → Nat → Nat → Nat → List (Nat × ChartEntry)
  | [], _, _, _ => []
  | t :: ts, i, addr, mark =>
    (i, { t.newEntry 0 t.tiles 1 addr mark with state := 2 }) :: mirrorEntries ts (i + 1) (addr + t.bytes) (mark + t.tiles)

/-- Store the bytes of a tile at its home. -/
def State.putTileBytes (s : State) (tensor tile : Nat) (bs : List Byte) : State :=
  match s.home tensor tile with
  | some h => s.store h.2.2 bs
  | none => s

/-- Set the rung of a tile. -/
def State.putTileRung (s : State) (tensor tile rung : Nat) : State :=
  match s.entryOf tensor tile with
  | some x => s.setMark (x.2.markOf tile) (rung % 4)
  | none => s

/-- The partner's role as its update legs ran in a step: its passage, step, level, rungs and history, and the record's c, norm
and entry. -/
def mirrorRole (p : Passage) (st : MirrorState) (step : Nat) (closing : Nat × Nat × Bool × List Nat) : Role :=
  { Role.empty with
    carried := true
    passage := some p
    step := step
    inStep := true
    closed := true
    level := st.level.toNat
    rungs := st.rungs.map (fun x => (x.1.toNat, x.2.toNat))
    update := { UpdateRun.empty with
      combined := true
      clip := closing.1
      norm := (convertNum .fp64 .rne .ieee 0 1 (decodeNum .fp32 closing.2.1)).1
      skip := closing.2.2.1
      entry := some closing.2.2.2 } }

/-- A module that holds nothing but the partner's update legs and their data. -/
def State.mirrorView (s : State) (p : Passage) (st : MirrorState) (r : TwinRecord) (closing : Nat × Nat × Bool × List Nat) : State :=
  let ts := p.updateTensors
  let entries := mirrorEntries ts 0 0 0
  let top := (ts.map Tensor.bytes).foldl (· + ·) 0
  let role := mirrorRole p st r.step closing
  let v : State := { s with
    mem := [], badLines := [], snap := none, other := none, role := role,
    chart := { ChartUnit.empty with entries := entries } }
  let v1 := v.set Reg.CHT_MARK_REGION.BASE top
  let v2 := v1.mapRole (fun q => { q with
    legs := (p.legs.zipIdx.filter (fun x => x.1.kind == 5)).map (fun x => (x.2, v1.startLeg x.2 x.1 (some 0) x.2)) })
  let v3 := s.twin.mirror.foldl (fun t x => (t.putTileBytes x.1 x.2.1 x.2.2.2).putTileRung x.1 x.2.1 x.2.2.1) v2
  (r.tiles ++ r.masks).foldl (fun t x => t.putTileBytes x.1 x.2.1 x.2.2) v3

/-- Apply a tile that the mirror's pass 2 wrote. -/
def State.applyMirror (s : State) (o : OutTile) : State :=
  let s1 := o.writes.foldl (fun t w => match t.home w.tensor w.tile with
    | some h => t.store (h.2.2 + w.offset) w.bytes
    | none => t) s
  (s1.putTileRung o.tensor o.tile o.rung).mapRole (fun r => { r with outTiles := r.outTiles.erase o })

/-- The update legs of the partner over the mirror, with pass 2 only. -/
def State.runMirror (v : State) (p : Passage) (entry : List Nat) : State :=
  (p.legs.zipIdx.filter (fun x => x.1.kind == 5)).foldl (fun t x =>
    match p.programs[x.1.op]? with
    | none => t
    | some g => (List.range x.1.tileCount).foldl (fun u j =>
        let w := u.updateTile p x.2 x.1 0 (x.1.firstTile + j) g entry
        w.role.outTiles.foldl State.applyMirror w) t) v

/-- The state of the step before a record: its own state record where the step has committed, else the last one received. -/
def State.recordState (s : State) (r : TwinRecord) : Option MirrorState :=
  match r.commit with
  | some x => some x.1
  | none => s.twin.partnerState

/-- The records whose computation may run next: the first one beyond the mirror, once the partner has committed it, or in a
survivor once its closing part is held (R316, R321). -/
def State.nextRecord (s : State) : Option TwinRecord :=
  let after := s.twin.records.filter (fun r => decide (s.get Reg.TWN_MIRROR.STEP < r.step))
  ((after.ordered (fun a b => a.step ≤ b.step)).head?).bind (fun r =>
    if s.recordWhole r && (r.commit.isSome || s.twin.state == 7) then some r else none)

/-- MIRROR_DIVERGED: the mirror is not valid and has to be seeded again. -/
def State.mirrorDiverged (s : State) : State :=
  (((s.bump Reg.TWN_COUNT.DIVERGED 1).post Ev.mirrorDiverged []).mirrorLost.setTwin 5).mapTwin (fun t => { t with
    seedStep := none, mirror := [] })

/-- One mirror computation (R316 to R318). -/
def State.computeMirror (s : State) : State :=
  if !s.flag Reg.TWN_STATUS.MIRROR_VALID then s
  else match s.nextRecord with
    | none => s
    | some r =>
      match s.recordState r, r.closing with
      | some st, some c =>
        let p := s.partnerPassage
        let v := s.mirrorView p st r c
        let w := if c.2.2.1 then v else v.runMirror p c.2.2.2
        let tiles := s.twin.mirror.map (fun x => (x.1, x.2.1, w.tileRung x.1 x.2.1, w.homeBytes x.1 x.2.1))
        let s1 := (((s.mapTwin (fun t => { t with mirror := tiles, computed := some r.step })).set Reg.TWN_MIRROR.STEP r.step).bump
          Reg.TWN_COUNT.RECORDS 1)
        match r.commit with
        | some x => if x.2 = w.role.update.digest ∨ s.twin.state = 7 then s1 else s1.mirrorDiverged
        | none => s1
      | _, _ => s

/-! ### Seeding (R319) -/

/-- A seed tile of the partner, or of the mirror a replacement takes. -/
def State.takeSeedTile (s : State) (step tensor tile rung : Nat) (bs : List Byte) : State :=
  s.mapTwin (fun t => { t with
    seedStep := some step
    mirror := t.mirror.filter (fun x => !(x.1 == tensor && x.2.1 == tile)) ++ [(tensor, tile, rung, bs)] })

/-- The seed is complete: the mirror holds its commit, and computation starts with the next record. -/
def State.seedComplete (s : State) : State :=
  match s.twin.seedStep with
  | none => s
  | some n =>
    if s.twin.state ≠ 5 then s
    else
      let s1 := ((s.set Reg.TWN_STATUS.MIRROR_VALID 1).set Reg.TWN_MIRROR.STEP n).setTwin 6
      s1.mapTwin (fun t => { t with
        seedStep := none, computed := some n, records := t.records.filter (fun r => decide (n < r.step)) })

/-! ### Restoring the partner (R397) -/

/-- Ship the tensors that the partner asks for, as the mirror holds them. -/
def State.shipRestore (s : State) (tensors : List Nat) : State :=
  if s.flag Reg.TWN_STATUS.MIRROR_VALID then
    (s.twin.mirror.filter (fun x => tensors.contains x.1)).foldl (fun t x =>
      t.sendTwin (.restoreTile (BitVec.ofNat 16 x.1) (BitVec.ofNat 32 x.2.1) (BitVec.ofNat 2 x.2.2.1) x.2.2.2)) s
  else s

/-- A tile of the restore set lands. -/
def State.takeRestoreTile (s : State) (tensor tile rung : Nat) (bs : List Byte) : State :=
  if s.get Reg.CAP_RECOVERY.RESTORE = 2 then ((s.putTileBytes tensor tile bs).putTileRung tensor tile rung).restoreTile tensor tile
  else s

/-! ### Homing a passage beside the one in force (R322) -/

/-- INIT of a tensor's tiles (R234): a fill with zeros, or a bit copy from SOURCE_ADDR, into its home wherever that is; what the
twin's and the host's memory hold is open to the model (log 2). An entry with no storage yet takes none of it. -/
def State.initTensor (s : State) (t : Tensor) : State :=
  if t.init = 0 then s
  else (s.chart.entries.filter (fun x => x.2.tensor == t.id && decide (x.2.tier ≤ 4))).foldl (fun u x =>
    let src := t.source + x.2.first * x.2.stride
    let got := if t.init = 1 then (List.replicate x.2.bytes 0, u)
      else if 0x4000000000000 ≤ src then u.freeBytes x.2.bytes else (u.readBytes src x.2.bytes, u)
    (got.2.writeTier false 0xFFF x.2.tier x.2.aux x.2.addr got.1).mapEntry x.1 (fun e => { e with state := 2 })) s

/-- INIT of every tensor of a passage that a test admits. -/
def State.initTensors (s : State) (p : Passage) (ok : Tensor → Bool) : State :=
  (p.tensors.filter ok).foldl State.initTensor s

/-- Room in the mirror region for some bytes (R315). -/
def State.fitMirror (s : State) (n : Nat) : Option Nat :=
  s.usableStacks.findSome? (fun k => firstFit s.heldRanges (s.stackTop k) (s.stackTop k + s.mirrorShare k) 4096 n)

/-- Home a mirrored tensor in the mirror region. -/
def State.placeMirrored (acc : Option State) (t : Tensor) : Option State :=
  (TileRange.pieces ⟨0, t.tiles, 0⟩).foldl (fun a r => a.bind (fun s =>
    ((s.fitMirror (r.count * 64 * t.units)).orElse (fun _ => s.fitAny (r.count * 64 * t.units))).map (fun x =>
      s.addEntry { t.newEntry r.first r.count 1 x s.nextMark with state := 2 }))) acc

/-- A mark region for every entry, with the marks there were. -/
def State.growMarks (s : State) : Option State :=
  let n := markRegionBytes s.nextMark
  let old := s.readBytes (s.get Reg.CHT_MARK_REGION.BASE) s.chart.markBytes
  s.baseStack.bind (fun k => (s.fitStack k n).map (fun a =>
    let s1 := (s.set Reg.CHT_MARK_REGION.BASE a).store a (sliceBytes old 0 n)
    { s1 with chart := { s1.chart with markBytes := n } }))

/-- Home the partner's passage, its mirrored tensors in the mirror region where `mirrored` says so, and put the mirror's bits
into them. -/
def State.placePartner (s : State) (p : Passage) (inMirror : Bool) : Option State :=
  let ids := p.stateful
  let sorted := p.tensors.ordered (fun a b => a.id ≤ b.id)
  let placed := sorted.foldl (fun a t =>
    if inMirror && ids.contains t.id then State.placeMirrored a t else State.placeTensor false p.peer a t) (some s)
  ((State.placeTable (imageTensor p.image.length 10) placed).bind State.growMarks).map (fun s1 =>
    let s2 := s1.initTensors p (fun t => !ids.contains t.id)
    let s3 := s.twin.mirror.foldl (fun t x => (t.putTileBytes x.1 x.2.1 x.2.2.2).putTileRung x.1 x.2.1 x.2.2.1) s2
    s3.mapEntries (fun _ e => if ids.contains e.tensor then { e with state := 2 } else e))

/-- A role armed at the step after the mirror's: each knot's next waypoint lies its quota above the knot's value (R322). -/
def State.armedRole (s : State) (p : Passage) (st : MirrorState) (attempt : Nat) : Role :=
  { Role.empty with
    passage := some p
    step := s.get Reg.TWN_MIRROR.STEP + 1
    attempt := attempt
    armBase := p.quotas.foldl (fun m q => sparsePut 0 q.1 (s.knot q.1 - BitVec.ofNat 64 (q.2 * attempt)) m) s.knots
    level := st.level.toNat
    rungs := st.rungs.map (fun x => (x.1.toNat, x.2.toNat))
    history := st.history.filterMap (fun x => (p.tensor? x.1.toNat).map (fun t =>
      (x.1.toNat, ⟨t.drift, t.rows, t.cols, x.2.1.toNat, x.2.2.toNat⟩)))
    budgetTiles := p.productTiles
    quotas := [] }

/-! ### Carrying (R322) -/

/-- The alias shows in FAB_NODE. -/
def State.setAlias (s : State) (n : Option Nat) : State :=
  match n with
  | some a => (s.set Reg.FAB_NODE.ALIAS a).set Reg.FAB_NODE.ALIAS_VALID 1
  | none => (s.set Reg.FAB_NODE.ALIAS 0).set Reg.FAB_NODE.ALIAS_VALID 0

/-- Where the carried role stands in the step it takes up: a step that has yet to close is taken up from its start, one that the
mirror has completed at its STEP_CLOSE (R321, R322). -/
def State.takeUpStep (s : State) (p : Passage) (r : Role) : Role :=
  let completes := s.role.inStep && s.role.closed && !s.role.discardMark
  let isClose := fun (l : Leg) => l.kind == 11 && (match p.collectives[l.op]? with
    | some c => c.stepClose
    | none => false)
  let atClose := s.role.inStep && s.role.closed
  { r with
    inStep := s.role.inStep
    closed := atClose
    step := if completes then r.step - 1 else r.step
    discardMark := s.role.inStep && s.role.discardMark
    legs := if s.role.inStep then p.legs.zipIdx.map (fun x =>
        (x.2, { s.startLeg x.2 x.1 none 0 with finished := atClose && !isClose x.1 }))
      else [] }

/-- Carry the lost partner's role: its node ID as alias, its passage homed and armed beside the module's own (R322). -/
def State.carry (s : State) : State :=
  let p := s.partnerPassage
  match s.twin.partnerState, s.placePartner p true with
  | some st, some s1 =>
    let attempt := st.attempt.toNat + (s.role.attempt - s.twin.commitAttempt)
    let r := { s1.armedRole p st attempt with carried := true, stepsLeft := s.role.stepsLeft }
    let s2 : State := { s1 with other := some (s1.takeUpStep p r) }
    (((((s2.setTwin 8).mirrorLost).mapTwin (fun t => { t with records := [], mirror := [], seedDue := false })).setAlias
      s.twin.lostNode)).recordChanged
  | _, _ => s

/-! ### Loss of the partner (R320, R321) -/

/-- The step has to be discarded after the loss: it is short of GRADIENT_CLOSE, or the closing part of its record is not held. -/
def State.lossDiscards (s : State) : Bool :=
  s.role.inStep && (!s.role.closed || (s.twinRecord s.role.step).closing.isNone)

/-- TWIN_LOST, and POLICY: CARRY carries at once where that can be done; otherwise the module waits for a twin command. -/
def State.endLoss (s : State) : State :=
  if !(s.twin.lostPending && s.nextRecord.isNone) then s
  else
    let s1 := (s.mapTwin (fun t => { t with lostPending := false })).post Ev.twinLost
      [s.get Reg.TWN_MIRROR.STEP, s.get Reg.TWN_STATUS.MIRROR_VALID]
    if s1.get Reg.TWN_CFG.POLICY = 1 ∧ s1.flag Reg.TWN_STATUS.MIRROR_VALID = true ∧ s1.flag Reg.TWN_STATUS.CARRY_READY = true then
      State.asOwn State.carry s1
    else s1

/-- A handover has failed: the survivor returns to its prior state with its mirror, the replacement to none (Table 9-12). -/
def State.handoverFailed (s : State) : State :=
  let back := s.twin.handoverPrior
  (((s.setTwin back).mapTwin (fun t => { t with paired := false, greeted := false })).pairFailed 0)

/-- The partner is lost (Table 9-9). A loss during a restore that the partner does not serve is held until the restore ends
(Table 12-4). -/
def State.partnerLost (s : State) : State :=
  if s.restore.isSome && s.twin.paired && decide (s.get Reg.CAP_RECOVERY.RESTORE ≠ 2) then s.mapTwin (fun t => { t with lossHeld := true })
  else if s.twin.state = 9 then s.handoverFailed
  else if !s.twin.paired then s
  else
    let gone := s.mapTwin (fun t => { t with paired := false, greeted := false, partnerArmed := false, partnerValid := false })
    if s.twin.state = 7 ∨ s.twin.state = 8 then gone
    else
      let s1 := (gone.setTwin 7).mapTwin (fun t => { t with
        lostNode := t.partnerNode, lostPending := true, seedDue := false })
      let s2 := State.asOwn (fun t => if t.lossDiscards then t.discardMark else t) s1
      let s3 := if s2.flag Reg.TWN_STATUS.MIRROR_VALID then s2 else s2.mapTwin (fun t => { t with records := [] })
      ((s3.tierFailedAll 2).abandonRestore).endLoss

/-- A loss that a restore has held is applied once the restore has ended (Table 12-4). -/
def State.heldLoss (s : State) : State :=
  if s.twin.lossHeld && s.restore.isNone then (s.mapTwin (fun t => { t with lossHeld := false })).partnerLost else s

/-- A module in SOLO withholds its arrival until a twin command (R321). -/
def State.twinWithholds (s : State) : Bool := s.twin.state == 7 && !s.role.carried

/-- A twin command ends the hold of the twin policy: the module runs again (R321, Table 9-9). -/
def State.endTwinHold (s : State) (cause : Nat) : State :=
  if s.dev = .held ∧ s.get Reg.CAP_STATE.CAUSE = eventCause Ev.twinLost then s.enter .running cause else s

/-! ### Release and handover (R321, R323) -/

/-- TWIN_RELEASE: the mirror is dropped and the survivor goes on alone. -/
def State.releaseTwin (s : State) : State :=
  ((s.mirrorLost.setTwin s.twinIdle).mapTwin (fun t => { t with
    records := [], mirror := [], lostNode := none, lostPending := false, seedDue := false })).set Reg.TWN_STATUS.CARRY_READY 0

/-- The tiles of the carried role's mirrored tensors, read back from their homes. -/
def State.carriedTiles (s : State) : List (Nat × Nat × Nat × List Byte) :=
  match s.other.bind Role.passage with
  | none => s.twin.mirror
  | some p => (p.stateful.filterMap p.tensor?).flatMap (fun t => (List.range t.tiles).map (fun k =>
      (t.id, k, s.tileRung t.id k, s.homeBytes t.id k)))

/-- The state record of the lost role: as the carried role stands, or the last one received. -/
def State.lostState (s : State) : MirrorState :=
  match s.other with
  | some r => { ({ s with role := r, other := none } : State).mirrorState r.attempt with step := BitVec.ofNat 64 (r.step - 1) }
  | none =>
    let st := s.twin.partnerState.getD ⟨0, 0, 0, [], [], 0⟩
    { st with
      step := BitVec.ofNat 64 (s.get Reg.TWN_MIRROR.STEP)
      attempt := BitVec.ofNat 64 (st.attempt.toNat + (s.role.attempt - s.twin.commitAttempt)) }

/-- TWIN_HANDOVER: the mirror, the image and the state record go to the replacement (Table 9-10 steps 1 and 2). -/
def State.startHandover (s : State) : State :=
  let st := s.lostState
  let tiles := s.carriedTiles
  let s1 := (s.mapTwin (fun t => { t with handoverPrior := t.state, mirror := tiles })).setTwin 9
  let s2 := s1.sendTwin (.handover (BitVec.ofNat 14 (s.twin.lostNode.getD 0)) s.twin.partnerImage
    (s.twin.partnerLists.map (fun x => (BitVec.ofNat 52 x.1, x.2))) st)
  tiles.foldl (fun t x => t.sendTwin (.seedTile st.step (BitVec.ofNat 16 x.1) (BitVec.ofNat 32 x.2.1) (BitVec.ofNat 2 x.2.2.1)
    x.2.2.2)) s2

/-- A handover reaches this module as the replacement. -/
def State.takeHandover (s : State) (node : Nat) (image : List Byte) (lists : List (Nat × List Byte)) (st : MirrorState) : State :=
  if s.dev = .ready ∧ s.role.passage.isNone = true ∧ s.twin.paired = true then
    (s.mapTwin (fun t => { t with
      handoverPrior := t.state, lostNode := some node, partnerImage := image, partnerLists := lists, partnerState := some st
      mirror := [] })).setTwin 9
  else s

/-- The entries of a passage are freed. -/
def State.freeEntries (s : State) (p : Passage) : State :=
  let mine := fun (e : ChartEntry) => (p.tensor? e.tensor).isSome
  { s with chart := { s.chart with
    entries := s.chart.entries.filter (fun x => !mine x.2)
    keptHomes := s.chart.keptHomes.filter (fun k => !mine (s.entry k.1))
    landedReplicas := s.chart.landedReplicas.filter (fun x => !mine (s.entry x.1)) } }

/-- The replacement takes the lost role: its node ID, its passage loaded and armed (Table 9-10 steps 3 and 4). -/
def State.takeRole (s : State) : State :=
  let p := s.partnerPassage
  match s.twin.partnerState, s.placePartner p false with
  | some st, some s1 =>
    let s2 := (s1.set Reg.TWN_MIRROR.STEP st.step.toNat)
    let r := s2.armedRole p st st.attempt.toNat
    let s3 : State := { s2 with role := r }
    let s4 := ((s3.set Reg.FAB_NODE.NODE_ID (s.twin.lostNode.getD 0)).set Reg.FAB_NODE.VALID 1).recordChanged
    let s5 := ((s4.set Reg.CAP_RUN.LOADED 1).set Reg.CAP_STEP.STEP r.step).set Reg.KNT_ATTEMPT.ATTEMPT r.attempt
    ((((s5.set Reg.TWN_MIRROR.STEP 0).enter .armed (eventCause Ev.twinHandoverDone)).mapTwin (fun t => { t with
      lostNode := none, mirror := [], records := [], seedDue := true, shipFrom := r.step, partnerImage := [] })).setTwin 5).post
      Ev.twinHandoverDone []
  | _, _ => (s.handoverFailed).mapTwin (fun t => { t with paired := true })

/-- The survivor's end of a handover: the alias is dropped, its copy stays as the replacement's mirror, and a seed of its own
content is due (Table 9-10 steps 3, 5 and 6). -/
def State.giveRole (s : State) : State :=
  let st := s.lostState
  let s1 := match s.other.bind Role.passage with
    | some p => { s.freeEntries p with other := none }
    | none => s
  let s2 := (s1.setAlias none).recordChanged
  let s3 := (s2.set Reg.TWN_MIRROR.STEP st.step.toNat).set Reg.TWN_STATUS.MIRROR_VALID 1
  (((s3.setTwin 6).endTwinHold (eventCause Ev.twinHandoverDone)).mapTwin (fun t => { t with
    partnerNode := t.lostNode.orElse (fun _ => t.partnerNode), lostNode := none, partnerArmed := true, seedDue := true
    partnerState := some st, commitAttempt := s.role.attempt, computed := some st.step.toNat, records := []
    shipFrom := s.role.step + (if s.role.inStep then 1 else 0) })).post Ev.twinHandoverDone []

/-- The shipment of a handover has ended at this module. -/
def State.handoverDone (s : State) (ok : Bool) : State :=
  if s.twin.state ≠ 9 then s
  else if !ok then s.handoverFailed
  else if s.dev = .ready ∧ s.role.passage.isNone = true then s.takeRole
  else State.asOwn State.giveRole s

/-! ### Meanings -/

/-- RESTORE_SHIPMENT_LANDED (R397). -/
def execRestoreShipmentLanded (shipment : List (Addr × List Byte)) (s : State) : Host.Outcome State Fault Refusal :=
  .next (s.restoreLanded shipment).heldLoss

/-- MIRROR_COMPUTATION (R316). -/
def execMirrorComputation (s : State) : Host.Outcome State Fault Refusal := .next s.computeMirror.endLoss

/-- SEED_COMPLETE (R319). -/
def execSeedComplete (s : State) : Host.Outcome State Fault Refusal := .next s.seedComplete

/-- HANDOVER_SHIPMENT_DONE (R323). -/
def execHandoverShipmentDone (ok : Bool) (s : State) : Host.Outcome State Fault Refusal := .next (s.handoverDone ok)

/-- An acknowledgement of the closing part or of the whole record (R316, R317). -/
def State.takeMirrorAck (s : State) (whole : Bool) (step : Nat) : State :=
  if whole then s.mapTwin (fun t => { t with ackedRecord := some step }) else s.mapTwin (fun t => { t with ackedClosing := some step })

/-- MIRROR_ACK (R317). -/
def execMirrorAck (whole : Bool) (step : W64) (s : State) : Host.Outcome State Fault Refusal := .next (s.takeMirrorAck whole step.toNat)

end Sys2Proof.Machine
end

