-- ==== Sys2Proof/Machine/Collect.lean ====
section
/-! DEFINITION. The Rendezvous and what its verdicts bring: the commit of a step, its discard, and settlement
(spec/08_sync_and_collectives.md R257 to R275; spec/07_passages.md R247 to R249; spec/04_precision_control.md R146, R147). -/

namespace Sys2Proof.Machine

/-! ### Collectives of the role in force -/

/-- A collective that has not begun. -/
def CollRun.empty : CollRun where
  episode := 0
  arrived := false
  arrivedAt := 0
  own := none
  children := []
  sent := false
  stalled := false
  contributions := []
  incoming := []
  segments := []
  landedTiles := []
  scale := 0
  scaleValid := false
  largest := 0
  leg := 0
  verdict := none

/-- How far a collective has run. -/
def State.coll (s : State) (c : Nat) : CollRun := ((s.role.colls.find? (fun x => x.1 == c)).map Prod.snd).getD CollRun.empty

/-- Change a collective. -/
def State.mapColl (s : State) (c : Nat) (f : CollRun → CollRun) : State :=
  let run := f (s.coll c)
  s.mapRole (fun r => { r with colls := r.colls.filter (fun x => x.1 != c) ++ [(c, run)] })

/-- The descriptor of a collective. -/
def State.collective? (s : State) (c : Nat) : Option Collective := s.role.passage.bind (fun p => p.collectives[c]?)

/-- base(k) of R271: K0 and the quotas of the attempts before. -/
def Role.started (r : Role) (k : Nat) : Nat := (r.base k + BitVec.ofNat 64 (r.quotaOf k * r.attempt)).toNat

/-- The member list as its bytes. -/
def Collective.listBytes (c : Collective) : List Byte := c.members.flatMap (leBytes 2)

/-- The list CRC (R272). -/
def Collective.crc (c : Collective) : W32 := BitVec.ofNat 32 (crc32c c.listBytes)

/-- Node of a position. -/
def Collective.node (c : Collective) (position : Nat) : Nat := c.members.getD position 0

/-! ### Payloads (R272, Table 9-4) -/

/-- Combine two payloads: flags by OR, norm terms by exact addition. -/
def Payload.join (a b : Payload) : Payload where
  storm := a.storm || b.storm
  discard := a.discard || b.discard
  mismatch := a.mismatch || b.mismatch
  crc := a.crc
  sum := (a.sum + b.sum) % 2 ^ 960
  nonfinite := (a.nonfinite + b.nonfinite) % 2 ^ 64

/-- The data of an arrival or a release (log 55). -/
def Payload.bytes (v : Payload) (norm : Bool) : List Byte :=
  leBytes 8 ((if v.storm then 1 else 0) + (if v.discard then 2 else 0) + (if v.mismatch then 4 else 0)) ++ leBytes 4 v.crc.toNat
    ++ leBytes 4 0 ++ (if norm then leBytes 120 v.sum ++ leBytes 8 v.nonfinite else [])

/-- Read the data of an arrival or a release. -/
def readPayload (bs : List Byte) : Payload where
  storm := bitAt (fieldAt bs 0 8) 0
  discard := bitAt (fieldAt bs 0 8) 1
  mismatch := bitAt (fieldAt bs 0 8) 2
  crc := BitVec.ofNat 32 (fieldAt bs 8 4)
  sum := fieldAt bs 16 120
  nonfinite := fieldAt bs 136 8

/-- A Rendezvous message of collective `c` to a position. -/
def State.sendRdv (s : State) (d : Collective) (c ptype position : Nat) (v : Payload) : State :=
  s.sendPacket (d.node position) { blankPacket ptype 3 with
    attempt := s.attemptTag
    aux := BitVec.ofNat 12 c
    arg := BitVec.ofNat 32 (s.coll c).episode
    data := v.bytes (d.kind == 2) }

/-! ### Traffic that carries an attempt tag (R265) -/

/-- Which role a packet is for: the carried one when it is addressed to the alias. -/
def State.packetRole (s : State) (p : Packet) : RoleSel :=
  if s.flag Reg.FAB_NODE.ALIAS_VALID ∧ s.other.isSome = true ∧ p.dest.toNat = s.get Reg.FAB_NODE.ALIAS then .carried else .own

/-- Send the acknowledgements owed under a key: to the paired twin over the twin link while that is the path (R300). -/
def State.sendAck (s : State) (key : Nat) : State :=
  let n := sparseGet 0 key s.fab.toAck
  if n = 0 then s
  else
    let own := s.get (if 16384 ≤ key then Reg.FAB_NODE.ALIAS else Reg.FAB_NODE.NODE_ID)
    let p := { blankPacket 3 1 with
      dest := BitVec.ofNat 14 key, src := BitVec.ofNat 14 own, arg := BitVec.ofNat 32 n
      hops := BitVec.ofNat 8 (max 1 (s.cfg Reg.FAB_CFG.HOP_LIMIT)) }
    let fab := { s.fab with toAck := sparsePut 0 key 0 s.fab.toAck }
    if s.twin.paired ∧ s.twin.partnerNode = some (key % 16384) ∧ s.flag Reg.TWN_STATUS.PATH = false then
      { s with fab := { fab with twinQueue := fab.twinQueue ++ [p] } }
    else { s with fab := { fab with router := fab.router ++ [p] } }

/-- The role in force owes a source the acknowledgement of a write or a signal; 64 of them are sent at once (R300). -/
def State.oweAck (s : State) (src : Nat) : State :=
  let key := src + (if s.role.carried then 16384 else 0)
  let n := sparseGet 0 key s.fab.toAck + 1
  let s1 : State := { s with fab := { s.fab with toAck := sparsePut 0 key n s.fab.toAck } }
  if 64 ≤ n then s1.sendAck key else s1

/-- Writes and signals among packets that are dropped are acknowledged all the same, since they are not lost on the way. -/
def State.ackDropped (s : State) (ps : List Packet) : State :=
  (ps.filter (fun p => p.ptype == 0 || p.ptype == 4)).foldl (fun t p => t.oweAck p.src.toNat) s

/-- The count of early messages held. -/
def State.showHeld (s : State) : State := s.set Reg.KNT_STATUS.HELD (satCount 16 s.fab.early.length)

/-- Handle a packet delivered here: DCRC is checked, and the role it is for is brought in force (R299). Its storage is free
unless it stays as early traffic. A clamped hub admits no new request (Table 10-4). -/
def State.receive (s : State) (p : Packet) (f : State → State) : State :=
  if !s.fab.inbox.contains p || (p.cls == 0 && s.hubHalted) then s
  else
    let s1 : State := { s with fab := { s.fab with inbox := s.fab.inbox.erase p } }
    let s2 := if !p.dataOk then s1.bump Reg.FAB_DROP.BAD_CRC 1 else s1.asRole (s1.packetRole p) f
    if s2.fab.early.contains p then s2 else s2.leavesStorage p

/-- Handle a packet of one type. -/
def State.deliver (s : State) (p : Packet) (ptype : Nat) (f : State → State) : State :=
  if p.ptype.toNat = ptype then s.receive p f else s

/-- Apply a packet of the present attempt, hold an early one, drop a stale one. -/
def State.byTag (s : State) (p : Packet) (apply stale : State → State) : State :=
  let d := p.attempt - s.attemptTag
  if d = 0 then apply s
  else if d = 1 then (({ s with fab := { s.fab with early := s.fab.early ++ [p] } } : State).holdEarly p).showHeld
  else stale (s.bump Reg.KNT_STALE.STALE 1)

/-- The attempt number has risen: its collectives begin anew, the counts of R263 start again, and early traffic that has become
current is taken. -/
def State.attemptRises (s : State) : State :=
  let s1 := s.mapRole (fun r => { r with
    attempt := r.attempt + 1
    colls := r.colls.map (fun x => (x.1, { CollRun.empty with scale := x.2.scale, scaleValid := x.2.scaleValid })) })
  let mine := fun (p : Packet) => s1.packetRole p == s1.sel && decide (p.attempt = s1.attemptTag)
  let knots := s1.role.quotaKnots
  let dropped := s1.fab.waitingSignals.filter (fun p => knots.contains p.knot.toNat)
  let s2 : State := { s1 with fab := { s1.fab with
    inbox := s1.fab.inbox ++ s1.fab.early.filter mine
    early := s1.fab.early.filter (fun p => !mine p)
    applied := s1.fab.applied.filter (fun x => !knots.contains x.2.1)
    waitingSignals := s1.fab.waitingSignals.filter (fun p => !knots.contains p.knot.toNat) } }
  ((s2.ackDropped dropped).showHeld).setOwn Reg.KNT_ATTEMPT.ATTEMPT s2.role.attempt

/-! ### The commit of a step (R248) -/

/-- HEAT of the passage's entries at the commit (R208). -/
def State.updateHeat (s : State) : State :=
  let mine := fun (e : ChartEntry) => (s.tensor? e.tensor).isSome
  let s1 := (s.chart.entries.filter (fun x => mine x.2)).foldl (fun t x =>
    let reads := sparseGet 0 x.1 t.chart.reads
    t.mapEntry x.1 (fun e => { e with heat := min 255 (e.heat - e.heat / 4 + min 63 (4 * reads / e.tiles)) })) s
  { s1 with chart := { s1.chart with reads := s1.chart.reads.filter (fun r => !mine (s1.entry r.1)) } }

/-- The RUNG of the passage's entries at the commit, for a new mark region (R220). -/
def State.keepRungs (s : State) : State :=
  let mine := s.chart.entries.filter (fun x => (s.tensor? x.2.tensor).isSome)
  { s with chart := { s.chart with
    lastRungs := mine.foldl (fun m x => sparsePut 0 x.1 x.2.rung m) s.chart.lastRungs } }

/-- The agreed exponent that a step's largest finite magnitude gives (R282); none when there was none. -/
def nextScale (headroom largest : Nat) : Option Int :=
  match decodeNum .fp32 largest with
  | .fin _ m => if m = 0 then none else some (max (-149) (min 112 (log2Rat m + 1 + headroom - 15)))
  | _ => none

/-- The agreed exponents for the next step, shown in KNT_SCALE. -/
def State.updateScales (s : State) : State :=
  match s.role.passage with
  | none => s
  | some p => (p.collectives.zipIdx.filter (fun x => x.1.kind == 1)).foldl (fun t x =>
      let e := nextScale x.1.headroom (t.coll x.2).largest
      let t1 := t.mapColl x.2 (fun q => { q with scale := e.getD 0, scaleValid := e.isSome })
      (t1.setOwn (Reg.KNT_SCALE.HISTORY x.2) (if e.isSome then 1 else 0)).setOwn (Reg.KNT_SCALE.E x.2) ((e.getD 0 % 512).toNat)) s

/-- Pending stops and holds act at a commit of the module's own role, in the order of R415. -/
def State.afterCommit (s : State) : State :=
  if s.role.carried then s
  else
    let left := if s.role.stepsLeft = 2 ^ 64 then s.role.stepsLeft else s.role.stepsLeft - 1
    let s1 := (s.mapRole (fun r => { r with stepsLeft := left })).set Reg.CAP_RUN.STEPS_LEFT (satCount 32 left)
    let clear := fun (t : State) => ((t.set Reg.CAP_RUN.STOP_PENDING 0).set Reg.CAP_RUN.HOLD_PENDING 0).set Reg.CAP_RUN.ABORT_PENDING 0
    if s1.role.placeFailed then (s1.mapRole (fun r => { r with placeFailed := false })).holdBy (eventCause Ev.placementFailed)
    else if s1.dev ≠ .running ∧ s1.dev ≠ .draining then s1
    else if s1.flag Reg.CAP_RUN.STOP_PENDING then (clear s1).enter .armed 0x0105
    else if s1.flag Reg.CAP_RUN.ABORT_PENDING then (clear s1).enter .armed 0x0108
    else if left = 0 then (clear s1).enter .armed 0x0104
    else if s1.flag Reg.CAP_RUN.HOLD_PENDING then (clear s1).enter .held 0x0106
    else s1

/-- The step commits (R248): history, HEAT, homes, snapshot marks, the mirror point, CAP_STEP; then the attempt rises. -/
def State.commitStep (s : State) (p : Passage) : State :=
  let step := s.role.step
  let s1 := ((s.showLoss.updateHistory.updateHeat.keepRungs.releaseHomes p).markSnapshot step).mirrorPoint
  let s2 := (s1.mapRole (fun r => { r with
    step := step + 1
    inStep := false
    closed := false
    rerun := false
    stormMark := false
    discardMark := false
    sightSteps := r.sightSteps + 1
    level := if r.stormRerunPosted then min 3 (r.level + 1) else r.level
    legs := [] })).setOwn Reg.CAP_STEP.STEP (step + 1)
  let s3 := ((s2.setOwn Reg.SND_PROMOTE.LEVEL s2.role.level).showSight).updateScales
  let s4 := ((s3.reportOverruns).setOwn Reg.NUM_UPD_STATUS.PASS 0).attemptRises
  let s5 := if s4.role.carried then s4 else s4.stepEnergyUpdate step s4.other.isSome
  s5.afterCommit.detachAtCommit

/-! ### The discard of a step (R146, R247, R261, R396) -/

/-- The step is discarded: settlement begins, and a restore where one is needed. -/
def State.discardStep (s : State) : State :=
  let late := s.role.update.committed
  let s1 := s.reportOverruns.bump Reg.KNT_RDV_STATS.DISCARDS 1
  let s2 := (s1.mapRole (fun r => { r with
    inStep := false, closed := false, settling := true, stormMark := false, discardMark := false, legs := [], outTiles := []
    update := UpdateRun.empty })).setOwn Reg.NUM_UPD_STATUS.PASS 0
  let s3 := (s2.setOwn Reg.CAP_RUN.HOST_WAIT 0).set Reg.KNT_STATUS.SETTLING 1
  let s4 := if s3.role.carried then s3 else s3.dropOpenRecords
  let s5 := s4.startRestore late false
  let s6 := if s5.role.placeFailed && !s5.role.carried then
      (s5.mapRole (fun r => { r with placeFailed := false })).holdBy (eventCause Ev.placementFailed)
    else s5
  if s6.flag Reg.CAP_RUN.HOLD_PENDING ∧ s6.role.carried = false then (s6.set Reg.CAP_RUN.HOLD_PENDING 0).holdBy 0x0106 else s6

/-- Settlement ends: short knots are raised and the attempt rises (R259, R261). SETTLING reads 1 while either role settles. -/
def State.settled (s : State) : State :=
  if !s.role.settling then s
  else
    let s1 := s.settleKnots.mapRole (fun r => { r with settling := false })
    (if (s1.other.map Role.settling).getD false then s1 else s1.set Reg.KNT_STATUS.SETTLING 0).attemptRises

/-- The storm verdict (R146): LEVEL rises, each member posts FALLBACK_STORM, and the step runs again without a budget. R146 names the
values of ORIGIN without their codes: DESIGN CHOICE, OWN is 0 and JOINED 1 (log 99). -/
def State.stormVerdict (s : State) : State :=
  let own := s.role.stormMark
  let s1 := (s.mapRole (fun r => { r with level := min 3 (r.level + 1), rerun := true })).bump Reg.SND_FALLBACK_COUNT.STORMS 1
  let s2 := (s1.setOwn Reg.SND_PROMOTE.LEVEL s1.role.level).post Ev.fallbackStorm
    [if own then s.role.stormTensor else 0xFFFF, if own then 0 else 1]
  (s2.setOwn Reg.SND_STATUS.STORM_HOLD 0).discardStep

/-! ### Acting on a verdict (R271 to R273) -/

/-- The norm combine that a leg runs beside its own collective. -/
def State.normOfLeg (s : State) (l : Leg) : Option Nat :=
  match s.role.passage with
  | none => none
  | some p => match p.collectives[l.op]? with
    | some c => if c.gradientClose && decide (p.normCollective < p.collectives.length) then some p.normCollective else none
    | none => none

/-- An episode is over: the member may begin the next. -/
def State.endEpisode (s : State) (c : Nat) : State :=
  s.mapColl c (fun q => { q with
    episode := q.episode + 1, arrived := false, own := none, children := [], sent := false, stalled := false, verdict := none })

/-- The flags of Table 8-4 act; MISMATCH governs over STORM, and STORM over DISCARD. A Rendezvous leg that signals does so when it
completes with no discard (R258). Without a norm combine the norm is that of the module's own terms (R181). -/
def State.act (s : State) (p : Passage) (i : Nat) (l : Leg) (d : Collective) (v : Payload) (norm : Option Payload) : State :=
  let episode := (s.coll l.op).episode
  let ended := ((s.normOfLeg l).map (fun n => (s.endEpisode l.op).endEpisode n)).getD (s.endEpisode l.op)
  let s1 := (ended.set Reg.KNT_STATUS.IN_RENDEZVOUS 0).mapLeg i (fun q => { q with started := l.tileCount, finished := true })
  if v.mismatch then
    ((s1.post Ev.rendezvousMismatch [s1.role.attempt, l.op, episode, d.selfPos]).discardStep).holdBy (eventCause Ev.rendezvousMismatch)
  else if v.storm then s1.stormVerdict
  else if v.discard then s1.discardStep
  else
    let s2 := s1.legSignal i l
    if d.stepClose then s2.commitStep p
    else if d.gradientClose then
      let s3 := (s2.mapRole (fun r => { r with closed := true })).shipMasks
      let own := s3.role.update.terms
      match norm with
      | some n => s3.combineNorm n.sum n.nonfinite
      | none => s3.combineNorm own.1 own.2
    else s2

/-- A release has come to the member: latency and counts, and the verdict is acted on once every episode that the leg runs has
been released (R273). -/
def State.released (s : State) (c : Nat) (v : Payload) : State :=
  let run := s.coll c
  let ns := s.dtime - run.arrivedAt
  let s1 := ((s.mapColl c (fun q => { q with verdict := some v })).bump Reg.KNT_RDV_STATS.EPISODES 1).set Reg.KNT_STATUS.LAST_COLLECTIVE c
  let s2 := (s1.set Reg.KNT_RDV_LATENCY.LAST_NS (satCount 32 ns)).set Reg.KNT_RDV_LATENCY.MAX_NS
    (max (s1.get Reg.KNT_RDV_LATENCY.MAX_NS) (satCount 32 ns))
  match s2.role.passage, s2.legAt run.leg with
  | some p, some (l, _) =>
    match p.collectives[l.op]?, (s2.coll l.op).verdict with
    | some d, some w =>
      match s2.normOfLeg l with
      | none => s2.act p run.leg l d w none
      | some n => match (s2.coll n).verdict with
        | some x => s2.act p run.leg l d (w.join { x with crc := w.crc }) (some x)
        | none => s2
    | _, _ => s2
  | _, _ => s2

/-! ### Arriving (R264, R271, R274) -/

/-- Legs before a Rendezvous have finished; with a discard to bring, those that still can be waited for are the earlier
Rendezvous (R219, R249). -/
def State.earlierDone (s : State) (i : Nat) : Bool :=
  match s.role.passage with
  | none => false
  | some p => (List.range i).all (fun j => s.legFinished j || (s.role.discardMark && (match p.leg? j with
      | some l => decide (l.kind ≠ 11)
      | none => true)))

/-- The member's own payload (R272). -/
def State.ownPayload (s : State) (d : Collective) : Payload :=
  let terms := if d.kind = 2 then s.role.update.terms else (0, 0)
  ⟨s.role.stormMark, s.role.discardMark, false, d.crc, terms.1 % 2 ^ 960, terms.2 % 2 ^ 64⟩

/-- Arrive at one collective: the arrival knot advances by one. -/
def State.arriveAt (s : State) (i c : Nat) (d : Collective) : State :=
  let v := s.ownPayload d
  ((s.mapColl c (fun q => { q with arrived := true, arrivedAt := s.dtime, own := some v, leg := i })).advance d.knotBase 1).set
    Reg.KNT_STATUS.IN_RENDEZVOUS 1

/-- A module that may arrive: it runs a step, or brings the discard of a STEP_ABORT from ARMED (R249, R274). -/
def State.mayArrive (s : State) : Bool :=
  s.role.inStep && !s.role.settling && s.pwr.stop.isNone
    && (s.dev == .running || s.dev == .draining || (s.dev == .armed && s.role.discardMark))
    && (!s.role.withhold || s.role.discardMark)

/-- Everything a Rendezvous leg waits for before it arrives. -/
def State.arrivalReady (s : State) (i : Nat) (d : Collective) : Bool :=
  s.earlierDone i && s.fab.unacked.isEmpty
    && (s.role.discardMark || ((!d.gradientClose || s.pass1Done) && s.mirrorReady d.gradientClose d.stepClose))

/-- A Rendezvous leg: the module arrives; or, under STEP_HOLD or PLACEMENT_FAILED, it withholds its arrival and enters HELD. A
STEP_CLOSE is arrived at, and the hold follows the commit (R246, R274). The twin policy HOLD withholds every arrival (Table 9-9,
R415). -/
def State.rendezvous (s : State) (i : Nat) : State :=
  match s.legAt i with
  | none => s
  | some (l, r) =>
    match s.collective? l.op with
    | none => s
    | some d =>
      if decide (l.kind ≠ 11) || r.finished || (s.coll l.op).arrived || !s.mayArrive || !s.arrivalReady i d
          || !(s.waitMet l || s.role.discardMark) then s
      else if s.twinWithholds then (if s.twin.lostPending then s else s.holdBy (eventCause Ev.twinLost))
      else if s.role.placeFailed && !s.role.carried && !d.stepClose then
        (s.mapRole (fun q => { q with placeFailed := false })).holdBy (eventCause Ev.placementFailed)
      else if s.flag Reg.CAP_RUN.HOLD_PENDING && !s.role.carried && !d.stepClose then
        (s.set Reg.CAP_RUN.HOLD_PENDING 0).holdBy 0x0106
      else
        let s0 := s.arriveAt i l.op d
        let s1 := if d.gradientClose then s0.setOwn Reg.NUM_UPD_STATUS.PASS 2 else s0
        match s.normOfLeg l with
        | none => s1
        | some n => match s.collective? n with
          | some e => s1.arriveAt i n e
          | none => s1

/-- All arrivals of an episode are counted: they are combined and go to the parent, or at the root become the verdict. -/
def State.arrivalsComplete (s : State) (c : Nat) : State :=
  match s.collective? c with
  | none => s
  | some d =>
    let run := s.coll c
    match run.own with
    | none => s
    | some own =>
      let due := s.role.started d.knotBase + (run.episode + 1) * (d.children.length + 1)
      if d.kind = 1 || !run.arrived || run.sent || decide ((s.knot d.knotBase).toNat < due) then s
      else
        let kids := (run.children.ordered (fun a b => a.1 ≤ b.1)).map Prod.snd
        let v := kids.foldl Payload.join own
        let s1 := s.mapColl c (fun q => { q with sent := true })
        match d.parent? with
        | some q => s1.sendRdv d c 5 q v
        | none =>
          let s2 := s1.advance (d.knotBase + 1) 1
          (d.children.foldl (fun t q => t.sendRdv d c 6 q v) s2).released c v

/-- The position of a packet's sender in a collective. -/
def Collective.positionOf (d : Collective) (node : Nat) : Option Nat := d.members.findIdx? (· == node)

/-- A child's arrival: its payload is kept and the arrival knot advances; another list or the wrong sense is a mismatch. -/
def State.takeArrival (s : State) (p : Packet) : State :=
  match s.collective? p.aux.toNat with
  | none => s
  | some d =>
    match d.positionOf p.src.toNat with
    | none => s
    | some q =>
      let v := readPayload p.data
      let run := s.coll p.aux.toNat
      let bad := decide (v.crc ≠ d.crc) || decide (p.arg.toNat % 2 ≠ run.episode % 2)
      let w : Payload := { v with mismatch := v.mismatch || bad }
      if d.kind = 1 || !d.children.contains q then s
      else (s.mapColl p.aux.toNat (fun r => { r with children := r.children.filter (fun x => x.1 != q) ++ [(q, w)] })).advance
        d.knotBase 1

/-- The parent's release: the release knot advances, the children are released in ascending position, and the verdict acts. -/
def State.takeRelease (s : State) (p : Packet) : State :=
  let c := p.aux.toNat
  match s.collective? c with
  | none => s
  | some d =>
    let v := readPayload p.data
    let run := s.coll c
    let bad := decide (p.arg.toNat % 2 ≠ run.episode % 2)
    let w : Payload := { v with mismatch := v.mismatch || bad }
    if d.kind = 1 || !run.sent || decide (d.positionOf p.src.toNat ≠ d.parent?) then s
    else
      let s1 := s.advance (d.knotBase + 1) 1
      (d.children.foldl (fun t q => t.sendRdv d c 6 q w) s1).released c w

/-! ### Stalls (R275) -/

/-- Positions still missing: the lowest child, or once the arrival has gone the parent. -/
def State.missingPosition (s : State) (c : Nat) (d : Collective) : Nat :=
  let run := s.coll c
  if run.sent then (d.parent?).getD d.selfPos
  else (d.children.find? (fun q => !run.children.any (fun x => x.1 == q))).getD d.selfPos

/-- STALL_US has passed in an episode: COLLECTIVE_STALLED once, and the member keeps waiting; one
under STEP_HOLD enters HELD (R275, R400). -/
def State.stall (s : State) (c : Nat) : State :=
  match s.collective? c with
  | none => s
  | some d =>
    let run := s.coll c
    if d.kind = 1 || d.stallUs == 0 || !run.arrived || run.stalled || run.verdict.isSome then s
    else
      let s1 := ((s.mapColl c (fun q => { q with stalled := true })).bump Reg.KNT_RDV_STATS.STALLS 1).post Ev.collectiveStalled
        [s.role.attempt, c, run.episode, s.missingPosition c d]
      if s1.flag Reg.CAP_RUN.HOLD_PENDING ∧ s1.role.carried = false then (s1.set Reg.CAP_RUN.HOLD_PENDING 0).holdBy 0x0106 else s1

/-! ### Meanings -/

/-- RENDEZVOUS (R271). -/
def execRendezvous (r : RoleSel) (leg : BitVec 20) (s : State) : Host.Outcome State Fault Refusal :=
  .next (s.asRole r (fun t => t.rendezvous leg.toNat))

/-- RENDEZVOUS_ARRIVALS_COMPLETE (R271). -/
def execRendezvousArrivalsComplete (r : RoleSel) (collective : BitVec 12) (s : State) : Host.Outcome State Fault Refusal :=
  .next (s.asRole r (fun t => t.arrivalsComplete collective.toNat))

/-- Reduction packets and Rendezvous messages are dropped from a disarm until the next arm (R400). -/
def State.takeCollective (s : State) (p : Packet) (ptype : Nat) (f : State → State) : State :=
  s.deliver p ptype (fun t => if t.isArmed then t.byTag p f id else t)

/-- RDV_ARRIVE (R271, R265). -/
def execRdvArrive (p : Packet) (s : State) : Host.Outcome State Fault Refusal :=
  .next (s.takeCollective p 5 (fun t => t.takeArrival p))

/-- RDV_RELEASE (R271, R265). -/
def execRdvRelease (p : Packet) (s : State) : Host.Outcome State Fault Refusal :=
  .next (s.takeCollective p 6 (fun t => t.takeRelease p))

/-- COLLECTIVE_STALLED (R275). -/
def execCollectiveStalled (r : RoleSel) (collective : BitVec 12) (s : State) : Host.Outcome State Fault Refusal :=
  .next (s.asRole r (fun t => t.stall collective.toNat))

/-- SETTLEMENT_COMPLETE (R261). -/
def execSettlementComplete (r : RoleSel) (s : State) : Host.Outcome State Fault Refusal := .next (s.asRole r State.settled)

end Sys2Proof.Machine
end

