-- ==== Sys2Proof/Machine/Loss.lean ====
section
/-! DEFINITION. What the loss of a unit does to the work and the data it held: re-placement, recomputation, LOST data, and the
stop of a module (spec/06_memory_and_placement.md R217 to R221, R225; spec/10_power_delivery.md R342, R347;
spec/14_reliability_test_security.md R436, R444). -/

namespace Sys2Proof.Machine

/-! ### Commands cut off (R422, R435) -/

/-- A started command ends ABORTED: its completion is written when the host can be reached and a slot is free, and
dropped otherwise. -/
def State.abortMailbox (s : State) (m : Nat) : State :=
  match (s.mailbox m).running with
  | none => s
  | some r =>
    let s1 := (s.setMailbox m { s.mailbox m with running := none }).set (Reg.MBX_STATUS.BUSY m) 0
    if s1.cqFree m && s1.trafficOk then
      s1.writeCompletion m ⟨s1.get (Reg.MBX_SQ_HEAD.HEAD m), s1.dev.code, Status.aborted.code, r.tag, []⟩
    else s1

/-- Every started command ends ABORTED. -/
def State.abortCommands (s : State) : State := (List.range 64).foldl State.abortMailbox s

/-! ### Tiles that run once more (R217, R218, R436) -/

/-- A leg of the accumulator buffer: a product, or the fold of its partials. -/
def Leg.folds (l : Leg) : Bool := decide (l.kind < 3) || l.kind == 9

/-- A leg's share of an entry of the accumulator buffer: its own tile, a contribution folded into the value, or a chunk result
gathered for it. -/
def Passage.sharesIn (p : Passage) (a : AccTile) (j : Nat) (l : Leg) : Bool :=
  l.folds && l.y == a.tensor && l.hasTile a.tile
    && (a.leg == j
        || (a.value.isSome && (if l.kind = 9 then decide (a.folded = p.lastUse a.tensor a.tile) else decide (l.useIndex ≤ a.folded)))
        || (a.chunks.any (fun c => c.1 == l.chunk) && (p.chunkOwner l).map Prod.fst == some a.leg))

/-- The tile of its leg that a converted tile belongs to; a composite writes its further outputs with its last tile. -/
def Leg.tileOf (l : Leg) (o : OutTile) : Nat := if l.kind = 4 ∧ o.tensor ≠ l.y then l.firstTile + l.tileCount - 1 else o.tile

/-- Tiles of a leg that have to run once more when entries of the accumulator buffer and converted tiles are lost. -/
def Passage.tilesAgain (p : Passage) (accs : List AccTile) (outs : List OutTile) (j : Nat) (l : Leg) (r : LegRun) :
    List Nat :=
  let fromAcc := (accs.filter (fun a => p.sharesIn a j l)).map AccTile.tile
  let fromOut := (outs.filter (fun o => o.leg == j)).map l.tileOf
  let fromFold := if l.folds then (outs.filter (fun o => o.tensor == l.y && l.hasTile o.tile)).map OutTile.tile else []
  ((fromAcc ++ fromOut ++ fromFold).filter (fun k => decide (k < l.firstTile + r.started))).eraseDups

/-- Put tiles of a leg in line to run once more. -/
def State.runAgain (s : State) (j : Nat) (tiles : List Nat) : State :=
  if tiles = [] then s
  else s.mapLeg j (fun r => { r with
    finished := false, redo := ((r.redo ++ tiles).eraseDups).ordered (fun a b => a ≤ b) })

/-- Give back at once what a lost entry held: its pages, and the carriage slots of the results it took or gathered. -/
def State.releaseEntry (s : State) (a : AccTile) : State :=
  let s1 := match regionQueue a.region with
    | some q => s.setCredit a.core q (s.credit a.core q + 1)
    | none => s
  match s1.legAt a.leg with
  | some (l, _) => if a.value.isSome then s1 else s1.moveCarriage l 0 (a.chunks.filter (fun c => c.1 != 0)).length
  | none => s1

/-- What pass 2 counted for a tile that the slices discard: its bytes leave the digest and its frozen elements the count. -/
def State.unwrite (s : State) (o : OutTile) : State :=
  match s.legAt o.leg with
  | some (l, _) =>
    if l.kind ≠ 5 then s
    else
      let t := (s.tensor? o.tensor).getD (imageTensor 0 0)
      let elems := t.rows * t.cols
      let n := if t.kind = 0 ∨ (s.weightSlot l t).isSome = true then
          ((t.flatTile o.tile).filter (fun k => s.frozen o.leg l (s.weightSlot l t) elems k)).length else 0
      s.mapUpdate (fun u => { u.digested o.writes with
        done := u.done.erase (o.leg, o.tile)
        frozen := if (sparseGet 0 o.tensor u.frozen) = 0 then u.frozen
          else sparsePut 0 o.tensor (sparseGet 0 o.tensor u.frozen - n) u.frozen })
  | none => s

/-- A discarded tile gives back its ring slot and, while its partial is on the way, its entry at the collector. -/
def State.discardOut (s : State) (o : OutTile) : State :=
  let s1 := s.unwrite o
  match s1.legAt o.leg with
  | some (l, r) =>
    let core := r.core.getD 0
    let s2 := s1.outMove o.leg l o.tensor false
    if s2.role.inFlight.any (fun x => x.1 == o.tensor && x.2.1 == o.tile) then
      s2.setCredit core .soundings (s2.credit core .soundings + 1)
    else s2
  | none => s1

/-- Discard entries of the accumulator buffer and converted tiles, and run their tiles once more (R121, R176). -/
def State.discardWork (s : State) (accs : List AccTile) (outs : List OutTile) : State :=
  match s.role.passage with
  | none => s
  | some p =>
    let again := s.role.legs.filterMap (fun x => (p.leg? x.1).map (fun l => (x.1, p.tilesAgain accs outs x.1 l x.2)))
    let gone := fun (tensor tile : Nat) =>
      accs.any (fun a => a.tensor == tensor && a.tile == tile) || outs.any (fun o => o.tensor == tensor && o.tile == tile)
    let s1 := outs.foldl State.discardOut (accs.foldl State.releaseEntry s)
    let s2 := s1.mapRole (fun r => { r with
      acc := r.acc.filter (fun a => !accs.contains a)
      outTiles := r.outTiles.filter (fun o => !outs.contains o)
      heldTokens := r.heldTokens.filter (fun h => !gone h.tensor h.tile)
      sightJudged := r.sightJudged.filter (fun x => !gone x.1 x.2)
      inFlight := r.inFlight.filter (fun x => !gone x.1 x.2.1) })
    again.foldl (fun t x => t.runAgain x.1 x.2) s2

/-- An uncorrectable error in a core's Compass or accumulator buffer: the tiles it holds restart from their first run on the same
core (Table 14-1). Which of them held the word the error does not say, so each restarts. -/
def State.recomputeCore (s : State) (p : Nat) (compass : Bool) : State :=
  match s.boot.numbering.findIdx? (· == p) with
  | none => s
  | some n =>
    let go := fun (t : State) =>
      if t.role.inStep then t.discardWork (t.role.acc.filter (fun a => a.core == n && (!compass || a.issuing))) [] else t
    State.asRole .carried go (go s)

/-! ### Re-placement (R217, R225) -/

/-- A leg has tiles left to run. -/
def LegRun.open (r : LegRun) : Bool := !r.finished

/-- A stream moves with its leg: the tokens posted stand, and every tile beyond them is asked for again; landings in flight are
discarded (R217). -/
def StreamRun.moved (st : Stream) (q : StreamRun) : StreamRun :=
  { q with
    asked := q.posted
    tokens := q.posted - q.taken
    landed := q.landed.filter (fun d => (st.tiles.take q.posted).contains d.tile)
    credits := q.pool - (q.posted - q.passed)
    sources := [] }

/-- Move a leg to another core's queue, or hold it for a host map; one that reads a LOST entry is placed nowhere (R219). -/
def State.moveLeg (s : State) (j : Nat) (to_ : Option Nat) : State :=
  match s.legAt j with
  | none => s
  | some (l, _) =>
    let core := if (s.role.passage.map (fun p => s.readsLost p l)).getD false then none else to_
    let position := match core with
      | some c => ((s.unitLegs c l.engine).map (fun x => x.2.2.position + 1)).foldl max 0
      | none => 0
    let ins := inboundSlots (s.streamsOf l)
    s.mapLeg j (fun r => { r with
      core := core, position := position
      streams := r.streams.zipIdx.map (fun x => match ins.find? (fun y => y.2 == x.2) with
        | some y => StreamRun.moved y.1 x.1
        | none => x.1) })

/-- The cores to which the legs of a core are dealt: the usable cores of its die in the order of R212, from the one after its own
position; where the die has none left, those of the next die. -/
def State.dealOrder (s : State) (core : Nat) : List Nat :=
  let r := s.rotationNow
  match s.ringDie (s.dieOf core) with
  | none => []
  | some d =>
    let cores := s.coreOrder d r
    if d ≠ s.dieOf core then cores
    else
      let cl := (s.dieClusters d ++ [s.clusterOf core]).eraseDups.ordered (· ≤ ·)
      let before := cores.filter (fun c => s.corePlace cl r c ≤ s.corePlace cl r core)
      cores.filter (fun c => !before.contains c) ++ before

/-- Tokens whose release was on its way from a unit that is gone are released anew. -/
def State.releaseAgain (s : State) : State :=
  (s.role.heldTokens.map (fun h => (h.tensor, h.tile))).foldl (fun t x => t.tryRelease x.1 x.2) s

/-- The unfinished legs of lost cores go to other cores, and LOCAL homes follow them; in host-assisted placement they are held. Answers
how many moved. -/
def State.replaceLegs (s : State) (cores : List Nat) : State × Nat :=
  match s.role.passage with
  | none => (s, 0)
  | some _ =>
    if !s.role.inStep then (s, 0)
    else
      let on := fun (c : Nat) => cores.contains c
      let lostAcc := s.role.acc.filter (fun a => on a.core)
      let lostOut := s.role.outTiles.filter (fun o => on (s.coreOf o.leg) && (s.legAt o.leg).isSome)
      let s1 := s.discardWork lostAcc lostOut
      let back := cores.foldl (fun (t : State) c =>
        let die := s.dieOf c
        let n := sparseGet 0 c t.role.grants
        (t.setOwn (Reg.NUM_STG_LEVEL.CURRENT die) (t.get (Reg.NUM_STG_LEVEL.CURRENT die) - n)).mapRole (fun r => { r with
          grants := sparsePut 0 c 0 r.grants, held := r.held.filter (fun h => h.unit.core.val != c) })) s1
      let host := back.flag Reg.CAP_DUTY_MODE.PLACEMENT
      let moved := cores.foldl (fun (acc : State × Nat) c =>
        let order := if host then [] else s.dealOrder c
        let legs := (acc.1.role.legs.filter (fun x => x.2.core == some c && x.2.open)).map Prod.fst
        (legs.zipIdx.foldl (fun t x => t.moveLeg x.1 order[x.2 % max order.length 1]?) acc.1, acc.2 + legs.length)) (back, 0)
      (moved.1.releaseAgain.moveHomes, moved.2)

/-- Logical cores of some physical ones. -/
def State.logicalOf (s : State) (ps : List Nat) : List Nat := ps.filterMap (fun p => s.boot.numbering.findIdx? (· == p))

/-- A Forerunner job on a lost core, or that touches lost memory, fails (R433). -/
def State.failFrw (s : State) (hit : FrwJob → Bool) : State :=
  { s with frw := s.frw.map (fun j => if hit j then { j with failed := true } else j) }

/-! ### A cluster store (R218) -/

/-- A LOCAL entry's storage holds nothing any more: its tiles are unwritten. -/
def State.unwriteEntry (s : State) (i : Nat) : State :=
  let e := s.entry i
  let kept := (s.chart.keptHomes.find? (fun k => k.1 == i)).map Prod.snd
  let s1 := s.setEntry i { e with
    state := 1, tier := 1, addr := kept.getD e.addr }
  let s2 : State := { s1 with chart := { s1.chart with keptHomes := s1.chart.keptHomes.filter (fun k => k.1 != i) } }
  s2.mapRole (fun r => { r with
    ready := r.ready.filter (fun x => !(x.1 == e.tensor && decide (e.first ≤ x.2) && decide (x.2 < e.first + e.tiles))) })

/-- Tiles of a leg to run once more for a lost entry: those that write it. -/
def Passage.againFor (p : Passage) (l : Leg) (r : LegRun) (e : ChartEntry) : List Nat :=
  if !p.writesEntry l e then []
  else
    let started := (List.range r.started).map (l.firstTile + ·)
    if l.y = e.tensor then started.filter (fun k => decide (e.first ≤ k) && decide (k < e.first + e.tiles)) else started

/-- Re-run the legs that wrote lost entries which a leg that still runs reads, from the last leg to the first, so that the legs
which wrote their inputs follow in turn (R218 step 3). Answers how many run again. -/
def State.rerunWriters (s : State) (p : Passage) (lost : List ChartEntry) : State × Nat :=
  (List.range p.legs.length).reverse.foldl (fun (acc : State × Nat) j =>
    match p.leg? j, acc.1.legAt j with
    | some l, some (_, r) =>
      let needed := lost.filter (fun e => (acc.1.role.legs.any (fun x => decide (j < x.1) && x.2.open
        && ((p.leg? x.1).map (fun m => p.readsEntry m e)).getD false)))
      let tiles := (needed.flatMap (p.againFor l r)).eraseDups
      if tiles = [] then acc else (acc.1.runAgain j tiles, acc.2 + (if r.finished then 1 else 0))
    | _, _ => acc) (s, 0)

/-- LOCAL entries of the role in force lose their data: their writers run again. Answers how many legs run again. -/
def State.recomputeLocal (s : State) (ids : List Nat) : State × Nat :=
  match s.role.passage with
  | none => (s, 0)
  | some p =>
    let mine := ids.filter (fun i => (p.tensor? (s.entry i).tensor).isSome)
    let lost := mine.map s.entry
    let s1 := mine.foldl State.unwriteEntry s
    if s1.role.inStep then s1.rerunWriters p lost else (s1, 0)

/-- The same under both roles, counted in CHT_REPLACE. -/
def State.recomputeAll (s : State) (ids : List Nat) : State :=
  let go := fun (t : State) => let x := t.recomputeLocal ids; x.1.bump Reg.CHT_REPLACE.LEGS x.2
  State.asRole .carried go (go s)

/-- Under both roles, where a step runs: the legs of lost cores move, the writers of lost LOCAL entries run again on the new cores, and
LEGS_REPLACED, or PLACEMENT_REQUEST from the host's placement, says so for the unit (R217, R218, R225). -/
def State.replaceAll (s : State) (unit : Nat) (cores ids : List Nat) : State :=
  let go := fun (t : State) =>
    let x := t.replaceLegs cores
    let y := x.1.recomputeLocal ids
    let z := (y.1.replaceLegs cores).1
    let n := x.2 + y.2
    if !t.role.inStep then z
    else if t.flag Reg.CAP_DUTY_MODE.PLACEMENT then z.post Ev.placementRequest [unit]
    else (z.bump Reg.CHT_REPLACE.LEGS n).post Ev.legsReplaced [unit, n]
  State.asRole .carried go (go s)

/-- Cores retired in a step are counted (Table 6-14). -/
def State.countRetired (s : State) (cores : List Nat) : State :=
  if s.role.inStep || (s.other.map Role.inStep).getD false then s.bump Reg.CHT_REPLACE.CORES cores.length else s

/-- A core is retired (R217). -/
def State.coreLost (s : State) (p : Nat) : State :=
  let n := s.logicalOf [p]
  ((s.countRetired n).failFrw (fun j => n.contains j.core)).replaceAll (unitCode 1 p) n []

/-- LOCAL entries homed in a cluster's store. -/
def State.localIn (s : State) (c : Nat) : List Nat :=
  (s.chart.entries.filter (fun x => decide (x.2.state ≠ 0) && decide (x.2.tier = 0) && decide (storeBase c ≤ x.2.addr)
    && decide (x.2.addr < storeBase c + 0x1000000))).map Prod.fst

/-- Replicas in a store are dropped (R218 step 1). -/
def State.dropReplicas (s : State) (c : Nat) : State :=
  let s1 := s.mapEntries (fun _ e => if e.replicas / 2 ^ c % 2 = 1 then { e with replicas := e.replicas - 2 ^ c } else e)
  { s1 with chart := { s1.chart with landedReplicas := s1.chart.landedReplicas.filter (fun x => x.2 != c) } }

/-- Physical cores of some clusters. -/
def coresOf (cs : List Nat) : List Nat := cs.flatMap (fun c => (List.range 9).map (9 * c + ·))

/-- The cores and the stores of some clusters are lost together: their legs go elsewhere, and lost LOCAL tiles are recomputed on
the new cores (R218). `fresh` are the physical cores that are retired with them now. -/
def State.clustersLost (s : State) (unit : Nat) (cs fresh : List Nat) : State :=
  let n := s.logicalOf (coresOf cs)
  let lost := cs.flatMap s.localIn
  let s1 := cs.foldl State.dropReplicas (s.countRetired (s.logicalOf fresh))
  (s1.failFrw (fun j => n.contains j.core)).replaceAll unit n lost

/-- A cluster region goes dark, or its store is retired (R218, Table 14-4): its nine cores are retired with it. -/
def State.clusterLost (s : State) (c : Nat) : State :=
  let fresh := (coresOf [c]).filter (fun p => !s.isRetired (unitCode 1 p))
  let s1 := fresh.foldl (fun t p => t.recordRetired (unitCode 1 p)) s
  (s1.bump Reg.CHT_REPLACE.REGIONS 1).clustersLost (unitCode 2 c) [c] fresh

/-! ### Data lost (R219, R220) -/

/-- An entry becomes LOST and what depends on it follows: the snapshot that has still to ship a tile of it, and the step. -/
def State.loseEntry (s : State) (i : Nat) : State :=
  let e := s.entry i
  let s1 := if e.pending then s.failSnapshot 5 else s
  s1.mapEntry i (fun x => { x with state := 7 })

/-- Entries become LOST: CHART_DATA_LOST with the unit and the first of them, DISCARD at the next Rendezvous (R219), and
PLACEMENT_FAILED where what survives cannot hold their reservations (R221). -/
def State.losesEntries (s : State) (unit : Nat) (ids : List Nat) : State :=
  match ids with
  | [] => s
  | i :: _ => (((ids.foldl State.loseEntry s).post Ev.chartDataLost [unit, i]).discardAll).checkRoom unit

/-- An entry that is in use becomes LOST. -/
def State.entryLost (s : State) (unit i : Nat) : State :=
  let e := s.entry i
  if e.state = 0 ∨ e.state = 7 then s else s.losesEntries unit [i]

/-- A LOCAL tile in a cluster store is lost to an error: it is recomputed; any other entry there becomes LOST. -/
def State.storeEntryLost (s : State) (unit i : Nat) : State :=
  let e := s.entry i
  if e.tier = 0 ∧ e.state ≠ 0 then s.recomputeAll [i] else s.entryLost unit i

/-- Bytes that a Forerunner job touches. -/
def FrwJob.ranges (j : FrwJob) : List (Nat × Nat) :=
  let w := fun (f : Nat) => if f = 2 then 2 else 1
  if j.op = 0 then [(j.a, j.m * j.n * w j.aFmt), (j.y, j.m * j.n * w j.yFmt)]
  else [(j.a, j.m * j.k * w j.aFmt), (j.b, j.k * j.n * w j.bFmt), (j.y, j.m * j.n * w j.yFmt)]

/-- An address lies in the mark region. -/
def State.inMarks (s : State) (a : Nat) : Bool :=
  let base := s.get Reg.CHT_MARK_REGION.BASE
  decide (s.chart.markBytes ≠ 0) && overlaps (a / 64 * 64) 64 base s.chart.markBytes

/-- The data at an address of HBM4E are lost: the entry that holds the line becomes LOST, and a snapshot whose pending tiles the line
tracks is aborted (R188). -/
def State.addressLost (s : State) (unit a : Nat) : State :=
  let s0 := if s.inMarks a then s.failSnapshot 5 else s
  let s1 := s0.failFrw (fun j => j.ranges.any (fun r => overlaps (a / 64 * 64) 64 r.1 r.2))
  match s1.chart.entries.find? (fun x => decide (x.2.tier = 1) && decide (x.2.addr ≤ a) && decide (a < x.2.addr + x.2.bytes)) with
  | some x => s1.entryLost unit x.1
  | none => s1

/-- The mirror of the partner's content is damaged: it holds nothing until it is seeded again (R319). -/
def State.mirrorDamaged (s : State) : State :=
  if s.twin.state = 5 ∨ s.twin.state = 6 ∨ s.twin.state = 7 then
    let s1 := s.mirrorLost.mapTwin (fun t => { t with seedStep := none, mirror := [] })
    if s.twin.state = 6 then s1.setTwin 5 else s1
  else s

/-- The base stack is lost: the sighting database is rebuilt in the new base stack (R220 step 1), and the mark region is to be
placed at the next step start (step 2). -/
def State.baseLost (s : State) (unit : Nat) : State :=
  let s1 : State := { s with fab := { s.fab with
    database := s.fab.database.filter (fun d => d.record.uid == s.part.uid), rebuilding := true, quiet := false } }
  let s2 := s1.set Reg.FAB_STATUS.SIGHTING 1
  match s2.baseStack.bind (fun k => s2.fitStack k (4 * 2 ^ 20)) with
  | some a => { s2 with fab := { s2.fab with region := some a } }
  | none => s2.placementFailed unit

/-- A restore that runs finds some of its set lost again: it is placed anew, and its source sends it once more. -/
def State.restoreAgain (s : State) (unit : Nat) : State :=
  match s.restore with
  | none => s
  | some x =>
    match s.replaceLost x.entries with
    | some t => if t.get Reg.CAP_RECOVERY.RESTORE = 2 then t.sendTwin
        (.restoreAsk ((x.entries.map (fun i => BitVec.ofNat 16 (t.entry i).tensor)).eraseDups)) else t
    | none => s.placementFailed unit

/-- The reservations kept in lost stacks for LOCAL homes are placed anew; PLACEMENT_FAILED where one finds no room (R221). -/
def State.rehomeKept (s : State) (unit : Nat) (inside : Nat → Bool) : State :=
  (s.chart.keptHomes.filter (fun k => inside k.2)).foldl (fun t k =>
    let others := t.chart.keptHomes.filter (fun x => x.1 != k.1)
    let t0 : State := { t with chart := { t.chart with keptHomes := others } }
    match t0.fitAny (t0.entry k.1).bytes with
    | some a => { t0 with chart := { t0.chart with keptHomes := others ++ [(k.1, a)] } }
    | none => t.placementFailed unit) s

/-- The data of some stacks are lost (R219, R220); the units are out of use already. Where a passage is loaded the step is to be
discarded, whichever entries the stacks held; with none, CHART_DATA_LOST names the index after the last entry (log 87). -/
def State.stacksLost (s : State) (unit : Nat) (wasBase : Option Nat) (ns : List Nat) : State :=
  let inside := fun (a : Nat) => isHbm a && ns.contains (addrStack a)
  let ids := (s.chart.entries.filter (fun x => decide (x.2.state ≠ 0) && decide (x.2.state ≠ 7)
    && decide (x.2.tier = 1) && inside x.2.addr)).map Prod.fst
  let base := ns.any (fun n => wasBase == some n)
  let marks := decide (s.chart.markBytes ≠ 0) && inside (s.get Reg.CHT_MARK_REGION.BASE)
  let s1 := if marks then s.failSnapshot 5 else s
  let told := if ids = [] ∧ s1.role.passage.isSome = true then (s1.post Ev.chartDataLost [unit, s1.nextEntry]).discardAll
    else s1.losesEntries unit ids
  let s2 := (ns.foldl State.loseStack (told.rehomeKept unit inside)).failFrw (fun j => j.ranges.any (fun r => inside r.1))
  let s3 : State := { s2 with chart := { s2.chart with relocateMarks := s2.chart.relocateMarks || marks } }
  let s4 := s3.mirrorDamaged
  let s5 := if base then s4.baseLost unit else s4
  if ids = [] then s5 else s5.restoreAgain unit

/-- A stack is lost. -/
def State.stackLost (s : State) (n : Nat) : State :=
  -- the base stack before the loss: no lower stack is in use
  let base := if (List.range n).all (fun k => !s.stackInUse k) then some n else none
  (s.bump Reg.CHT_REPLACE.REGIONS 1).stacksLost (unitCode 5 n) base [n]

/-- A compute die is lost with its cores, its cluster stores and both stacks (R218, R219, R342). -/
def State.dieLost (s : State) (d : Nat) : State :=
  let base := if (List.range (2 * d)).all (fun k => !s.stackInUse k) then some (if s.part.variant.stacks ≤ 2 * d then 2 * d + 1 else 2 * d)
    else none
  let s1 := (s.set Reg.CAP_BOOT.DIE_UNUSED (s.get Reg.CAP_BOOT.DIE_UNUSED ||| 2 ^ d)).bump Reg.CHT_REPLACE.REGIONS 1
  let cs := (List.range 8).map (8 * d + ·)
  let fresh := (coresOf cs).filter (fun p => !s.isRetired (unitCode 1 p) && decide (s.regionState (coreCluster p) ≠ 5))
  (s1.clustersLost (unitCode 2 (8 * d)) cs fresh).stacksLost (unitCode 5 (2 * d)) base [2 * d, 2 * d + 1]

/-- A staging slot beyond the spares is retired (Table 14-4). -/
def State.stagingSlotLost (s : State) (d : Nat) : State :=
  { s with rel := { s.rel with slotsLost := sparsePut 0 d (sparseGet 0 d s.rel.slotsLost + 1) s.rel.slotsLost } }

/-! ### A step or a passage that is lost -/

/-- A role whose step is lost. -/
def Role.lost (r : Role) : Role := { r.clean with inStep := false, settling := false }

/-- The step in progress is lost (R347, R382, Table 10-5). -/
def State.loseStep (s : State) : State :=
  let s1 : State := { s with role := s.role.lost, other := s.other.map Role.lost, restore := none }
  let s2 := (s1.set Reg.KNT_STATUS.SETTLING 0).set Reg.KNT_STATUS.IN_RENDEZVOUS 0
  (((s2.set Reg.NUM_UPD_STATUS.PASS 0).set Reg.CHT_STATUS.ASSIGNING 0).failSnapshot 5).failFrw (fun _ => true)

/-- The passage in force is dropped. -/
def State.dropPassage (s : State) : State :=
  let s1 : State := { s with
    role := Role.empty, other := none, chart := ChartUnit.empty, load := none, snap := none, restore := none }
  (s1.set Reg.CAP_RUN.LOADED 0).set Reg.CAP_PASSAGE_ID.ID 0

/-- The step whose commit came last (R347). -/
def State.committedStep (s : State) : Nat :=
  let r := if s.role.carried then s.other.getD s.role else s.role
  if r.passage.isSome then r.step - 1 else 0

/-- A PASSAGE_LOAD that runs is given up (R410). -/
def State.dropLoad (s : State) : State := { s with load := none }

/-! ### A module that stops (R320, R347) -/

/-- Nodes of the module's STEP_CLOSE groups, itself left out. -/
def State.groupNodes (s : State) : List Nat :=
  match s.role.passage with
  | none => []
  | some p => ((p.collectives.filter (fun c => c.stepClose)).flatMap (fun c =>
      (c.members.zipIdx.filter (fun x => x.2 != c.selfPos)).map Prod.fst)).eraseDups

/-- The partner is told over the twin link and over the fabric. -/
def State.announceTwin (s : State) : State :=
  if s.twin.paired then (s.emit (.twin false .stopping)).emit (.twin true .stopping) else s

/-- A stop on hold-up is announced: to the partner, and by an MGMT packet to every member of the STEP_CLOSE group (R347). -/
def State.announceStop (s : State) : State :=
  s.groupNodes.foldl (fun t n => t.emit (.mgmt n .stopping)) s.announceTwin

/-- A trip is announced to the partner and the group in the same way (R382). -/
def State.announceSafe (s : State) : State := s.announceStop

/-! ### Links retired (Table 14-4) -/

/-- A Closon port is retired: it is held DISABLED (R308). -/
def State.portRetired (s : State) (p : Nat) : State :=
  if 4 ≤ (s.port p).state then s.portDown p 0 else (s.setPortState p 0).clearPort p

/-- The twin link is retired: it is held DOWN (R320). -/
def State.twinLinkRetired (s : State) : State :=
  if 4 ≤ (s.port 16).state then s.portDown 16 1 else (s.setPortState 16 1).clearPort 16

/-! ### Pace (R285) -/

/-- Send a packet with the source it names. -/
def State.forwardFrom (s : State) (dest : Nat) (p : Packet) : State :=
  let q := { p with
    dest := BitVec.ofNat 14 dest, hops := BitVec.ofNat 8 (max 1 (s.cfg Reg.FAB_CFG.HOP_LIMIT)) }
  { s with fab := { s.fab with router := s.fab.router ++ [q] } }

/-- The positions next to this one in the STEP_CLOSE tree. -/
def Collective.neighbours (d : Collective) : List Nat := (d.parent?.map (fun q => [q])).getD [] ++ d.children

/-- The collective that closes the step. -/
def Passage.stepTree (p : Passage) : Option Collective := p.collectives.find? (fun c => c.stepClose)

/-- Send a pace advisory along the edges of the STEP_CLOSE tree. -/
def State.sendPace (s : State) (fraction cause : Nat) : State :=
  match s.role.passage.bind Passage.stepTree with
  | none => s
  | some d =>
    let p := { blankPacket 9 3 with
      src := BitVec.ofNat 14 s.nodeId, arg := BitVec.ofNat 32 (fraction % 256 + cause * 256) }
    (d.neighbours.foldl (fun t q => t.forwardFrom (d.node q) p) s).bump Reg.KNT_PACE.SENT 1

/-- After a slow-loop period: an advisory above PACE_THRESHOLD, and one with a fraction of 0 below half of it. -/
def State.paceCheck (s : State) (fraction : Nat) : State :=
  let limit := s.cfg Reg.KNT_CFG.PACE_THRESHOLD
  if s.role.carried || !s.role.inStep then s
  else if limit ≠ 0 ∧ limit < fraction then
    { s.sendPace fraction s.paceCause with helm := { s.helm with paceOver := true } }
  else if s.helm.paceOver && decide (2 * fraction < limit) then
    { s.sendPace 0 s.paceCause with helm := { s.helm with paceOver := false } }
  else s

/-! ### Host transfers that fail (R409, R410, R188, R224) -/

/-- A host transfer of the snapshot fails. -/
def State.snapshotHostFault (s : State) : State :=
  match s.snap with
  | some x => if x.node.isNone then s.failSnapshot 1 else s
  | none => s

/-- A host transfer of an off-load fails: the host tier fails. -/
def State.offloadHostFault (s : State) : State := s.tierFailedAll 4

end Sys2Proof.Machine
end

