-- ==== Sys2Proof/Machine/Power.lean ====
section
/-! DEFINITION. Power delivery: the input, Stage A, the power regions and the orderly stop
(spec/10_power_delivery.md). -/

namespace Sys2Proof.Machine

/-! ### Regions -/

/-- Phases of a region that are healthy. -/
def State.phasesHealthy (s : State) (r : Nat) : Nat := popCount 8 (s.get (Reg.HELM_RGN_STATUS.PHASES_OK r))

/-- Open a region's switch without a fault: OFF, unless it is dark (R334, R382). -/
def State.regionOff (s : State) (r : Nat) : State :=
  if s.regionState r = 5 then s
  else ((s.set (Reg.HELM_RGN_STATUS.STATE r) 0).set (Reg.HELM_RGN_STATUS.SETPOINT r) 0).setRegion r
    { Region.idle with
      lastOvercurrent := (s.region r).lastOvercurrent, captured := (s.region r).captured, lastTime := (s.region r).lastTime }

/-- Switch several regions off. -/
def State.regionsOff (s : State) (rs : List Nat) : State := rs.foldl State.regionOff s

/-- The cluster, uncore and stack regions of the variant. -/
def State.computeRegions (s : State) : List Nat := s.regions.filter (fun r => !(36 ≤ r && r < 40))

/-- The link to the host is gone with hub.q3, and the ports with hub.q2 (R25, R310). -/
def State.hostLinkLost (s : State) : State :=
  { (s.set Reg.CAP_PCIE.WIDTH 0).set Reg.CAP_PCIE.GEN 0 with
    pcie := { s.pcie with training := false, controllerReady := false } }

/-- With hub.q3 the hub crossbar loses its supply, and what is on its way through it is lost (R25). -/
def State.crossbarLost (s : State) : State := { s with flights := s.flights.filter (fun f => !f.ways.contains .crossbar) }

/-- What a dark hub region does (Table 10-5): hub.q1 to hub.q3 stop issue and the module enters FAULTED; a dark
hub.q0 switches every region off and asserts FAULT, and with it the module is OFF (log 21). -/
def State.hubDark (s : State) (r : Nat) : State :=
  if r = 36 then
    { ((s.loseStep.dropPassage.regionsOff s.regions).loseHbm.hostLinkLost).assertFaultPin with dev := .off }
  else
    let s1 := s.loseStep
    let s2 := if s1.pcie.wasReady then s1 else s1.set Reg.CAP_BOOT.FAIL 2
    let s3 := if r = 39 then s2.hostLinkLost.crossbarLost else if r = 37 then { s2 with chart := ChartUnit.empty } else s2
    let s4 := if r = 38 then s3.portsOff else s3.announceTwin
    if s4.dev = .faulted then s4 else s4.enter .faulted (eventCause Ev.regionDark)

/-- A region goes dark: its switch opens for a fault and it stays dark until the input is removed; the consequences
are those of Table 10-5 (R334, R342). -/
def State.goDark (s : State) (r cause : Nat) : State :=
  if s.regionState r = 5 ∨ s.part.variant.hasRegion r = false then s
  else
    let s1 := (((s.regionOff r).set (Reg.HELM_RGN_STATUS.STATE r) 5).set (Reg.HELM_RGN_STATUS.DARK_CAUSE r) cause)
    let s2 := { s1 with
      hold := { s1.hold with dark := (r, cause) :: s1.hold.dark }
      boot := { s1.boot with afterFault := true } }
    let s3 := if r = 36 then s2 else s2.post Ev.regionDark [r, cause]
    if r < 32 then s3.clusterLost r
    else if r < 36 then s3.dieLost (r - 32)
    else if r < 40 then s3.hubDark r
    else s3.stackLost (r - 40)

/-- A phase is failed and disabled; a second failed phase makes the region dark (R341, R342). -/
def State.failPhase (s : State) (r phase cause : Nat) : State :=
  let ok := s.get (Reg.HELM_RGN_STATUS.PHASES_OK r)
  if s.part.variant.hasRegion r = false ∨ ok / 2 ^ phase % 2 = 0 then s
  else
    let s1 := (s.set (Reg.HELM_RGN_STATUS.PHASES_OK r) (ok - 2 ^ phase)).post Ev.regulatorFailed [r, phase, cause]
    let s2 := s1.recordRetired (6 * 2 ^ 28 + 8 * r + phase)
    if s2.phasesHealthy r + 2 ≤ s2.part.variant.phasesFitted r then s2.goDark r 1 else s2

/-- Current above 125 % of the limit clamps the region (R337, R338). -/
def State.clampRegion (s : State) (r : Nat) : State :=
  if s.regionState r = 3 then
    let s1 := (s.set (Reg.HELM_RGN_STATUS.STATE r) 4).bump (Reg.HELM_RGN_EVENTS.OC_CLAMPS r) 1
    let x := s1.region r
    let quiet := match x.lastOvercurrent with
      | none => false
      | some t => decide (s1.dtime < t + 1000000000)
    let x' := { x with
      restoring := false, restored := 0
      lastOvercurrent := if quiet then x.lastOvercurrent else some s1.dtime }
    let s2 := { s1.setRegion r x' with
      helm := { s1.helm with lastClamp := some s1.dtime } }
    if quiet then s2 else s2.post Ev.regionOvercurrent [r]
  else s

/-- The clamp is released and the actuator begins to be restored (R338). -/
def State.releaseClamp (s : State) (r : Nat) : State :=
  if s.regionState r = 4 then
    (s.set (Reg.HELM_RGN_STATUS.STATE r) 3).setRegion r { s.region r with restoring := true, restored := 0 }
  else s

/-- One sixteenth more of the issue slots or requests is restored (R338). -/
def State.restoreStep (s : State) (r : Nat) : State :=
  let x := s.region r
  if x.restoring then
    s.setRegion r { x with restored := x.restored + 1, restoring := decide (x.restored + 1 < 16) }
  else s

/-- A rail sample of an ON or CLAMPED region: VOLTAGE, the VMIN capture with the region's local time, and the droop
count (R336, R340). -/
def State.sampleRail (s : State) (r mv lag : Nat) : State :=
  if s.regulating r then
    let s1 := s.set (Reg.HELM_RGN_STATUS.VOLTAGE r) mv
    let s2 :=
      if !(s1.region r).captured || decide (mv < s1.get (Reg.HELM_RGN_VMIN.VMIN r)) then
        let t := max (s1.dtime - lag) (s1.region r).lastTime
        ((s1.set (Reg.HELM_RGN_VMIN.VMIN r) mv).set (Reg.HELM_RGN_VMIN_TIME.DTIME r) t).setRegion r
          { s1.region r with captured := true, lastTime := t }
      else s1
    let depth := max 1 (s2.get Reg.HELM_PD_CFG.DROOP_MV)
    if mv + depth < s2.get (Reg.HELM_RGN_STATUS.SETPOINT r) then s2.bump (Reg.HELM_RGN_EVENTS.DROOPS r) 1 else s2
  else s

/-- Arm a region's minimum capture again (R340). -/
def State.rearmRegion (s : State) (r : Nat) : State :=
  if s.part.variant.hasRegion r then
    ((s.set (Reg.HELM_RGN_VMIN.VMIN r) 0xFFFF).set (Reg.HELM_RGN_VMIN_TIME.DTIME r) 0).setRegion r
      { s.region r with captured := false }
  else s

/-- Arm the input's minimum capture again (R340). -/
def State.rearmInput (s : State) : State :=
  let s1 := (s.set Reg.HELM_IN_MIN.VIN_MIN 0xFFFF).set Reg.HELM_IN_MIN_TIME.DTIME 0
  { s1 with pwr := { s1.pwr with inputCaptured := false } }

/-! ### Enabling a region (R343 to R345) -/

/-- The neighbours of a region that exist. -/
def State.neighbours (s : State) (r : Nat) : List Nat :=
  (regionNeighbours r).filter s.part.variant.hasRegion

/-- A neighbour reads at or above 80 % of its limit; one in SOFT_START counts as above (R344). -/
def State.isBusy (s : State) (n : Nat) : Bool :=
  s.regionState n == 2 || decide (4 * regionLimit n ≤ 5 * s.get (Reg.HELM_RGN_STATUS.CURRENT n))

/-- A lower neighbour is itself being enabled, so that this region's own 100 µs have not begun (R344). -/
def State.lowerEnabling (s : State) (r : Nat) : Bool :=
  (s.neighbours r).any (fun n => decide (n < r) && (s.regionState n == 1 || s.regionState n == 2))

/-- The rail setpoint a region is enabled at in mV: index 0 for a cluster, its fused value otherwise (Table 10-2,
R388); a rail with no fused value listed has 750 mV (log 7). -/
def State.enableSetpoint (s : State) (r : Nat) : Nat :=
  if r < 32 then s.setpoint (r / 8) 0 else sparseGet 750 r s.part.fusedRail

/-- The region closes its switch and enters SOFT_START (R344). -/
def State.softStart (s : State) (r : Nat) : State :=
  let s1 := (s.set (Reg.HELM_RGN_STATUS.STATE r) 2).set (Reg.HELM_RGN_STATUS.SETPOINT r) (s.enableSetpoint r)
  s1.setRegion r { s1.region r with softStep := 0, restored := 16, restoring := false }

/-- The regions of a die in the order of start-up: uncore, stacks, clusters (R388). -/
def dieOrder (d : Nat) : List Nat := [32 + d, 40 + 2 * d, 41 + 2 * d] ++ (List.range 8).map (8 * d + ·)

/-- Start-up has come to a region: the hub regions come first, then die by die (R388); the regions of a die follow once firmware runs
(R392). -/
def State.enableDue (s : State) (r : Nat) : Bool :=
  (36 ≤ r && r < 40) || (s.boot.fwStarted && (s.dev != .boot || (((List.range 4).flatMap dieOrder).takeWhile (· != r)).all (fun x =>
    !s.part.variant.hasRegion x || decide (s.regionState x ≠ 0) || (match regionDie x with
      | some d => decide (s.get Reg.CAP_BOOT.DIE_UNUSED / 2 ^ d % 2 = 1)
      | none => false))))

/-- A request to enable a region: refused when the region is dark, of a die left unused or not due yet, deferred while a
neighbour is busy, started otherwise (R344, Table 12-2). -/
def State.requestEnable (s : State) (r : Nat) : State :=
  let unused := match regionDie r with
    | some d => decide (s.get Reg.CAP_BOOT.DIE_UNUSED / 2 ^ d % 2 = 1)
    | none => false
  if s.part.variant.hasRegion r = false ∨ s.dev = .off ∨ s.regionState r ≠ 0 ∨ unused = true ∨ s.enableDue r = false then s
  else if s.lowerEnabling r ∨ (s.neighbours r).any s.isBusy = true then
    (s.set (Reg.HELM_RGN_STATUS.STATE r) 1).bump (Reg.HELM_RGN_EVENTS.DEFERS r) 1
  else s.softStart r

/-- The wait in DEFERRED ends (R344). -/
def State.endDefer (s : State) (r : Nat) : State :=
  if s.regionState r = 1 ∧ s.lowerEnabling r = false then s.softStart r else s

/-- One step of a soft start, unless a clamp in a neighbour pauses it; after the 64th the region is ON
(R344, R345). -/
def State.softStartStep (s : State) (r : Nat) : State :=
  if s.regionState r = 2 ∧ (s.neighbours r).all (fun n => s.regionState n != 4) then
    let x := s.region r
    let s1 := s.setRegion r { x with softStep := x.softStep + 1 }
    if x.softStep + 1 < 64 then s1
    else if r = 38 then (s1.set (Reg.HELM_RGN_STATUS.STATE r) 3).portsOn
    else s1.set (Reg.HELM_RGN_STATUS.STATE r) 3
  else s

/-! ### Stage A (R331) -/

/-- Healthy cells of CELLS_OK. -/
def State.healthyCells (s : State) : Nat := popCount 4 (s.get Reg.HELM_STAGEA.CELLS_OK)

/-- Show the ceiling that the healthy cells give. -/
def State.showCeiling (s : State) : State :=
  s.set Reg.HELM_STAGEA.CEILING_W (stageCeiling s.part.variant s.healthyCells)

/-- An orderly stop begins: the switches change over, issue stops and the step in progress is lost (R347); started
commands end ABORTED (R422, R435). -/
def State.beginStop (s : State) (cause vin vbank : Nat) : State :=
  if s.dev = .off ∨ s.pwr.stop.isSome then s
  else
    let s1 := (s.loseStep.abortCommands).set Reg.HELM_IN_STATUS.STOPPING 1
    { s1 with
      mramJob := none
      pwr := { s1.pwr with
        inputSwitch := false, bankSwitch := true
        stop := some ⟨cause, vin, vbank, BitVec.ofNat 64 s.dtime, false, false, false, false, false⟩ } }

/-- A Stage A cell is disabled; with none left the module stops under cause 4 (R331). -/
def State.failCell (s : State) (cell vin vbank : Nat) : State :=
  let ok := s.get Reg.HELM_STAGEA.CELLS_OK
  if ok / 2 ^ cell % 2 = 0 then s
  else
    let s1 := (s.set Reg.HELM_STAGEA.CELLS_OK (ok - 2 ^ cell)).showCeiling
    let s2 := { s1 with hold := { s1.hold with failedCells := s1.hold.failedCells ||| BitVec.ofNat 4 (2 ^ cell) } }
    let s3 := s2.post Ev.stageaCellFailed [cell, s2.get Reg.HELM_STAGEA.CEILING_W]
    if s3.healthyCells = 0 then s3.beginStop 4 vin vbank
    else if s3.helm.loopsRunning then s3.computeCap else s3

/-! ### The stop record (R347, R464, Table 12-7) -/

/-- The 16 units with the most events in the window, in descending IN_WINDOW and then ascending unit code. -/
def State.topUnits (s : State) : List (Nat × FaultWindow) :=
  let insert := fun (acc : List (Nat × FaultWindow)) (e : Nat × FaultWindow) =>
    acc.takeWhile (fun a => decide (e.2.times.length ≤ a.2.times.length)) ++ [e]
      ++ acc.dropWhile (fun a => decide (e.2.times.length ≤ a.2.times.length))
  ((s.rel.windows.filter (fun e => decide (e.2.times ≠ []))).foldl insert []).take 16

/-- The 128 words of the stop record. -/
def State.stopWords (s : State) (x : StopRun) (stops : Nat) : List W64 :=
  let word0 := 2 ^ 63 + (if x.tripped then 2 ^ 62 else 0) + x.cause * 2 ^ 48 + x.vin * 2 ^ 32 + x.vbank * 2 ^ 16
    + satCount 16 stops
  let head := [BitVec.ofNat 64 word0, x.dtime, BitVec.ofNat 64 s.committedStep, s.rd Reg.KNT_ATTEMPT.ATTEMPT.reg,
    s.rd Reg.CAP_STEP.STEP.reg, s.rd Reg.CAP_PASSAGE_ID.ID.reg, BitVec.ofNat 64 (s.get Reg.HELM_STAGEA.CELLS_OK), 0]
  let rgn := (List.range 48).flatMap (fun i =>
    if s.part.variant.hasRegion i then
      [BitVec.ofNat 64 (s.get (Reg.HELM_RGN_STATUS.PHASES_OK i) * 2 ^ 56 + s.get (Reg.HELM_RGN_VMIN.VMIN i)),
        s.rd (Reg.HELM_RGN_VMIN_TIME.DTIME i).reg]
    else [0, 0])
  let tot := [BitVec.ofNat 64 (satCount 32 s.rel.totEvents * 2 ^ 32 + satCount 32 s.rel.totLasting),
    BitVec.ofNat 64 (satCount 32 s.rel.totUncorrectable * 2 ^ 32 + satCount 32 s.rel.totRetired)]
  let units := s.topUnits.map (fun e => BitVec.ofNat 64
    (e.1 * 2 ^ 32 + satCount 16 e.2.times.length * 2 ^ 16 + satCount 16 (s.unitTotal e.1)))
  let all := head ++ rgn ++ tot ++ units
  all ++ List.replicate (128 - all.length) 0

/-- At 0.05 ms the stop is announced to the partner, the group, the host and the management bus (R347, R350). -/
def State.stopAnnounced (s : State) : State :=
  match s.pwr.stop with
  | none => s
  | some x =>
    if x.announced then s
    else
      let s1 := (s.announceStop.post Ev.holdupStop [x.vin, x.cause])
      { s1 with
        pwr := { s1.pwr with stop := some { x with announced := true } }
        hold := { s1.hold with stopPin := true } }.emit (.pin .stop true)

/-- By 0.1 ms the cluster, uncore and stack regions are off and HBM4E contents are lost (R347). -/
def State.stopRegions (s : State) : State :=
  match s.pwr.stop with
  | none => s
  | some x =>
    if x.announced && !x.regionsOff then
      let s1 := (s.regionsOff s.computeRegions).loseHbm
      { s1 with pwr := { s1.pwr with stop := some { x with regionsOff := true } } }
    else s

/-- By 2.0 ms the stop record is in MRAM with its cleared mark at 0 (R347, R401). -/
def State.stopRecord (s : State) : State :=
  match s.pwr.stop with
  | none => s
  | some x =>
    if x.regionsOff && !x.recorded then
      let n := s.mram.stop.stops + 1
      { s with
        mram := { s.mram with stop := { s.mram.stop with
          words := s.stopWords x n, written := true, cleared := false, stops := n } }
        pwr := { s.pwr with stop := some { x with recorded := true } } }
    else s

/-- By 2.5 ms hub.q1 to hub.q3 are off (R347). -/
def State.stopHub (s : State) : State :=
  match s.pwr.stop with
  | none => s
  | some x =>
    if x.recorded && !x.hubOff then
      let s1 := (s.regionsOff [37, 38, 39]).hostLinkLost.portsOff
      { s1 with pwr := { s1.pwr with stop := some { x with hubOff := true } } }
    else s

/-- By 3.0 ms hub.q0 and Stage A are off and the module is OFF, the cause taken from HOLDUP_STOP (R347, R415). -/
def State.stopDone (s : State) : State :=
  match s.pwr.stop with
  | none => s
  | some x =>
    if x.hubOff then
      let s1 := (s.regionsOff [36]).dropPassage.enter .off (eventCause Ev.holdupStop)
      { s1 with
        hold := { s1.hold with cellsGone := s1.hold.cellsGone || x.cause == 4 }
        boot := { s1.boot with busUp := false }
        pwr := { s1.pwr with stop := none, bankSwitch := false, stageA := false, charger := false } }
    else s

/-! ### Meanings -/

/-- HELM_IN_MIN_REARM (R340). -/
def execHelmInMinRearm (s : State) : Host.Outcome State Fault Refusal :=
  .next (if s.served then s.rearmInput else s)

/-- HELM_RGN_VMIN_REARM (R340). -/
def execHelmRgnVminRearm (region : Fin 48) (s : State) : Host.Outcome State Fault Refusal :=
  .next (if s.served && s.part.variant.hasRegion region.val then s.rearmRegion region.val else s)

/-- POWER_UP (R328): with the module OFF and the input at 58 V for 10 ms, the input switch closes, Stage A and the
hold-up charger start; not after a stop under cause 4 (R331). -/
def execPowerUp (s : State) : Host.Outcome State Fault Refusal :=
  .next (if s.dev = .off ∧ s.hold.cellsGone = false ∧ s.pwr.stop = none then
    { s with
      pwr := { s.pwr with inputSwitch := true, stageA := true, charger := true }
      boot := { s.boot with busUp := false } }
  else s)

/-- BUS_IN_REGULATION (R388): hub.q0 is enabled, unless it is dark. -/
def execBusInRegulation (s : State) : Host.Outcome State Fault Refusal :=
  .next (if s.dev = .off ∧ s.pwr.stageA = true ∧ s.hold.dark.all (fun d => d.1 != 36) then
    { s with boot := { s.boot with busUp := true } }
  else s)

/-- HOLDUP_BANK_READY (R346). -/
def execHoldupBankReady (vbank : W16) (s : State) : Host.Outcome State Fault Refusal :=
  .next (if s.dev = .off then s
    else (s.set Reg.HELM_IN_STATUS.VBANK vbank.toNat).set Reg.HELM_IN_STATUS.HOLDUP_READY 1)

/-- HOLDUP_BANK_LOW (R346). -/
def execHoldupBankLow (vbank : W16) (s : State) : Host.Outcome State Fault Refusal :=
  .next (if s.dev = .off then s
    else (s.set Reg.HELM_IN_STATUS.VBANK vbank.toNat).set Reg.HELM_IN_STATUS.HOLDUP_READY 0)

/-- Input thresholds act after READY, and before it once HOLDUP_READY is 1 (Table 12-2). -/
def State.thresholdsAct (s : State) : Bool :=
  s.dev != .off && s.pwr.stop.isNone && (s.pcie.wasReady || s.flag Reg.HELM_IN_STATUS.HOLDUP_READY)

/-- UNDERVOLTAGE_TIMER_START (R328): the timer runs, INPUT_LOW is posted and the floor is held. -/
def execUndervoltageTimerStart (vin : W16) (s : State) : Host.Outcome State Fault Refusal :=
  .next (if s.thresholdsAct && !s.flag Reg.HELM_IN_STATUS.UNDER_56 then
    let s1 := ((s.set Reg.HELM_IN_STATUS.VIN vin.toNat).set Reg.HELM_IN_STATUS.UNDER_56 1).post Ev.inputLow [vin.toNat]
    if s1.helm.loopsRunning then s1.targetFloor.computeCap else s1
  else s)

/-- UNDERVOLTAGE_TIMER_RESET (R328). -/
def execUndervoltageTimerReset (s : State) : Host.Outcome State Fault Refusal :=
  .next (if s.flag Reg.HELM_IN_STATUS.UNDER_56 && s.pwr.stop.isNone then
    let s1 := s.set Reg.HELM_IN_STATUS.UNDER_56 0
    if s1.helm.loopsRunning then s1.computeCap else s1
  else s)

/-- UNDERVOLTAGE_TIMER_EXPIRY (R328, R347): an orderly stop with cause 1. -/
def execUndervoltageTimerExpiry (vin vbank : W16) (s : State) : Host.Outcome State Fault Refusal :=
  .next (if s.thresholdsAct && s.flag Reg.HELM_IN_STATUS.UNDER_56 then s.beginStop 1 vin.toNat vbank.toNat else s)

/-- INPUT_BELOW_48V (R328, R347): an orderly stop at once with cause 2. -/
def execInputBelow48v (vin vbank : W16) (s : State) : Host.Outcome State Fault Refusal :=
  .next (if s.thresholdsAct then s.beginStop 2 vin.toNat vbank.toNat else s)

/-- INPUT_ABOVE_80V (R328): INPUT_HIGH is posted once until the input returns to 80 V or below. -/
def execInputAbove80v (vin : W16) (s : State) : Host.Outcome State Fault Refusal :=
  .next (if s.thresholdsAct && !s.flag Reg.HELM_IN_STATUS.INPUT_HIGH then
    ((s.set Reg.HELM_IN_STATUS.VIN vin.toNat).set Reg.HELM_IN_STATUS.INPUT_HIGH 1).post Ev.inputHigh [vin.toNat]
  else s)

/-- INPUT_ABOVE_84V (R328, R347): an orderly stop with cause 3. -/
def execInputAbove84v (vin vbank : W16) (s : State) : Host.Outcome State Fault Refusal :=
  .next (if s.thresholdsAct then s.beginStop 3 vin.toNat vbank.toNat else s)

/-- PRE_READY_INPUT_LOSS (R395): before READY with HOLDUP_READY 0 every region is switched off; no stop record is
written, and the module is OFF with cause 0 (R415). -/
def execPreReadyInputLoss (s : State) : Host.Outcome State Fault Refusal :=
  .next (if s.dev ≠ .off ∧ s.pwr.stop = none ∧ s.pcie.wasReady = false
      ∧ s.flag Reg.HELM_IN_STATUS.HOLDUP_READY = false then
    let s1 := ((s.regionsOff s.regions).loseHbm.hostLinkLost).enter .off 0
    { s1 with
      boot := { s1.boot with busUp := false }
      pwr := { s1.pwr with inputSwitch := false, stageA := false, charger := false } }
  else s)

/-- STOP_ANNOUNCE (R347). -/
def execStopAnnounce (s : State) : Host.Outcome State Fault Refusal := .next s.stopAnnounced

/-- STOP_REGIONS_OFF (R347). -/
def execStopRegionsOff (s : State) : Host.Outcome State Fault Refusal := .next s.stopRegions

/-- STOP_RECORD_WRITTEN (R347, R464). -/
def execStopRecordWritten (s : State) : Host.Outcome State Fault Refusal := .next s.stopRecord

/-- STOP_HUB_OFF (R347). -/
def execStopHubOff (s : State) : Host.Outcome State Fault Refusal := .next s.stopHub

/-- STOP_COMPLETE (R347). -/
def execStopComplete (s : State) : Host.Outcome State Fault Refusal := .next s.stopDone

/-- INPUT_REMOVAL (R473): the housekeeping supply goes out; the alert lines are released, MG_ALERT is lost, and every
state kept until the input is removed ends. -/
def execInputRemoval (s : State) : Host.Outcome State Fault Refusal :=
  .next (if s.dev = .off ∧ s.pwr.stop = none then
    { (((s.emit (.pin .alert false)).emit (.pin .fault false)).emit (.pin .trip false)).emit (.pin .stop false) with
      hold := Housekeeping.reset
      boot := { s.boot with busUp := false }
      pwr := { s.pwr with inputSwitch := false, stageA := false, charger := false } }
  else s)

/-- STAGEA_CELL_FAULT (R331). -/
def execStageaCellFault (cell : Fin 4) (vin vbank : W16) (s : State) : Host.Outcome State Fault Refusal :=
  .next (s.failCell cell.val vin.toNat vbank.toNat)

/-- STAGEA_OVERLOAD_TIMEOUT (R331): every cell so loaded shows an over-current and is disabled. -/
def execStageaOverloadTimeout (cells : BitVec 4) (vin vbank : W16) (s : State) : Host.Outcome State Fault Refusal :=
  .next (((List.range 4).filter (fun i => cells.getLsbD i)).foldl
    (fun t i => t.failCell i vin.toNat vbank.toNat) s)

/-- The code of a phase's cause (R350). -/
def phaseCauseCode : PhaseCause → Nat
  | .overCurrent => 1
  | .imbalance => 2
  | .overTemperature => 3
  | .switchFault => 4

/-- PHASE_FAILURE (R341). -/
def execPhaseFailure (region : Fin 48) (phase : Fin 8) (cause : PhaseCause) (s : State) :
    Host.Outcome State Fault Refusal :=
  .next (s.failPhase region.val phase.val (phaseCauseCode cause))

/-- REGION_CLAMP (R337, R338). -/
def execRegionClamp (region : Fin 48) (s : State) : Host.Outcome State Fault Refusal :=
  .next (s.clampRegion region.val)

/-- CLAMP_RELEASE (R338). -/
def execClampRelease (region : Fin 48) (s : State) : Host.Outcome State Fault Refusal :=
  .next (s.releaseClamp region.val)

/-- CLAMP_RESTORE_STEP (R338). -/
def execClampRestoreStep (region : Fin 48) (s : State) : Host.Outcome State Fault Refusal :=
  .next (s.restoreStep region.val)

/-- CLAMP_TIMEOUT (R338): the region goes dark with cause OVERCURRENT. -/
def execClampTimeout (region : Fin 48) (s : State) : Host.Outcome State Fault Refusal :=
  .next (if s.regionState region.val = 4 then s.goDark region.val 2 else s)

/-- RAIL_OVERVOLTAGE (R339): the region goes dark with cause OVERVOLTAGE. -/
def execRailOvervoltage (region : Fin 48) (s : State) : Host.Outcome State Fault Refusal :=
  .next (if s.regionState region.val = 0 then s else s.goDark region.val 3)

/-- DROOP_SKIP_START (R336): a cluster's engines skip every issue slot; the episode counts one. -/
def execDroopSkipStart (region : Fin 48) (s : State) : Host.Outcome State Fault Refusal :=
  .next (if region.val < 32 ∧ s.regulating region.val = true ∧ (s.region region.val).skipping = false then
    (s.setRegion region.val { s.region region.val with skipping := true }).bump
      (Reg.HELM_RGN_EVENTS.DROOPS region.val) 1
  else s)

/-- DROOP_SKIP_END (R336). -/
def execDroopSkipEnd (region : Fin 48) (s : State) : Host.Outcome State Fault Refusal :=
  .next (s.setRegion region.val { s.region region.val with skipping := false })

/-- REGION_ENABLE_REQUEST (R344). -/
def execRegionEnableRequest (region : Fin 48) (s : State) : Host.Outcome State Fault Refusal :=
  .next (s.requestEnable region.val)

/-- REGION_DEFER_END (R344). -/
def execRegionDeferEnd (region : Fin 48) (s : State) : Host.Outcome State Fault Refusal :=
  .next (s.endDefer region.val)

/-- SOFT_START_STEP (R344, R345). -/
def execSoftStartStep (region : Fin 48) (s : State) : Host.Outcome State Fault Refusal :=
  .next (s.softStartStep region.val)

/-- RAIL_SAMPLE (R340). -/
def execRailSample (region : Fin 48) (mv : W16) (lag : Fin 7) (s : State) : Host.Outcome State Fault Refusal :=
  .next (s.sampleRail region.val mv.toNat lag.val)

end Sys2Proof.Machine
end

