-- ==== Sys2Proof/Machine/Reliability.lean ====
section
/-! DEFINITION. Memory errors, fault windows, repair and retirement (spec/14_reliability_test_security.md R436 to
R446). -/

namespace Sys2Proof.Machine

/-- Whether a unit of a unit code is fitted; none for a TYPE or INDEX outside Table 14-6. -/
def Variant.unitPresent (v : Variant) (u : Nat) : Option Bool :=
  let t := unitType u
  let i := unitIndex u
  if t = 1 then (if i < 288 then some (decide (i / 72 < v.dies)) else none)
  else if t = 2 ∨ t = 3 then (if i < 32 then some (decide (i / 8 < v.dies)) else none)
  else if t = 4 then (if i < 4 then some (decide (i < v.dies)) else none)
  else if t = 5 then (if i < 8 then some (decide (i < v.stacks)) else none)
  else if t = 6 then
    (if i < 384 ∧ i % 8 < v.phasesFitted (i / 8) then some (v.hasRegion (i / 8)) else none)
  else if t = 7 then (if i < 16 then some true else none)
  else if t = 8 then (if i = 0 then some v.hasTwin else none)
  else if t = 9 ∨ t = 10 then (if i = 0 then some true else none)
  else none

/-- THRESHOLD of a unit type within its range (Table 14-15). -/
def State.faultThreshold (s : State) (t : Nat) : Nat := max 2 (min 16 (s.get (Reg.BST_WINDOW_CFG.THRESHOLD t)))

/-- WINDOW_S of a unit type within its range, in ns. -/
def State.faultWindowNs (s : State) (t : Nat) : Nat :=
  max 1 (min 3600 (s.get (Reg.BST_WINDOW_CFG.WINDOW_S t))) * 1000000000

/-- The events of a list no more than a window before the latest one. -/
def withinWindow (now width : Nat) (times : List Nat) : List Nat := times.filter (fun t => decide (now ≤ t + width))

/-- Spares of a memory: the first number of its series and how many (Table 14-5a). HBM4E counts by channel. -/
def siteSpares : EccSite → Nat × Nat
  | .compass _ _ => (0, 16)
  | .accumulator _ _ => (16, 8)
  | .clusterStore _ _ _ _ => (0, 20)
  | .slice _ _ _ => (0, 33)
  | .staging _ _ => (0, 4)
  | .hbm a _ => (8 * ((a.toNat / 256 % 32) ^^^ (a.toNat / 2 ^ 18 % 32)), 8)
  | .chart _ _ => (0, 64)
  | .binnacle _ _ => (0, 16)
  | .mram _ _ => (0, 0)

/-- The unit charged with an error (Table 14-2); MRAM charges none. -/
def siteUnit : EccSite → Option Nat
  | .compass p _ => some (unitCode 1 p.val)
  | .accumulator p _ => some (unitCode 1 p.val)
  | .clusterStore c _ _ _ => some (unitCode 2 c.val)
  | .slice i _ _ => some (unitCode 3 i.val)
  | .staging d _ => some (unitCode 4 d.val)
  | .hbm a _ => some (unitCode 5 (addrStack a.toNat))
  | .chart _ _ => some (unitCode 9 0)
  | .binnacle _ _ => some (unitCode 10 0)
  | .mram _ _ => none

/-- The row, column, slot or set that failed. -/
def siteTarget : EccSite → Nat
  | .compass _ r => r
  | .accumulator _ r => r
  | .clusterStore _ r _ _ => r
  | .slice _ r _ => r
  | .staging _ r => r
  | .hbm _ r => r
  | .chart _ r => r
  | .binnacle _ r => r
  | .mram b _ => b.val

/-- The row of Table 14-1 a site belongs to, from 1. -/
def siteMemory : EccSite → Nat
  | .compass _ _ => 1
  | .accumulator _ _ => 2
  | .clusterStore _ _ _ _ => 3
  | .slice _ _ _ => 4
  | .staging _ _ => 5
  | .hbm _ _ => 6
  | .chart _ _ => 7
  | .binnacle _ _ => 8
  | .mram _ _ => 9

/-- The address an event reports for a site. -/
def siteAddress : EccSite → Nat
  | .hbm a _ => a.toNat
  | .slice _ _ (some a) => a.toNat
  | .binnacle a _ => a.toNat
  | .chart e _ => e.toNat
  | x => siteTarget x

/-! ### Retirement (R444) -/

/-- UNIT_RETIRED carries the unit code and the cause: 1 window, 2 host, 3 BIST, 4 spares exhausted. -/
def State.retireUnit (s : State) (u cause : Nat) : State :=
  if s.isRetired u ∧ unitType u ≠ 4 then s
  else
    let s1 := (s.recordRetired u).post Ev.unitRetired [u, cause]
    let i := unitIndex u
    match unitType u with
    | 1 => s1.coreLost i
    | 2 => s1.clusterLost i
    | 4 => s1.stagingSlotLost i
    | 5 => s1.stackLost i
    | 6 =>
      let r := i / 8
      let ok := s1.get (Reg.HELM_RGN_STATUS.PHASES_OK r)
      let s2 := if ok / 2 ^ (i % 8) % 2 = 1 then s1.set (Reg.HELM_RGN_STATUS.PHASES_OK r) (ok - 2 ^ (i % 8)) else s1
      let s3 := s2.post Ev.regulatorFailed [r, i % 8, 5]
      if s3.phasesHealthy r + 2 ≤ s3.part.variant.phasesFitted r then s3.goDark r 1 else s3
    | 7 => s1.portRetired i
    | 8 => s1.twinLinkRetired
    | _ => s1

/-! ### Fault windows (R439 to R441) -/

/-- A unit's window. -/
def State.faultWindow (s : State) (u : Nat) : FaultWindow := sparseGet ⟨[], false⟩ u s.rel.windows

/-- Replace a unit's window and show it. -/
def State.setFaultWindow (s : State) (u : Nat) (w : FaultWindow) : State :=
  { s.set (Reg.BST_UNIT.IN_WINDOW (unitSlot u)) (satCount 16 w.times.length) with
    rel := { s.rel with windows := sparsePut ⟨[], false⟩ u w s.rel.windows } }

/-- The next free spare of a site, if one is left. -/
def State.nextSpare (s : State) (u : Nat) (x : EccSite) : Option Nat :=
  let sp := siteSpares x
  let used := s.rel.repairs.filter (fun r => r.unit == u && decide (sp.1 ≤ r.spare) && decide (r.spare < sp.1 + sp.2))
  if used.length < sp.2 then some (sp.1 + used.length) else none

/-- Whether a repair of a unit takes effect only between steps: one of a core memory or a cluster store does (R443). -/
def repairBetweenSteps (u : Nat) : Bool := unitType u == 1 || unitType u == 2

/-- Whether a step of either role runs. -/
def State.stepRuns (s : State) : Bool := s.role.inStep || (s.other.map (·.inStep)).getD false

/-- Repair the failing row or slot from a spare: REPAIR_PENDING until it takes effect, which for a core memory or a cluster store is at once
when no step runs (R443), UNIT_REPAIRED posted, and the unit's window cleared (R441). -/
def State.repairSite (s : State) (u spare : Nat) (x : EccSite) (lines : List Nat) : State :=
  let now := repairBetweenSteps u && !s.stepRuns
  let s1 := (s.setUnitState u (if now then 2 else 1)).bump (Reg.BST_UNIT.SPARES_USED (unitSlot u)) 1
  let s2 := { s1 with rel := { s1.rel with repairs := s1.rel.repairs ++ [Repair.mk u spare (siteTarget x) lines now] } }
  (s2.setFaultWindow u ⟨[], false⟩).post Ev.unitRepaired [u, siteTarget x, spare]

/-- Whether a repair of a unit, of HBM4E a repair of the same row, is pending (Table 14-13). -/
def State.repairPending (s : State) (u : Nat) (site : Option (EccSite × List Nat)) : Bool :=
  s.rel.repairs.any (fun r => r.unit == u && !r.effective &&
    (unitType u != 5 || site.map (fun x => siteTarget x.1) == some r.target))

/-- Act on a fault that has become lasting, in the present mode of repair (R441); one that comes while the unit's repair is pending waits for
it (Table 14-13). -/
def State.actLasting (s : State) (u : Nat) (site : Option (EccSite × List Nat)) : State :=
  if s.repairPending u site then { s with rel := { s.rel with deferred := s.rel.deferred ++ [(u, site)] } }
  else if s.isRetired u ∧ unitType u ≠ 4 then s
  else if s.flag Reg.CAP_DUTY_MODE.REPAIR then s.setUnitState u 3
  else
    match site with
    | none => s.retireUnit u 1
    | some x =>
      match s.nextSpare u x.1 with
      | some spare => s.repairSite u spare x.1 x.2
      | none =>
        let s1 := s.post Ev.repairExhausted [u]
        match unitType u with
        | 5 => { s1.setUnitState u 3 with rel := { s1.rel with
            stackPending := if s1.rel.stackPending.contains (unitIndex u) then s1.rel.stackPending
              else unitIndex u :: s1.rel.stackPending } }
        | 9 => s1
        | 10 => s1
        | _ => s1.retireUnit u 4

/-- A crossing of R440 is counted, posted once, and acted on. -/
def State.crossing (s : State) (u inWindow : Nat) (site : Option (EccSite × List Nat)) : State :=
  let s1 := { s.bump Reg.BST_FAULTS.LASTING 1 with rel := { s.rel with totLasting := s.rel.totLasting + 1 } }
  (s1.post Ev.unitLasting [u, inWindow]).actLasting u site

/-- Count one event of a unit other than an HBM4E row (R439, R440). -/
def State.countUnit (s : State) (u : Nat) (site : Option EccSite) : State :=
  let t := unitType u
  let w := s.faultWindow u
  let times := s.dtime :: withinWindow s.dtime (s.faultWindowNs t) w.times
  let reached := decide (s.faultThreshold t ≤ times.length)
  let s1 := (s.bump (Reg.BST_UNIT.TOTAL (unitSlot u)) 1).setFaultWindow u ⟨times, reached && w.posted || reached⟩
  if reached && !w.posted then s1.crossing u times.length (site.map (fun x => (x, []))) else s1

/-- The table of tracked rows with a row's event added; a full table replaces the row whose latest event is oldest
(R440). -/
def trackRow (now width row line : Nat) (rows : List RowTrack) : List RowTrack × RowTrack :=
  match rows.find? (fun r => r.row == row) with
  | some r =>
    let r' : RowTrack := ⟨row, if r.lines.contains line then r.lines else line :: r.lines,
      now :: withinWindow now width r.times⟩
    (r' :: rows.filter (fun x => x.row != row), r')
  | none =>
    let r' : RowTrack := ⟨row, [line], [now]⟩
    let kept := if rows.length < 64 then rows else rows.dropLast
    (r' :: kept, r')

/-- Count one event of an HBM4E row: the row's window decides, and the stack's record is a tally of its rows
(R440). -/
def State.countRow (s : State) (x : EccSite) (a row : Nat) : State :=
  let n := addrStack a
  let u := unitCode 5 n
  let width := s.faultWindowNs 5
  let rows := sparseGet [] n s.rel.rows
  let before := match rows.find? (fun r => r.row == row) with
    | some r => r.times.length
    | none => 0
  let tr := trackRow s.dtime width row (a / 64 * 64) rows
  let tally := s.dtime :: withinWindow s.dtime width (s.faultWindow u).times
  let s1 := (s.bump (Reg.BST_UNIT.TOTAL (unitSlot u)) 1).setFaultWindow u ⟨tally, (s.faultWindow u).posted⟩
  let s2 := { s1 with rel := { s1.rel with rows := sparsePut [] n tr.1 s1.rel.rows } }
  if before < s.faultThreshold 5 ∧ s.faultThreshold 5 ≤ tr.2.times.length then s2.crossing u tr.2.times.length (some (x, tr.2.lines)) else s2

/-- One fault event (Table 14-2). -/
def State.faultEvent (s : State) (u : Nat) (site : Option EccSite) : State :=
  let s1 := { s.bump Reg.BST_FAULTS.EVENTS 1 with rel := { s.rel with totEvents := s.rel.totEvents + 1 } }
  match site with
  | some (.hbm a row) => s1.countRow (.hbm a row) a.toNat row
  | x => s1.countUnit u x

/-- A memory error counts against its unit; one in MRAM makes the copy that holds the word unsound (Table 14-1). -/
def State.memoryEvent (s : State) (x : EccSite) : State :=
  match siteUnit x with
  | some u => if s.part.variant.unitPresent u = some true then s.faultEvent u (some x) else s
  | none => s

/-- The copy of an MRAM block with a double error is unsound (Table 14-1). -/
def State.spoilCopy (s : State) (block : Nat) (copyB : Bool) : State :=
  let m := s.mram
  if block = 0 then
    { s with mram := { m with settings := if copyB then { m.settings with copyB := { m.settings.copyB with sound := false } }
        else { m.settings with copyA := { m.settings.copyA with sound := false } } } }
  else if block = 1 then
    { s with mram := { m with repairs := if copyB then { m.repairs with copyB := { m.repairs.copyB with sound := false } }
        else { m.repairs with copyA := { m.repairs.copyA with sound := false } } } }
  else
    { s with mram := { m with vtable := if copyB then { m.vtable with copyB := { m.vtable.copyB with sound := false } }
        else { m.vtable with copyA := { m.vtable.copyA with sound := false } } } }

/-- A site that an error can be found at: a line named in a slice is one that the slice caches and holds (R38, R196). -/
def State.siteReal (s : State) (x : EccSite) : Bool :=
  match x with
  | .slice i _ (some a) => decide (sliceOf a.toNat = i.val) && (s.cachedDirty a.toNat).isSome
  | _ => true

/-- The outcome of Table 14-1 for an uncorrectable error, beside its count and its event. A clean line of a slice is dropped; a dirty
one is written back marked bad. -/
def State.errorOutcome (s : State) (x : EccSite) : State :=
  match x with
  | .compass p _ => s.recomputeCore p.val true
  | .accumulator p _ => s.recomputeCore p.val false
  | .clusterStore _ _ replica entry =>
    if replica then s else match entry with
      | some e => s.storeEntryLost ((siteUnit x).getD 0) e
      | none => s
  | .slice _ _ line => match line with
    | some a =>
      let s1 := s.dropLine a.toNat
      if s.cachedDirty a.toNat = some true then
        ((List.range 4).foldl (fun t i => t.markBad (a.toNat / 256 * 256 + 64 * i)) s1).addressLost ((siteUnit x).getD 0) a.toNat
      else s1
    | none => s
  | .staging _ _ => s.discardAll
  | .hbm a _ => (s.markBad a.toNat).addressLost ((siteUnit x).getD 0) a.toNat
  | .chart e _ => s.entryLost ((siteUnit x).getD 0) e.toNat
  | .binnacle _ _ => s
  | .mram b c => s.spoilCopy b.val c

/-- An uncorrectable error (R436). -/
def State.uncorrectable (s : State) (x : EccSite) : State :=
  let s1 := { s.bump Reg.BST_FAULTS.UNCORRECTABLE 1 with
    rel := { s.rel with totUncorrectable := s.rel.totUncorrectable + 1 } }
  match siteUnit x with
  | none => s1.errorOutcome x
  | some u => ((s1.post Ev.eccUncorrectable [u, siteMemory x, siteAddress x]).errorOutcome x).memoryEvent x

/-- ECC_CORRECTED (R436, R439): the corrected word is written back and one fault event is counted. -/
def execEccCorrected (site : EccSite) (s : State) : Host.Outcome State Fault Refusal :=
  .next (if s.dev = .off ∨ s.siteReal site = false then s else s.memoryEvent site)

/-- ECC_UNCORRECTABLE (R436). -/
def execEccUncorrectable (site : EccSite) (s : State) : Host.Outcome State Fault Refusal :=
  .next (if s.dev = .off ∨ s.siteReal site = false then s else s.uncorrectable site)

/-- Act on the crossings whose repair is no longer pending, oldest first (Table 14-13). -/
def State.actDeferred (s : State) : State :=
  let s1 := { s with rel := { s.rel with deferred := [] } }
  s.rel.deferred.foldl (fun t x => t.actLasting x.1 x.2) s1

/-- A repair takes effect: REPAIRED, and the transfers of a repaired HBM4E row are good again (R436, R443). Crossings that waited for it are
acted on (Table 14-13). -/
def State.repairEffect (s : State) (k : Nat) : State :=
  match s.rel.repairs[k]? with
  | none => s
  | some r =>
    if r.effective then s
    else
      let s1 := if s.isRetired r.unit then s else s.setUnitState r.unit 2
      let s2 : State := { s1 with
        badLines := s1.badLines.filter (fun a => !r.lines.contains a)
        rel := { s1.rel with repairs := s1.rel.repairs.set k { r with effective := true } } }
      s2.actDeferred

/-- The repairs of core memories and cluster stores that are pending take effect (R443). -/
def State.stepRepairs (s : State) : State :=
  (List.range s.rel.repairs.length).foldl (fun t k => match t.rel.repairs[k]? with
    | some r => if repairBetweenSteps r.unit then t.repairEffect k else t
    | none => t) s

/-- SOFT_REPAIR_EFFECT (R443): the repair of that number takes effect, unless it is one that waits for a step start and a step runs; timing
only beside the record. -/
def execSoftRepairEffect (repair : Nat) (s : State) : Host.Outcome State Fault Refusal :=
  .next (match s.rel.repairs[repair]? with
    | some r => if repairBetweenSteps r.unit ∧ s.stepRuns = true then s else s.repairEffect repair
    | none => s)

/-- STEP_START (R248): a start that takes place makes the pending repairs of R443 effective first. -/
def execStepStart (r : RoleSel) (s : State) : Host.Outcome State Fault Refusal :=
  .next (s.asRole r (fun t => if t.role.passage.isSome && t.mayStart then t.stepRepairs.stepStart else t))

/-- HBM_SCRUB (R437): the line read, checked and rewritten; an error found is a corrected one. -/
def execHbmScrub (stack : Fin 8) (found : Option EccSite) (s : State) : Host.Outcome State Fault Refusal :=
  .next (match found with
    | some x => if s.regionState (40 + stack.val) = 3 ∧ siteUnit x = some (unitCode 5 stack.val) then s.memoryEvent x else s
    | none => s)

/-- SLICE_SCRUB (R437). -/
def execSliceScrub (slice : Fin 32) (found : Option EccSite) (s : State) : Host.Outcome State Fault Refusal :=
  .next (match found with
    | some x => if s.regionState (32 + slice.val / 8) = 3 ∧ siteUnit x = some (unitCode 3 slice.val) ∧ s.siteReal x = true then s.memoryEvent x
      else s
    | none => s)

end Sys2Proof.Machine
end

