-- ==== Sys2Proof/Machine/Mram.lean ====
section
/-! DEFINITION. The MRAM blocks, the persistent fields and the measurement registers (spec/13_control_interface.md R428
to R431, spec/14_reliability_test_security.md R445, R457). -/

namespace Sys2Proof.Machine

/-- The sound copy of a block with the higher sequence number (R428). -/
def MramBlock.sound {α : Type} (b : MramBlock α) : Option (MramCopy α) :=
  if b.copyA.sound then
    (if b.copyB.sound ∧ b.copyA.seq < b.copyB.seq then some b.copyB else some b.copyA)
  else if b.copyB.sound then some b.copyB
  else none

/-- The content of a block's sound copy. -/
def MramBlock.content {α : Type} (b : MramBlock α) : Option α := b.sound.map (fun c => c.content)

/-- Write a block into the copy that is not the sound one, with the next sequence number (R428). -/
def MramBlock.write {α : Type} (b : MramBlock α) (x : α) : MramBlock α :=
  match b.sound with
  | none => { b with copyA := ⟨1, true, x⟩, writes := b.writes + 1 }
  | some c =>
    let useA := b.copyB.sound && decide (b.copyB.seq = c.seq)
    if useA then { b with copyA := ⟨c.seq + 1, true, x⟩, writes := b.writes + 1 }
    else { b with copyB := ⟨c.seq + 1, true, x⟩, writes := b.writes + 1 }

/-- The persistent fields in the order of Table 13-13. -/
def settingFields : List Field :=
  [Reg.HELM_CAP.HOST_CAP_W, Reg.HELM_CAP.BUDGET_EN, Reg.HELM_CTRL_CFG.FILLER_EN, Reg.HELM_CTRL_CFG.FIXED_FREQ,
   Reg.HELM_CTRL_CFG.BOOST_EN, Reg.HELM_VF_CFG.MARGIN_MV, Reg.HELM_COOLANT_CFG.RATED_FLOW, Reg.FAB_NODE.PIN_EN,
   Reg.FAB_NODE.PIN_ID, Reg.TWN_CFG.ENABLE, Reg.TWN_CFG.POLICY, Reg.TWN_CFG.MIRROR_GIB, ⟨Reg.CAP_DUTY_MODE.PLACEMENT.reg, 6, 0⟩,
   Reg.CAP_SETTINGS.STARTUP_BIST, Reg.CAP_SETTINGS.PCIE_CLOCK, Reg.CAP_SETTINGS.BAR4_LOG2]

/-- The factory defaults (Table 13-13). -/
def settingDefaults (v : Variant) : List Nat :=
  [v.maxPower, 1, 1, 0, 1, 0, 2000, 0, 0, if v.hasTwin then 1 else 0, 0, 0, 0, 0, 0, 9]

/-- The present values of the persistent fields. -/
def State.settingsNow (s : State) : List Nat := settingFields.map s.get

/-- Load values into the persistent fields. -/
def State.applySettings (s : State) (vals : List Nat) : State :=
  (settingFields.zip vals).foldl (fun t x => t.set x.1 x.2) s

/-- The repair and retirement records that a STORE writes: the soft repairs in order, then every retirement, pending
ones included, but for those whose record the host removes (R441, R445, R446, R462). -/
def State.recordsNow (s : State) : List RepairRecord :=
  let gone := fun u => s.rel.removals.contains u
  s.rel.repairs.map (fun r => RepairRecord.mk (BitVec.ofNat 32 r.unit) false (BitVec.ofNat 16 r.spare)
      (BitVec.ofNat 32 r.target))
    ++ ((s.rel.retired.reverse ++ (s.rel.stackPending.map (unitCode 5)).filter (fun u => !s.rel.retired.contains u)).filter
        (fun u => !gone u)).map (fun u => RepairRecord.mk (BitVec.ofNat 32 u) true 0 0)

/-- A die's fused table is sound: every entry passes parity (R362). -/
def Part.vfSound (p : Part) (d : Nat) : Bool := (List.range 23).all (fun i => (p.fusedEntry (32 * d + i)).parityOk)

/-- The fused table of a die. -/
def Part.fusedTable (p : Part) (d : Nat) : List (BitVec 10) :=
  (List.range 23).map (fun i => (p.fusedEntry (32 * d + i)).mv)

/-- The table the next STORE keeps for each die: a sound fused table, else what the copy holds (R362). -/
def State.vtableNow (s : State) : List (List (BitVec 10)) :=
  (List.range 4).map (fun d =>
    if s.part.vfSound d then s.part.fusedTable d
    else match s.mram.vtable.content with
      | some c => c.getD d (s.part.fusedTable d)
      | none => s.part.fusedTable d)

/-- The highest write count of the blocks that STORE writes (R431). -/
def Mram.wearMax (m : Mram) : Nat := max m.settings.writes (max m.repairs.writes m.vtable.writes)

/-- Write count of block `b`. -/
def Mram.blockWrites (m : Mram) (b : Nat) : Nat :=
  if b = 0 then m.settings.writes else if b = 1 then m.repairs.writes else m.vtable.writes

/-- The blocks, in the order of their bits, whose present value differs from their sound copy (R430). -/
def State.storeBlocks (s : State) : List Nat :=
  (if s.mram.settings.content = some s.settingsNow then [] else [0])
    ++ (if s.mram.repairs.content = some s.recordsNow then [] else [1])
    ++ (if s.mram.vtable.content = some s.vtableNow then [] else [2])

/-- Write one block with its value. -/
def Mram.writeBlock (m : Mram) (settings : List Nat) (records : List RepairRecord) (vtable : List (List (BitVec 10)))
    (b : Nat) : Mram :=
  if b = 0 then { m with settings := m.settings.write settings }
  else if b = 1 then { m with repairs := m.repairs.write records }
  else { m with vtable := m.vtable.write vtable }

/-- A set of small numbers as a mask. -/
def bitMask (bs : List Nat) : Nat := bs.foldl (fun m b => m ||| 2 ^ b) 0

/-- Retirements that records in MRAM hold show STATE 5; a cluster store's nine cores show it too (R444, R463). -/
def State.markPersistent (s : State) (records : List RepairRecord) : State :=
  let keep := (records.filter (fun r => r.retirement)).map (fun r => r.unit.toNat)
  let s1 := { s with rel := { s.rel with persistent := keep } }
  (keep.filter s1.isRetired).foldl (fun t u =>
    let t1 := t.setUnitState u 5
    if unitType u = 2 then
      (List.range 9).foldl (fun v k => v.setUnitState (unitCode 1 (9 * unitIndex u + k)) 5) t1
    else t1) s1

/-! ### Measurements (R457) -/

/-- Extend measurement register `i` with a digest. -/
def State.extend (s : State) (i : Nat) (d : Digest) : State :=
  let m := s.sec.measures.getD i ⟨zeroDigest, 0⟩
  { s with sec := { s.sec with measures := s.sec.measures.set i ⟨sha384 (m.value ++ d), m.count + 1⟩ } }

/-- A measurement register. -/
def State.measure (s : State) (i : Nat) : Measure := s.sec.measures.getD i ⟨zeroDigest, 0⟩

/-- M2 is extended with the settings block (R457, log 22). -/
def State.extendSettings (s : State) : State := s.extend 2 (sha384 (Config.settingsImage s.settingsNow))

/-! ### Firmware images (R455) -/

/-- What the boot ROM and FW_UPDATE check in an image; a wrong MAGIC or HEADER_VERSION, a set reserved flag or a
length that the header does not give is no image (log 23). -/
def Part.imageOk (p : Part) (image : List Byte) : Bool :=
  let body := image.drop 512
  let slot := fieldAt image 14 1
  let key := sliceBytes image 96 96
  let svn := fieldAt image 12 2
  let flags := fieldAt image 6 2
  decide (512 ≤ image.length) && decide (fieldAt image 0 4 = 0x47465751) && decide (fieldAt image 4 2 = 1)
    && decide (flags &&& 0xFF0E = 0)
    && decide (body.length = fieldAt image 8 4) && decide (body.length ≤ 3145216)
    && decide (slot < 4) && !p.rootRevoked.getLsbD slot && decide (flags / 16 / 2 ^ slot % 2 = 0)
    && decide (p.svnMin.toNat ≤ svn) && decide (svn ≤ 64)
    && decide (sha384 key = p.rootHashes.getD slot [])
    && decide (sha384 body = sliceBytes image 48 48)
    && ecdsaVerify key (sha384 (image.take 192)) (sliceBytes image 192 96)

/-- The image in a firmware slot. -/
def Mram.slot (m : Mram) (b : Bool) : List Byte := if b then m.slotB else m.slotA

end Sys2Proof.Machine
end

