-- ==== Sys2Proof/Machine/Thermal.lean ====
section
/-! DEFINITION. The commands of the Helm: cap writes, the loops, sensors, the trip, and the two inputs that the tray
drives, coolant readings and budget frames (spec/11_power_and_thermal_control.md, 15_module_connectors.md R478 to
R481). -/

namespace Sys2Proof.Machine

/-- HELM_CAP_WRITE (R351, R354). -/
def execHelmCapWrite (value : W64) (s : State) : Host.Outcome State Fault Refusal :=
  .next (if s.served then s.writeCap value else s)

/-- The sensors of a pair. -/
def pairOf (i : Nat) : List Nat :=
  match sensorMate i with
  | none => [i]
  | some j => [min i j, max i j]

/-- HELM_SENSOR_SUSPECT_CLEAR (R375): the pair's mark is cleared. -/
def execHelmSensorSuspectClear (sensor : Fin 144) (s : State) : Host.Outcome State Fault Refusal :=
  .next (if s.served && s.part.variant.hasSensor sensor.val then
    (pairOf sensor.val).foldl (fun t i => t.set (Reg.HELM_SENSOR.SUSPECT i) 0) s
  else s)

/-- The two readings of a sensor's pair differ by more than 6 °C (R375). -/
def State.pairDiffers (s : State) (i : Nat) : Bool :=
  match sensorMate i with
  | none => false
  | some j => decide (48 < (tempOf (s.get (Reg.HELM_SENSOR.TEMP i)) - tempOf (s.get (Reg.HELM_SENSOR.TEMP j))).natAbs)

/-- SENSOR_PAIR_DISAGREEMENT (R375): a pair whose readings have differed for more than 1 s is marked suspect and SENSOR_SUSPECT is
posted. -/
def execSensorPairDisagreement (sensor : Fin 144) (s : State) : Host.Outcome State Fault Refusal :=
  .next (if s.part.variant.hasSensor sensor.val && s.pairDiffers sensor.val
      && !s.flag (Reg.HELM_SENSOR.SUSPECT sensor.val) && s.dev != .off then
    ((pairOf sensor.val).foldl (fun t i => t.set (Reg.HELM_SENSOR.SUSPECT i) 1) s).post Ev.sensorSuspect
      [(pairOf sensor.val).headD sensor.val]
  else s)

/-- SENSOR_SAMPLE (R374). -/
def execSensorSample (sensor : Fin 144) (reading : SensorReading) (s : State) : Host.Outcome State Fault Refusal :=
  .next (if s.part.variant.hasSensor sensor.val && s.dev != .off then s.takeSensor sensor.val reading else s)

/-- A stop whose record notes a trip (Table 11-7). -/
def StopRun.withTrip (x : StopRun) : StopRun := { x with tripped := true }

/-- The hardware trip (R382): the cluster, uncore and stack regions are OFF and not dark, a trip at a hub sensor also
switches off hub.q1 to hub.q3, HBM4E contents and a running step are lost, and the module enters SAFE. A trip during
an orderly stop is noted for its record (Table 11-7). -/
def State.trip (s : State) (i : Nat) (t : Int) : State :=
  let s1 := ((s.takeSensor i (.temp t)).set (Reg.HELM_SENSOR.TRIPPED i) 1).set Reg.HELM_THERMAL.TRIPPED 1
  let told := if s1.regulating 38 then s1.announceSafe else s1
  let s2 := ((told.loseStep.regionsOff told.computeRegions).loseHbm).post Ev.thermalTrip [i, tempArg t]
  let hub := decide (128 ≤ i) && decide (i < 136)
  let s4 := if hub then (s2.regionsOff [37, 38, 39]).hostLinkLost.portsOff else s2
  let s5 := { s4 with
    hold := { s4.hold with tripPin := true }
    boot := { s4.boot with afterFault := true }
    pwr := { s4.pwr with stop := s4.pwr.stop.map StopRun.withTrip } }.emit (.pin .trip true)
  if s5.dev = .safe then s5 else s5.enter .safe (eventCause Ev.thermalTrip)

/-- HARDWARE_TRIP (R382): acts in every state except OFF on a plausible reading at or above 110 °C. -/
def execHardwareTrip (sensor : Fin 144) (temp : Int) (s : State) : Host.Outcome State Fault Refusal :=
  .next (if s.part.variant.hasSensor sensor.val && s.dev != .off && decide (880 ≤ temp) && decide (temp ≤ 1200) then
    s.trip sensor.val temp
  else s)

/-- FAST_LOOP_UPDATE (R329, R351, R356 to R358). -/
def execFastLoopUpdate (sample : FastSample) (s : State) : Host.Outcome State Fault Refusal :=
  .next (if s.dev = .off then s else s.fastLoop sample)

/-- CORE_ACTIVITY_UPDATE (R359, R360). -/
def execCoreActivityUpdate (core : Fin 288) (sample : CoreSample) (s : State) : Host.Outcome State Fault Refusal :=
  .next (if s.helm.loopsRunning && s.part.variant.hasRegion (coreCluster core.val) then
    s.coreActivity core.val sample
  else s)

/-- SLOW_LOOP_PERIOD (R364 to R369, R376, R378, R379, R285). -/
def execSlowLoopPeriod (sample : SlowSample) (s : State) : Host.Outcome State Fault Refusal :=
  .next (if s.helm.loopsRunning then (s.slowLoop sample).paceCheck sample.bubbleAvg else s)

/-- OPERATING_POINT_CHANGE (R363). -/
def execOperatingPointChange (cluster : Fin 32) (s : State) : Host.Outcome State Fault Refusal :=
  .next (s.moveSetpoint cluster.val)

/-- ECLK_CHANGE (R45, R363). -/
def execEclkChange (cluster : Fin 32) (s : State) : Host.Outcome State Fault Refusal :=
  .next (s.changeEclk cluster.val)

/-- RECKONING_INTERVAL (R370, R371). -/
def execReckoningInterval (sample : ReckonSample) (s : State) : Host.Outcome State Fault Refusal :=
  .next (if s.helm.loopsRunning then s.reckon sample else s)

/-- A 16-bit two's-complement field. -/
def signed16 (v : Nat) : Int := if v < 32768 then v else (v : Int) - 65536

/-- The reading of an 8-byte coolant write, when none of the cases of R479 discards it. -/
def State.coolantReading (s : State) (bs : List Byte) : Option (Coolant × Byte) :=
  let c : Coolant := ⟨signed16 (fieldAt bs 0 2), signed16 (fieldAt bs 2 2), fieldAt bs 4 2⟩
  let seq := BitVec.ofNat 8 (fieldAt bs 6 1)
  if crc8 (bs.take 7) ≠ BitVec.ofNat 8 (fieldAt bs 7 1) then none
  else if s.helm.lastSeq = some seq then none
  else if c.inlet < -160 ∨ 800 < c.inlet ∨ c.outlet < -160 ∨ 800 < c.outlet then none
  else if 10000 < c.flow then none
  else some (c, seq)

/-- An I3C private write (R476, R479): a coolant reading, a clear of MG_ALERT bits, or a write that is discarded. A
write that covers a byte of 0x10–0x17 in any way but as one write of 8 bytes at 0x10 is discarded whole and counted. -/
def State.busWrite (s : State) (index : Nat) (bs : List Byte) : State :=
  if index = 0x10 ∧ bs.length = 8 then
    match s.coolantReading bs with
    | some r => s.takeCoolant r.1 r.2
    | none => s.bump Reg.MG_INPUTS.BAD_READINGS 1
  else if index < 0x18 ∧ 0x10 < index + bs.length then s.bump Reg.MG_INPUTS.BAD_READINGS 1
  else if index % 4 ≠ 0 ∨ bs.length % 4 ≠ 0 then s
  else if index ≤ 8 ∧ 12 ≤ index + bs.length then s.clearAlert (BitVec.ofNat 7 (fieldAt bs (8 - index) 4))
  else s

/-- MG_COOLANT_WRITE (R377 to R381, R478, R479). -/
def execMgCoolantWrite (index : Byte) (bytes : List Byte) (s : State) : Host.Outcome State Fault Refusal :=
  .next (if s.dev = .off then s else s.busWrite index.toNat bytes)

/-- MG_ALERT_CLEAR (R477): a W1C write to MG_ALERT over the bus. -/
def execMgAlertClear (mask : W32) (s : State) : Host.Outcome State Fault Refusal :=
  .next (if s.dev = .off then s else s.busWrite 8 (leBytes 4 mask.toNat))

/-- COOLANT_HOLD_END (R380): flow at or above 50 % of rated for 1 s and the outlet no longer rising end the hold. -/
def execCoolantHoldEnd (s : State) : Host.Outcome State Fault Refusal :=
  .next (match s.helm.readings with
    | [] => s
    | r :: _ =>
      if s.flag Reg.HELM_THERMAL.COOLANT_STOP && decide (s.ratedFlow ≤ 2 * r.flow) && s.outletSettled then
        let s1 := (s.set Reg.HELM_THERMAL.COOLANT_STOP 0).coolantLimits
        if s1.helm.loopsRunning then s1.computeCap else s1
      else s)

/-- HELM_COOLANT.AGE: milliseconds since the last accepted reading, saturating; all ones before the first
(Table 11-11). -/
def State.coolantAge (s : State) : Nat :=
  match s.helm.readAt with
  | none => 0xFFFF
  | some t => satCount 16 ((s.dtime - t) / 1000000)

/-- COOLANT_DATA_LOST (R381): limit 8 applies and the event carries AGE. -/
def execCoolantDataLost (s : State) : Host.Outcome State Fault Refusal :=
  .next (if s.dev ≠ .off ∧ s.flag Reg.HELM_THERMAL.DATA_LOST = false then
    let s1 := (s.set Reg.HELM_THERMAL.DATA_LOST 1).post Ev.coolantDataLost [s.coolantAge]
    if s1.helm.loopsRunning then s1.computeCap else s1
  else s)

/-- A valid budget frame: six bytes, sync 0xD5, CRC-8 over bytes 1 to 4 (R480). -/
def frameOk (f : List Byte) : Bool :=
  f.length == 6 && fieldAt f 0 1 == 0xD5 && crc8 ((f.drop 1).take 4) == BitVec.ofNat 8 (fieldAt f 5 1)

/-- BUDGET_FRAME (R354, R480, R481): a valid frame is taken into limit 2; a bad one is counted. The receiver lies in
hub.q0. -/
def execBudgetFrame (frame : List Byte) (s : State) : Host.Outcome State Fault Refusal :=
  .next (if s.dev = .off then s
    else if frameOk frame then
      let s1 := ((s.set Reg.HELM_LIMITS.BUDGET_W (fieldAt frame 1 2)).set Reg.HELM_LIMITS.BUDGET_VALID 1).set
        Reg.HELM_LIMITS.BUDGET_STALE 0
      if s1.helm.loopsRunning then s1.computeCap.checkFloor else s1
    else s.bump Reg.MG_INPUTS.BAD_FRAMES 1)

/-- BUDGET_LOST (R383, R481): the last valid budget is held and the event is posted. -/
def execBudgetLost (s : State) : Host.Outcome State Fault Refusal :=
  .next (if s.dev ≠ .off ∧ s.flag Reg.HELM_LIMITS.BUDGET_STALE = false then
    (s.set Reg.HELM_LIMITS.BUDGET_STALE 1).post Ev.budgetLost [s.get Reg.HELM_LIMITS.BUDGET_W]
  else s)

end Sys2Proof.Machine
end

