-- ==== Sys2Proof/Machine/Startup.lean ====
section
/-! DEFINITION. Entry to BOOT, the numbering of logical cores, entry to READY, and BIST (spec/12_startup_and_recovery.md,
spec/14_reliability_test_security.md R447 to R452). -/

namespace Sys2Proof.Machine

/-- The windows of per-core registers: the first of them and their spacing (R88, R119, R190, R228). -/
def coreWindows : List (Nat × Nat) := [(0xC10000, 0x100), (0xC40000, 0x80), (0xC60000, 0x40), (0x2100000, 0x20)]

/-- The registers of the logical cores follow their physical cores to new numbers; those of a core that has none are gone (R82, R87). -/
def State.renumber (s : State) (old new : List Nat) : State :=
  if old = new then s
  else { s with regs := s.regs.foldl (fun m x =>
    match coreWindows.find? (fun w => decide (w.1 ≤ x.1) && decide (x.1 < w.1 + 256 * w.2)) with
    | none => sparsePut 0 x.1 x.2 m
    | some w =>
      let n := (x.1 - w.1) / w.2
      match (old[n]?).bind (fun p => new.findIdx? (· == p)) with
      | some k => sparsePut 0 (w.1 + w.2 * k + (x.1 - w.1) % w.2) x.2 m
      | none => m) [] }

/-- Number the logical cores (R10). -/
def State.numberCores (s : State) : State :=
  let all := (List.range 32).flatMap s.clusterCores
  { (s.renumber s.boot.numbering all).set Reg.CAP_UNITS.N_CORES all.length with boot := { s.boot with numbering := all } }

/-! ### Entry to BOOT (R388, R401, R404) -/

/-- Copy the stop record into its window; VALID is set when its cleared mark is 0 (R401). -/
def State.copyStopRecord (s : State) : State :=
  let b := s.mram.stop
  if b.written && !b.cleared then
    (b.words.zipIdx).foldl (fun t w => t.set (Reg.CAP_STOP_REC.WORD w.2) w.1.toNat) s
  else s

/-- Phases of regulator records that persist stay disabled; two of one region make it dark (R341, R444). -/
def State.dropPhase (s : State) (u : Nat) : State :=
  let r := unitIndex u / 8
  let ok := s.get (Reg.HELM_RGN_STATUS.PHASES_OK r)
  let s1 := if ok / 2 ^ (unitIndex u % 8) % 2 = 1 then
      s.set (Reg.HELM_RGN_STATUS.PHASES_OK r) (ok - 2 ^ (unitIndex u % 8)) else s
  if s1.phasesHealthy r + 2 ≤ s1.part.variant.phasesFitted r ∧ s1.regionState r ≠ 5 then s1.goDark r 1 else s1

/-- What the housekeeping domain and MRAM give a module that enters BOOT: dark regions, failed cells and phases that
stay disabled (R331, R334, R341). -/
def State.restoreDamage (s : State) : State :=
  let s1 := s.hold.dark.foldl (fun t x =>
    (t.set (Reg.HELM_RGN_STATUS.STATE x.1) 5).set (Reg.HELM_RGN_STATUS.DARK_CAUSE x.1) x.2) s
  let s2 := (s1.set Reg.HELM_STAGEA.CELLS_OK (15 - s1.hold.failedCells.toNat)).showCeiling
  let phases := ((s2.mram.repairs.content.getD []).filter (fun r => r.retirement && unitType r.unit.toNat == 6)).map
    (fun r => r.unit.toNat)
  phases.foldl State.dropPhase s2

/-- DEVICE_RECOVER runs from the 60 ms event: the hub regions that are on stay on, and with hub.q3 the PCIe link
(R403, log 24). -/
def State.keepHub (s old : State) : State :=
  let s1 := [37, 38, 39].foldl (fun t r =>
    if old.regionState r = 3 then t.wr (Reg.HELM_RGN_STATUS.STATE r).reg (old.rd (Reg.HELM_RGN_STATUS.STATE r).reg)
    else t) s
  if old.regionState 39 = 3 then
    { (s1.wr Reg.CAP_PCIE.GEN.reg (old.rd Reg.CAP_PCIE.GEN.reg)).set Reg.CAP_PCIE.PERSTS 0 with
      pcie := { old.pcie with wasReady := false } }
  else s1

/-- The module enters BOOT: everything takes its reset value but the part, MRAM, the housekeeping domain, the switches of the input
and the bank (log 24) and DTIME, which starts at 0 only after OFF (R21, R47, R404). -/
def State.enterBoot (s : State) (cause : Nat) : State :=
  let cold := decide (s.dev = .off)
  let base : State := { State.reset with
    pending := s.pending
    part := s.part
    dev := s.dev
    dtime := if cold then 0 else s.dtime
    fresh := s.fresh
    out := s.out
    mram := s.mram
    pcie := { State.reset.pcie with perst := s.pcie.perst }
    twin := { TwinUnit.reset with present := s.twin.present }
    fab := { FabUnit.reset with stepped := !cold && s.fab.stepped }
    hold := { s.hold with stopPin := false, faultPin := if cold then s.hold.faultPin else false }
    boot := { BootUnit.reset with
      began := if cold then 0 else s.dtime
      afterFault := s.boot.afterFault
      bistSelected := decide (cause = 0x0007)
      slotId := s.boot.slotId }
    pwr := { PowerUnit.reset with
      inputSwitch := s.pwr.inputSwitch, bankSwitch := s.pwr.bankSwitch, stageA := s.pwr.stageA, charger := s.pwr.charger } }
  let s1 := base.set (Reg.HELM_RGN_STATUS.STATE 36) 3
  let s1 := if cause = 0x0007 then s1.keepHub s else s1
  let s2 := (s1.restoreDamage.set Reg.CAP_STORE.STORES (satCount 32 s.mram.stores)).set Reg.CAP_STORE.WEAR_MAX s.mram.wearMax
  let s3 := (s2.copyStopRecord.set Reg.CAP_BOOT.STAGE 1).enter .boot cause
  let s4 := if s.hold.stopPin then s3.emit (.pin .stop false) else s3
  let s5 := if s.hold.faultPin && !cold then s4.emit (.pin .fault false) else s4
  match s.mram.stop.faultNote with
  | some n =>
    { s5 with mram := { s5.mram with stop := { s5.mram.stop with faultNote := none } } }.post Ev.binnacleEccReset
      [n.1.toNat]
  | none => s5

/-- Act on DEVICE_RESET: every region except hub.q0 off and the module in BOOT; the work in hand ends (R404, R422). An
orderly stop that runs takes its course (R347). -/
def State.deviceReset (s : State) (cause : Nat) : State :=
  if s.pwr.stop.isSome then s else s.abortCommands.enterBoot cause

/-! ### Entry to READY (R10, R388, R441) -/

/-- Enter READY from any state: a stack whose retirement is pending is retired (R441). -/
def State.enterReady (s : State) (cause : Nat) : State :=
  let s1 := (s.enter .ready cause)
  let s2 := { s1 with rel := { s1.rel with stackPending := [] } }
  s1.rel.stackPending.foldl (fun t n => t.retireUnit (unitCode 5 n) 4) s2

/-- A COMMIT_SVN image first reaches READY: its fuses are blown and SVN_RAISED is posted (R456). -/
def State.commitSvn (s : State) : State :=
  let p := s.part
  let b := s.boot
  if b.commitSvn && (decide (p.svnMin < b.imageSvn) || decide (b.imageRevoke &&& ~~~p.rootRevoked ≠ 0)) then
    let p' := { p with svnMin := if p.svnMin < b.imageSvn then b.imageSvn else p.svnMin, rootRevoked := p.rootRevoked ||| b.imageRevoke }
    ((({ s with part := p' }.set Reg.SEC_SVN.FUSED_MIN p'.svnMin.toNat).set Reg.SEC_STATUS.ROOT_REVOKED
      p'.rootRevoked.toNat)).post Ev.svnRaised [p'.svnMin.toNat, b.imageRevoke.toNat]
  else s

/-- The sequence ends: READY, its event, and what is reported with it (R388, R391, R407, R456). -/
def State.finishBoot (s : State) : State :=
  let ms := satCount 32 ((s.dtime - s.boot.began) / 1000000)
  let s1 := ((s.set Reg.CAP_BOOT.STAGE 9).set Reg.CAP_BOOT.READY_MS ms)
  let s2 := ({ s1 with
    pcie := { s1.pcie with wasReady := true }
    boot := { s1.boot with awaitBank := false } }.enterReady 0).post Ev.ready [ms, s1.get Reg.CAP_UNITS.N_CORES]
  let s3 := match s2.boot.failedSlot with
    | some n => s2.post Ev.bootSlotFallback [n]
    | none => s2
  s3.commitSvn

/-- Number the cores at the 300 ms event and start the Helm's loops with every cluster at index 0; with no usable
core the module enters FAULTED (R388, R395). -/
def State.startLoops (s : State) : State :=
  let s1 := (s.set Reg.CAP_BOOT.STAGE 7).numberCores
  if s1.boot.numbering = [] then (s1.set Reg.CAP_BOOT.FAIL 3).enter .faulted 0
  else
    let s2 := { s1 with
      boot := { s1.boot with numbered := true, awaitBank := true }
      helm := { s1.helm with loopsRunning := true, target := [] } }
    let s3 := s2.clusters.foldl (fun t i => t.set (Reg.HELM_CL_STATUS.INDEX i) 0) s2
    (s3.coolantLimits.computeCap.checkFloor).set Reg.CAP_BOOT.STAGE 8

/-! ### BIST (R447 to R452) -/

/-- Clear secrets before scan and open the scan chains (R452). -/
def State.clearSecrets (s : State) : State :=
  let s1 := ((s.set Reg.SEC_STATUS.KEYSTORE_LOADED 0).set Reg.SEC_STATUS.ATTEST_READY 0)
  { s1 with sec := { s1.sec with attestKey := none, drbg := 0, challenge := [], fuseGate := true, scanEnabled := true } }.post
    Ev.secretsCleared []

/-- Reload the key store from the fuses and derive the attestation key, unless a debug unlock keeps it cleared until
the next BOOT (R452, R453, R458). -/
def State.reloadKeys (s : State) : State :=
  if s.flag Reg.SEC_STATUS.DEBUG_UNLOCKED then s
  else
    let s1 := s.set Reg.SEC_STATUS.KEYSTORE_LOADED 1
    let s2 := { s1 with sec := { s1.sec with fuseGate := false, scanEnabled := false } }
    if (s2.measure 1).count = 0 then s2
    else
      { s2.set Reg.SEC_STATUS.ATTEST_READY 1 with sec := { s2.sec with
        attestKey := some (attestationKey s2.part.deviceKey (s2.measure 0).value (s2.measure 1).value) } }

/-- The dies a selection tests: those it names, or every present one, but for those start-up left unused (R449). -/
def State.bistDies (s : State) (selection : Nat) : List Nat :=
  (List.range 4).filter (fun d => s.dieUsed d && (decide (selection % 16 = 0) || decide (selection / 2 ^ d % 2 = 1)))

/-- The lowest code of Table 14-9 that is out of range at the start, among the quantities that registers show (5 to
8); 1 to 4 and 9 are commanded (log 25). -/
def State.bistCondition (s : State) : Nat :=
  let vin := s.get Reg.HELM_IN_STATUS.VIN
  let coolant := match s.helm.readings, s.helm.readAt with
    | r :: _, some t => decide (s.dtime ≤ t + 100000000) && decide (85 * s.ratedFlow ≤ 100 * r.flow)
        && decide (160 ≤ r.inlet) && decide (r.inlet ≤ 320)
    | _, _ => false
  if vin < 6000 ∨ 8000 < vin then 5
  else if (List.range 144).any (fun i => match s.plausible i with
      | some t => decide (680 < t)
      | none => false) then 6
  else if coolant = false then 7
  else if 900 * 10000 < vin * s.get Reg.HELM_IN_STATUS.IIN then 8
  else 0

/-- BIST ends: the domains are reset and the keys come back; after start-up BIST the sequence goes on at the 300 ms
event, after BIST_RUN the cores are numbered and the device is in READY, when the command completes (R10, R389, R415,
R452). -/
def State.leaveBist (s : State) : State :=
  match s.bist with
  | none => s
  | some b =>
    let s1 := { (if b.selection / 256 % 2 = 1 then s.reloadKeys else s) with bist := none }
    let s2 := s1.set Reg.BST_STATUS.RUNNING 0
    if s2.dev ≠ .selftest then s2
    else if b.startup then s2.enter .boot 0
    else s2.numberCores.enterReady 0x0008

/-- Start BIST in SELFTEST, or skip it (R449 to R452). -/
def State.startBist (s : State) (startup : Bool) (selection : Nat) : State :=
  let s1 := ((((s.set Reg.BST_STATUS.ABORTED 0).set Reg.BST_STATUS.SKIPPED 0).set Reg.BST_STATUS.CONDITION 0).set
    Reg.BST_STATUS.SELECTION selection)
  let c := s1.bistCondition
  if c ≠ 0 then
    let s2 := ((s1.set Reg.BST_STATUS.SKIPPED 1).set Reg.BST_STATUS.CONDITION c).post Ev.bistSkipped [c]
    { s2 with bist := some ⟨startup, 0, [], false, false⟩ }.leaveBist
  else
    let dies := s1.bistDies selection
    let logic := decide (selection / 256 % 2 = 1)
    let s2 := (s1.set Reg.BST_STATUS.RUNNING 1).wr Reg.BST_RESULT.DOMAINS_TESTED.reg 0
    let s3 := (dies.flatMap (fun d => (List.range 8).map (8 * d + ·))).foldl (fun t i =>
      (t.set (Reg.HELM_CL_STATUS.INDEX i) 8).set (Reg.HELM_RGN_STATUS.SETPOINT i) (t.setpoint (i / 8) 8)) s2
    let s4 := if logic then s3.clearSecrets else s3
    { s4 with bist := some ⟨startup, selection, if logic then dies else [],
        decide (selection / 512 % 2 = 1), decide (selection / 1024 % 2 = 1)⟩ }

/-- When nothing selected remains, BIST is done (R451). -/
def State.bistProgress (s : State) : State :=
  match s.bist with
  | none => s
  | some b =>
    if b.logic = [] ∧ b.sram = false ∧ b.hbm = false then
      let s1 := s.post Ev.bistDone [s.get Reg.BST_RESULT.DOMAINS_TESTED, s.get Reg.BST_RESULT.DOMAINS_FAILED,
        s.get Reg.BST_RESULT.REPAIRED]
      (if b.startup then s1.set Reg.CAP_BOOT.BIST_RAN 1 else s1).leaveBist
    else s

/-- A scan domain failed: its unit is retired with cause 3 and charged with an event; an uncore domain leaves the die
unused (Table 14-8, Table 14-2). -/
def State.failCoreDomain (s : State) (p : Nat) : State :=
  if s.part.variant.unitPresent (unitCode 1 p) = some true then
    ((s.bump Reg.BST_RESULT.DOMAINS_FAILED 1).retireUnit (unitCode 1 p) 3).faultEvent (unitCode 1 p) none
  else s

/-- A cluster-logic domain failed: its nine cores are retired. -/
def State.failClusterDomain (s : State) (c : Nat) : State :=
  let s1 := s.bump Reg.BST_RESULT.DOMAINS_FAILED 1
  (List.range 9).foldl (fun t k =>
    (t.retireUnit (unitCode 1 (9 * c + k)) 3).faultEvent (unitCode 1 (9 * c + k)) none) s1

/-- An uncore domain failed: the die is unused as in Table 12-2. -/
def State.failUncoreDomain (s : State) (d : Nat) : State :=
  let s1 := s.bump Reg.BST_RESULT.DOMAINS_FAILED 1
  s1.dieLost d

/-- The batch of a die ends: 81 domains tested (R449). -/
def State.bistBatch (s : State) (d : Nat) (cores clusters : List Nat) (uncore : Bool) : State :=
  match s.bist with
  | none => s
  | some b =>
    if b.logic.head? = some d ∧ s.dev = .selftest then
      let s1 := { s with bist := some { b with logic := b.logic.drop 1 } }.bump Reg.BST_RESULT.DOMAINS_TESTED 81
      let s2 := cores.foldl (fun t k => t.failCoreDomain (72 * d + k)) s1
      let s3 := clusters.foldl (fun t c => t.failClusterDomain (8 * d + c)) s2
      (if uncore then s3.failUncoreDomain d else s3).bistProgress
    else s

/-- A failing row or column found by March C−: repaired from a spare in either mode of repair, else its owner is
retired, but for Chart and Binnacle SRAM; each failure is one fault event (R442, R448). -/
def State.bistFault (s : State) (f : BistFault) : State :=
  match siteUnit f.site with
  | none => s
  | some u =>
    if s.part.variant.unitPresent u = some true ∧ s.isRetired u = false then
      match s.nextSpare u f.site with
      | some spare => ((s.repairSite u spare f.site []).bump Reg.BST_RESULT.REPAIRED 1).faultEvent u (some f.site)
      | none =>
        if unitType u = 9 ∨ unitType u = 10 then s.faultEvent u (some f.site)
        else ((s.retireUnit u 3).bump Reg.BST_RESULT.UNREPAIRED 1).faultEvent u (some f.site)
    else s

/-- March C− over the SRAMs, then over HBM4E, ends (R448, R449). -/
def State.bistMemory (s : State) (hbm : Bool) (faults : List BistFault) : State :=
  match s.bist with
  | none => s
  | some b =>
    let due := decide (b.logic = []) && (if hbm then b.hbm && !b.sram else b.sram)
    if due && s.dev == .selftest then
      let b' := if hbm then { b with hbm := false } else { b with sram := false }
      (faults.foldl State.bistFault { s with bist := some b' }).bistProgress
    else s

/-- A condition of Table 14-9 leaves its range: BIST stops and unfinished results are discarded (R451). -/
def State.bistAbort (s : State) (c : Nat) : State :=
  match s.bist with
  | none => s
  | some _ =>
    if s.dev = .selftest then
      (((s.set Reg.BST_STATUS.ABORTED 1).set Reg.BST_STATUS.CONDITION c).post Ev.bistAborted [c]).leaveBist
    else s

end Sys2Proof.Machine
end

