-- ==== Sys2Proof/Machine/Boot.lean ====
section
/-! DEFINITION. The commands of start-up (spec/12_startup_and_recovery.md): the events of Table 12-1, the failures of
Table 12-2 and the BIST steps. -/

namespace Sys2Proof.Machine

/-- BOOT_ENTRY (R388, R474): the 16 ms event. hub.q0 is ON, the slot straps are sampled and the module enters BOOT. -/
def execBootEntry (slotId : BitVec 4) (s : State) : Host.Outcome State Fault Refusal :=
  .next (if s.dev = .off ∧ s.boot.busUp = true ∧ s.hold.dark.all (fun d => d.1 != 36) = true then
    { s with boot := { s.boot with slotId := slotId } }.enterBoot 0 else s)

/-! ### Firmware (R391, R392, R455 to R458) -/

/-- Start the image of a slot: M0 and M1 are extended, the attestation key is derived and the versions are shown. -/
def State.startImage (s : State) (slotB : Bool) (fallback : Bool) : State :=
  let image := s.mram.slot slotB
  let flags := fieldAt image 6 2
  let svn := fieldAt image 12 2
  let s1 := (s.extend 0 (sha384 image)).extend 1
    (sha384 (Config.bootImage s.part.rootRevoked.toNat s.part.svnMin.toNat slotB))
  let s2 := { s1 with
    sec := { s1.sec with
      attestKey := some (attestationKey s1.part.deviceKey (s1.measure 0).value (s1.measure 1).value)
      issued := Config.attestCertificate (publicKey (attestationKey s1.part.deviceKey (s1.measure 0).value
        (s1.measure 1).value)) (s1.measure 0).value (s1.measure 1).value }
    boot := { s1.boot with
      fwStarted := true
      failedSlot := if fallback then some (if slotB then 0 else 1) else none
      commitSvn := decide (flags % 2 = 1)
      imageSvn := BitVec.ofNat 16 svn
      imageRevoke := BitVec.ofNat 4 (flags / 16) } }
  let s3 := ((s2.set Reg.CAP_VERSION.FW_MAJOR (fieldAt image 16 2)).set Reg.CAP_VERSION.FW_MINOR (fieldAt image 18 2)).set
    Reg.CAP_VERSION.SEC_VERSION svn
  let s4 := ((s3.set Reg.SEC_STATUS.ATTEST_READY 1).set Reg.SEC_STATUS.ROOT_SLOT (fieldAt image 14 1)).set
    Reg.SEC_SVN.RUNNING svn
  ((s4.setFlag Reg.CAP_BOOT.SLOT slotB).setFlag Reg.CAP_BOOT.SLOT_FALLBACK fallback).set Reg.CAP_BOOT.STAGE 2

/-- hub.q1 to hub.q3 are enabled in ascending order; one that is dark makes the module FAULTED (R388, Table 12-2). -/
def State.enableHub (s : State) : State :=
  let s1 := [37, 38, 39].foldl State.requestEnable s
  if [37, 38, 39].any (fun r => s1.regionState r == 5) ∧ s1.dev = .boot then
    (s1.set Reg.CAP_BOOT.FAIL 2).enter .faulted (eventCause Ev.regionDark)
  else s1

/-- BOOT_ROM_VERIFY (R391, R392): the slot that the pointer names is tried first, the other second; when neither
passes, the module is FAULTED with hub.q1 to hub.q3 brought up. -/
def execBootRomVerify (s : State) : Host.Outcome State Fault Refusal :=
  .next (if s.dev = .boot ∧ s.boot.fwStarted = false then
    let s0 := s.set Reg.SEC_STATUS.KEYSTORE_LOADED 1
    let first := s.mram.pointer
    if s.part.imageOk (s.mram.slot first) then (s0.startImage first false).enableHub
    else if s.part.imageOk (s.mram.slot (!first)) then (s0.startImage (!first) true).enableHub
    else
      let s1 := (s0.set Reg.CAP_BOOT.FAIL 1).enableHub
      if s1.dev = .faulted then s1 else s1.enter .faulted 0
  else s)

/-! ### The voltage tables (R362) -/

/-- Read entry `p` of die `d`; `dead` says that a lower entry had no sound source. -/
def State.readVf (s : State) (d : Nat) (x : State × Bool) (p : Nat) : State × Bool :=
  let i := 32 * d + p
  let e := s.part.fusedEntry i
  let copy := s.mram.vtable.content
  let mramMv := ((copy.getD []).getD d []).getD p 0
  let t := (x.1.set (Reg.HELM_VF.MRAM_MV i) mramMv.toNat)
  if x.2 then (t.set (Reg.HELM_VF.USABLE i) 0, true)
  else if e.parityOk then
    ((t.set (Reg.HELM_VF.EFFECTIVE_MV i) e.mv.toNat).set (Reg.HELM_VF.USABLE i) 1, false)
  else match copy with
    | some _ => ((((t.set (Reg.HELM_VF.FROM_MRAM i) 1).set (Reg.HELM_VF.EFFECTIVE_MV i) mramMv.toNat).set
        (Reg.HELM_VF.USABLE i) 1).post Ev.vtableFromMram [d, p], false)
    | none => ((t.set (Reg.HELM_VF.USABLE i) 0).post Ev.vtableFault [d, p], true)

/-- Read a die's table; with index 0 unusable the die is unused (Table 12-2). -/
def State.readVfDie (s : State) (d : Nat) : State :=
  if d < s.part.variant.dies then
    let t := ((List.range 23).foldl (s.readVf d) (s, false)).1
    if t.flag (Reg.HELM_VF.USABLE (32 * d)) then t
    else t.set Reg.CAP_BOOT.DIE_UNUSED (t.get Reg.CAP_BOOT.DIE_UNUSED ||| 2 ^ d)
  else s

/-- VTABLE_READ (R362, R393): the 70 ms event. The voltage tables are read and the PCIe controller is ready; link
training begins unless PERST# is asserted. -/
def execVtableRead (s : State) : Host.Outcome State Fault Refusal :=
  .next (
    let s0 := if (s.dev = .boot ∨ s.dev = .faulted) ∧ s.regionState 39 = 3 then
        { s with pcie := { s.pcie with controllerReady := true, training := !s.pcie.perst } }
      else s
    if s0.dev = .boot ∧ s0.boot.fwStarted = true then
      let s1 := (List.range 4).foldl State.readVfDie s0
      (s1.set Reg.HELM_OP_STATUS.TOP_USABLE s1.topUsable).set Reg.CAP_BOOT.STAGE 3
    else s0)

/-! ### Training (R388, R395) -/

/-- BRIDGE_TRAINING_DONE (R395): bridges 0 to 3 join die d to the hub and 4 to 7 join die d to the next; a failed
bridge to the hub leaves its die unused. Absent bridges do not train (R35). -/
def execBridgeTrainingDone (bridge : Fin 8) (ok : Bool) (s : State) : Host.Outcome State Fault Refusal :=
  .next (if s.dev = .boot ∧ s.boot.fwStarted = true ∧ s.part.variant.bridgeFitted bridge.val = true then
    let s1 := s.set Reg.CAP_BOOT.STAGE (max 4 (s.get Reg.CAP_BOOT.STAGE))
    if ok then s1
    else
      let s2 := { s1 with boot := { s1.boot with
        bridgesFailed := s1.boot.bridgesFailed ||| BitVec.ofNat 8 (2 ^ bridge.val) } }.post Ev.bridgeFailed [bridge.val]
      if bridge.val < 4 then
        s2.set Reg.CAP_BOOT.DIE_UNUSED (s2.get Reg.CAP_BOOT.DIE_UNUSED ||| 2 ^ bridge.val)
      else s2
  else s)

/-- STACK_TRAINING_DONE (R388, R395): a trained stack is written with zeros; after three failures it is unused. -/
def execStackTrainingDone (stack : Fin 8) (ok : Bool) (s : State) : Host.Outcome State Fault Refusal :=
  .next (if s.dev = .boot ∧ s.boot.fwStarted = true ∧ s.stackInUse stack.val = true then
    if ok then
      { s.loseStack stack.val with boot := { s.boot with
        stacksUp := s.boot.stacksUp ||| BitVec.ofNat 8 (2 ^ stack.val) } }
    else
      let n := sparseGet 0 stack.val s.boot.stackTries + 1
      let s1 := { s with boot := { s.boot with stackTries := sparsePut 0 stack.val n s.boot.stackTries } }
      if 3 ≤ n then
        ((s1.set Reg.CAP_BOOT.STACK_FAILED (s1.get Reg.CAP_BOOT.STACK_FAILED ||| 2 ^ stack.val)).post
          Ev.stackTrainingFailed [stack.val]).faultEvent (unitCode 5 stack.val) none
      else s1
  else s)

/-! ### Settings, repairs and the start-up BIST (R389, R429, R443, R445) -/

/-- Apply one repair-and-retirement record at BOOT: a retirement supersedes every repair of the unit (R445). -/
def State.applyRecord (s : State) (r : RepairRecord) : State :=
  let u := r.unit.toNat
  if r.retirement then
    let s1 := s.recordRetired u
    { s1 with rel := { s1.rel with repairs := s1.rel.repairs.filter (fun x => x.unit != u) } }
  else if s.isRetired u then s
  else
    let s1 := (s.setUnitState u 2).bump (Reg.BST_UNIT.SPARES_USED (unitSlot u)) 1
    { s1 with rel := { s1.rel with repairs :=
      s1.rel.repairs ++ [Repair.mk u r.spare.toNat r.target.toNat [] true] } }

/-- Post SETTINGS_DEFAULTED for a block without a sound copy. -/
def State.reportUnsound (s : State) (block : Nat) (sound : Bool) : State :=
  if sound then s else s.post Ev.settingsDefaulted [block]

/-- Load the settings, apply the records and reload the soft repairs (the 280 ms event). -/
def State.loadSettings (s : State) : State :=
  let vals := s.mram.settings.content.getD (settingDefaults s.part.variant)
  let s1 := ((((s.set Reg.CAP_BOOT.STAGE 5).applySettings vals).reportUnsound 0 s.mram.settings.sound.isSome).reportUnsound
    1 s.mram.repairs.sound.isSome).reportUnsound 2 s.mram.vtable.sound.isSome
  let records := s.mram.repairs.content.getD []
  let s2 := (records.foldl State.applyRecord s1).markPersistent records
  let s3 := (s2.set Reg.CAP_PCIE.SRIS (s2.get Reg.CAP_SETTINGS.PCIE_CLOCK)).extendSettings
  let s4 := s3.applyMargins
  { s4 with
    boot := { s4.boot with settingsLoaded := true }
    pcie := { s4.pcie with bar4Log2 := min 9 (s4.get Reg.CAP_SETTINGS.BAR4_LOG2) } }

/-- SETTINGS_LOAD (R389, R429): the 280 ms event, with start-up BIST where it is selected. -/
def execSettingsLoad (s : State) : Host.Outcome State Fault Refusal :=
  .next (if s.dev = .boot ∧ s.boot.fwStarted = true ∧ s.boot.settingsLoaded = false then
    let s1 := s.loadSettings
    if s1.flag Reg.CAP_SETTINGS.STARTUP_BIST || s1.boot.afterFault || s1.boot.bistSelected then
      ((({ s1 with boot := { s1.boot with afterFault := false, bistSelected := false } }.set Reg.CAP_BOOT.STAGE 6).enter
        .selftest 0).startBist true 0x700)
    else s1
  else s)

/-- CORE_NUMBERING (R10, R388): the 300 ms event. -/
def execCoreNumbering (s : State) : Host.Outcome State Fault Refusal :=
  .next (if s.dev = .boot ∧ s.boot.settingsLoaded = true ∧ s.boot.numbered = false then s.startLoops else s)

/-- READY_ENTRY (R388): the sequence has ended and the bank is ready. -/
def execReadyEntry (s : State) : Host.Outcome State Fault Refusal :=
  .next (if s.dev = .boot ∧ s.boot.numbered = true ∧ s.flag Reg.HELM_IN_STATUS.HOLDUP_READY = true then s.finishBoot
    else s)

/-- HOLDUP_READY_TIMEOUT (R346): after 2 s the module enters READY all the same and posts HOLDUP_FAULT. -/
def execHoldupReadyTimeout (s : State) : Host.Outcome State Fault Refusal :=
  .next (if s.dev = .boot ∧ s.boot.numbered = true ∧ s.flag Reg.HELM_IN_STATUS.HOLDUP_READY = false then
    s.finishBoot.post Ev.holdupFault [s.get Reg.HELM_IN_STATUS.VBANK]
  else s)

/-! ### BIST steps and the Binnacle error -/

/-- BIST_BATCH_COMPLETE (R447, R449). -/
def execBistBatchComplete (die : Fin 4) (failedCores : List (Fin 72)) (failedClusters : List (Fin 8))
    (failedUncore : Bool) (s : State) : Host.Outcome State Fault Refusal :=
  .next (s.bistBatch die.val (failedCores.map (fun k => k.val)) (failedClusters.map (fun c => c.val)) failedUncore)

/-- MEMORY_BIST_COMPLETE (R448). -/
def execMemoryBistComplete (hbm : Bool) (faults : List BistFault) (s : State) : Host.Outcome State Fault Refusal :=
  .next (s.bistMemory hbm faults)

/-- BIST_CONDITION_LOST (R451): codes are those of Table 14-9, from 1. -/
def execBistConditionLost (condition : Fin 9) (s : State) : Host.Outcome State Fault Refusal :=
  .next (s.bistAbort (condition.val + 1))

/-- BINNACLE_SRAM_ERROR (R438): the fault note goes into MRAM and the device acts as on DEVICE_RESET; every error
counts against Binnacle SRAM (Table 14-2). -/
def execBinnacleSramError (addr : W64) (s : State) : Host.Outcome State Fault Refusal :=
  .next (if s.dev = .off then s
    else { s with mram := { s.mram with stop := { s.mram.stop with
      faultNote := some (addr, BitVec.ofNat 64 s.dtime) } } }.deviceReset 0x0006)

end Sys2Proof.Machine
end

