-- ==== Sys2Proof/Machine/HostBus.lean ====
section
/-! DEFINITION. The commands of the PCIe port, the mailboxes, the event ring and BAR4 (spec/13_control_interface.md R393,
R394, R409 to R412, R416 to R418, R423, R426, R427). -/

namespace Sys2Proof.Machine

/-! ### What the host reaches -/

/-- The PCIe link is up. -/
def State.linkUp (s : State) : Bool := decide (s.get Reg.CAP_PCIE.WIDTH ≠ 0) && s.dev != .off

/-- Whether a BAR0 offset lies in mailbox 0. -/
def inMailbox0 (off : Nat) : Bool := decide (0x100000 ≤ off) && decide (off < 0x100040)

/-- A read by the host reaches the register at a BAR0 offset: before READY only the CAP_ block and mailbox 0 answer
(R393). -/
def State.hostReads (s : State) (off : Nat) : Bool :=
  s.linkUp && (s.pcie.wasReady || decide (off < 0x100000) || inMailbox0 off)

/-- A write by the host reaches the register at a BAR0 offset: before READY only mailbox 0 (R393). -/
def State.hostWrites (s : State) (off : Nat) : Bool := s.linkUp && (s.pcie.wasReady || inMailbox0 off)

/-! ### The PCIe port -/

/-- The link is down. -/
def State.dropLink (s : State) : State :=
  ((s.set Reg.CAP_PCIE.WIDTH 0).set Reg.CAP_PCIE.GEN 0).set Reg.CAP_PCIE.FLIT 0

/-- PERST_ASSERT (R394): the controller, the configuration space with the BARs, and the MSI-X table are reset; the
device goes on. -/
def execPerstAssert (s : State) : Host.Outcome State Fault Refusal :=
  .next (if s.pcie.perst then s
    else
      let s1 := ((s.dropLink.set Reg.CAP_PCIE.DSTATE 0).set Reg.CAP_PCIE.BUS_MASTER 0).bump Reg.CAP_PCIE.PERSTS 1
      { s1 with
        regs := s1.regs.filter (fun c => !(decide (0x300000 ≤ c.1) && decide (c.1 < 0x308100)))
        pcie := { s1.pcie with
          perst := true, training := false, bar4Log2 := min 9 (s1.get Reg.CAP_SETTINGS.BAR4_LOG2) } })

/-- PERST_DEASSERT (R393): link training begins, or waits for the 70 ms event. -/
def execPerstDeassert (s : State) : Host.Outcome State Fault Refusal :=
  .next { s with pcie := { s.pcie with perst := false, training := s.pcie.training || s.pcie.controllerReady } }

/-- PCIE_LINK_UP (R393, R408): training ends at Gen 5 + `gen` and 4 · 2^`width` lanes; FLIT mode from Gen 6. -/
def execPcieLinkUp (gen width : Fin 3) (s : State) : Host.Outcome State Fault Refusal :=
  .next (if s.pcie.training && !s.pcie.perst && s.regulating 39 && s.dev != .off then
    let s1 := (s.set Reg.CAP_PCIE.GEN (5 + gen.val)).set Reg.CAP_PCIE.WIDTH (4 * 2 ^ width.val)
    { s1.setFlag Reg.CAP_PCIE.FLIT (decide (1 ≤ gen.val)) with pcie := { s1.pcie with training := false } }
  else s)

/-- PCIE_LINK_DOWN (R477, Table 12-2): the link goes down without PERST#, or fails to train: PCIE_DOWN is set after
READY or for a failed training, and the link trains again. -/
def execPcieLinkDown (s : State) : Host.Outcome State Fault Refusal :=
  .next (if (s.linkUp || s.pcie.training) && s.dev != .off then
    let s1 := { s.dropLink with pcie := { s.pcie with training := s.pcie.controllerReady && !s.pcie.perst } }
    if s.pcie.wasReady || s.pcie.training then s1.raiseAlert Alert.pcieDown.bit else s1
  else s)

/-- D3HOT_ENTRY (R409). -/
def execD3hotEntry (s : State) : Host.Outcome State Fault Refusal :=
  .next (if s.linkUp then s.set Reg.CAP_PCIE.DSTATE 3 else s)

/-- D0_RETURN (R409). -/
def execD0Return (s : State) : Host.Outcome State Fault Refusal :=
  .next (if s.linkUp then s.set Reg.CAP_PCIE.DSTATE 0 else s)

/-- BUS_MASTER_ENABLE_CHANGE (R409). -/
def execBusMasterEnableChange (enable : Bool) (s : State) : Host.Outcome State Fault Refusal :=
  .next (if s.linkUp then s.setFlag Reg.CAP_PCIE.BUS_MASTER enable else s)

/-- HOST_TRANSFER_TIMEOUT (R409): a snapshot or off-load transfer that has waited 50 ms fails as a completion error. -/
def execHostTransferTimeout (offload : Bool) (s : State) : Host.Outcome State Fault Refusal :=
  .next (if s.dev = .off ∨ s.trafficOk then s else if offload then s.offloadHostFault else s.snapshotHostFault)

/-- A command whose host reads fail completes with HOST_FAULT and no side effects (R410). -/
def State.commandHostFault (s : State) (m : Nat) : State :=
  match (s.mailbox m).running with
  | none => s
  | some r =>
    let s1 := if r.opcode = 0x0005 then { s with mramJob := none } else s
    if r.opcode = 0x0005 ∨ r.opcode = 0x0101 then s1.dropLoad.complete m r.tag Status.hostFault.code [] else s

/-- PCIE_COMPLETION_ERROR (Table 13-2a). -/
def execPcieCompletionError (access : HostAccess) (s : State) : Host.Outcome State Fault Refusal :=
  .next (if s.dev = .off then s
    else match access with
      | .submissionRing m => if s.flag (Reg.MBX_CFG.ENABLE m.val) then s.mailboxError m.val 1 else s
      | .completionRing m => if s.flag (Reg.MBX_CFG.ENABLE m.val) then s.mailboxError m.val 2 else s
      | .commandData m => s.commandHostFault m.val
      | .eventRing => if s.flag Reg.EVT_RING_CFG.ENABLE then s.set Reg.EVT_STATUS.ERROR 1 else s
      | .snapshot => s.snapshotHostFault
      | .offload => s.offloadHostFault)

/-! ### Mailboxes -/

/-- MBX_ENABLE (R416). -/
def execMbxEnable (m : Fin 64) (cfg : W64) (s : State) : Host.Outcome State Fault Refusal :=
  .next (if s.hostWrites (0x100000 + 0x40 * m.val) then
    s.writeMailboxCfg m.val (cfg ||| 0x8000000000000000) else s)

/-- MBX_DISABLE (R416). -/
def execMbxDisable (m : Fin 64) (cfg : W64) (s : State) : Host.Outcome State Fault Refusal :=
  .next (if s.hostWrites (0x100000 + 0x40 * m.val) then
    s.writeMailboxCfg m.val (cfg &&& 0x7FFFFFFFFFFFFFFF) else s)

/-- MBX_SQ_DOORBELL (R416, R418). -/
def execMbxSqDoorbell (m : Fin 64) (tail : BitVec 12) (s : State) : Host.Outcome State Fault Refusal :=
  .next (if s.hostWrites (0x100000 + 0x40 * m.val) then s.writeDoorbell m.val tail.toNat else s)

/-- MBX_CQ_HEAD_WRITE (R418). -/
def execMbxCqHeadWrite (m : Fin 64) (head : BitVec 12) (s : State) : Host.Outcome State Fault Refusal :=
  .next (if s.hostWrites (0x100000 + 0x40 * m.val) then s.writeCqHead m.val head.toNat else s)

/-- MBX_ERROR_CLEAR (R418). -/
def execMbxErrorClear (m : Fin 64) (s : State) : Host.Outcome State Fault Refusal :=
  .next (if s.hostWrites (0x100000 + 0x40 * m.val) then s.clearMailboxError m.val else s)

/-- COMPLETION_WRITE (R418). -/
def execCompletionWrite (m : Fin 64) (failed : Bool) (s : State) : Host.Outcome State Fault Refusal :=
  .next (s.deliverCompletion m.val failed)

/-! ### The event ring -/

/-- EVT_RING_ENABLE (R423). -/
def execEvtRingEnable (cfg : W64) (s : State) : Host.Outcome State Fault Refusal :=
  .next (if s.hostWrites 0x400008 then s.writeRingCfg (cfg ||| 0x8000000000000000) else s)

/-- EVT_RING_HEAD_WRITE (R423). -/
def execEvtRingHeadWrite (head : W16) (s : State) : Host.Outcome State Fault Refusal :=
  .next (if s.hostWrites 0x400010 then s.writeRingHead head.toNat else s)

/-- EVT_INT_ENABLE (R423). -/
def execEvtIntEnable (s : State) : Host.Outcome State Fault Refusal :=
  .next (if s.hostWrites 0x400008 then
    s.writeRingCfg (s.rd Reg.EVT_RING_CFG.INT_EN.reg ||| 0x4000000000000000) else s)

/-- EVENT_RECORD_WRITE (R423, R426). -/
def execEventRecordWrite (failed : Bool) (s : State) : Host.Outcome State Fault Refusal :=
  .next (s.deliverRecord failed)

/-- EVENT_INTERRUPT_HOLDOFF (R423). -/
def execEventInterruptHoldoff (s : State) : Host.Outcome State Fault Refusal := .next s.holdoffEnds

/-- Unmask a vector; a pending one is signalled (R427). -/
def State.unmaskVector (s : State) (v : Nat) : State :=
  let s1 := s.set (Reg.MSIX_CTRL.MASK v) 0
  let pba := (Reg.MSIX_PBA.PENDING (v / 64)).reg
  if (s1.rd pba).getLsbD (v % 64) then
    (s1.wr pba (s1.rd pba &&& ~~~(BitVec.ofNat 64 (2 ^ (v % 64))))).emit (.msix v)
  else s1

/-- MSIX_VECTOR_UNMASK (R427). -/
def execMsixVectorUnmask (vector : Fin 2048) (s : State) : Host.Outcome State Fault Refusal :=
  .next (if s.hostWrites 0x300000 then s.unmaskVector vector.val else s)

/-! ### The stop-record window -/

/-- Writing 1 to VALID empties the window and sets the cleared mark of the record that was copied; a record that a
running stop has written keeps its own mark (R401, Table 12-4). -/
def State.clearStopRecord (s : State) : State :=
  if (s.rd (Reg.CAP_STOP_REC.WORD 0).reg).getLsbD 63 then
    let s1 := (List.range 128).foldl (fun t w => t.set (Reg.CAP_STOP_REC.WORD w) 0) s
    let fresh := match s.pwr.stop with
      | some x => x.recorded
      | none => false
    if fresh then s1
    else { s1 with mram := { s1.mram with stop := { s1.mram.stop with cleared := true } } }
  else s

/-- CAP_STOP_REC_CLEAR (R401). -/
def execCapStopRecClear (s : State) : Host.Outcome State Fault Refusal :=
  .next (if s.hostWrites 0x400 then s.clearStopRecord else s)

/-! ### BAR4 (R412, R436) -/

/-- The device states in which BAR4 reaches memory. -/
def State.bar4Open (s : State) : Bool :=
  s.dev == .ready || s.dev == .armed || s.dev == .running || s.dev == .held || s.dev == .draining

/-- The module address that a BAR4 offset reaches: bits of BASE below the size are ignored. -/
def State.bar4Address (s : State) (off : Nat) : Nat :=
  let size := 2 ^ (30 + s.pcie.bar4Log2)
  s.get Reg.CAP_BAR4_BASE.BASE * 2 ^ 30 / size * size + off

/-- A module address is reached through BAR4: it lies on a stack in use. -/
def State.reached (s : State) (a : Nat) : Bool := isHbm a && s.stackInUse (addrStack a)

/-- What an access through BAR4 reaches passes through the slices of its addresses (R195). -/
def State.touchReached (s : State) (a n : Nat) (write : Bool) : State :=
  s.touchCache a ((List.range n).takeWhile (fun i => s.reached (a + i))).length write false

/-- The bad transfers in use that a read touches. -/
def State.badTouched (s : State) (a n : Nat) : List Nat :=
  s.badLines.filter (fun line => decide (line < a + n) && decide (a < line + 64) && s.reached line)

/-- A BAR4 read: zero where nothing is reached; poisoned, and counted again as uncorrectable, where a transfer of it is
bad. -/
def State.bar4Read (s : State) (off n : Nat) : State :=
  let a := s.bar4Address off
  let bytes := (List.range n).map (fun i => if s.bar4Open && s.reached (a + i) then s.readByte (a + i) else 0)
  let bad := if s.bar4Open then s.badTouched a n else []
  let s0 := if s.bar4Open then s.touchReached a n false else s
  let s1 := bad.foldl (fun t line => t.uncorrectable (.hbm (BitVec.ofNat 52 line) (Config.hbmRow line))) s0
  s1.emit (.bar4Data bytes (!bad.isEmpty))

/-- Write bytes where addresses are reached, clearing the error of each transfer covered whole. -/
def State.storeReached (s : State) (a : Nat) (bs : List Byte) : State :=
  let s1 := (bs.zipIdx).foldl (fun t x => if s.reached (a + x.2) then t.writeByte (a + x.2) x.1 else t)
    (s.touchReached a bs.length true)
  { s1 with badLines := s1.badLines.filter (fun line => !(coversLine a bs.length line && s.reached line)) }

/-- A BAR4 write. -/
def State.bar4Write (s : State) (off : Nat) (bs : List Byte) (poisoned : Bool) : State :=
  if poisoned then s.post Ev.hostPoison [4, off]
  else if s.bar4Open then s.storeReached (s.bar4Address off) bs
  else s

/-- Whether an access lies within BAR4. -/
def State.inBar4 (s : State) (off n : Nat) : Bool := s.linkUp && decide (off + n ≤ 2 ^ (30 + s.pcie.bar4Log2))

/-- BAR4_READ (R412). -/
def execBar4Read (off : BitVec 39) (len : Nat) (s : State) : Host.Outcome State Fault Refusal :=
  .next (if s.inBar4 off.toNat len then s.bar4Read off.toNat len else s)

/-- BAR4_WRITE (R410, R412). -/
def execBar4Write (off : BitVec 39) (bytes : List Byte) (poisoned : Bool) (s : State) :
    Host.Outcome State Fault Refusal :=
  .next (if s.inBar4 off.toNat bytes.length then s.bar4Write off.toNat bytes poisoned else s)

end Sys2Proof.Machine
end

