-- ==== Sys2Proof/Machine/Commands.lean ====
section
/-! DEFINITION. The Binnacle commands that need no passage (Table 13-8): NOP to UNIT_RETIRE. -/

namespace Sys2Proof.Machine

/-- Legal in every state except OFF, but for the boot ROM of a module without firmware, which takes only NOP,
IDENT_GET, MEASURE_GET, FW_UPDATE and DEVICE_RESET (R392). -/
def State.legalLate (s : State) : Bool := s.dev != DevState.boot && s.dev != DevState.selftest && !s.romOnly

/-! ### NOP, IDENT_GET, MEASURE_GET -/

/-- NOP. -/
def State.nop (s : State) (c : Cmd) : State :=
  s.command c ({ Findings.none with unusedBits := unusedArgs c 0 0 0 0 0 }.status c false) (fun t => t.finish c .ok [])

/-- IDENT_GET: FAB_UID, CAP_IDENT and CAP_VERSION. -/
def State.identGet (s : State) (c : Cmd) : State :=
  s.command c ({ Findings.none with unusedBits := unusedArgs c 0 0 0 0 0 }.status c false) (fun t =>
    t.finish c .ok [t.part.uid, t.rd Reg.CAP_IDENT.DEVICE_ID.reg, t.rd Reg.CAP_VERSION.FW_MAJOR.reg])

/-- MEASURE_GET: the register, its extend count and 8 zero bytes (R457). -/
def State.measureGet (s : State) (c : Cmd) : State :=
  s.command c ({ Findings.none with
      unusedBits := unusedArgs c (BitVec.allOnes 64) (addressMask c.a1) 0 0 0
      absent := s.addressAbsent c.a1 64
      badArgument := decide (7 < c.a0.toNat) || badAddress c.a1 64 }.status c true) (fun t =>
    let m := t.measure c.a0.toNat
    (t.writeBuffer c.a1 (m.value ++ leBytes 8 m.count ++ List.replicate 8 0)).finish c .ok [])

/-! ### STORE (R430, R431) -/

/-- The blocks that a STORE would take beyond their endurance. -/
def State.wornBlocks (s : State) : List Nat := s.storeBlocks.filter (fun b => decide (100000 ≤ s.mram.blockWrites b))

/-- STORE: WORN with the worn blocks and no block written, or a job that ends with COMMAND_END. -/
def State.storeCommand (s : State) (c : Cmd) : State :=
  s.command c ({ Findings.none with
      unusedBits := unusedArgs c 0 0 0 0 0
      admin := true
      illegal := !s.legalLate
      busy := s.mramJob.isSome }.status c false) (fun t =>
    if t.wornBlocks ≠ [] then
      (t.set Reg.CAP_STORE.LAST_STATUS Status.worn.code).finish c .worn [BitVec.ofNat 64 (bitMask t.wornBlocks)]
    else
      { t.startRunning c.mbx.val 0x0004 c.tag with
        mramJob := some (.store t.storeBlocks t.settingsNow t.recordsNow t.vtableNow) })

/-- The dies whose sound fused table differs from the copy that a STORE replaces, with the first index that differs
(R362). -/
def State.vtableDiffers (s : State) : List (Nat × Nat) :=
  (List.range s.part.variant.dies).filterMap (fun d =>
    let fused := s.part.fusedTable d
    let copy := (s.mram.vtable.content.getD []).getD d []
    if s.part.vfSound d && decide (copy ≠ fused) then
      some (d, ((List.range 23).find? (fun p => decide (copy[p]? ≠ fused[p]?))).getD 0)
    else none)

/-- A STORE's blocks have been written: it completes OK (R430, R431, R362, R457). -/
def State.endStore (s : State) (m : Nat) (tag : W16) (blocks settings : List Nat) (records : List RepairRecord)
    (vtable : List (List (BitVec 10))) : State :=
  let restored := if blocks.contains 2 then s.vtableDiffers else []
  let mram' := blocks.foldl (fun x b => x.writeBlock settings records vtable b) s.mram
  let s1 := { s with mram := { mram' with stores := mram'.stores + 1 }, mramJob := none }
  let s2 := (s1.extend 2 (sha384 (Config.settingsImage settings))).markPersistent records
  let s3 := ((s2.set Reg.CAP_STORE.STORES (satCount 32 s2.mram.stores)).set Reg.CAP_STORE.LAST_STATUS 0).set
    Reg.CAP_STORE.WEAR_MAX s2.mram.wearMax
  let s4 := s3.post Ev.storeDone [bitMask blocks]
  let s5 := restored.foldl (fun t x => t.post Ev.vtableRestored [x.1, x.2]) s4
  s5.complete m tag Status.ok.code [BitVec.ofNat 64 (bitMask blocks), BitVec.ofNat 64 s5.mram.wearMax]

/-! ### FW_UPDATE (R420, R455) -/

/-- FW_UPDATE: the image is verified first; the slot and the pointer change at COMMAND_END. -/
def State.fwUpdate (s : State) (c : Cmd) : State :=
  let n := c.a1.toNat
  let image := s.argumentBytes c c.a0 n
  s.command c ({ Findings.none with
      unusedBits := unusedArgs c (addressMask c.a0) (BitVec.allOnes 64) 0 0 0
      admin := true
      absent := s.addressAbsent c.a0 n
      illegal := !(s.dev == DevState.faulted || s.dev == DevState.ready && !s.loaded)
      busy := s.mramJob.isSome
      badArgument := decide (n = 0) || decide (3145728 < n) || badAddress c.a0 n }.status c (isHostAddress c.a0)) (fun t =>
    if t.part.imageOk image then
      { t.startRunning c.mbx.val 0x0005 c.tag with mramJob := some (.update (!t.mram.pointer) image) }
    else t.finish c .authFailed [])

/-- The image is wholly written: only then does the pointer name its slot (R430). -/
def State.endUpdate (s : State) (m : Nat) (tag : W16) (slotB : Bool) (image : List Byte) : State :=
  let mram' := if slotB then { s.mram with slotB := image, pointer := true }
    else { s.mram with slotA := image, pointer := false }
  { s with mram := mram', mramJob := none }.complete m tag Status.ok.code [if slotB then 1 else 0]

/-! ### DEVICE_RESET and DEVICE_RECOVER (R403, R404, R435) -/

/-- The completion of a command that enters BOOT: written with state BOOT if its ring has a free slot and the host can
be reached, dropped otherwise (R417, R435). -/
def State.completeInBoot (s : State) (c : Cmd) : State :=
  let m := c.mbx.val
  if s.cqFree m && s.trafficOk && s.flag (Reg.MBX_CFG.ENABLE m) then
    s.writeCompletion m ⟨s.get (Reg.MBX_SQ_HEAD.HEAD m), DevState.boot.code, Status.ok.code, c.tag, []⟩
  else s

/-- DEVICE_RESET. -/
def State.deviceResetCommand (s : State) (c : Cmd) : State :=
  s.command c ({ Findings.none with
      unusedBits := unusedArgs c 0 0 0 0 0
      admin := true
      illegal := s.dev == DevState.boot }.status c false) (fun t => (t.completeInBoot c).deviceReset 0x0006)

/-- A plausible reading stands at or above 90 °C (R403). -/
def State.tooHot (s : State) : Bool :=
  (List.range 144).any (fun i => match s.plausible i with
    | some t => decide (720 ≤ t)
    | none => false)

/-- DEVICE_RECOVER. -/
def State.deviceRecover (s : State) (c : Cmd) : State :=
  s.command c ({ Findings.none with
      unusedBits := unusedArgs c 0 0 0 0 0
      admin := true
      illegal := s.dev != DevState.safe
      busy := s.tooHot }.status c false) (fun t => (t.completeInBoot c).abortCommands.enterBoot 0x0007)

/-! ### BIST_RUN (R449) -/

/-- BIST_RUN; a selection of absent dies names an absent unit. -/
def State.bistRun (s : State) (c : Cmd) : State :=
  let sel := c.a0.toNat
  s.command c ({ Findings.none with
      unusedBits := unusedArgs c (BitVec.allOnes 64) 0 0 0 0
      admin := true
      absent := decide (sel % 16 / 2 ^ s.part.variant.dies ≠ 0)
      illegal := !(s.dev == DevState.ready && !s.loaded)
      busy := s.frw.isSome
      badArgument := decide (sel &&& 0xFFFFFFFFFFFFF0F0 ≠ 0) || decide (sel / 256 % 8 = 0) }.status c false) (fun t =>
    ((t.startRunning c.mbx.val 0x0008 c.tag).enter .selftest 0x0008).startBist false sel)

/-- The end of a BIST_RUN: it completes when BIST has ended or has been cut off by a trip or a dark hub region. -/
def State.endBistRun (s : State) (m : Nat) (tag : W16) : State :=
  if s.dev ≠ .selftest then
    { s.set Reg.BST_STATUS.RUNNING 0 with bist := none }.complete m tag Status.ok.code []
  else s

/-! ### UNIT_RETIRE (R444, R446) -/

/-- The cores that a retirement would leave unusable. -/
def State.coresOfUnit (s : State) (u : Nat) : List Nat :=
  let i := unitIndex u
  match unitType u with
  | 1 => [i]
  | 2 => (List.range 9).map (9 * i + ·)
  | 6 =>
    let r := i / 8
    let gone := decide (s.phasesHealthy r ≤ s.part.variant.phasesFitted r - 1)
      && decide (s.get (Reg.HELM_RGN_STATUS.PHASES_OK r) / 2 ^ (i % 8) % 2 = 1)
    if gone then
      (if r < 32 then (List.range 9).map (9 * r + ·)
       else if r < 36 then (List.range 72).map (72 * (r - 32) + ·) else [])
    else []
  | _ => []

/-- UNIT_RETIRE. With bit 32 of ARG0 the retirement record is removed, from the next BOOT after a STORE. -/
def State.unitRetire (s : State) (c : Cmd) : State :=
  let u := c.a0.toNat % 2 ^ 32
  let out := s.coresOfUnit u
  s.command c ({ Findings.none with
      unusedBits := unusedArgs c 0x1FFFFFFFF 0 0 0 0
      admin := true
      absent := s.part.variant.unitPresent u == some false
      illegal := !s.legalLate
      busy := s.mramJob.isSome
      badArgument := (s.part.variant.unitPresent u).isNone || unitType u == 9 || unitType u == 10
        || (!c.a0.getLsbD 32 && !s.isRetired u && !out.isEmpty
          && (List.range 288).all (fun p => out.contains p || !s.coreUsable p)) }.status c false) (fun t =>
    if c.a0.getLsbD 32 then
      { t with rel := { t.rel with removals := u :: t.rel.removals.filter (· ≠ u) } }.finish c .ok []
    else (t.retireUnit u 2).finish c .ok [])

/-! ### Meanings -/

/-- NOP (R420). -/
def execNop (c : Cmd) (s : State) : Host.Outcome State Fault Refusal := .next (s.nop c)

/-- IDENT_GET (R420). -/
def execIdentGet (c : Cmd) (s : State) : Host.Outcome State Fault Refusal := .next (s.identGet c)

/-- MEASURE_GET (R457). -/
def execMeasureGet (c : Cmd) (s : State) : Host.Outcome State Fault Refusal := .next (s.measureGet c)

/-- STORE (R430, R431). -/
def execStore (c : Cmd) (s : State) : Host.Outcome State Fault Refusal := .next (s.storeCommand c)

/-- FW_UPDATE (R420). -/
def execFwUpdate (c : Cmd) (s : State) : Host.Outcome State Fault Refusal := .next (s.fwUpdate c)

/-- DEVICE_RESET (R404). -/
def execDeviceReset (c : Cmd) (s : State) : Host.Outcome State Fault Refusal := .next (s.deviceResetCommand c)

/-- DEVICE_RECOVER (R403). -/
def execDeviceRecover (c : Cmd) (s : State) : Host.Outcome State Fault Refusal := .next (s.deviceRecover c)

/-- BIST_RUN (R449). -/
def execBistRun (c : Cmd) (s : State) : Host.Outcome State Fault Refusal := .next (s.bistRun c)

/-- UNIT_RETIRE (R446): ARG0 with bit 32 clear. -/
def execUnitRetire (c : Cmd) (s : State) : Host.Outcome State Fault Refusal :=
  .next (s.unitRetire { c with a0 := c.a0 &&& 0xFFFFFFFEFFFFFFFF })

/-- UNIT_RETIRE_REMOVAL (R446): ARG0 with bit 32 set. -/
def execUnitRetireRemoval (c : Cmd) (s : State) : Host.Outcome State Fault Refusal :=
  .next (s.unitRetire { c with a0 := c.a0 ||| 0x100000000 })

end Sys2Proof.Machine
end

