-- ==== Sys2Proof/Machine/PassageCmds.lean ====
section
/-! DEFINITION. The Binnacle commands that drive a passage, the snapshot, the restore, the fabric IDs and the twin
(Tables 7-9 and 13-8, 0x0101 to 0x0305). -/

namespace Sys2Proof.Machine

/-! ### Which states admit a command -/

/-- READY with a passage loaded. -/
def State.readyLoaded (s : State) : Bool := s.dev == .ready && s.loaded

/-- RUNNING or HELD. -/
def State.runningHeld (s : State) : Bool := s.dev == .running || s.dev == .held

/-- ARMED or HELD. -/
def State.armedHeld (s : State) : Bool := s.dev == .armed || s.dev == .held

/-! ### PASSAGE_LOAD (R244, R246) -/

/-- Address and bytes of each collective's member list, by descriptor (R269). -/
def listPlaces (img : List Byte) : List (Nat × Nat) :=
  (List.range (sectionAt img 4).2).map (fun j =>
    let b := recordAt img 4 j 64
    (bitsOf (wordAt b 8) 51 0, 2 * bitsOf (wordAt b 0) 15 0))

/-- A module address that PCIe carries to the host (Table 6-1). -/
def isHostWindow (a : Nat) : Bool := decide (0x8000000000000 ≤ a)

/-- The member lists: those in host memory as the load read them, the others from the module's own memory. -/
def State.memberList (s : State) (j : LoadJob) (addr n : Nat) : List Byte :=
  if isHostWindow addr then
    let host := (listPlaces j.image).filter (fun x => isHostWindow x.1)
    let before := (host.takeWhile (fun x => x ≠ (addr, n))).map Prod.snd
    sliceBytes j.lists (before.foldl (· + ·) 0) n
  else s.readBytes addr n

/-- A host map is present exactly in host-assisted placement, with one entry for each leg (R225, R231, R243). -/
def mapPresent (img : List Byte) (hostMap : Bool) : Bool :=
  (sectionAt img 6).2 == (if hostMap then (sectionAt img 1).2 else 0)

/-- RETURN_LEAD of an off-load entry as it stands: every entry carries the same (R243). -/
def rawLead (img : List Byte) (i : Nat) : Nat := bitsOf (wordAt (recordAt img 5 i 16) 8) 59 56

/-- Checks 1 to 7 of R244, and of check 8 the off-load plan and the host map. -/
def State.checkLoad (s : State) (p : Passage) : Option LoadError :=
  let img := p.image
  let hostMap := s.flag Reg.CAP_DUTY_MODE.PLACEMENT
  let hostTurn := s.flag Reg.CAP_DUTY_MODE.TRANSPOSE
  let v := s.part.variant
  let node := if s.flag Reg.FAB_NODE.VALID then some (s.get Reg.FAB_NODE.NODE_ID) else none
  let tiers := p.offload.map OffloadEntry.tier
  let paired := s.twin.paired
  (checkImage v paired img).orElse fun _ =>
  (firstRecord 0 p.tensors.length (fun i => p.tensors[i]?.bind (checkTensor v s.twin.paired p (recordAt img 0 i 64) i))).orElse fun _ =>
  (firstRecord 2 p.streams.length (fun i => p.streams[i]?.bind (checkStream p hostTurn (recordAt img 2 i 32)))).orElse fun _ =>
  (firstRecord 3 p.programs.length (fun i => p.programs[i]?.bind (checkProgram v))).orElse fun _ =>
  (firstRecord 4 p.collectives.length (fun i =>
    p.collectives[i]?.bind (checkCollective v paired p node (recordAt img 4 i 64) i))).orElse fun _ =>
  (firstRecord 1 p.legs.length (fun i => p.legs[i]?.bind (checkLeg p hostTurn (recordAt img 1 i 64) i))).orElse fun _ =>
  (checkOrder p).orElse fun _ =>
  (firstRecord 5 p.offload.length (fun i => firstCode
    [(!offloadSound (recordAt img 5 i 16), 14),
     (decide ((tiers.take i).contains (tiers.getD i 0)), 14),
     (decide (rawLead img i ≠ rawLead img 0), 14)])).orElse fun _ =>
  (if mapPresent img hostMap then none else some ⟨13, 6, 0⟩ : Option LoadError).orElse fun _ =>
  firstRecord 6 p.hostmap.length (fun i => firstCode
    [(decide (bitsOf (wordAt (recordAt img 6 i 8) 0) 63 8 ≠ 0), 13),
     (!s.logicalUsable (p.hostmap.getD i 0), 13)])

/-- The homes table, in host-assisted placement (R421); none when an entry is not sound. -/
def parseHomes (bs : List Byte) : Option (List ChartEntry) :=
  (List.range (bs.length / 32)).foldl (fun (acc : Option (List ChartEntry)) i => acc.bind (fun es =>
    (parseHome (sliceBytes bs (32 * i) 32)).map (fun e => es ++ [e]))) (some [])

/-- The Drift watch slots that a load keeps: of each tensor ID that both passages watch at one grain with the same ROWS and
COLS (R246). -/
def keptHistory (p : Passage) (old : List (Nat × HistSlot)) : List (Nat × HistSlot) :=
  old.filter (fun x => match p.tensor? x.1 with
    | some t => decide (t.drift ≠ 0 ∧ t.drift = x.2.drift ∧ t.rows = x.2.rows ∧ t.cols = x.2.cols)
    | none => false)

/-- A role without a passage: what the host has raised or asked for stays, and so do the step and attempt numbers. -/
def Role.unloaded (r : Role) : Role :=
  { Role.empty with
    step := r.step
    attempt := r.attempt
    level := r.level
    rungs := r.rungs
    clearPromotion := r.clearPromotion
    clearAll := r.clearAll
    clearRungs := r.clearRungs
    setRungs := r.setRungs }

/-- The image copy lies in its own reservation, entry kind 10 (R246). -/
def State.keepImage (s : State) (p : Passage) : State :=
  (s.chart.entries.filter (fun x => decide (x.2.kind = 10))).foldl (fun t x =>
    let bytes := sliceBytes p.image (x.2.first * x.2.stride) (min x.2.bytes (p.image.length - x.2.first * x.2.stride))
    (t.store x.2.addr bytes).mapEntry x.1 (fun e => { e with state := 2 })) s

/-- Check, place and initialise the passage of a load: the first failure refuses it. -/
def State.loadPassage (s : State) (j : LoadJob) : Except LoadError State :=
  let p := parsePassage j.image (s.memberList j)
  match s.checkLoad p with
  | some e => .error e
  | none =>
    let hostMap := s.flag Reg.CAP_DUTY_MODE.PLACEMENT
    let homes := if hostMap then (parseHomes j.homes).map some else some none
    match homes with
    | none => .error ⟨13, 6, 0⟩
    | some hs =>
      match s.place p hs with
      | .error c => .error ⟨c, 0, 0⟩
      | .ok (s1, plan) =>
        let kept := if j.history || p.carryHistory then keptHistory p s.oldHistory else []
        let r := { s1.role.unloaded with
          passage := some p
          history := kept
          budgetTiles := p.productTiles
          groups := plan
          quotas := p.offload }
        let s2 : State := { s1 with role := r, oldHistory := [] }
        let s3 := (s2.keepImage p).initTensors p (fun _ => true)
        let s4 := (s3.set Reg.CAP_RUN.LOADED 1).setOwn Reg.CAP_PASSAGE_ID.ID p.id
        .ok (s4.extend 4 (sha384 p.image))

/-- Show the outcome of a load (Table 7-15). -/
def State.showLoad (s : State) (e : LoadError) : State :=
  ((s.set Reg.CAP_LOAD_STATUS.CODE e.code).set Reg.CAP_LOAD_STATUS.SECTION e.sect).set Reg.CAP_LOAD_STATUS.INDEX e.index

/-- A PASSAGE_LOAD has run to its end; one whose device state has changed meanwhile finds it illegal. -/
def State.endLoad (s : State) (m : Nat) (tag : W16) : State :=
  let s0 : State := { s with load := none }
  match s.load with
  | none => s0.complete m tag Status.stateConflict.code []
  | some j =>
    if s.dev ≠ .ready then s0.complete m tag Status.stateConflict.code []
    else match s0.loadPassage j with
      | .error e =>
        let s1 := s0.showLoad e
        s1.complete m tag Status.loadRefused.code [s1.rd Reg.CAP_LOAD_STATUS.CODE.reg]
      | .ok t =>
        let s1 := t.showLoad ⟨0, 0, 0⟩
        s1.complete m tag Status.ok.code [s1.rd Reg.CAP_LOAD_STATUS.CODE.reg]

/-- The bytes of a command's second address argument: behind those of the first where both lie in host memory. -/
def State.secondBytes (s : State) (c : Cmd) (a : W64) (used n : Nat) : List Byte :=
  if isHostAddress a then sliceBytes c.data used n else s.readBytes (a.toNat % 2 ^ 52) n

/-- PASSAGE_LOAD: the image and the homes table are read at once; the load ends at COMMAND_END. -/
def State.passageLoad (s : State) (c : Cmd) : State :=
  let n := c.a1.toNat
  let k := 32 * c.a4.toNat
  let used := if isHostAddress c.a0 then n else 0
  let usedToo := used + (if isHostAddress c.a3 then k else 0)
  let hostMap := s.flag Reg.CAP_DUTY_MODE.PLACEMENT
  s.command c ({ Findings.none with
      unusedBits := unusedArgs c (addressMask c.a0) (BitVec.allOnes 64) 1 (addressMask c.a3) (BitVec.allOnes 64)
      admin := true
      absent := s.addressAbsent c.a0 n || s.addressAbsent c.a3 k
      illegal := s.dev != DevState.ready
      busy := s.loaded || s.load.isSome || s.frw.isSome
      badArgument := badAddress c.a0 n || badAddress c.a3 k || (!hostMap && (c.a3 != 0 || c.a4 != 0)) }.status c true) (fun t =>
    { t.startRunning c.mbx.val 0x0101 c.tag with
      load := some ⟨t.argumentBytes c c.a0 n, t.secondBytes c c.a3 used k, c.data.drop usedToo, c.a2.getLsbD 0⟩ })

/-! ### PASSAGE_UNLOAD (R246) -/

/-- The role carried for a lost twin ends: its alias and its entries go. -/
def State.endCarry (s : State) : State :=
  match s.other with
  | none => s
  | some _ =>
    let s1 : State := { s with other := none }
    ((s1.setTwin s1.twinIdle).mapTwin (fun t => { t with lostNode := none })).setAlias none |>.recordChanged

/-- Every reservation and Chart entry is freed; the Drift watch slots stay for the next load. -/
def State.unload (s : State) : State :=
  let s1 := (s.failSnapshot 5).endCarry
  let s2 : State := { s1 with
    role := s1.role.unloaded, chart := ChartUnit.empty, restore := none, oldHistory := s1.role.history }
  ((((s2.set Reg.CAP_RUN.LOADED 0).set Reg.CAP_PASSAGE_ID.ID 0).set Reg.CHT_MARK_REGION.BASE 0).set
    Reg.CAP_RECOVERY.RESTORE 0).showAway

/-- PASSAGE_UNLOAD. -/
def State.passageUnload (s : State) (c : Cmd) : State :=
  s.command c ({ Findings.none with
      unusedBits := unusedArgs c 0 0 0 0 0
      admin := true
      illegal := !s.readyLoaded }.status c false) (fun t => t.unload.finish c .ok [])

/-! ### PASSAGE_ARM (R246, R247, R259, R282, R315, R322) -/

/-- A role armed at a step: every knot's arm base is its value, attempt 0, no agreed exponent yet. -/
def Role.armAt (r : Role) (step : Nat) (knots : List (Nat × W64)) : Role :=
  { r.clean with
    step := step
    attempt := 0
    armBase := knots
    stepsLeft := 0
    inStep := false
    rerun := false
    discardMark := false
    withhold := false
    settling := false
    sightSteps := 0
    colls := []
    placeFailed := false }

/-- No agreed exponent applies in the first step after an arm (R282). -/
def State.clearScales (s : State) : State :=
  (List.range ((s.role.passage.map (fun p => p.collectives.length)).getD 0)).foldl (fun t c =>
    (t.setOwn (Reg.KNT_SCALE.HISTORY c) 0).setOwn (Reg.KNT_SCALE.E c) 0) s

/-- Arm every role of the module at a step base; the knots and the counts of R263 of its quotas begin anew. -/
def State.arm (s : State) (base : Nat) : State :=
  let knots := s.role.quotaKnots ++ ((s.other.map Role.quotaKnots).getD [])
  let s1 : State := { s with
    role := s.role.armAt base s.knots
    other := s.other.map (fun r => r.armAt base s.knots)
    fab := { s.fab with
      early := []
      applied := s.fab.applied.filter (fun x => !knots.contains x.2.1)
      waitingSignals := s.fab.waitingSignals.filter (fun p => !knots.contains p.knot.toNat) } }
  let dropped := s.fab.early ++ s.fab.waitingSignals.filter (fun p => knots.contains p.knot.toNat)
  let s1 := s.fab.early.foldl State.leavesStorage s1
  let s2 := (((s1.ackDropped dropped).showHeld.clearScales.setOwn Reg.CAP_STEP.STEP base).setOwn Reg.KNT_ATTEMPT.ATTEMPT 0).set Reg.CAP_RUN.STEPS_LEFT 0
  let s3 := (s2.enter .armed 0x0103).stepEnergyBegin
  (if s3.twin.paired then s3.sendArmed else s3).checkMirror

/-- PASSAGE_ARM; BUSY while the host still owes a restore (R398). -/
def State.passageArm (s : State) (c : Cmd) : State :=
  s.command c ({ Findings.none with
      unusedBits := unusedArgs c (BitVec.allOnes 64) 0 0 0 0
      admin := true
      illegal := !s.readyLoaded
      busy := s.restore.isSome }.status c false) (fun t => (t.arm c.a0.toNat).finish c .ok [])

/-! ### Running (R246, R247, R249, R274, R400) -/

/-- Every role may arrive again. -/
def State.releaseArrivals (s : State) : State :=
  { s with role := { s.role with withhold := false }, other := s.other.map (fun r => { r with withhold := false }) }

/-- The commits that a count asks for; 2^64 stands for a run until stopped. -/
def runCount (n : W64) : Nat := if n = 0 then 2 ^ 64 else n.toNat

/-- STEP_RUN; STEPS_LEFT saturates (R20). -/
def State.stepRun (s : State) (c : Cmd) : State :=
  s.command c ({ Findings.none with
      unusedBits := unusedArgs c (BitVec.allOnes 64) 0 0 0 0
      admin := true
      illegal := s.dev != DevState.armed }.status c false) (fun t =>
    let s1 := (t.releaseArrivals.mapRole (fun r => { r with stepsLeft := runCount c.a0 })).set Reg.CAP_RUN.STEPS_LEFT
      (satCount 32 (runCount c.a0))
    (s1.enter .running 0x0104).finish c .ok [])

/-- STEP_STOP: the stop governs over a hold (Table 7-13). -/
def State.stepStop (s : State) (c : Cmd) : State :=
  s.command c ({ Findings.none with
      unusedBits := unusedArgs c 0 0 0 0 0
      admin := true
      illegal := !s.runningHeld }.status c false) (fun t =>
    (((t.set Reg.CAP_RUN.STOP_PENDING 1).set Reg.CAP_RUN.HOLD_PENDING 0).enter .draining 0x0105).finish c .ok [])

/-- The module waits in an episode that has stalled (R275, R400). -/
def State.waitsStalled (s : State) : Bool := s.role.colls.any (fun x => x.2.arrived && x.2.stalled && x.2.verdict.isNone)

/-- STEP_HOLD: at the next Rendezvous, or at once in an episode that cannot complete (R400). -/
def State.stepHold (s : State) (c : Cmd) : State :=
  s.command c ({ Findings.none with
      unusedBits := unusedArgs c 0 0 0 0 0
      admin := true
      illegal := s.dev != DevState.running }.status c false) (fun t =>
    (if t.waitsStalled then t.holdBy 0x0106 else t.set Reg.CAP_RUN.HOLD_PENDING 1).finish c .ok [])

/-- STEP_RESUME; BUSY while the host still owes a restore (R398). -/
def State.stepResume (s : State) (c : Cmd) : State :=
  s.command c ({ Findings.none with
      unusedBits := unusedArgs c 0 0 0 0 0
      admin := true
      illegal := s.dev != DevState.held
      busy := decide (s.get Reg.CAP_RECOVERY.RESTORE = 3) }.status c false) (fun t =>
    (t.enter .running 0x0107).finish c .ok [])

/-- Pass 2 of the step in progress has begun. -/
def State.pass2Begun (s : State) : Bool :=
  s.role.inStep && s.role.closed && (decide (s.get Reg.NUM_UPD_STATUS.PASS = 3) || s.role.update.skip || s.role.update.committed)

/-- A role whose step is to be discarded and then withheld (R249, R274). -/
def Role.abort (r : Role) : Role := if r.inStep then { r with discardMark := true, withhold := true } else { r with withhold := true }

/-- STEP_ABORT: at once before pass 2, deferred to the commit after it has begun. -/
def State.stepAbort (s : State) (c : Cmd) : State :=
  s.command c ({ Findings.none with
      unusedBits := unusedArgs c 0 0 0 0 0
      admin := true
      illegal := !s.runningHeld }.status c false) (fun t =>
    if t.pass2Begun then
      let s1 := t.set Reg.CAP_RUN.ABORT_PENDING 1
      (if s1.dev = .held then s1.enter .draining 0x0108 else s1).finish c .ok []
    else
      let s1 : State := { t with role := t.role.abort, other := t.other.map Role.abort }
      let s2 := ((s1.set Reg.CAP_RUN.STOP_PENDING 0).set Reg.CAP_RUN.HOLD_PENDING 0).set Reg.CAP_RUN.ABORT_PENDING 0
      (s2.enter .armed 0x0108).finish c .ok [])

/-! ### PASSAGE_DISARM (R246, R400) -/

/-- A role without a step: what ran is discarded. -/
def Role.disarmed (r : Role) : Role :=
  { r.clean with
    inStep := false
    rerun := false
    discardMark := false
    withhold := false
    settling := false
    stepsLeft := 0
    colls := []
    placeFailed := false }

/-- The role in force gives up its step, and a restore starts where its pass 2 had committed a tile or data are lost. -/
def State.disarmRole (s : State) : State :=
  let late := s.role.update.committed
  let homes := match s.role.passage with
    | some p => s.releaseHomes p
    | none => s
  let s1 := homes.mapRole Role.disarmed
  if s1.restore.isSome then s1 else s1.startRestore late true

/-- Mirroring runs only while both twins are armed (R315); what the mirrors hold stays. -/
def State.endMirroring (s : State) : State :=
  if s.twin.state = 5 ∨ s.twin.state = 6 then
    (s.setTwin 4).mapTwin (fun t => { t with seedDue := false, seedStep := none, records := [] })
  else s

/-- Disarm: the step in progress is discarded, and early traffic is dropped. The module is READY once a restore from the twin
has ended, at once otherwise (R400). -/
def State.disarm (s : State) : State :=
  let s1 := (State.asRole .carried State.disarmRole (State.asOwn State.disarmRole s)).dropOpenRecords
  let s2 : State := { s1 with
    restore := s1.restore.map (fun x => { x with disarm := true })
    fab := { s1.fab with early := [] } }
  let s2 := s1.fab.early.foldl State.leavesStorage s2
  let s3 := (((((((((s2.ackDropped s1.fab.early).showHeld.set Reg.CAP_RUN.STEPS_LEFT 0).set Reg.CAP_RUN.STOP_PENDING 0).set Reg.CAP_RUN.HOLD_PENDING 0).set
    Reg.CAP_RUN.ABORT_PENDING 0).set Reg.CAP_RUN.HOST_WAIT 0).set Reg.KNT_STATUS.SETTLING 0).set Reg.KNT_STATUS.IN_RENDEZVOUS 0).set
    Reg.CHT_STATUS.ASSIGNING 0).set Reg.NUM_UPD_STATUS.PASS 0
  let s4 := s3.detachAtCommit.endMirroring.mapRole (fun r => { r with placeFailed := false })
  if s4.get Reg.CAP_RECOVERY.RESTORE = 2 ∧ s4.restore.isSome = true then s4 else s4.enter .ready 0x0109

/-- PASSAGE_DISARM: it completes when READY holds (R417). -/
def State.passageDisarm (s : State) (c : Cmd) : State :=
  s.command c ({ Findings.none with
      unusedBits := unusedArgs c 0 0 0 0 0
      admin := true
      illegal := !s.armedHeld }.status c false) (fun t =>
    let s1 := t.disarm
    if s1.dev = .ready then s1.finish c .ok [] else s1.startRunning c.mbx.val 0x0109 c.tag)

/-- A PASSAGE_DISARM that waited for its restore completes once the module has left ARMED or HELD. -/
def State.endDisarm (s : State) (m : Nat) (tag : W16) : State :=
  if s.armedHeld then s else s.complete m tag Status.ok.code []

/-! ### DUTY_SET (R253, Table 7-12) -/

/-- The mode fields in the order of their bits. -/
def dutyFields : List Field :=
  [Reg.CAP_DUTY_MODE.PLACEMENT, Reg.CAP_DUTY_MODE.ROUTING, Reg.CAP_DUTY_MODE.CAPPING, Reg.CAP_DUTY_MODE.UPDATE,
   Reg.CAP_DUTY_MODE.REPAIR, Reg.CAP_DUTY_MODE.TRANSPOSE, Reg.CAP_DUTY_MODE.FALLBACK]

/-- The states in which a function may switch. -/
def State.maySwitch (s : State) (i : Nat) : Bool :=
  match i with
  | 0 => s.dev == .ready && !s.loaded
  | 1 => s.dev == .ready || s.dev == .armed || s.dev == .held
  | 3 => s.dev == .ready || s.dev == .armed || s.dev == .running || s.dev == .held
  | 5 => s.dev == .ready && !s.loaded
  | 6 => s.dev == .ready || s.dev == .armed || s.dev == .running || s.dev == .held
  | _ => true

/-- Whether a switch waits before it takes effect: routing for its tables, capping for the next slow-loop period, the update and
the fallback policy for the next step start. -/
def State.switchWaits (s : State) (i : Nat) : Bool :=
  match i with
  | 1 => true
  | 2 => s.helm.loopsRunning
  | 3 => s.role.inStep
  | 6 => s.role.inStep
  | _ => false

/-- Switch one function; a wait shows in PENDING. -/
def State.switchDuty (modes : Nat) (s : State) (i : Nat) : State :=
  let f := dutyFields.getD i Reg.CAP_DUTY_MODE.PLACEMENT
  let on := bitAt modes i
  let pend := s.get Reg.CAP_DUTY_MODE.PENDING
  let rest := pend - (pend / 2 ^ i % 2) * 2 ^ i
  if s.switchWaits i then s.set Reg.CAP_DUTY_MODE.PENDING (rest + (if s.flag f = on then 0 else 2 ^ i))
  else (s.setFlag f on).set Reg.CAP_DUTY_MODE.PENDING rest

/-- DUTY_SET: with one function illegal in the present state, none changes. -/
def State.dutySet (s : State) (c : Cmd) : State :=
  let named := (List.range 7).filter (fun i => c.a0.getLsbD i)
  s.command c ({ Findings.none with
      unusedBits := unusedArgs c 0x7F 0x7F 0 0 0
      admin := true
      illegal := s.romOnly || !named.all s.maySwitch
      busy := named.contains 0 && (s.frw.isSome || s.load.isSome) }.status c false) (fun t =>
    (named.foldl (State.switchDuty c.a1.toNat) t).finish c .ok [])

/-! ### HOSTMAP_SET (R225, R243) -/

/-- A HOSTMAP entry names a core that does not exist (R10). -/
def State.mapNamesAbsent (s : State) (bs : List Byte) : Bool :=
  (List.range (bs.length / 8)).any (fun i => decide (s.get Reg.CAP_UNITS.N_CORES ≤ fieldAt bs (8 * i) 1))

/-- The map of a HOSTMAP table; none when an entry is not sound, or there is not one for each leg. -/
def State.parseHostmap (s : State) (bs : List Byte) (legs : Nat) : Option (List Nat) :=
  let ws := (List.range (bs.length / 8)).map (fun i => wordAt bs (8 * i))
  if ws.length = legs ∧ ws.all (fun w => decide (w < 256) && s.logicalUsable w) = true then some ws else none

/-- A new map: the legs that are held resume on the cores it names. -/
def State.newHostmap (s : State) (hm : List Nat) : State :=
  let s1 := s.mapRole (fun r => { r with passage := r.passage.map (fun p => { p with hostmap := hm }) })
  (s1.role.legs.filter (fun x => x.2.core.isNone && !x.2.finished)).foldl (fun t x => t.moveLeg x.1 hm[x.1]?) s1

/-- HOSTMAP_SET: legal in host-assisted placement. -/
def State.hostmapSet (s : State) (c : Cmd) : State :=
  let n := 8 * c.a1.toNat
  let legs := (s.passage.map (fun p => p.legs.length)).getD 0
  let fits := decide (c.a1.toNat = legs)
  let table := if fits then s.argumentBytes c c.a0 n else []
  let hm := if fits then s.parseHostmap table legs else none
  s.command c ({ Findings.none with
      unusedBits := unusedArgs c (addressMask c.a0) (BitVec.allOnes 64) 0 0 0
      absent := s.addressAbsent c.a0 n || s.mapNamesAbsent table
      illegal := !s.armedHeld || !s.flag Reg.CAP_DUTY_MODE.PLACEMENT
      badArgument := badAddress c.a0 n || hm.isNone }.status c (isHostAddress c.a0)) (fun t =>
    (t.newHostmap (hm.getD [])).finish c .ok [])

/-! ### UPD_CLIP_SET (R254) -/

/-- An FP64 code rounded to FP32, as R181 rounds c. -/
def clip32 (code : Nat) : Nat := (convertNum .fp32 .rne .ieee 0 1 (decodeNum .fp64 code)).1

/-- c and the policy reach the role in force: a pass 2 that waits for them is released. -/
def State.supplyClip (s : State) (clip : Nat) (proceed : Bool) : State :=
  if !s.role.inStep || s.role.update.hostClip.isSome then s
  else
    let s1 := s.mapUpdate (fun u => { u with hostClip := some (clip, proceed) })
    if s1.role.update.combined && !s1.updateHw then (s1.setOwn Reg.CAP_RUN.HOST_WAIT 0).applyClip clip proceed else s1

/-- UPD_CLIP_SET for the step in progress. -/
def State.updClipSet (s : State) (c : Cmd) : State :=
  s.command c ({ Findings.none with
      unusedBits := unusedArgs c (BitVec.allOnes 64) (BitVec.allOnes 64) 1 0 0
      illegal := !s.runningHeld
      badArgument := !s.role.inStep || decide (s.role.step ≠ c.a0.toNat) }.status c false) (fun t =>
    let give := fun (u : State) => u.supplyClip (clip32 c.a1.toNat) (c.a2.getLsbD 0)
    (State.asRole .carried give (State.asOwn give t)).finish c .ok [])

/-! ### Rungs and history (R420) -/

/-- READY with a passage loaded, ARMED, RUNNING or HELD. -/
def State.passageAt (s : State) : Bool := s.readyLoaded || s.armedHeld || s.dev == .running

/-- A watched tensor of the loaded passage. -/
def State.watched (s : State) (id : Nat) : Option Tensor := (s.tensor? id).filter (fun t => decide (t.drift ≠ 0))

/-- RUNG_SET: the tensor's rung from the next step start. -/
def State.rungSet (s : State) (c : Cmd) : State :=
  let id := c.a0.toNat % 65536
  s.command c ({ Findings.none with
      unusedBits := unusedArgs c 0x3FFFF 0 0 0 0
      illegal := !s.passageAt
      badArgument := (s.tensor? id).isNone }.status c false) (fun t =>
    (t.mapRole (fun r => { r with setRungs := r.setRungs ++ [(id, c.a0.toNat / 65536)] })).finish c .ok [])

/-- HISTORY_READ: h and n. -/
def State.historyRead (s : State) (c : Cmd) : State :=
  let id := c.a0.toNat
  s.command c ({ Findings.none with
      unusedBits := unusedArgs c (BitVec.allOnes 64) 0 0 0 0
      illegal := !s.passageAt
      badArgument := (s.watched id).isNone }.status c false) (fun t =>
    let slot := match t.watched id with
      | some w => t.history w
      | none => ⟨0, 0, 0, 0, 0⟩
    t.finish c .ok [BitVec.ofNat 64 slot.h, BitVec.ofNat 64 slot.n])

/-- HISTORY_WRITE: h and n from the next step start. -/
def State.historyWrite (s : State) (c : Cmd) : State :=
  let id := c.a0.toNat
  s.command c ({ Findings.none with
      unusedBits := unusedArgs c (BitVec.allOnes 64) (BitVec.allOnes 64) (BitVec.allOnes 64) 0 0
      admin := true
      illegal := !(s.readyLoaded || s.armedHeld)
      badArgument := (s.watched id).isNone || decide (255 < c.a2.toNat) }.status c false) (fun t =>
    (t.mapRole (fun r => { r with setHistory := r.setHistory ++ [(id, c.a1.toNat, c.a2.toNat)] })).finish c .ok [])

/-! ### Snapshots (R185, R188) -/

/-- The bits that an ARG3 destination defines: the node ID and the address share bits 51:48 as Table 13-8 lays them (log 56). -/
def snapMask (a : W64) : W64 := if a.getLsbD 63 then 0xBFFFFFFFFFFFFFFF else 0x7FFFFFFFFFFFF

/-- The tensor IDs of a list, ascending and each once. -/
def snapIds (bs : List Byte) : List Nat :=
  (((List.range (bs.length / 2)).map (fun i => fieldAt bs (2 * i) 2)).eraseDups).ordered (· ≤ ·)

/-- A snapshot of the named tensors at a step, its reserve in free HBM4E. -/
def State.openSnapshot (s : State) (ids : List Nat) (n : Nat) (dest : W64) (slots addr : Nat) : State :=
  let fabric := dest.getLsbD 63
  let x : SnapRun := { tensors := ids, boundary := n, node := if fabric then some (dest.toNat / 2 ^ 48 % 2 ^ 14) else none,
                       dest := if fabric then dest.toNat % 2 ^ 52 else dest.toNat % 2 ^ 51, slots := slots, reserve := [],
                       reserveAddr := addr, marked := false, passageId := (s.passage.map Passage.id).getD 0, crcs := [],
                       trailer := false, waiting := 0 }
  let s1 : State := { s with snap := some x }
  ((s1.set Reg.NUM_SNAP_STATUS.ACTIVE 1).set Reg.NUM_SNAP_STATUS.STEP_LO (n % 2 ^ 31)).showLeft

/-- SNAPSHOT_REQUEST: N is at or after the next commit, the tensors are high halves of weights, and the reserve holds at least
64 KiB. -/
def State.snapshotRequest (s : State) (c : Cmd) : State :=
  let n := 2 * c.a1.toNat
  let ids := snapIds (s.argumentBytes c c.a0 (if n ≤ 131072 then n else 0))
  let known := ids.all (fun i => match s.tensor? i with
    | some t => t.kind == 0 && t.format == 1
    | none => false)
  let room := if c.a4.toNat ≤ 2 ^ 26 then s.fitAny (8192 * c.a4.toNat) else none
  s.command c ({ Findings.none with
      unusedBits := unusedArgs c (addressMask c.a0) (BitVec.allOnes 64) (BitVec.allOnes 64) (snapMask c.a3) (BitVec.allOnes 64)
      absent := s.addressAbsent c.a0 n
      illegal := !(s.armedHeld || s.dev == DevState.running)
      busy := s.snap.isSome
      badArgument := badAddress c.a0 n || decide (c.a1 = 0) || decide (131072 < n) || !known || decide (c.a2.toNat < s.role.step)
        || decide (c.a4.toNat < 8) || room.isNone }.status c (isHostAddress c.a0)) (fun t =>
    (t.openSnapshot ids c.a2.toNat c.a3 c.a4.toNat (room.getD 0)).finish c .ok [])

/-- SNAPSHOT_ABORT: as a failure with cause 4; nothing happens where no snapshot is in flight. -/
def State.snapshotAbort (s : State) (c : Cmd) : State :=
  s.command c ({ Findings.none with
      unusedBits := unusedArgs c 0 0 0 0 0
      illegal := !s.legalLate }.status c false) (fun t => (t.failSnapshot 4).finish c .ok [])

/-! ### RESTORE_COMPLETE (R398) -/

/-- RESTORE_COMPLETE: legal only while the host owes a restore. -/
def State.restoreComplete (s : State) (c : Cmd) : State :=
  s.command c ({ Findings.none with
      unusedBits := unusedArgs c 0 0 0 0 0
      admin := true
      illegal := !(s.dev == DevState.held || s.dev == DevState.ready) || decide (s.get Reg.CAP_RECOVERY.RESTORE ≠ 3) }.status c false) (fun t =>
    t.hostRestored.heldLoss.finish c .ok [])

/-! ### FABRIC_RELEASE_ID (R304) -/

/-- Reservations of a node ID for modules that have departed. -/
def State.reservedFor (s : State) (n : Nat) : List (W64 × Nat) :=
  s.fab.reserved.filter (fun x => x.2 == n && !s.fab.database.any (fun e => !e.departed && e.record.uid == x.1))

/-- FABRIC_RELEASE_ID of an ID that is reserved for a departed module. -/
def State.fabricReleaseId (s : State) (c : Cmd) : State :=
  let held := s.reservedFor c.a0.toNat
  s.command c ({ Findings.none with
      unusedBits := unusedArgs c (BitVec.allOnes 64) 0 0 0 0
      admin := true
      illegal := !s.legalLate
      badArgument := held.isEmpty }.status c false) (fun t =>
    ({ t with fab := { t.fab with reserved := t.fab.reserved.filter (fun x => !held.contains x) } } : State).finish c .ok [])

/-! ### Twin commands (R321 to R324) -/

/-- A twin command: absent without a twin link, refused with TWN_STATUS.STATE in RESULT0 where the twin's state forbids it. -/
def State.twinCommand (s : State) (c : Cmd) (device twin busy : Bool) (effect : State → State) : State :=
  s.command c ({ Findings.none with
      unusedBits := unusedArgs c 0 0 0 0 0
      admin := true
      absent := !s.part.variant.hasTwin
      illegal := !device
      busy := twin && busy }.status c false) (fun t =>
    if twin then (effect t).finish c .ok [] else t.finish c .stateConflict [BitVec.ofNat 64 t.twin.state])

/-- TWIN_CARRY: in SOLO with CARRY_READY and a mirror to carry; BUSY while the mirror still computes. -/
def State.twinCarry (s : State) (c : Cmd) : State :=
  s.twinCommand c s.runningHeld
    (s.twin.state == 7 && s.flag Reg.TWN_STATUS.CARRY_READY && s.flag Reg.TWN_STATUS.MIRROR_VALID) s.twin.lostPending
    (fun t => (State.asOwn State.carry t).endTwinHold 0x0302)

/-- TWIN_HANDOVER: to a paired replacement that has no passage armed, in CARRYING or in SOLO with a valid mirror, while the
module is HELD or between steps. -/
def State.twinHandover (s : State) (c : Cmd) : State :=
  s.twinCommand c (s.armedHeld && (s.dev == .held || !s.role.inStep))
    ((s.twin.state == 8 || (s.twin.state == 7 && s.flag Reg.TWN_STATUS.MIRROR_VALID)) && s.twin.paired && !s.twin.partnerArmed)
    s.twin.lostPending State.startHandover

/-- TWIN_RELEASE: the mirror is dropped and the survivor goes on alone. -/
def State.twinRelease (s : State) (c : Cmd) : State :=
  s.twinCommand c (s.passageAt || s.dev == .ready) (s.twin.state == 7) false (fun t => t.releaseTwin.endTwinHold 0x0304)

/-- A group lies AWAY on the twin. -/
def State.awayOnTwin (s : State) : Bool := s.chart.entries.any (fun x => decide (x.2.state = 4) && decide (x.2.tier = 2))

/-- TWIN_DETACH: at the next commit, or at once when no step runs. -/
def State.twinDetach (s : State) (c : Cmd) : State :=
  s.twinCommand c (s.passageAt || s.dev == .ready) (s.twin.state != 8 && s.twin.state != 9 && !s.awayOnTwin) false (fun t =>
    if t.role.inStep then t.mapTwin (fun w => { w with detachPending := true }) else t.detach)

/-! ### Meanings -/

/-- PASSAGE_LOAD (R244, R246). -/
def execPassageLoad (c : Cmd) (s : State) : Host.Outcome State Fault Refusal := .next (s.passageLoad c)

/-- PASSAGE_UNLOAD (R246). -/
def execPassageUnload (c : Cmd) (s : State) : Host.Outcome State Fault Refusal := .next (s.passageUnload c)

/-- PASSAGE_ARM (R246). -/
def execPassageArm (c : Cmd) (s : State) : Host.Outcome State Fault Refusal := .next (s.passageArm c)

/-- STEP_RUN (R246). -/
def execStepRun (c : Cmd) (s : State) : Host.Outcome State Fault Refusal := .next (s.stepRun c)

/-- STEP_STOP (R246). -/
def execStepStop (c : Cmd) (s : State) : Host.Outcome State Fault Refusal := .next (s.stepStop c)

/-- STEP_HOLD (R274). -/
def execStepHold (c : Cmd) (s : State) : Host.Outcome State Fault Refusal := .next (s.stepHold c)

/-- STEP_RESUME (R246). -/
def execStepResume (c : Cmd) (s : State) : Host.Outcome State Fault Refusal := .next (s.stepResume c)

/-- STEP_ABORT (R249). -/
def execStepAbort (c : Cmd) (s : State) : Host.Outcome State Fault Refusal := .next (s.stepAbort c)

/-- PASSAGE_DISARM (R246). -/
def execPassageDisarm (c : Cmd) (s : State) : Host.Outcome State Fault Refusal := .next (s.passageDisarm c)

/-- DUTY_SET (R253). -/
def execDutySet (c : Cmd) (s : State) : Host.Outcome State Fault Refusal := .next (s.dutySet c)

/-- HOSTMAP_SET (R225). -/
def execHostmapSet (c : Cmd) (s : State) : Host.Outcome State Fault Refusal := .next (s.hostmapSet c)

/-- UPD_CLIP_SET (R254). -/
def execUpdClipSet (c : Cmd) (s : State) : Host.Outcome State Fault Refusal := .next (s.updClipSet c)

/-- RUNG_SET (R420). -/
def execRungSet (c : Cmd) (s : State) : Host.Outcome State Fault Refusal := .next (s.rungSet c)

/-- HISTORY_READ (R420). -/
def execHistoryRead (c : Cmd) (s : State) : Host.Outcome State Fault Refusal := .next (s.historyRead c)

/-- HISTORY_WRITE (R420). -/
def execHistoryWrite (c : Cmd) (s : State) : Host.Outcome State Fault Refusal := .next (s.historyWrite c)

/-- SNAPSHOT_REQUEST (R185). -/
def execSnapshotRequest (c : Cmd) (s : State) : Host.Outcome State Fault Refusal := .next (s.snapshotRequest c)

/-- SNAPSHOT_ABORT (R188). -/
def execSnapshotAbort (c : Cmd) (s : State) : Host.Outcome State Fault Refusal := .next (s.snapshotAbort c)

/-- RESTORE_COMPLETE (R398). -/
def execRestoreComplete (c : Cmd) (s : State) : Host.Outcome State Fault Refusal := .next (s.restoreComplete c)

/-- FABRIC_RELEASE_ID (R304). -/
def execFabricReleaseId (c : Cmd) (s : State) : Host.Outcome State Fault Refusal := .next (s.fabricReleaseId c)

/-- TWIN_CARRY (R322). -/
def execTwinCarry (c : Cmd) (s : State) : Host.Outcome State Fault Refusal := .next (s.twinCarry c)

/-- TWIN_HANDOVER (R323). -/
def execTwinHandover (c : Cmd) (s : State) : Host.Outcome State Fault Refusal := .next (s.twinHandover c)

/-- TWIN_RELEASE (R321). -/
def execTwinRelease (c : Cmd) (s : State) : Host.Outcome State Fault Refusal := .next (s.twinRelease c)

/-- TWIN_DETACH (R324). -/
def execTwinDetach (c : Cmd) (s : State) : Host.Outcome State Fault Refusal := .next (s.twinDetach c)

end Sys2Proof.Machine
end

