-- ==== Sys2Proof/Machine/Fabric.lean ====
section
/-! DEFINITION. The link layer of the Closon ports and the twin link, and the router (spec/09_fabric_and_twin.md R289 to R297,
R305 to R310, R320). -/

namespace Sys2Proof.Machine

/-! ### Credits and codewords (R294 to R296) -/

/-- Receive storage by virtual channel, in flits (Table 9-2). -/
def vcStorage : List Nat := [384, 384, 864, 128, 40, 40, 40, 40]

/-- A count `a` is not later than `b`, by serial arithmetic on 24 bits. -/
def notLater (a b : Nat) : Bool := decide ((b + 2 ^ 24 - a) % 2 ^ 24 < 2 ^ 23)

/-- Return credits, never beyond the storage. -/
def addCredits (have_ : List Nat) (back : List (Fin 8 × BitVec 11)) : List Nat :=
  back.foldl (fun cs x => cs.set x.1.val (min (vcStorage.getD x.1.val 0) (cs.getD x.1.val 0 + x.2.toNat))) have_

/-- A flit counter that shows units of 1,024: what stays, and the units. -/
def flitUnits (have_ n : Nat) : Nat × Nat := ((have_ + n) % 1024, (have_ + n) / 1024)

/-- A port that can take a packet now: it is UP, aligned, not retraining, and its retry store has room. -/
def State.portReady (s : State) (port : Nat) (p : Packet) : Bool :=
  let q := s.port port
  q.state == 5 && q.aligned && !q.retraining && decide (q.unacked.length + ceilDiv p.flits 5 ≤ 512)

/-- Credit that a packet finds on its channel at a port. -/
def State.creditFor (s : State) (port : Nat) (p : Packet) : Nat :=
  (s.port port).credits.getD p.vc 0 - (if p.vc = 3 && !p.isRdv then 32 else 0)

/-- A packet leaves by a port: credit is taken, and its codewords are numbered and kept until acknowledged. -/
def State.transmit (s : State) (port : Nat) (p : Packet) : State :=
  let q := s.port port
  let n := ceilDiv p.flits 5
  let kept := (List.range n).map (fun k => ((q.sent.toNat + k + 1) % 2 ^ 24, if k + 1 = n then [p] else []))
  let tx := flitUnits q.flitsTx p.flits
  let s1 := s.setPort port { q with
    sent := q.sent + BitVec.ofNat 24 n
    unacked := q.unacked ++ kept
    credits := q.credits.set p.vc (q.credits.getD p.vc 0 - p.flits)
    flitsTx := tx.1 }
  (s1.bump (portField Reg.FAB_PORT_FLITS.TX port) tx.2).emit (.packet port p)

/-- Resend what is not acknowledged (R295). -/
def State.replay (s : State) (port : Nat) : State :=
  let q := s.port port
  match q.unacked with
  | [] => s
  | x :: _ => (s.bump (portField Reg.FAB_PORT_RETRY.RESENDS port) q.unacked.length).emit
      (.replay port x.1 (q.unacked.flatMap Prod.snd))

/-! ### A link comes up and goes down (R291, R293, R295) -/

/-- A port goes DOWN by R295: one fault event of the port, or of the twin link (Table 14-2). -/
def State.linkFails (s : State) (p : Nat) : State :=
  let s1 := (s.portLost p).faultEvent (if p = 16 then unitCode 8 0 else unitCode 7 p) none
  if p = 16 then s1.showTwin else s1

/-- A port that may train: usable, not UP or on its way, and not held DOWN after a refusal or as a loopback. -/
def State.mayTrain (s : State) (p : Nat) : Bool := s.portUsable p && decide ((s.port p).state ≤ 2) && !(s.port p).loopback

/-- The lanes of a half have all trained. -/
def halfTrained (failed : Byte) (upper : Bool) : Bool := (failed >>> (if upper then 4 else 0)) &&& 0xF == 0

/-- Lane training ends: width 8, width 4 on the half that trained whole, or the port stays DOWN (R291). -/
def State.trained (s : State) (p : Nat) (failed : Byte) (reversed : Bool) (polarity : Byte) : State :=
  if !s.mayTrain p then s
  else
    let width := (if halfTrained failed false then 1 else 0) + (if halfTrained failed true then 2 else 0)
    if width = 0 then
      let s1 := s.setPortState p 1
      if p = 16 then s1.showTwin else s1
    else
      let s1 := ((s.setPortState p 3).set (portField Reg.FAB_PORT_STATUS.WIDTH p) width).setFlag
        (portField Reg.FAB_PORT_STATUS.REVERSED p) reversed
      let s2 := s1.set (portField Reg.FAB_PORT_STATUS.POLARITY p) polarity.toNat
      let s3 := if width = 3 then s2 else (s2.setPortBit Reg.FAB_STATUS.PORTS_DEGRADED p true).post Ev.linkDegraded [p]
      if p = 16 then (s3.mapTwin (fun t => { t with present := true })).showTwin else s3

/-- This module's hello to the twin (Table 9-7 step 2). -/
def State.twinHello (s : State) : State :=
  s.emit (.twin false (.hello s.part.uid (BitVec.ofNat 16 s.part.variant.code) (BitVec.ofNat 16 (s.get Reg.CAP_VERSION.FW_MAJOR))
    (if s.flag Reg.FAB_NODE.VALID then some (BitVec.ofNat 14 (s.get Reg.FAB_NODE.NODE_ID)) else none)
    (s.flag Reg.TWN_CFG.ENABLE)))

/-- The twin link is the path again (R320). -/
def State.twinPathBack (s : State) : State :=
  if s.twin.paired && s.flag Reg.TWN_STATUS.PATH then (s.set Reg.TWN_STATUS.PATH 0).bump Reg.TWN_COUNT.PATH_CHANGES 1 else s

/-- The receiver has alignment. After training the link is up: its credits are full, its counts start, and the hello goes out;
the twin link carries no SIGHT packets (R313) and its twins greet each other. A link that realigns goes on. -/
def State.alignment (s : State) (p : Nat) : State :=
  let q := s.port p
  if !s.portUsable p then s
  else if q.state = 3 then
    let s1 := s.setPort p { q with
      aligned := true, received := 0, sent := 0, unacked := [], nakSending := false, failures := 0, retraining := false
      credits := vcStorage }
    let s1 : State := { s1 with fab := { s1.fab with storage := s1.fab.storage.filter (fun x => x.1 != p) } }
    if p = 16 then ((s1.setPortState 16 5).mapTwin (fun t => { t with
      greeted := false, asked := none, authSent := false, partnerAuth := false })).showTwin.twinHello
    else (s1.setPortState p 4).emit (.sight p (.hello s.part.uid (Fin.ofNat 17 p) (BitVec.ofNat 16 s.part.variant.code)))
  else if 4 ≤ q.state ∧ q.state ≤ 5 ∧ q.aligned = false then
    let s1 := s.setPort p { q with aligned := true }
    if p = 16 then s1.twinPathBack else s1
  else s

/-- Alignment is lost (R293); the twins go over the fabric at once (R320). -/
def State.alignmentLost (s : State) (p : Nat) : State :=
  let q := s.port p
  if 4 ≤ q.state ∧ q.state ≤ 5 ∧ q.aligned = true then
    let s1 := s.setPort p { q with aligned := false }
    if p = 16 then s1.twinPathLost else s1
  else s

/-- Alignment has stayed lost for 1 ms. -/
def State.alignmentTimeout (s : State) (p : Nat) : State :=
  let q := s.port p
  if 4 ≤ q.state ∧ q.state ≤ 5 ∧ q.aligned = false then s.linkFails p else s

/-- A retrain has ended: what is unacknowledged is resent, or the port goes DOWN. -/
def State.retrained (s : State) (p : Nat) (ok : Bool) : State :=
  let q := s.port p
  if !q.retraining then s
  else if ok then (s.setPort p { q with retraining := false, failures := 0 }).replay p
  else s.linkFails p

/-- Training has not finished within 500 ms. -/
def State.trainingTimeout (s : State) (p : Nat) : State := if s.mayTrain p then s.linkFails p else s

/-- FLAP_HOLD has passed: the port trains again. -/
def State.flapHoldOver (s : State) (p : Nat) : State :=
  if (s.port p).state ≠ 6 then s
  else
    let s1 := s.setPortState p (if s.portUsable p then 2 else 0)
    if p = 16 then s1.showTwin else s1

/-! ### Codewords received (R295) -/

/-- An uncorrectable codeword: rejected, and after four failed resends the port retrains. -/
def State.rejectCodeword (s : State) (p : Nat) : State :=
  let q := s.port p
  let s1 := s.bump (portField Reg.FAB_PORT_FEC.UNCORRECTABLE p) 1
  if 4 < q.failures + 1 then
    (s1.setPort p { q with nakSending := true, failures := 0, retraining := true }).bump (portField Reg.FAB_PORT_RETRY.RETRAINS p) 1
  else s1.setPort p { q with nakSending := true, failures := q.failures + 1 }

/-- Packets that have arrived whole: those of the twin link are for this module, the others go to the router; a bad header is
dropped (R299). Each holds receive storage of the port until it has gone on or been handled (R296). -/
def State.takePackets (s : State) (port : Nat) (ps : List Packet) : State :=
  let good := ps.filter (fun p => p.headOk)
  let bad := ps.filter (fun p => !p.headOk)
  let s0 := bad.foldl (fun t p => t.emit (.credits port p.vc p.flits)) (s.bump Reg.FAB_DROP.BAD_CRC bad.length)
  let s1 : State := { s0 with fab := { s0.fab with storage := s0.fab.storage ++ good.map (fun p => (port, p)) } }
  if port = 16 then { s1 with fab := { s1.fab with inbox := s1.fab.inbox ++ good } }
  else { s1 with fab := { s1.fab with router := s1.fab.router ++ good } }

/-- A codeword that decodes: the next in order is accepted with its link fields, any other is discarded. -/
def State.codeword (s : State) (p : Nat) (cw : Codeword) : State :=
  let q := s.port p
  if !(decide (4 ≤ q.state ∧ q.state ≤ 5) && q.aligned && !q.retraining) then s
  else match cw with
    | .uncorrectable => s.rejectCodeword p
    | .sound count corrected ack nak credits _ flits packets =>
      let s1 := s.bump (portField Reg.FAB_PORT_FEC.CORRECTED p) corrected.toNat
      if count = q.received + 1 then
        let rx := flitUnits q.flitsRx flits
        let s2 := s1.setPort p { q with
          received := count, nakSending := false, failures := 0, flitsRx := rx.1
          credits := addCredits q.credits credits
          unacked := q.unacked.filter (fun x => !notLater x.1 ack.toNat) }
        let s3 := (s2.bump (portField Reg.FAB_PORT_FLITS.RX p) rx.2).takePackets p packets
        if nak then s3.replay p else s3
      else if notLater count.toNat q.received.toNat then s1
      else s1.setPort p { q with nakSending := true }

/-! ### The router (R305 to R310) -/

/-- Change the packets that wait. -/
def State.setRouter (s : State) (ps : List Packet) : State := { s with fab := { s.fab with router := ps } }

/-- The module forwards: not OFF, hub.q2 and hub.q3 powered, from its first quiet sighting onward (R310), and with a node ID
(R303). -/
def State.forwards (s : State) : Bool :=
  s.dev != .off && (s.regionState 38 == 3 || s.regionState 38 == 4) && (s.regionState 39 == 3 || s.regionState 39 == 4)
    && s.fab.everQuiet && s.flag Reg.FAB_NODE.VALID

/-- The adaptive port of a hop: of MIN_PORTS the one with the most free credit for the whole packet, the lowest on a tie. -/
def State.adaptivePort (s : State) (p : Packet) (entry : Nat) : Option Nat :=
  let able := (List.range 16).filter (fun k => bitAt entry k && s.portReady k p && decide (p.flits ≤ s.creditFor k p))
  able.foldl (fun best k => match best with
    | none => some k
    | some b => if s.creditFor b p < s.creditFor k p then some k else best) none

/-- The escape port of a hop. -/
def State.escapePort (s : State) (p : Packet) (entry : Nat) : Option Nat :=
  let k := bitsOf entry 51 48
  if bitAt entry 52 && s.portReady k p && decide (p.flits ≤ s.creditFor k p) then some k else none

/-- A packet is dropped and counted. -/
def State.dropPacket (s : State) (n : Nat) (count : Field) : State :=
  let gone := (s.fab.router[n]?).toList
  (gone.foldl State.leavesStorage ((s.setRouter (s.fab.router.eraseIdx n)).bump count 1)).snapshotDropped gone

/-- One hop of a packet that waits at the router (R307). -/
def State.hop (s : State) (n : Nat) (p : Packet) : State :=
  let entry := (s.rd (0x1810000 + 8 * p.dest.toNat)).toNat
  let rest := s.fab.router.eraseIdx n
  let away := { p with hops := p.hops - 1 }
  let free := if p.esc then none else s.adaptivePort p entry
  if !p.headOk then s.dropPacket n Reg.FAB_DROP.BAD_CRC
  else if !bitAt entry 63 then s.dropPacket n Reg.FAB_DROP.UNROUTABLE
  else if bitAt entry 62 then
    let s1 := s.setRouter rest
    { s1 with fab := { s1.fab with inbox := s1.fab.inbox ++ [p] } }
  else if p.hops = 0 then s.dropPacket n Reg.FAB_DROP.HOP_EXPIRED
  else match free with
    | some k => ((s.setRouter rest).leavesStorage p).transmit k away
    | none => match s.escapePort { p with esc := true } entry with
      | some k => ((s.setRouter rest).leavesStorage p).transmit k { away with esc := true }
      | none => s

/-- ROUTER_HOP of the n-th packet that waits; those for the twin link follow those at the router. -/
def State.routerHop (s : State) (n : Nat) : State :=
  match s.fab.router[n]? with
  | some p => if s.forwards then s.hop n p else s
  | none =>
    let i := n - s.fab.router.length
    match s.fab.twinQueue[i]? with
    | some p =>
      if s.portReady 16 p ∧ p.flits ≤ s.creditFor 16 p then
        ({ s with fab := { s.fab with twinQueue := s.fab.twinQueue.eraseIdx i } } : State).transmit 16 p
      else s
    | none => s

/-- A packet whose every port is gone has been held for 1 ms (R308). -/
def State.unroutable (s : State) (n : Nat) : State :=
  match s.fab.router[n]? with
  | none => s
  | some p =>
    let entry := (s.rd (0x1810000 + 8 * p.dest.toNat)).toNat
    if bitAt entry 63 && !bitAt entry 62 && !bitAt entry 52 && (p.esc || entry % 2 ^ 16 == 0) then
      s.dropPacket n Reg.FAB_DROP.UNROUTABLE
    else s

/-! ### Meanings -/

/-- LINK_TRAINING_DONE (R291). -/
def execLinkTrainingDone (port : Fin 17) (failed : Byte) (reversed : Bool) (polarity : Byte) (s : State) :
    Host.Outcome State Fault Refusal := .next (s.trained port.val failed reversed polarity)

/-- ALIGNMENT_ACQUIRED (R293, R301, R320). -/
def execAlignmentAcquired (port : Fin 17) (s : State) : Host.Outcome State Fault Refusal := .next (s.alignment port.val)

/-- ALIGNMENT_LOSS (R293, R320). -/
def execAlignmentLoss (port : Fin 17) (s : State) : Host.Outcome State Fault Refusal := .next (s.alignmentLost port.val)

/-- CODEWORD_RECEIVE (R292, R295). -/
def execCodewordReceive (port : Fin 17) (cw : Codeword) (s : State) : Host.Outcome State Fault Refusal :=
  .next (s.codeword port.val cw)

/-- RETRAIN_DONE (R295). -/
def execRetrainDone (port : Fin 17) (ok : Bool) (s : State) : Host.Outcome State Fault Refusal := .next (s.retrained port.val ok)

/-- ALIGNMENT_LOSS_TIMEOUT (R295). -/
def execAlignmentLossTimeout (port : Fin 17) (s : State) : Host.Outcome State Fault Refusal := .next (s.alignmentTimeout port.val)

/-- TRAINING_TIMEOUT (R295). -/
def execTrainingTimeout (port : Fin 17) (s : State) : Host.Outcome State Fault Refusal := .next (s.trainingTimeout port.val)

/-- FLAP_HOLD_EXPIRY (R295). -/
def execFlapHoldExpiry (port : Fin 17) (s : State) : Host.Outcome State Fault Refusal := .next (s.flapHoldOver port.val)

/-- ROUTER_HOP (R307). -/
def execRouterHop (n : Nat) (s : State) : Host.Outcome State Fault Refusal := .next (s.routerHop n)

/-- UNROUTABLE_HOLD_TIMEOUT (R308). -/
def execUnroutableHoldTimeout (n : Nat) (s : State) : Host.Outcome State Fault Refusal := .next (s.unroutable n)

end Sys2Proof.Machine
end

