-- ==== Sys2Proof/Machine/Fetch.lean ====
section
/-! DEFINITION. Binnacle fetches a command of a mailbox and executes it, and long commands run to their end
(spec/13_control_interface.md R416 to R422, Tables 13-6 and 13-8). -/

namespace Sys2Proof.Machine

/-- Execute a command by its opcode (Table 13-8); an unknown one is BAD_COMMAND. -/
def State.dispatch (s : State) (c : Cmd) (opcode : Nat) : State :=
  match opcode with
  | 0x0001 => s.nop c
  | 0x0002 => s.identGet c
  | 0x0003 => s.measureGet c
  | 0x0004 => s.storeCommand c
  | 0x0005 => s.fwUpdate c
  | 0x0006 => s.deviceResetCommand c
  | 0x0007 => s.deviceRecover c
  | 0x0008 => s.bistRun c
  | 0x0009 => s.unitRetire c
  | 0x0101 => s.passageLoad c
  | 0x0102 => s.passageUnload c
  | 0x0103 => s.passageArm c
  | 0x0104 => s.stepRun c
  | 0x0105 => s.stepStop c
  | 0x0106 => s.stepHold c
  | 0x0107 => s.stepResume c
  | 0x0108 => s.stepAbort c
  | 0x0109 => s.passageDisarm c
  | 0x010A => s.dutySet c
  | 0x010B => s.hostmapSet c
  | 0x010C => s.updClipSet c
  | 0x0201 => s.rungSet c
  | 0x0202 => s.historyRead c
  | 0x0203 => s.historyWrite c
  | 0x0204 => s.snapshotRequest c
  | 0x0205 => s.snapshotAbort c
  | 0x0206 => s.restoreComplete c
  | 0x0301 => s.fabricReleaseId c
  | 0x0302 => s.twinCarry c
  | 0x0303 => s.twinHandover c
  | 0x0304 => s.twinRelease c
  | 0x0305 => s.twinDetach c
  | _ => s.command c ({ Findings.none with unusedBits := true }.status c false) (fun t => t)

/-- The command that a fetched slot of mailbox `m` holds (Table 13-6). -/
def fetchedCommand (f : Fetch) (m : Nat) : Cmd where
  mbx := ⟨m % 64, Nat.mod_lt m (by decide)⟩
  tag := BitVec.ofNat 16 (extractBits f.w0 31 16)
  rsv := BitVec.ofNat 32 (extractBits f.w0 63 32)
  a0 := f.a0
  a1 := f.a1
  a2 := f.a2
  a3 := f.a3
  a4 := f.a4
  a5 := f.a5
  a6 := f.a6
  data := f.data
  fault := f.fault

/-- SQ_HEAD of a mailbox moves past the slot fetched. -/
def State.advanceHead (s : State) (m : Nat) : State :=
  s.set (Reg.MBX_SQ_HEAD.HEAD m) ((s.get (Reg.MBX_SQ_HEAD.HEAD m) + 1) % s.sqDepth m)

/-- Fetch from the next mailbox in rotation; a failed access to its ring stops it with cause 1 (R410, R417). -/
def State.fetchCommand (s : State) (f : Fetch) : State :=
  match s.nextMailbox with
  | none => s
  | some m =>
    let s1 : State := { s with rotation := m }
    if f.ringFailed then s1.mailboxError m 1
    else (s1.advanceHead m).dispatch (fetchedCommand f m) (extractBits f.w0 15 0)

/-- The command that mailbox `m` runs ends, where its work is done. -/
def State.endCommand (s : State) (m : Nat) : State :=
  match (s.mailbox m).running with
  | none => s
  | some r =>
    if r.opcode = 0x0004 then
      match s.mramJob with
      | some (.store blocks settings records vtable) => s.endStore m r.tag blocks settings records vtable
      | _ => s
    else if r.opcode = 0x0005 then
      match s.mramJob with
      | some (.update slotB image) => s.endUpdate m r.tag slotB image
      | _ => s
    else if r.opcode = 0x0008 then s.endBistRun m r.tag
    else if r.opcode = 0x0101 then s.endLoad m r.tag
    else if r.opcode = 0x0109 then s.endDisarm m r.tag
    else s

/-! ### Meanings -/

/-- COMMAND_FETCH (R417). -/
def execCommandFetch (fetch : Fetch) (s : State) : Host.Outcome State Fault Refusal :=
  .next (if s.dev = .off then s else s.fetchCommand fetch)

/-- COMMAND_END (R417). -/
def execCommandEnd (m : Fin 64) (s : State) : Host.Outcome State Fault Refusal := .next (if s.dev = .off then s else s.endCommand m.val)

end Sys2Proof.Machine
end

