-- ==== Sys2Proof/Machine/Forerunner.lean ====
section
/-! DEFINITION. The Forerunner window: GO, its checks, and the copy or product that a job runs
(spec/13_control_interface.md R433 to R435). -/

namespace Sys2Proof.Machine

/-! ### The descriptor -/

/-- The format a window code names. -/
def frwFormat : Nat → Option Fmt
  | 0 => some .eq8a
  | 1 => some .eq8b
  | 2 => some .bf16
  | _ => none

/-- The format of a job's operand. -/
def frwFmt (c : Nat) : Fmt := (frwFormat c).getD .bf16

/-- The job that the descriptor registers describe now. -/
def State.frwDescriptor (s : State) : FrwJob where
  core := s.get Reg.FRW_CORE.CORE
  op := s.get Reg.FRW_OP.OP
  transposeB := s.flag Reg.FRW_OP.TRANSPOSE_B
  aFmt := s.get Reg.FRW_OP.A_FMT
  bFmt := s.get Reg.FRW_OP.B_FMT
  yFmt := s.get Reg.FRW_OP.Y_FMT
  m := s.get Reg.FRW_M.EXTENT
  n := s.get Reg.FRW_N.EXTENT
  k := s.get Reg.FRW_K.EXTENT
  a := s.get Reg.FRW_A_HI.ADDR_HI * 2 ^ 32 + s.get Reg.FRW_A_LO.ADDR_LO
  b := s.get Reg.FRW_B_HI.ADDR_HI * 2 ^ 32 + s.get Reg.FRW_B_LO.ADDR_LO
  y := s.get Reg.FRW_Y_HI.ADDR_HI * 2 ^ 32 + s.get Reg.FRW_Y_LO.ADDR_LO
  failed := false

/-- Address and length of A. -/
def FrwJob.rangeA (j : FrwJob) : Nat × Nat := (j.a, (frwFmt j.aFmt).bytes (j.m * (if j.op = 0 then j.n else j.k)))

/-- Address and length of B; empty for a copy. -/
def FrwJob.rangeB (j : FrwJob) : Nat × Nat := (j.b, if j.op = 0 then 0 else (frwFmt j.bFmt).bytes (j.k * j.n))

/-- Address and length of Y. -/
def FrwJob.rangeY (j : FrwJob) : Nat × Nat := (j.y, (frwFmt j.yFmt).bytes (j.m * j.n))

/-! ### Acceptance -/

/-- The formats of a job are served: known codes, a copy that Table 2-7 converts, and a pair of Table 3-1 (log 60). -/
def FrwJob.formatsOk (j : FrwJob) : Bool :=
  decide (j.aFmt ≤ 2) && decide (j.yFmt ≤ 2)
    && (if j.op = 0 then j.aFmt == j.yFmt || j.aFmt == 2
        else j.op == 1 && decide (j.bFmt ≤ 2)
          && (pairClass (frwFmt j.aFmt).code (frwFmt j.bFmt).code).isSome)

/-- The extents lie within 1 to 65,536; a copy has no K. -/
def FrwJob.shapeOk (j : FrwJob) : Bool :=
  let ok := fun n => decide (1 ≤ n ∧ n ≤ 65536)
  ok j.m && ok j.n && (j.op == 0 || ok j.k)

/-- A range lies in stacks in use, outside the sighting region and the mirror region. -/
def State.frwRangeOk (s : State) (r : Nat × Nat) : Bool :=
  r.2 == 0 || (decide (r.1 + r.2 ≤ 2 ^ 39)
    && (List.range 8).all (fun n => !overlaps r.1 r.2 (n * 2 ^ 36) (2 ^ 36) || s.stackInUse n)
    && s.usableStacks.all (fun n => !overlaps r.1 r.2 (s.stackTop n) ((n + 1) * 2 ^ 36 - s.stackTop n))
    && (match s.fab.region with
        | some a => !overlaps r.1 r.2 a (4 * 2 ^ 20)
        | none => true))

/-- The addresses of a job are served. -/
def State.frwAddressesOk (s : State) (j : FrwJob) : Bool :=
  s.frwRangeOk j.rangeA && s.frwRangeOk j.rangeB && s.frwRangeOk j.rangeY
    && !overlaps j.rangeY.1 j.rangeY.2 j.rangeA.1 j.rangeA.2
    && (j.rangeB.2 == 0 || !overlaps j.rangeY.1 j.rangeY.2 j.rangeB.1 j.rangeB.2)

/-- A core that the window reaches: one of the first 128 logical cores, numbered and still usable. -/
def State.frwCoreOk (s : State) (n : Nat) : Bool :=
  decide (n < 128) && decide (n < s.get Reg.CAP_UNITS.N_CORES) && s.logicalUsable n

/-- CODE of a GO in an idle window: the first check that fails, in the order of the codes (log 60). -/
def State.frwCode (s : State) (j : FrwJob) : Nat :=
  if !s.flag Reg.CAP_DUTY_MODE.PLACEMENT then 1
  else if s.dev ≠ .ready ∨ s.loaded ∨ s.load.isSome then 2
  else if !s.frwCoreOk j.core then 3
  else if !j.formatsOk then 4
  else if !j.shapeOk then 5
  else if !s.frwAddressesOk j then 6
  else 0

/-- A write to FRW_GO: with GO 1 an idle window takes the descriptor, a busy one counts the write as dropped. -/
def State.frwGo (s : State) (value : W32) : State :=
  if value.getLsbD 0 = false then s
  else if s.frw.isSome then s.bump Reg.FRW_STATUS.DROPPED_GO 1
  else
    let j := s.frwDescriptor
    let code := s.frwCode j
    let s1 := s.set Reg.FRW_STATUS.CODE code
    if code = 0 then { s1 with frw := some j } else s1

/-! ### The work -/

/-- An element of an operand, which has no block scale and the coarse scale 1. -/
def frwElem (f : Fmt) (code : Nat) : Elem where
  fmt := f
  code := code
  scale := none
  zero := 0
  coarse := 1
  outlier := none
  blockSum := none

/-- The code of element `i` of a row-major operand. -/
def State.frwOperand (s : State) (f : Fmt) (base i : Nat) : Nat := packedCode f (fun o => s.readByte (base + o)) i

/-- An element of a product before its conversion: one chunk over all of K (R97, R99). -/
def State.frwProduct (s : State) (j : FrwJob) (row col : Nat) : Num × Flags :=
  let fa := frwFmt j.aFmt
  let fb := frwFmt j.bFmt
  let cls := (pairClass fa.code fb.code).getD (1, 2, 1)
  let run := if cls.2.1 = 2 then 1 else cls.2.2
  (runStarts run 0 j.k).foldl (fun acc r =>
    addRunTo acc ((List.range r.2).map (fun d =>
      let k := r.1 + d
      (frwElem fa (s.frwOperand fa j.a (row * j.k + k)),
       frwElem fb (s.frwOperand fb j.b (if j.transposeB then col * j.k + k else k * j.n + col)))))) (Num.zero, Flags.none)

/-- An element of the result with the flags it raises: output mode SAT and rounding RNE. -/
def State.frwResult (s : State) (j : FrwJob) (i : Nat) : Nat × Flags :=
  let fy := frwFmt j.yFmt
  if j.op = 0 then
    let c := s.frwOperand (frwFmt j.aFmt) j.a i
    if j.aFmt = j.yFmt then (c, Flags.none) else convertNum fy .rne .sat 0 1 (decodeNum (frwFmt j.aFmt) c)
  else
    let p := s.frwProduct j (i / j.n) (i % j.n)
    let q := convertNum fy .rne .sat 0 1 (decodeNum .ex40 (ex40Code p.1))
    (q.1, p.2.or q.2)

/-- Tile and element of element `i`: an F tile of a product (R90), a tile of 4,096 in flat order of a copy (R167). -/
def FrwJob.place (j : FrwJob) (i : Nat) : Nat × Nat :=
  if j.op = 0 then (i / 4096, i % 4096)
  else
    let row := i / j.n
    let col := i % j.n
    (row / 64 * ceilDiv j.n 64 + col / 64, row % 64 * 64 + col % 64)

/-- The unit whose flags a job raises: the F engine, or for a copy one of the two DMA engines, which no rule names (log 2). -/
def FrwJob.unit (j : FrwJob) (free : W64) : Nat := if j.op = 0 then 4 + free.toNat % 2 else 0

/-- Raise a job's flags, tile by tile and element by element. The tensor ID that a first-fault record then holds is free, since
a job has no tensor (log 2). -/
def State.frwFlags (s : State) (j : FrwJob) (fs : List (Nat × Flags)) : State :=
  let unitPick := s.freeWord
  let tensorPick := unitPick.2.freeWord
  let placed : List ((Nat × Nat) × Flags) := (fs.map (fun x => (j.place x.1, x.2))).ordered
    (fun a b => a.1.1 < b.1.1 ∨ (a.1.1 = b.1.1 ∧ a.1.2 ≤ b.1.2))
  placed.foldl (fun t x =>
    t.raiseFlags j.core (j.unit unitPick.1) x.2 (tensorPick.1.toNat % 65536) x.1.1 x.1.2 s.role.step) tensorPick.2

/-- Issue cycles and shaped tiles that a job adds to its core's counters (R95, R108, Table 3-9). -/
def State.frwCounters (s : State) (j : FrwJob) : State :=
  if j.op = 0 then s
  else
    let rate := ((pairClass (frwFmt j.aFmt).code (frwFmt j.bFmt).code).getD (1, 2, 1)).1
    let s1 := s.bump (Reg.NUM_MX_F_ISSUE.COUNT j.core) (ceilDiv j.m 64 * ceilDiv j.n 64 * ceilDiv (16 * j.k) rate)
    if j.transposeB then s1.bump (Reg.NUM_MX_DMA_SHAPE.TRANSPOSED j.core) (ceilDiv j.n 64 * ceilDiv j.k 64) else s1

/-- A job cannot have run whole: its core was retired or has lost its supply, or an operand holds a bad transfer. -/
def State.frwBroken (s : State) (j : FrwJob) : Bool :=
  j.failed || !s.logicalUsable j.core || !s.regulating (s.clusterOf j.core)
    || s.touchesBad j.rangeA.1 j.rangeA.2 || (decide (j.op ≠ 0) && s.touchesBad j.rangeB.1 j.rangeB.2)

/-- The window is idle again and the job counts as finished. -/
def State.frwEnd (s : State) (code : Nat) : State :=
  { (s.set Reg.FRW_STATUS.CODE code).bump Reg.FRW_DONE.COUNT 1 with frw := none }

/-- A job ends: Y is written, or after a fault undefined. -/
def State.frwFinish (s : State) (j : FrwJob) : State :=
  if s.frwBroken j then
    let y := s.freeBytes j.rangeY.2
    (y.2.writeBytes j.y y.1).frwEnd 7
  else
    let rs := (List.range (j.m * j.n)).map (s.frwResult j)
    let fs := (rs.zipIdx.filter (fun x => decide (x.1.2.bits ≠ 0))).map (fun x => (x.2, x.1.2))
    let s1 := if fs.isEmpty then s else s.frwFlags j fs
    ((s1.store j.y (packCodes (frwFmt j.yFmt) (rs.map Prod.fst))).frwCounters j).frwEnd 0

/-! ### Meanings -/

/-- FRW_GO (R433). -/
def execFrwGo (value : W32) (s : State) : Host.Outcome State Fault Refusal := .next (if s.dev = .off then s else s.frwGo value)

/-- FORERUNNER_JOB_DONE (R434). -/
def execForerunnerJobDone (s : State) : Host.Outcome State Fault Refusal :=
  .next (match s.frw with
    | none => s
    | some j => s.frwFinish j)

end Sys2Proof.Machine
end

