-- ==== Sys2Proof/Machine/Messages.lean ====
section
/-! DEFINITION. Packets that reach this module: remote writes, reads and signals, acknowledgements, and what happens when they
fail to come (spec/08_sync_and_collectives.md R263 to R266, R285; spec/09_fabric_and_twin.md R299, R300). -/

namespace Sys2Proof.Machine

/-! ### Writes and signals (R263, R300) -/

/-- Every byte of a range is mapped (Table 6-1), and in an HBM4E stack that is in use. -/
def State.reachable (s : State) (a n : Nat) : Bool :=
  mappedAddr s.part.variant s.twin.paired a n
    && (!isHbm a || s.stackInUse (addrStack a))

/-- The bytes of a remote write land. -/
def State.landWrite (s : State) (a : Nat) (bs : List Byte) : State :=
  if bs.isEmpty || !s.reachable a bs.length then s
  else if 0x8000000000000 ≤ a then s.emit (.hostWrite (a - 0x8000000000000) bs)
  else if 0x4000000000000 ≤ a then s.twinWrites (a - 0x4000000000000) 0xFFF bs
  else s.store a bs

/-- Writes applied from a source for a knot, beyond those that signals have consumed. -/
def State.appliedWrites (s : State) (src knot : Nat) : Nat :=
  ((s.fab.applied.find? (fun x => x.1 == src && x.2.1 == knot)).map (fun x => x.2.2)).getD 0

/-- Set that count. -/
def State.setApplied (s : State) (src knot n : Nat) : State :=
  let others := s.fab.applied.filter (fun x => !(x.1 == src && x.2.1 == knot))
  { s with fab := { s.fab with applied := if n = 0 then others else others ++ [(src, knot, n)] } }

/-- A signal whose writes are visible advances its knot; none while it has to wait. -/
def State.trySignal (s : State) (p : Packet) : Option State :=
  let n := s.appliedWrites p.src.toNat p.knot.toNat
  if p.arg.toNat ≤ n then
    some (((s.setApplied p.src.toNat p.knot.toNat (n - p.arg.toNat)).advance p.knot.toNat 1).oweAck p.src.toNat)
  else none

/-- A signal acts, or waits for the writes it announces. -/
def State.takeSignal (s : State) (p : Packet) : State :=
  (s.trySignal p).getD { s with fab := { s.fab with waitingSignals := s.fab.waitingSignals ++ [p] } }

/-- Signals that wait for a source and knot are tried again. -/
def State.retrySignals (s : State) (src knot : Nat) : State :=
  (s.fab.waitingSignals.filter (fun q => q.src.toNat == src && q.knot.toNat == knot)).foldl (fun t q =>
    match t.trySignal q with
    | some u => { u with fab := { u.fab with waitingSignals := u.fab.waitingSignals.erase q } }
    | none => t) s

/-- A write is applied and acknowledged; one that a knot announces is counted, and its signal may follow. -/
def State.takeWrite (s : State) (p : Packet) : State :=
  let src := p.src.toNat
  let s1 := (s.landWrite p.addr.toNat p.data).oweAck src
  if p.knot = 0xFFF then s1
  else (s1.setApplied src p.knot.toNat (s1.appliedWrites src p.knot.toNat + 1)).retrySignals src p.knot.toNat

/-- An acknowledgement lowers the source's count (R300). -/
def State.takeAck (s : State) (p : Packet) : State :=
  let dest := p.src.toNat
  { s with fab := { s.fab with unacked := sparsePut 0 dest (sparseGet 0 dest s.fab.unacked - p.arg.toNat) s.fab.unacked } }

/-! ### Reads (R299, R300) -/

/-- Answer a node: over the twin link where it is the paired twin. -/
def State.answer (s : State) (dest : Nat) (p : Packet) : State :=
  if s.twin.paired ∧ s.twin.partnerNode = some dest then s.twinPacket p else s.sendPacket dest p

/-- A read request is answered; what the host or the twin holds is open to the model (log 2). -/
def State.takeReadReq (s : State) (p : Packet) : State :=
  let a := p.addr.toNat
  let n := max 1 (min 4096 p.arg.toNat)
  let reply := { blankPacket 2 1 with tag := p.tag }
  if !s.reachable a n then s.answer p.src.toNat { reply with arg := 1 }
  else
    let got := if 0x4000000000000 ≤ a then s.freeBytes n else (s.readBytes a n, s)
    got.2.answer p.src.toNat { reply with data := got.1 }

/-- A peer cannot be reached: a snapshot to it fails, and so does the off-load tier it serves (R188, R224, R300). -/
def State.peerLost (s : State) (dest : Nat) : State :=
  let s1 := match s.snap with
    | some x => if x.node = some dest then s.failSnapshot 2 else s
    | none => s
  let tier := fun (t : State) => if t.offloadPeer = dest then t.tierFailed 3 else t
  let s2 := State.asRole .carried tier (tier s1)
  if s2.twin.paired ∧ s2.twin.partnerNode = some dest then s2.tierFailedAll 2 else s2

/-- A reply ends its read and lands its data where they are due; one for a retired tag is dropped. An unmapped address at the peer
fails its tier. -/
def State.takeReadResp (s : State) (p : Packet) : State :=
  match s.fab.reads.find? (fun r => r.tag == p.tag) with
  | none => s
  | some r =>
    let s1 : State := { s with fab := { s.fab with reads := s.fab.reads.erase r } }
    if p.arg ≠ 0 then s1.peerLost r.dest
    else match r.target with
      | some a => s1.landFetched a (sliceBytes p.data 0 r.bytes)
      | none => s1

/-- A read has had no reply in time: it is issued once more with a new tag, and then the peer counts as unreachable. -/
def State.readTimeout (s : State) (tag : W16) : State :=
  match s.fab.reads.find? (fun r => r.tag == tag) with
  | none => s
  | some r =>
    let s1 : State := { s with fab := { s.fab with reads := s.fab.reads.erase r } }
    if r.reissued then s1.peerLost r.dest
    else
      let s2 := (s1.bump Reg.FAB_LOSS.READ_REISSUES 1).sendRead r.twin r.dest r.addr r.bytes r.target
      { s2 with fab := { s2.fab with
        reads := s2.fab.reads.map (fun x => if x.tag == s1.fab.nextTag then { x with reissued := true } else x) } }

/-! ### Writes that are not acknowledged (R300) -/

/-- A leg of the role in force writes or signals to a node. -/
def State.legWritesTo (s : State) (dest : Nat) : Bool :=
  match s.role.passage with
  | none => false
  | some p => p.legs.any (fun l => (p.destinations l).contains dest
      || (s.twin.partnerNode == some dest && (p.destinations l).contains twinModule))

/-- The role in force brings a discard when one of its legs may have lost a write, or when nothing else explains the loss. -/
def State.lostWrite (dest : Nat) (explained : Bool) (s : State) : State :=
  if s.legWritesTo dest || !explained then s.discardMark else s

/-- The snapshot or an off-load tier sends to a node. -/
def State.servedBy (s : State) (dest : Nat) : Bool :=
  (match s.snap with
    | some x => x.node == some dest
    | none => false)
    || (s.offloadPeer == dest && s.role.quotas.any (fun e => e.tier == 3))
    || (s.twin.paired && s.twin.partnerNode == some dest && s.role.quotas.any (fun e => e.tier == 2))

/-- A count of writes and signals has stayed above zero for ACK_TIMEOUT. -/
def State.ackTimeout (s : State) (dest : Nat) : State :=
  if sparseGet 0 dest s.fab.unacked = 0 then s
  else
    let explained := s.servedBy dest
    let s1 : State := { s with fab := { s.fab with unacked := sparsePut 0 dest 0 s.fab.unacked } }
    let s2 := ((s1.bump Reg.FAB_LOSS.ACK_TIMEOUTS 1).post Ev.fabricLoss [dest]).peerLost dest
    State.asRole .carried (State.lostWrite dest explained) (s2.lostWrite dest explained)

/-! ### Pace (R285) -/

/-- The neighbour of this position on the way to another one in the tree of R271. -/
def Collective.toward (d : Collective) : Nat → Nat → Option Nat
  | 0, _ => none
  | fuel + 1, q =>
    if q ≤ d.selfPos then d.parent?
    else if (q - 1) / 8 = d.selfPos then some q
    else d.toward fuel ((q - 1) / 8)

/-- A pace advisory is posted, and goes on along the edges of the STEP_CLOSE tree that lead away from its sender. -/
def State.takePace (s : State) (p : Packet) : State :=
  let fraction := p.arg.toNat % 256
  let s1 := ((s.bump Reg.KNT_PACE.RECEIVED 1).set Reg.KNT_PACE.LAST_NODE p.src.toNat).set Reg.KNT_PACE.LAST_FRACTION fraction
  let s2 := s1.post Ev.paceAdvisory [s1.role.attempt, p.src.toNat, fraction, p.arg.toNat / 256 % 256]
  match s2.role.passage.bind Passage.stepTree with
  | none => s2
  | some d =>
    match d.positionOf p.src.toNat with
    | none => s2
    | some q => (d.neighbours.filter (fun k => d.toward 8 q != some k)).foldl (fun t k => t.forwardFrom (d.node k) p) s2

/-! ### Meanings -/

/-- WRITE (R263, R265, R300). -/
def execWrite (p : Packet) (s : State) : Host.Outcome State Fault Refusal :=
  .next (s.deliver p 0 (fun t => t.byTag p (fun u => u.takeWrite p) (fun u => u.oweAck p.src.toNat)))

/-- READ_REQ (R299). -/
def execReadReq (p : Packet) (s : State) : Host.Outcome State Fault Refusal := .next (s.deliver p 1 (fun t => t.takeReadReq p))

/-- READ_RESP (R300). -/
def execReadResp (p : Packet) (s : State) : Host.Outcome State Fault Refusal := .next (s.deliver p 2 (fun t => t.takeReadResp p))

/-- ACK (R300). -/
def execAck (p : Packet) (s : State) : Host.Outcome State Fault Refusal := .next (s.deliver p 3 (fun t => t.takeAck p))

/-- SIGNAL (R263, R265, R300). -/
def execSignal (p : Packet) (s : State) : Host.Outcome State Fault Refusal :=
  .next (s.deliver p 4 (fun t => t.byTag p (fun u => u.takeSignal p) (fun u => u.oweAck p.src.toNat)))

/-- PACE (R285). -/
def execPace (p : Packet) (s : State) : Host.Outcome State Fault Refusal := .next (s.deliver p 9 (fun t => t.takePace p))

/-- BAD_PACKET_TYPE (R299). -/
def execBadPacketType (p : Packet) (s : State) : Host.Outcome State Fault Refusal :=
  .next (if 14 ≤ p.ptype.toNat then s.receive p (fun t => t.bump Reg.FAB_DROP.BAD_TYPE 1) else s)

/-- ACK_SEND_TIMER (R300). -/
def execAckSendTimer (src : BitVec 14) (s : State) : Host.Outcome State Fault Refusal :=
  .next ((s.sendAck src.toNat).sendAck (src.toNat + 16384))

/-- ACK_TIMEOUT (R300). -/
def execAckTimeout (dest : BitVec 14) (s : State) : Host.Outcome State Fault Refusal := .next (s.ackTimeout dest.toNat)

/-- READ_TIMEOUT (R300). -/
def execReadTimeout (tag : W16) (s : State) : Host.Outcome State Fault Refusal := .next (s.readTimeout tag)

end Sys2Proof.Machine
end

