-- ==== Sys2Proof/Machine/Reduce.lean ====
section
/-! DEFINITION. Gradient reduction: the contribution legs, the ring of partials, the broadcast of results and their checksums
(spec/08_sync_and_collectives.md R276 to R284); and Sight check (spec/04_precision_control.md R140 to R143). -/

namespace Sys2Proof.Machine

/-! ### Staging slots (R113, R278) -/

/-- Take or free slots of a die's staging buffer. -/
def State.moveSlots (s : State) (die take give : Nat) : State :=
  let level := s.get (Reg.NUM_STG_LEVEL.CURRENT die) - give + take
  let s1 := s.setOwn (Reg.NUM_STG_LEVEL.CURRENT die) level
  s1.setOwn (Reg.NUM_STG_LEVEL.PEAK die) (max level (s1.get (Reg.NUM_STG_LEVEL.PEAK die)))

/-- The die whose stack homes a result tile. -/
def State.tileDie (s : State) (tensor tile : Nat) : Nat :=
  match s.home tensor tile with
  | some h => if isHbm h.2.2 then addrStack h.2.2 / 2 else 0
  | none => 0

/-! ### Values on the wire (R280, R282, R283) -/

/-- The FP32 code of a value of an entry. -/
def RedEntry.code (e : RedEntry) (scale : Int) (v : Int) : Nat :=
  if e.scaled then (roundRat .fp32 .rne false ((v : Rat) * pow2 scale)).1 else v.toNat

/-- The values as FP32 codes. -/
def RedEntry.codes (e : RedEntry) (scale : Int) : List Nat := e.values.map (e.code scale)

/-- FP64 code of an FP32 value. -/
def toFp64 (c : Nat) : Nat := (convertNum .fp64 .rne .ieee 0 1 (decodeNum .fp32 c)).1

/-- Σx of FP32 codes, summed in FP64 in ascending element index. -/
def sumFp64 (cs : List Nat) : Nat :=
  match cs with
  | [] => 0
  | c :: rest => rest.foldl (fun acc x => add64 acc (toFp64 x)) (toFp64 c)

/-- Σ|x| of FP32 codes. -/
def sumAbs64 (cs : List Nat) : Nat := sumFp64 (cs.map (absCode .fp32))

/-- Both sides are finite and a test holds, or neither is (R281). -/
def checkSides (a b : Nat) (ok : Rat → Rat → Bool) : Bool :=
  match decodeNum .fp64 a, decodeNum .fp64 b with
  | .fin n m, .fin k q => ok (Num.fin n m).toRat (Num.fin k q).toRat
  | x, y => !x.isFinite && !y.isFinite

/-- The check of a hop (R280): |Σchecks − Σout| ≤ (contributions + elements) × 2^-23 × Σabs, each side rounded to FP64. -/
def hopCheck (checks abs out contribs elems : Nat) : Bool :=
  let lhs := match decodeNum .fp64 checks, decodeNum .fp64 out with
    | .fin n m, .fin k q =>
      let d := (Num.fin n m).toRat - (Num.fin k q).toRat
      (roundRat .fp64 .rne false (if d < 0 then -d else d)).1
    | _, _ => Fmt.fp64.canonicalNan
  let rhs := match decodeNum .fp64 abs with
    | .fin _ m => (roundRat .fp64 .rne false (((contribs + elems : Nat) : Rat) * pow2 (-23) * m)).1
    | _ => Fmt.fp64.canonicalNan
  checkSides lhs rhs (fun a b => decide (a ≤ b))

/-- The check of a landed result: its own sum equals the home's (R280). -/
def landCheck (own home : Nat) : Bool := checkSides own home (fun a b => decide (a = b))

/-! ### Contributions (R276, R283) -/

/-- A contribution in FP32 form. -/
def wideEntry (tile : Nat) (codes valid : List Nat) (rescaled wide : Bool) : RedEntry where
  tile := tile
  values := codes.map Int.ofNat
  scaled := false
  rescaled := rescaled
  wide := wide
  checks := sumFp64 valid
  abs := sumAbs64 valid
  contribs := 1
  spilled := false

/-- A narrow contribution. -/
def narrowEntry (tile : Nat) (scale : Int) (qs valid : List Int) : RedEntry :=
  let codes := valid.map (fun (q : Int) => (roundRat .fp32 .rne false ((q : Rat) * pow2 scale)).1)
  { tile := tile, values := qs, scaled := true, rescaled := false, wide := false, checks := sumFp64 codes, abs := sumAbs64 codes
    contribs := 1, spilled := false }

/-- q of one element in the scaled wire form; none where it is not finite or rounds beyond ±32,767. -/
def scaledElement (scale : Int) (r : Nat) (v : Num) : Option Int :=
  match v with
  | .fin neg m =>
    let n := roundUnits .sr neg r (m / pow2 scale)
    if n ≤ 32767 then some (if neg then -(n : Int) else n) else none
  | _ => none

/-- The contribution of a tile from its values: FP32 with SR, or the scaled form of a collective that has an agreed exponent. -/
def State.contribution (s : State) (c : Nat) (d : Collective) (t : Tensor) (tile : Nat) (vals : List (Nat × Num)) : RedEntry :=
  let run := s.coll c
  let codes := vals.map (fun x => (x.1, (s.convertElem t .fp32 .sr 1 tile x.1 x.2).1))
  let full := (List.range (tileElems t.shape)).map (fun e => ((codes.find? (fun x => x.1 == e)).map Prod.snd).getD 0)
  if d.wire = 1 ∧ run.scaleValid = true then
    let qs := vals.map (fun x => (x.1, scaledElement run.scale (s.draw t.id tile x.1) x.2))
    if qs.all (fun x => x.2.isSome) then
      narrowEntry tile run.scale ((List.range (tileElems t.shape)).map (fun e =>
        ((qs.find? (fun x => x.1 == e)).bind Prod.snd).getD 0)) (qs.map (fun x => x.2.getD 0))
    else wideEntry tile full (codes.map Prod.snd) false true
  else wideEntry tile full (codes.map Prod.snd) false false

/-! ### Integrity (R281) -/

/-- A checksum fails: ARITH_INTEGRITY, the first failure's record, a fault event on the die's staging buffer, and DISCARD unless
INTEGRITY_DISCARD is 0. -/
def State.integrityFailure (s : State) (c tile phase position die : Nat) : State :=
  let s1 := (s.post Ev.arithIntegrity [s.role.attempt, c, tile, phase, position]).bump Reg.KNT_INTEGRITY_HOP.FAILURES 1
  let s2 := if s1.flag Reg.KNT_INTEGRITY.VALID then s1
    else ((((s1.set Reg.KNT_INTEGRITY.VALID 1).set Reg.KNT_INTEGRITY.COLLECTIVE c).set Reg.KNT_INTEGRITY.TILE tile).set
      Reg.KNT_INTEGRITY_HOP.PHASE phase).set Reg.KNT_INTEGRITY_HOP.POSITION position
  let s3 := s2.faultEvent (unitCode 4 die) none
  if s3.cfg Reg.KNT_CFG.INTEGRITY_DISCARD = 1 then s3.discardMark else s3

/-! ### The ring (R277 to R279) -/

/-- Bytes of an entry's values as they travel, full tile. -/
def RedEntry.bytes (e : RedEntry) : List Byte :=
  e.values.flatMap (fun v => if e.scaled then leBytes 2 ((v % 65536).toNat) else leBytes 4 v.toNat)

/-- Send a tile to a position as its 4 KiB segments: PTYPE 7 a partial, 8 a result. -/
def State.sendTile (s : State) (d : Collective) (c ptype position : Nat) (e : RedEntry) (ext0 ext1 : Nat) : State :=
  let bs := e.bytes
  (List.range (ceilDiv bs.length 4096)).foldl (fun t i =>
    t.sendPacket (d.node position) { blankPacket ptype 2 with
      attempt := t.attemptTag
      aux := BitVec.ofNat 12 c
      arg := BitVec.ofNat 32 e.tile
      tag := BitVec.ofNat 16 e.contribs
      addr := BitVec.ofNat 52 (i + (if e.scaled then 16 else 0) + (if e.rescaled then 32 else 0))
      ext0 := BitVec.ofNat 64 ext0
      ext1 := BitVec.ofNat 64 ext1
      data := (bs.drop (4096 * i)).take 4096 }) s

/-- The Soundings of a landed tile (R122). -/
def landedPartial (t : Tensor) (tile : Nat) (codes : List Nat) : Partial :=
  ((t.validElems tile).map (fun e => Partial.count (decodeNum .fp32 (codes.getD e 0)) false false)).foldl Partial.add Partial.zero

/-- The larger of two magnitudes, as FP32 codes; values that are not finite do not count (R282). -/
def largerFinite (a c : Nat) : Nat :=
  match decodeNum .fp32 c with
  | .fin _ _ => max a (absCode .fp32 c)
  | _ => a

/-- A result lands: its home takes the FP32 values, its token is posted or waits for its Drift watch verdict (R138), the collective's knot advances, its Soundings are taken,
and it goes to the twin's record (R279, R316). -/
def State.landResult (s : State) (c : Nat) (d : Collective) (t : Tensor) (e : RedEntry) : State :=
  let codes := e.codes (s.coll c).scale
  let s1 := (s.writeHome 0xFFF ⟨t.id, e.tile, 0, codes.flatMap (leBytes 4)⟩).markWritten t.id e.tile 0
  let core := ((s1.owner t.id e.tile).map (fun x => s1.coreOf x.1)).getD 0
  let valid := (t.validElems e.tile).map (fun k => codes.getD k 0)
  let s2 := (s1.takeCredit core .soundings).mapRole (fun r => { r with
    inFlight := r.inFlight.filter (fun x => !(x.1 == t.id && x.2.1 == e.tile)) ++ [(t.id, e.tile, landedPartial t e.tile codes)] })
  let s3 := s2.mapColl c (fun q => { q with
    landedTiles := q.landedTiles ++ [e.tile], largest := valid.foldl largerFinite q.largest })
  let s4 := if t.drift ≠ 0 ∧ s3.fallbackHw ∧ s3.role.stormMark = false then s3.holdTokens t e.tile false else s3.markReady t.id e.tile
  (s4.advance d.knotBase 1).shipLanded t.id e.tile

/-- Add the contribution to the partial, element by element in FP32 by RNE, or as integers while both are narrow and no sum leaves
±32,767 (R277, R283). -/
def addEntries (scale : Int) (inc own : RedEntry) : RedEntry :=
  let checks := add64 inc.checks own.checks
  let abs := add64 inc.abs own.abs
  let ints := (inc.values.zip own.values).map (fun x => x.1 + x.2)
  if inc.scaled && own.scaled && ints.all (fun q => decide (-32767 ≤ q) && decide (q ≤ 32767)) then
    { inc with values := ints, checks := checks, abs := abs, contribs := inc.contribs + 1, spilled := false }
  else
    let sums := ((inc.codes scale).zip (own.codes scale)).map (fun x => add32 x.1 x.2)
    { inc with
      values := sums.map Int.ofNat, scaled := false, rescaled := inc.rescaled || inc.scaled || own.scaled || own.wide
      checks := checks, abs := abs, contribs := inc.contribs + 1, spilled := false }

/-- Whether a position follows another around the ring of `n`. -/
def nextPosition (n q : Nat) : Nat := (q + 1) % max n 1

/-- The home position has the result: it lands it and sends it round. -/
def State.homeResult (s : State) (c : Nat) (d : Collective) (t : Tensor) (e : RedEntry) : State :=
  let n := d.members.length
  let out := sumFp64 ((t.validElems e.tile).map (fun k => (e.codes (s.coll c).scale).getD k 0))
  let s1 := s.landResult c d t e
  if n ≤ 1 then s1 else s1.sendTile d c 8 (nextPosition n d.selfPos) e out 0

/-- The contribution and the partial of a tile meet, or the first position sends its own on (R277, R278, R280). -/
def State.tryAdd (s : State) (c tile : Nat) : State :=
  match s.collective? c with
  | none => s
  | some d =>
    match s.tensor? d.tensor, (s.coll c).contributions.find? (fun e => e.tile == tile) with
    | some t, some own =>
      let n := d.members.length
      let h := tile % max n 1
      let die := s.tileDie t.id tile
      let drop := fun (u : State) => u.mapColl c (fun q => { q with
        contributions := q.contributions.filter (fun e => e.tile != tile), incoming := q.incoming.filter (fun e => e.tile != tile) })
      let slots := fun (es : List RedEntry) => (es.filter (fun e => !e.spilled)).length
      let first := { own with rescaled := own.wide }
      let s0 := if own.wide && (decide (n ≤ 1) || decide (d.selfPos = nextPosition n h)) then s.bump Reg.KNT_RED_TILES.RESCALED 1 else s
      if n ≤ 1 then ((drop s0).moveSlots die 0 (slots [own])).homeResult c d t { first with contribs := 1 }
      else if d.selfPos = nextPosition n h then
        ((drop s0).moveSlots die 0 (slots [own])).sendTile d c 7 (nextPosition n d.selfPos) first first.checks first.abs
      else match (s.coll c).incoming.find? (fun e => e.tile == tile) with
        | none => s
        | some inc =>
          let sum := addEntries (s.coll c).scale inc own
          let s1 := ((drop s).moveSlots die 0 (slots [own, inc])).bump Reg.KNT_RED_TILES.REDUCED 1
          let s2 := if sum.rescaled && !inc.rescaled then s1.bump Reg.KNT_RED_TILES.RESCALED 1 else s1
          let valid := (t.validElems tile).map (fun k => (sum.codes (s.coll c).scale).getD k 0)
          let ok := hopCheck sum.checks sum.abs (sumFp64 valid) sum.contribs valid.length
          let s3 := if ok then s2 else s2.integrityFailure c tile 0 d.selfPos die
          if d.selfPos = h then s3.homeResult c d t sum
          else s3.sendTile d c 7 (nextPosition n d.selfPos) sum sum.checks sum.abs
    | _, _ => s

/-! ### The contribution leg (R276) -/

/-- The finished tile that a contribution leg takes, and the core whose grant it uses: the accumulator's value, or the FP32 value
that the V engine wrote. -/
def State.finished (s : State) (p : Passage) (i : Nat) (t : Tensor) (tile : Nat) : Option (List (Nat × Num) × Nat × Option AccTile) :=
  match s.finalEntry p t.id tile with
  | some a => some (t.values tile (a.value.getD []), a.core, some a)
  | none =>
    let made := p.legs.zipIdx.any (fun x => (decide (x.1.kind = 3) || decide (x.1.kind = 4)) && p.writesTile x.1 t.id tile
      && (match s.legAt x.2 with
        | some (_, r) => r.committed.contains tile
        | none => false))
    if made then some ((t.validElems tile).map (fun e =>
      (e, decodeNum .fp32 (packedCode .fp32 (fun k => s.tileByte i t.id tile k) e))), s.coreOf i, none)
    else none

/-- A tile of a collective that is sampled leaves the accumulator only once it has been judged. -/
def State.sightHolds (s : State) (a : Option AccTile) (tensor tile : Nat) : Bool :=
  a.isSome && s.sightActive && s.sampled tensor tile && s.fallbackHw && !s.role.stormMark && !s.role.sightJudged.contains (tensor, tile)

/-- Count a tile of a contribution leg: a further one, or one that runs once more. -/
def LegRun.contributed (r : LegRun) (tile : Nat) : LegRun :=
  if r.redo.contains tile then { r with redo := r.redo.erase tile }
  else { r with started := r.started + 1, committed := tile :: r.committed }

/-- A contribution leg can take a tile: it is finished and judged, the leg holds the tokens of its streams for it, and its core has
been granted a slot. -/
def State.contributes (s : State) (p : Passage) (i : Nat) (l : Leg) (r : LegRun) (t : Tensor) (tile : Nat) : Bool :=
  match s.finished p i t tile with
  | none => false
  | some (_, core, a) =>
    l.kind == 10 && s.legActive i && s.waitMet l && l.hasTile tile && (!r.committed.contains tile || r.redo.contains tile)
      && !s.sightHolds a t.id tile && decide (0 < sparseGet 0 core s.role.grants)
      && (r.redo.contains tile || s.tokensFor l r (fun _ => true) tile (decide ((l.rest r).length ≤ 1)))

/-- The tile that a reduction stage takes next: of the tiles it can take, the one of lowest work index (Table 1-3). -/
def State.contributionNext (s : State) (p : Passage) (core : Nat) : Option (Nat × Nat) :=
  (s.unitLegs core .stage).findSome? (fun x =>
    ((s.collective? x.2.1.op).bind (fun d => s.tensor? d.tensor)).bind (fun t =>
      (((List.range x.2.1.tileCount).map (x.2.1.firstTile + ·)).find? (fun k => s.contributes p x.1 x.2.1 x.2.2 t k)).map
        (fun k => (x.1, k))))

/-- A contribution leg takes one finished tile into the staging buffer, under a grant. -/
def State.contribute (s : State) (i tile : Nat) : State :=
  match s.legAt i, s.role.passage with
  | some (l, r), some p =>
    match s.collective? l.op with
    | none => s
    | some d =>
      match s.tensor? d.tensor with
      | none => s
      | some t =>
        match s.finished p i t tile with
        | none => s
        | some (vals, core, a) =>
          if s.working && l.kind == 10 && d.kind == 1 && s.contributionNext p (r.core.getD 0) == some (i, tile) then
            let e := s.contribution l.op d t tile vals
            let s0 := if r.redo.contains tile then s
              else (s.consumeFor i l (fun _ => true) tile (decide ((l.rest r).length ≤ 1))).returnFor i l (fun _ => true)
                ((l.rest r).filter (· ≠ tile))
            let s1 := match a with
              | some x => s0.dropAcc x
              | none => s0
            let s2 := s1.mapRole (fun q => { q with grants := sparsePut 0 core (sparseGet 0 core q.grants - 1) q.grants })
            let s3 := (s2.moveSlots (s.dieOf core) 0 1).moveSlots (s.tileDie t.id tile) 1 0
            let s4 := (s3.mapLeg i (fun q => q.contributed tile)).mapColl l.op (fun q => { q with
              contributions := q.contributions.filter (fun x => x.tile != tile) ++ [e] })
            s4.tryAdd l.op tile
          else if s.working && l.kind == 10 && l.hasTile tile then
            s.readThrough i (fun _ => true) tile (decide ((l.rest r).length ≤ 1))
          else s
  | _, _ => s

/-! ### Grants (R113) -/

/-- Finished tiles of a core that wait to leave for the staging buffer, beyond those that have been granted a slot. -/
def State.waitingDrain (s : State) (core : Nat) : Nat :=
  match s.role.passage with
  | none => 0
  | some p =>
    let tiles := s.role.legs.flatMap (fun x => match s.legAt x.1 with
      | some (l, r) =>
        match (if l.kind = 10 then s.collective? l.op else none).bind (fun d => s.tensor? d.tensor) with
        | some t => (((List.range l.tileCount).map (l.firstTile + ·)).filter (fun k => (!r.committed.contains k || r.redo.contains k)
            && ((s.finished p x.1 t k).map (fun f => f.2.1)) == some core)).map (fun k => (x.1, k))
        | none => []
      | none => [])
    tiles.length - sparseGet 0 core s.role.grants

/-- The next core of a die that the staging buffer grants a slot, in rotating order after the last it granted. -/
def State.nextGrant (s : State) (die : Nat) : Option Nat :=
  let cores := (s.dieCores die).filter (fun n => decide (0 < s.waitingDrain n))
  let last := sparseGet 0 die s.role.grantLast
  (cores.find? (fun n => decide (last < n + 1))).orElse (fun _ => cores.head?)

/-- A grant of the staging buffer: the core whose turn it is may drain finished weight-gradient tiles, as many as the message says,
as it has waiting and as slots are free; the granted slots are taken. -/
def State.stagingGrant (s : State) (u : UnitAddr) (m : W64) : State :=
  let core := u.core.val
  let die := s.dieOf core
  if s.nextGrant die ≠ some core then s
  else
    let free := s.pool (256 + die) .staging - s.get (Reg.NUM_STG_LEVEL.CURRENT die)
    if free = 0 then s.bump (Reg.NUM_STG_FULL.COUNT die) 1
    else
      let n := min (min (msgCount m) free) (s.waitingDrain core)
      (s.mapRole (fun r => { r with
        grants := sparsePut 0 core (sparseGet 0 core r.grants + n) r.grants
        grantLast := sparsePut 0 die (core + 1) r.grantLast })).moveSlots die n 0

/-! ### Partials and results that arrive -/

/-- Scaled and rescaled marks, and the segment number, of a reduction packet. -/
def redForm (p : Packet) : Bool × Bool × Nat :=
  (p.addr.getLsbD 4, p.addr.getLsbD 5, p.addr.toNat % 16)

/-- Segments of a tile in a form. -/
def redSegments (t : Tensor) (scaled : Bool) : Nat := ceilDiv (tileElems t.shape * (if scaled then 2 else 4)) 4096

/-- A segment is kept; once every segment of the tile has come, the tile is whole. -/
def State.takeSegment (s : State) (t : Tensor) (p : Packet) (result : Bool) : Option RedEntry × State :=
  let c := p.aux.toNat
  let tile := p.arg.toNat
  let f := redForm p
  let s1 := s.mapColl c (fun q => { q with
    segments := q.segments.filter (fun x => !(x.1 == tile && x.2.1 == result && x.2.2.1 == f.2.2)) ++ [(tile, result, f.2.2, p)] })
  let mine := ((s1.coll c).segments.filter (fun x => x.1 == tile && x.2.1 == result)).ordered (fun a b => a.2.2.1 ≤ b.2.2.1)
  if mine.length < redSegments t f.1 then (none, s1)
  else
    let bs := mine.flatMap (fun x => x.2.2.2.data)
    let w := if f.1 then 2 else 4
    let values := (List.range (tileElems t.shape)).map (fun e =>
      let v := fieldAt bs (w * e) w
      if f.1 then signedCode 16 v else (v : Int))
    (some { tile := tile, values := values, scaled := f.1, rescaled := f.2.1, wide := false, checks := p.ext0.toNat
            abs := p.ext1.toNat, contribs := p.tag.toNat, spilled := false },
     s1.mapColl c (fun q => { q with segments := q.segments.filter (fun x => !(x.1 == tile && x.2.1 == result)) }))

/-- The collective, its tensor and its ring, where a reduction packet comes from the position before this one and names a tile of
the collective. -/
def State.redSource (s : State) (p : Packet) : Option (Collective × Tensor) :=
  match s.collective? p.aux.toNat with
  | none => none
  | some d =>
    let tile := p.arg.toNat
    match s.tensor? d.tensor, d.positionOf p.src.toNat with
    | some t, some q =>
      if d.kind = 1 ∧ nextPosition d.members.length q = d.selfPos ∧ d.firstTile ≤ tile ∧ tile < d.firstTile + d.tileCount then
        some (d, t)
      else none
    | _, _ => none

/-- A partial arrives: it waits in a slot for the contribution, or is added to it. -/
def State.takePartial (s : State) (p : Packet) : State :=
  match s.redSource p with
  | none => s
  | some (d, t) =>
    let x := s.takeSegment t p false
    match x.1 with
    | none => x.2
    | some e =>
      if d.selfPos = nextPosition d.members.length (e.tile % max d.members.length 1) then x.2
      else ((x.2.mapColl p.aux.toNat (fun q => { q with
        incoming := q.incoming.filter (fun y => y.tile != e.tile) ++ [e] })).moveSlots (s.tileDie t.id e.tile) 1 0).tryAdd p.aux.toNat e.tile

/-- A result arrives: it is checked, lands, and goes on to the next position until the one before the home has it. -/
def State.takeResult (s : State) (p : Packet) : State :=
  match s.redSource p with
  | none => s
  | some (d, t) =>
    let x := s.takeSegment t p true
    match x.1 with
    | none => x.2
    | some e =>
      let c := p.aux.toNat
      let n := d.members.length
      let h := e.tile % max n 1
      if d.selfPos = h || (x.2.coll c).landedTiles.contains e.tile then x.2
      else
        let codes := e.codes (x.2.coll c).scale
        let own := sumFp64 ((t.validElems e.tile).map (fun k => codes.getD k 0))
        let s1 := if landCheck own e.checks then x.2
          else x.2.integrityFailure c e.tile 1 d.selfPos (x.2.tileDie t.id e.tile)
        let s2 := s1.landResult c d t e
        if nextPosition n d.selfPos = h then s2 else s2.sendTile d c 8 (nextPosition n d.selfPos) e e.checks 0

/-! ### Spills (R278) -/

/-- The waiting entry of a tile is written to the tile's home, and its slot is free. -/
def State.spill (s : State) (c tile : Nat) : State :=
  match s.collective? c with
  | none => s
  | some d =>
    let run := s.coll c
    let die := s.tileDie d.tensor tile
    let mark := fun (es : List RedEntry) => es.map (fun e => if e.tile = tile then { e with spilled := true } else e)
    match run.contributions.find? (fun e => e.tile == tile && !e.spilled), run.incoming.find? (fun e => e.tile == tile && !e.spilled) with
    | some e, none =>
      (((s.writeHome 0xFFF ⟨d.tensor, tile, 0, e.bytes⟩).mapColl c (fun q => { q with contributions := mark q.contributions })).moveSlots
        die 0 1).bump Reg.KNT_SPILL.CONTRIBUTIONS 1
    | none, some e =>
      (((s.writeHome 0xFFF ⟨d.tensor, tile, 0, e.bytes⟩).mapColl c (fun q => { q with incoming := mark q.incoming })).moveSlots
        die 0 1).bump Reg.KNT_SPILL.PARTIALS 1
    | _, _ => s

/-! ### Sight check (R140 to R143) -/

/-- An operand without its coarse scale, an outlier with its full value (R142). -/
def Elem.reference (e : Elem) : Num :=
  match e.outlier with
  | some (.fin n m) => if e.coarse = 0 then .fin n m else .ofRat ((Num.fin n m).toRat / e.coarse)
  | some x => x
  | none => elementValue e.fmt e.code e.scale e.zero 1

/-- ref and abs of one element of a product: FP32 codes. -/
def State.reference (s : State) (p : Passage) (l : Leg) (wide : Bool) (m n : Nat) : Nat × Nat × Nat × Rat :=
  match s.tensor? l.a, s.tensor? l.b with
  | some a, some b =>
    let terms := (p.chunkLegs l).flatMap (fun x => (List.range x.2.kLen).map (fun j =>
      let k := x.2.kStart + j
      (convertNum .fp32 .rne .ieee 0 1 (productNum (s.operandA x.1 x.2 a wide m k).reference
        (s.operandB x.1 x.2 b wide k n).reference).1).1))
    let sum := fun (cs : List Nat) => match cs with
      | [] => 0
      | c :: rest => rest.foldl add32 c
    (sum terms, sum (terms.map (absCode .fp32)), terms.length, a.s * b.s)
  | _, _ => (0, 0, 0, 0)

/-- An element passes against the references of its contributions. -/
def sightPasses (slack : Nat) (e : Num) (refs : List (Nat × Nat × Nat × Rat)) : Bool :=
  let ref := refs.map (fun r => decodeNum .fp32 r.1)
  match e with
  | .fin n m =>
    if ref.all Num.isFinite then
      let x := (refs.map (fun r => (decodeNum .fp32 r.1).toRat * r.2.2.2)).foldl (· + ·) 0
      let bound := (refs.map (fun r =>
        ((((2 * r.2.2.1 + slack : Nat) : Rat) * pow2 (-23) * (decodeNum .fp32 r.2.1).toRat)
          + ((2 * r.2.2.1 : Nat) : Rat) * pow2 (-149)) * r.2.2.2)).foldl (· + ·) 0
      let d := (Num.fin n m).toRat - x
      decide ((if d < 0 then -d else d) ≤ bound)
    else false
  | .inf n => ref.any (fun r => r == .inf n) && !ref.any (fun r => r == .inf (!n)) && !ref.any Num.isNan
  | _ => ref.any Num.isNan || (ref.any (fun r => r == .inf true) && ref.any (fun r => r == .inf false))

/-- The stored code of a committed tile's element equals the conversion. -/
def State.storedEqual (s : State) (t : Tensor) (tile rung e code : Nat) : Bool :=
  if s.uncommitted t.id tile then true
  else match s.home t.id tile with
    | some h => if h.2.1.tier ≤ 1 then
        decide (packedCode ((fmtOf (t.formatAt rung)).getD .fp32) (fun k => s.readByte (h.2.2 + k)) e = code) else true
    | none => true

/-- The first element of a sampled tile that fails, if any. -/
def State.sightFailure (s : State) (p : Passage) (t : Tensor) (tile : Nat) (a : AccTile) : Option Nat :=
  let wide := a.repeated && decide (s.startRung t < a.rung)
  let legs := p.contributions t.id tile
  let slack := s.cfg Reg.SND_SIGHT_CFG.SLACK
  let conv := s.convertTile t (if a.repeated then a.rung else s.startRung t) tile t.rnd true (t.values tile (a.value.getD []))
  (t.validElems tile).find? (fun e =>
    let v := decodeNum .ex40 ((a.value.getD []).getD e 0)
    let refs := match t.unplace tile e with
      | some (m, n) => legs.map (fun x => s.reference p x.2 wide m n)
      | none => []
    let stored := p.reducedTile t.id tile || (conv.codes.filter (fun x => x.1 == e)).all (fun x =>
      s.storedEqual t tile conv.rung e x.2)
    !(sightPasses slack v refs && stored))

/-- The Navigator places a tile on another core: its pages on the first are free. -/
def State.placeElsewhere (s : State) (a : AccTile) : State :=
  (s.setAcc a { a with core := s.otherCore a.core, region := foldRegion }).freePages a

/-- A miss (R143, R155): SIGHT_MISS and its count, a repeat at the next rung on another core in hardware mode, and a fault event
on the missing core. -/
def State.sightMiss (s : State) (t : Tensor) (tile elem : Nat) (a : AccTile) : State :=
  let s1 := ((s.bump Reg.SND_SIGHT_COUNT.MISSES 1).post Ev.sightMiss [t.id, a.core, tile, elem]).mapSnd t (fun o =>
    { o with sightMiss := true })
  let climb := decide (s1.storedRung t.id tile < t.top)
  let s2 :=
    if !s1.fallbackHw then
      ((if climb then s1 else s1.bump Reg.SND_FALLBACK_COUNT.LADDER_TOP 1).fallbackRequest t.id).dropAcc a
    else
      let s3 := if climb then s1 else s1.ladderTop t.id
      if s3.role.stormMark then s3.dropAcc a
      else (s3.placeElsewhere a).askRepeats t [tile] true (if climb then 1 else 0)
  let s4 := (s2.mapRole (fun r => { r with sightJudged := (t.id, tile) :: r.sightJudged })).refreshRecord t.id
  match s.physicalCore a.core with
  | some p => s4.faultEvent (unitCode 1 p) none
  | none => s4

/-- The V engine judges a sampled tile that has been converted, or that waits for its contribution leg: once for each run of it,
also while a Drift watch repeat of it is asked for, which a miss then places elsewhere (R157). -/
def State.sightCheck (s : State) (tensor tile : Nat) : State :=
  match s.role.passage, s.tensor? tensor with
  | some p, some t =>
    match s.finalEntry p tensor tile with
    | none => s
    | some a =>
      let made := p.reducedTile tensor tile || s.uncommitted tensor tile || s.role.ready.contains (tensor, tile)
        || s.role.heldTokens.any (fun h => h.tensor == tensor && h.tile == tile)
        || (match s.owner tensor tile with
          | some (i, _) => (match s.legAt i with
            | some (_, r) => r.committed.contains tile
            | none => false)
          | none => false)
      if s.working && s.sightActive && s.sampled tensor tile && made && !s.role.sightJudged.contains (tensor, tile) then
        let s1 := s.bump Reg.SND_SIGHT_COUNT.SAMPLED 1
        match s1.sightFailure p t tile a with
        | some e => s1.sightMiss t tile e a
        | none =>
          let s2 := s1.mapRole (fun r => { r with sightJudged := (tensor, tile) :: r.sightJudged })
          (if p.reducedTile tensor tile then s2 else s2.dropAcc a).closeVerdict tensor tile false true
      else s
  | _, _ => s

/-! ### Meanings -/

/-- SIGHT_CHECK (R142, R143). -/
def execSightCheck (r : RoleSel) (tensor : W16) (tile : W32) (s : State) : Host.Outcome State Fault Refusal :=
  .next (s.asRole r (fun t => t.sightCheck tensor.toNat tile.toNat))

/-- STAGING_GRANT (R113, R250). -/
def execStagingGrant (r : RoleSel) (unit : UnitAddr) (msg : W64) (s : State) : Host.Outcome State Fault Refusal :=
  .next (s.asRole r (fun t =>
    if t.working && msgType msg == 2 && msgUnit msg && msgSlot msg == 3 then t.stagingGrant unit msg else t))

/-- CONTRIBUTION_LEG (R276). -/
def execContributionLeg (r : RoleSel) (leg : BitVec 20) (tile : W32) (s : State) : Host.Outcome State Fault Refusal :=
  .next (s.asRole r (fun t => t.contribute leg.toNat tile.toNat))

/-- RED_PARTIAL (R278, R265). -/
def execRedPartial (p : Packet) (s : State) : Host.Outcome State Fault Refusal :=
  .next (s.takeCollective p 7 (fun t => t.takePartial p))

/-- REDUCTION_SPILL (R278). -/
def execReductionSpill (r : RoleSel) (collective : BitVec 12) (tile : W32) (s : State) : Host.Outcome State Fault Refusal :=
  .next (s.asRole r (fun t => t.spill collective.toNat tile.toNat))

/-- RED_RESULT (R279, R265). -/
def execRedResult (p : Packet) (s : State) : Host.Outcome State Fault Refusal :=
  .next (s.takeCollective p 8 (fun t => t.takeResult p))

end Sys2Proof.Machine
end

