-- ==== Sys2Proof/Machine/Sighting.lean ====
section
/-! DEFINITION. Sighting, node IDs, route tables and device time across the fabric (spec/09_fabric_and_twin.md R301 to R312). -/

namespace Sys2Proof.Machine

/-! ### The sighting database (R301, R302) -/

/-- Records of the modules that have not departed. -/
def State.liveRecords (s : State) : List SightRecord := (s.fab.database.filter (fun e => !e.departed)).map DbEntry.record

/-- A hello: one with this module's own UID is a loopback and keeps the port DOWN; any other brings it UP (R301). -/
def State.takeHello (s : State) (p : Nat) (uid : W64) : State :=
  let q := s.port p
  if q.state ≠ 4 ∨ uid = 0 then s
  else if uid = s.part.uid then
    ((s.setPort p { q with loopback := true, aligned := false, unacked := [] }).setPortState p 1).clearPort p
  else
    let s1 := (s.wr (Reg.FAB_PORT_PEER.UID p).reg uid).setPortState p 5
    (s1.setPortBit Reg.FAB_STATUS.PORTS_UP p true).recordChanged

/-- A SEQ is later, by serial arithmetic modulo 2^32. -/
def laterSeq (a b : W32) : Bool := a != b && decide ((a - b).toNat < 2 ^ 31)

/-- A record: an unknown one or a later one is stored and flooded, the same one refreshes its module (R302). -/
def State.takeRecord (s : State) (p : Nat) (r : SightRecord) : State :=
  if (s.port p).state ≠ 5 ∨ r.uid = s.part.uid ∨ r.uid = 0 then s
  else match s.fab.database.find? (fun e => e.record.uid == r.uid) with
    | none => ((s.storeRecord r).flooding).floodRecord r (some p)
    | some e =>
      if laterSeq r.seq e.record.seq then ((s.storeRecord r).flooding).floodRecord r (some p)
      else if r.seq = e.record.seq ∧ e.departed = true then (s.storeRecord r).flooding
      else s

/-- Every 1 s the record goes out on every up port; the module's own record stands in its database. -/
def State.sendRecord (s : State) : State :=
  if s.fab.database.any (fun e => e.record.uid == s.part.uid) then s.floodRecord s.ownRecord none else s.recordChanged

/-! ### The graph of the fabric (R306, R311) -/

/-- The node ID that the last quiet sighting gave a UID. -/
def State.idOf (s : State) (uid : W64) : Option Nat := (s.fab.reserved.find? (fun x => x.1 == uid)).map Prod.snd

/-- Live modules that hold a node ID, in ascending order of it: only they carry packets (R303). -/
def State.members (s : State) : List (Nat × SightRecord) :=
  (s.liveRecords.filterMap (fun r => (s.idOf r.uid).map (fun n => (n, r)))).ordered (fun a b => a.1 ≤ b.1)

/-- Distances in hops, level by level from a frontier: each level takes the modules that name one of the level before. -/
def levels (ms : List SightRecord) : Nat → Nat → List W64 → List (W64 × Nat) → List (W64 × Nat)
  | 0, _, _, seen => seen
  | fuel + 1, d, frontier, seen =>
    let next := (ms.filter (fun r => !seen.any (fun x => x.1 == r.uid) && frontier.any r.peers.contains)).map SightRecord.uid
    if next.isEmpty then seen else levels ms fuel (d + 1) next (seen ++ next.map (fun u => (u, d + 1)))

/-- Distances of every module from one. -/
def distances (ms : List SightRecord) (uid : W64) : List (W64 × Nat) := levels ms ms.length 0 [uid] [(uid, 0)]

/-- The distance of a module in such a list. -/
def hopsTo (ds : List (W64 × Nat)) (uid : W64) : Option Nat := (ds.find? (fun x => x.1 == uid)).map Prod.snd

/-- Up ports with the UID of their neighbour. -/
def State.upPeers (s : State) : List (Nat × W64) := s.portsUp.map (fun p => (p, s.rd (Reg.FAB_PORT_PEER.UID p).reg))

/-- The lowest up port to a neighbour. -/
def State.portTo (s : State) (uid : W64) : Option Nat := (s.upPeers.find? (fun x => x.2 == uid)).map Prod.fst

/-! ### Node IDs (R303, R304) -/

/-- The lowest UID of some. -/
def lowestUid : List W64 → Option W64
  | [] => none
  | u :: us => match lowestUid us with
    | none => some u
    | some v => some (if u.toNat ≤ v.toNat then u else v)

/-- The lowest ID from `n` on that is not taken. -/
def lowestFree (taken : List Nat) : Nat → Nat → Option Nat
  | 0, _ => none
  | fuel + 1, n => if taken.contains n then lowestFree taken fuel (n + 1) else if n < 16384 then some n else none

/-- A handover claim that the holder of the alias accepts, since it names the claimant as its twin (Table 9-10 step 3). -/
def acceptedClaim (rs : List SightRecord) (r : SightRecord) : Bool :=
  r.handover && rs.any (fun h => h.aka.isSome && h.aka == r.nodeId && h.twinUid == r.uid)

/-- The IDs that pins claim: the lower UID takes a contested one (step 1). -/
def pinnedIds (rs : List SightRecord) : List (W64 × Nat) :=
  let pins := rs.filter (fun r => r.pinned && r.nodeId.isSome)
  pins.filterMap (fun r =>
    if lowestUid ((pins.filter (fun x => x.nodeId == r.nodeId)).map SightRecord.uid) = some r.uid then
      r.nodeId.map (fun n => (r.uid, n.toNat)) else none)

/-- What a module that is not pinned holds: its ID, or the one reserved for its UID. -/
def State.heldId (s : State) (r : SightRecord) : Option Nat := (r.nodeId.map BitVec.toNat).orElse (fun _ => s.idOf r.uid)

/-- The IDs that modules keep, aliases and handover claims among the claims to them (step 2). -/
def State.keptIds (s : State) (rs : List SightRecord) (taken : List Nat) : List (W64 × Nat) :=
  let holders := rs.filter (fun r => !r.pinned)
  let claims : List (W64 × Nat) := holders.filterMap (fun r => (s.heldId r).map (fun n => (r.uid, n)))
  let akas : List (W64 × Nat) := rs.filterMap (fun r => r.aka.map (fun n => (r.uid, n.toNat)))
  claims.filter (fun (x : W64 × Nat) => !taken.contains x.2 && match rs.find? (fun r => r.uid == x.1) with
    | none => false
    | some r =>
      acceptedClaim rs r || (!rs.any (fun o => acceptedClaim rs o && (o.nodeId.map BitVec.toNat) == some x.2)
        && lowestUid (((claims ++ akas).filter (fun y => y.2 == x.2)).map Prod.fst) == some x.1))

/-- The remaining modules take the lowest free IDs in ascending order of UID (steps 3 and 4). -/
def fillIds : List W64 → List Nat → List (W64 × Nat)
  | [], _ => []
  | u :: us, taken => match lowestFree taken (taken.length + 1) 0 with
    | some n => (u, n) :: fillIds us (n :: taken)
    | none => fillIds us taken

/-- The assignment of node IDs at a quiet sighting; IDs of departed modules and aliases are not free. -/
def State.assignIds (s : State) : List (W64 × Nat) :=
  let rs := s.liveRecords
  let pins := pinnedIds rs
  let kept := s.keptIds rs (pins.map Prod.snd)
  let away := s.fab.reserved.filter (fun x => !rs.any (fun r => r.uid == x.1))
  let taken := (pins ++ kept ++ away).map Prod.snd ++ rs.filterMap (fun r => r.aka.map BitVec.toNat)
  let rest := (rs.filter (fun r => !r.pinned && !kept.any (fun x => x.1 == r.uid))).map SightRecord.uid
  pins ++ kept ++ fillIds (rest.ordered (fun a b => a.toNat ≤ b.toNat)) taken

/-- The module takes the ID assigned to it, or is left without one. -/
def State.takeId (s : State) (id : Option Nat) : State :=
  match id with
  | some n =>
    if s.flag Reg.FAB_NODE.VALID = true ∧ s.get Reg.FAB_NODE.NODE_ID = n then s
    else ((s.set Reg.FAB_NODE.NODE_ID n).set Reg.FAB_NODE.VALID 1).recordChanged
  | none =>
    let s1 := if s.fab.reserved.length < 16384 then s else s.post Ev.fabricFull [s.get Reg.FAB_NODE.NODE_ID]
    let s2 := s1.post Ev.nodeIdConflict [s1.get (if s1.flag Reg.FAB_NODE.PIN_EN then Reg.FAB_NODE.PIN_ID else Reg.FAB_NODE.NODE_ID)]
    if s2.flag Reg.FAB_NODE.VALID then ((s2.set Reg.FAB_NODE.NODE_ID 0).set Reg.FAB_NODE.VALID 0).recordChanged else s2

/-! ### The time root (R311) -/

/-- A free choice among some modules: whose DTIME is the greatest no record says (log 2). -/
def State.greatestTime (s : State) (us : List W64) : Option W64 × State :=
  match us with
  | [] => (none, s)
  | [u] => (some u, s)
  | _ => (us[s.freeWord.1.toNat % us.length]?, s.freeWord.2)

/-- The root of time: at the first quiet sighting the greatest DTIME; among fabrics that join the greater; the lowest node ID
when the root has departed. `before` holds the UIDs known at the last quiet sighting. -/
def State.chooseRoot (s : State) (before : List W64) : State :=
  let ms := s.members
  let picked : Option W64 × State := match s.fab.timeRoot with
    | none => s.greatestTime (ms.map (fun x => x.2.uid))
    | some u =>
      if ms.any (fun x => x.2.uid == u) then
        s.greatestTime (u :: ((ms.filter (fun x => !before.contains x.2.uid && x.2.nodeId.isSome)).map (fun x => x.2.uid)))
      else (ms.head?.map (fun x => x.2.uid), s)
  { picked.2 with fab := { picked.2.fab with timeRoot := picked.1 } }

/-- FAB_TIME and the time parent: of the neighbours one hop nearer the root the one of lowest node ID. -/
def State.showRoot (s : State) : State :=
  match s.fab.timeRoot with
  | none => s
  | some u =>
    let ms := s.members
    let ds := distances (ms.map Prod.snd) u
    let depth := (hopsTo ds s.part.uid).getD 0
    let nearer := ms.filter (fun x => decide ((hopsTo ds x.2.uid).map (· + 1) = some depth) && (s.portTo x.2.uid).isSome)
    let s1 := ((s.setFlag Reg.FAB_TIME.ROOT (u == s.part.uid)).set Reg.FAB_TIME.DEPTH (min 255 depth)).set Reg.FAB_TIME.ROOT_NODE
      ((s.idOf u).getD 0)
    { s1 with fab := { s1.fab with
      timeParent := if u = s.part.uid then none else nearer.head?.bind (fun x => s.portTo x.2.uid) } }

/-! ### Sighting turns quiet (R303) -/

/-- Every UID that a record names has a record. -/
def State.peersKnown (s : State) : Bool :=
  s.liveRecords.all (fun r => r.peers.all (fun u => u == 0 || s.fab.database.any (fun e => e.record.uid == u)))

/-- Routing as it is to be: a switch that waits counts as made. -/
def State.hostRouting (s : State) : Bool :=
  s.flag Reg.CAP_DUTY_MODE.ROUTING != decide (s.get Reg.CAP_DUTY_MODE.PENDING / 2 % 2 = 1)

/-- No record has changed for 2 ms: SIGHTING_DONE, node IDs, the time root, and in host-assisted routing ROUTE_REQUEST. -/
def State.quiet (s : State) : State :=
  let s0 := if s.fab.database.any (fun e => e.record.uid == s.part.uid) then s else s.storeRecord s.ownRecord
  if s0.fab.quiet || s0.fab.rebuilding || s0.dev == .off || !s0.peersKnown then s
  else
    let ids := s0.assignIds
    let before := s0.fab.reserved.map Prod.fst
    let s1 : State := { s0 with fab := { s0.fab with
      quiet := true, everQuiet := true
      reserved := ids ++ s0.fab.reserved.filter (fun x => !s0.liveRecords.any (fun r => r.uid == x.1)) } }
    let s2 := ((s1.set Reg.FAB_STATUS.SIGHTING 2).post Ev.sightingDone []).takeId ((ids.find? (fun x => x.1 == s.part.uid)).map Prod.snd)
    let s3 := s2.mapTwin (fun t => { t with partnerNode := if t.paired then (s2.idOf t.partnerUid).orElse (fun _ => t.partnerNode)
      else t.partnerNode })
    let s4 := (s3.chooseRoot before).showRoot
    if s4.hostRouting then s4.post Ev.routeRequest [] else s4

/-- A record has not been refreshed for 5 s: its module has departed. The lowest node ID becomes root where the root has. -/
def State.departs (s : State) (uid : W64) : State :=
  if uid = s.part.uid ∨ s.fab.database.any (fun e => e.record.uid == uid && !e.departed) = false then s
  else
    let s1 : State := { s with fab := { s.fab with
      database := s.fab.database.map (fun e => if e.record.uid == uid then { e with departed := true } else e) } }
    let s2 := s1.flooding
    if s2.fab.timeRoot = some uid then (s2.chooseRoot (s2.fab.reserved.map Prod.fst)).showRoot else s2

/-! ### Route tables (R305, R306, R309) -/

/-- Registers of a route table: the active one, or the shadow. -/
def State.tableRegs (s : State) (shadow : Bool) : List (Nat × W64) :=
  let base := if shadow then 0x1840000 else 0x1810000
  s.regs.filter (fun x => decide (base ≤ x.1 ∧ x.1 < base + 8 * 16384))

/-- Empty some registers. -/
def State.clearRegs (s : State) (rs : List (Nat × W64)) : State := rs.foldl (fun t x => t.wr x.1 0) s

/-- The two tables change places, GENERATION rises, and a routing switch that waited for tables is made. -/
def State.swapTables (s : State) : State :=
  let active := s.tableRegs false
  let shadow := s.tableRegs true
  let s1 := (s.clearRegs active).clearRegs shadow
  let s2 := active.foldl (fun t x => t.wr (x.1 + 0x30000) x.2) s1
  let s3 := shadow.foldl (fun t x => t.wr (x.1 - 0x30000) x.2) s2
  let s4 := (s3.set Reg.FAB_ROUTE_CTL.GENERATION ((s3.get Reg.FAB_ROUTE_CTL.GENERATION + 1) % 2 ^ 32)).set Reg.FAB_STATUS.ROUTES_VALID 1
  let pend := s4.get Reg.CAP_DUTY_MODE.PENDING
  if pend / 2 % 2 = 1 then
    (s4.setFlag Reg.CAP_DUTY_MODE.ROUTING (!s4.flag Reg.CAP_DUTY_MODE.ROUTING)).set Reg.CAP_DUTY_MODE.PENDING (pend - 2)
  else s4

/-- A route entry (Table 9-6). -/
def routeEntry (self : Bool) (esc : Option Nat) (dist ports : Nat) : W64 :=
  BitVec.ofNat 64 (2 ^ 63 + (if self then 2 ^ 62 else 0) + (match esc with
    | some p => 2 ^ 52 + p * 2 ^ 48
    | none => 0) + dist * 2 ^ 16 + ports)

/-- The parent of a module in the escape tree: its nearer neighbour of lowest node ID. -/
def treeParent (ms : List (Nat × SightRecord)) (ds : List (W64 × Nat)) (r : SightRecord) : Option W64 :=
  ((ms.find? (fun x => r.peers.contains x.2.uid && decide ((hopsTo ds x.2.uid).map (· + 1) = hopsTo ds r.uid))).map (fun x => x.2.uid))

/-- The way from a module up the escape tree, the module first. -/
def treeWay (ms : List (Nat × SightRecord)) (ds : List (W64 × Nat)) : Nat → W64 → List W64
  | 0, u => [u]
  | fuel + 1, u => match (ms.find? (fun x => x.2.uid == u)).bind (fun x => treeParent ms ds x.2) with
    | some v => u :: treeWay ms ds fuel v
    | none => [u]

/-- The escape port toward a module: to the child whose subtree holds it, else to the parent. -/
def State.treePort (s : State) (ms : List (Nat × SightRecord)) (ds : List (W64 × Nat)) (uid : W64) : Option Nat :=
  let way := treeWay ms ds ms.length uid
  let here := way.findIdx (· == s.part.uid)
  let next := if here < way.length then way[here - 1]? else (treeWay ms ds ms.length s.part.uid)[1]?
  next.bind s.portTo

/-- The entry of a module in this module's table; none where it cannot be reached. -/
def State.routeTo (s : State) (ms : List (Nat × SightRecord)) (tree : List (W64 × Nat)) (uid : W64) : Option W64 :=
  if uid = s.part.uid then some (routeEntry true none 0 0)
  else
    let ds := distances (ms.map Prod.snd) uid
    (hopsTo ds s.part.uid).map (fun d =>
      let ports := s.upPeers.filter (fun x => decide ((hopsTo ds x.2).map (· + 1) = some d))
      routeEntry false (s.treePort ms tree uid) (min 255 d) ((ports.map (fun x => 2 ^ x.1)).foldl (· + ·) 0))

/-- Binnacle computes the shadow table from the database and commits it (R306). -/
def State.computeRoutes (s : State) : State :=
  if s.hostRouting || !s.fab.quiet || !s.flag Reg.FAB_NODE.VALID then s
  else
    let ms := s.members
    let tree := distances (ms.map Prod.snd) ((ms.head?.map (fun x => x.2.uid)).getD 0)
    let s1 := s.clearRegs (s.tableRegs true)
    let s2 := ms.foldl (fun t x => match s.routeTo ms tree x.2.uid with
      | none => t
      | some e =>
        let t1 := t.wr (0x1840000 + 8 * x.1) e
        match x.2.aka with
        | some a => t1.wr (0x1840000 + 8 * a.toNat) e
        | none => t1) s1
    s2.swapTables.post Ev.routesUpdated []

/-- A VALID entry for another module names no port, a disabled port, or a disabled escape port (R309). -/
def State.badEntry (s : State) (w : W64) : Bool :=
  let n := w.toNat
  bitAt n 63 && !bitAt n 62 && (decide (n % 2 ^ 16 = 0) || (List.range 16).any (fun p => bitAt n p && !s.portUsable p)
    || (bitAt n 52 && !s.portUsable (bitsOf n 51 48)))

/-- A commit by the host: refused with the first bad entry's node ID, or the tables are swapped (R309). -/
def State.hostCommit (s : State) : State :=
  match (s.tableRegs true).find? (fun x => s.badEntry x.2) with
  | some x => s.post Ev.routeRejected [(x.1 - 0x1840000) / 8]
  | none => s.swapTables

/-- The active table is copied to the shadow. -/
def State.copyTable (s : State) : State :=
  (s.tableRegs false).foldl (fun t x => t.wr (x.1 + 0x30000) x.2) (s.clearRegs (s.tableRegs true))

/-! ### Device time (R312) -/

/-- The offset of an exchange with the time parent; positive when this module lags. -/
def exchangeOffset (x : TimeStamps) : Int := (((x.t2 - x.t1).toInt - (x.t4 - x.t3).toInt).tdiv 2)

/-- READY or a later state. -/
def State.afterBoot (s : State) : Bool := s.dev != .off && s.dev != .boot && s.dev != .selftest

/-- An exchange has given an offset: DTIME steps once, or is slewed. -/
def State.takeTime (s : State) (x : TimeStamps) : State :=
  if s.fab.timeParent.isNone || s.dev == .off then s
  else
    let off := exchangeOffset x
    let s1 := (s.set Reg.FAB_TIME.OFFSET ((off % 2 ^ 32).toNat)).setFlag Reg.FAB_TIME.ALIGNED (decide (off.natAbs ≤ 20))
    let s2 := if 50 < off.natAbs ∧ s1.afterBoot = true ∧ s1.fab.unalignedPosted = false then
        { s1.post Ev.dtimeUnaligned [] with fab := { s1.fab with unalignedPosted := true } }
      else if off.natAbs ≤ 20 then { s1 with fab := { s1.fab with unalignedPosted := false } }
      else s1
    if 1000 < off ∧ s.fab.stepped = false ∧ (s.dev = .boot ∨ s.dev = .selftest ∨ s.dev = .ready) then
      { s2 with
        dtime := s2.dtime + off.toNat
        fab := { s2.fab with offset := 0, slewing := false, stepped := true } }
    else { s2 with fab := { s2.fab with offset := off, slewing := decide (2 < off.natAbs) } }

/-- An exchange begins: t1 is what the port's local copy of DTIME reads (R48, R312). -/
def State.beginExchange (s : State) : State :=
  match s.fab.timeParent with
  | some p => if (s.port p).state = 5 then s.emit (.time p (localTime (1024 + p) s.dtime)) else s
  | none => s

/-- One BCLK cycle of a slew: DTIME advances by 2 when the module lags and by 0 when it leads. -/
def State.slew (s : State) : State :=
  if !s.fab.slewing || s.dev == .off then s
  else if 0 < s.fab.offset then
    { s with
      dtime := s.dtime + 2
      fab := { s.fab with offset := s.fab.offset - 1, slewing := decide (2 < s.fab.offset - 1) } }
  else { s with fab := { s.fab with offset := s.fab.offset + 1, slewing := decide (s.fab.offset + 1 < -2) } }

/-! ### Meanings -/

/-- SIGHT (R301, R302). -/
def execSight (port : Fin 17) (msg : SightMsg) (s : State) : Host.Outcome State Fault Refusal :=
  .next (if port.val = 16 then s else match msg with
    | .hello uid _ _ => s.takeHello port.val uid
    | .record r => s.takeRecord port.val r)

/-- SIGHTING_RECORD_SEND (R302). -/
def execSightingRecordSend (s : State) : Host.Outcome State Fault Refusal := .next s.sendRecord

/-- SIGHTING_DEPARTURE (R302, R311). -/
def execSightingDeparture (uid : W64) (s : State) : Host.Outcome State Fault Refusal := .next (s.departs uid)

/-- SIGHTING_QUIET (R303, R309, R311). -/
def execSightingQuiet (s : State) : Host.Outcome State Fault Refusal := .next s.quiet

/-- ROUTE_COMPUTE (R306). -/
def execRouteCompute (s : State) : Host.Outcome State Fault Refusal := .next s.computeRoutes

/-- FAB_ROUTE_COMMIT (R309). -/
def execFabRouteCommit (s : State) : Host.Outcome State Fault Refusal := .next (if s.served then s.hostCommit else s)

/-- FAB_ROUTE_COPY (R326). -/
def execFabRouteCopy (s : State) : Host.Outcome State Fault Refusal := .next (if s.served then s.copyTable else s)

/-- BASE_STACK_REBUILD (R220): the records have come again, and sighting may turn quiet. -/
def execBaseStackRebuild (s : State) : Host.Outcome State Fault Refusal :=
  .next { s with fab := { s.fab with rebuilding := false } }

/-- TIME (R312). -/
def execTime (stamps : TimeStamps) (s : State) : Host.Outcome State Fault Refusal := .next (s.takeTime stamps)

/-- TIME_EXCHANGE (R312). -/
def execTimeExchange (s : State) : Host.Outcome State Fault Refusal := .next s.beginExchange

/-- DTIME_SLEW (R312). -/
def execDtimeSlew (s : State) : Host.Outcome State Fault Refusal := .next s.slew

end Sys2Proof.Machine
end

