-- ==== Sys2Proof/Machine/Twin.lean ====
section
/-! DEFINITION. The twin link's own packets: pairing, heartbeats, mirror control and the loss of the partner
(spec/09_fabric_and_twin.md R314 to R324, spec/14_reliability_test_security.md R460, R461, spec/15_module_connectors.md R472). -/

namespace Sys2Proof.Machine

/-! ### Pairing (Table 9-7) -/

/-- A refusal: TWIN_PAIR_FAILED, and the link is held DOWN until it is attached again. A survivor stays as it is. -/
def State.pairRefused (s : State) (cause : Nat) : State :=
  let s1 := (s.pairFailed cause).mapTwin (fun t => { t with greeted := false, asked := none, authSent := false, partnerAuth := false })
  let q := s1.port 16
  let s2 := ((s1.setPort 16 { q with loopback := true, aligned := false, unacked := [] }).setPortState 16 1).clearPort 16
  if s2.twin.state ≤ 3 then s2.setTwin 10 else s2

/-- What a twin signs to prove itself: SHA-384 of the other's nonce, its own UID and the other's (R461, log 29). -/
def twinProof (nonce : List Byte) (own other : W64) : List Byte :=
  sha384 (nonce ++ leBytes 8 own.toNat ++ leBytes 8 other.toNat)

/-- Challenge the partner with a 48-byte nonce from the DRBG, unless a challenge is pending or the partner has proved itself (R461). -/
def State.challengeTwin (s : State) : State :=
  if s.twin.partnerAuth || !s.sec.challenge.isEmpty then s
  else
    let x := s.freeBytes 48
    { x.2 with sec := { x.2.sec with challenge := x.1, drbg := x.2.sec.drbg + 1 } }.emit (.twin false (.challenge x.1))

/-- Answer the partner's challenge with the DeviceID certificate chain and a signature by the identity key (R461). -/
def State.answerTwin (s : State) : State :=
  match s.twin.asked with
  | none => s
  | some nonce => (s.mapTwin (fun t => { t with asked := none, authSent := true })).emit
      (.twin false (.answer s.part.certificate (ecdsaSign s.part.deviceKey (twinProof nonce s.part.uid s.twin.partnerUid))))

/-- Authenticate the partner, once the key store can sign: during BIST pairing waits for it, after a debug unlock it fails (R460,
R461). -/
def State.sendAuth (s : State) : State :=
  if !s.twin.greeted then s
  else if s.sec.attestKey.isSome then s.challengeTwin.answerTwin
  else if s.bist.isSome then s
  else s.pairRefused 2

/-- Steps 5 and 6, once both have authenticated each other. A link that pairs again goes on as the path of the same pair (R320). -/
def State.finishPairing (s : State) : State :=
  if !(s.twin.greeted && s.twin.authSent && s.twin.partnerAuth) then s
  else
    let uid := s.twin.partnerUid
    let s1 := if s.twin.paired then s.twinPathBack else s.set Reg.TWN_STATUS.PATH 0
    let s2 := s1.mapTwin (fun t => { t with
      paired := true, greeted := false, asked := none, authSent := false, partnerAuth := false, partnerArmed := s.twin.paired && t.partnerArmed })
    let s3 := (s2.set Reg.TWN_STATUS.ROLE (if s.part.uid.toNat < uid.toNat then 0 else 1)).wr Reg.TWN_PARTNER_UID.UID.reg uid
    let s4 := ((if s3.twin.state ≤ 3 then s3.setTwin 4 else s3).post Ev.twinPaired []).recordChanged
    if s4.isArmed then (State.asOwn State.sendArmed s4).checkMirror else s4

/-- The partner's hello: steps 2 and 3. -/
def State.takeTwinHello (s : State) (uid : W64) (variant fwMajor : W16) (node : Option (BitVec 14)) (enabled : Bool) : State :=
  if (s.port 16).state ≠ 5 ∨ s.flag Reg.TWN_CFG.ENABLE = false ∨ uid = 0 ∨ uid = s.part.uid
      ∨ (s.twin.paired = true ∧ uid ≠ s.twin.partnerUid) then s
  else
    let s1 := (s.wr (portField (fun p => Reg.FAB_PORT_PEER.UID p) 16).reg uid).mapTwin (fun t => { t with
      partnerUid := uid, partnerNode := (node.map BitVec.toNat).orElse (fun _ => t.partnerNode) })
    let s2 := if s1.twin.state ≤ 3 then s1.setTwin 3 else s1
    if !enabled then s2.pairRefused 5
    else if variant.toNat ≠ s.part.variant.code then s2.pairRefused 1
    else if fwMajor.toNat ≠ s.get Reg.CAP_VERSION.FW_MAJOR then s2.pairRefused 3
    else (s2.mapTwin (fun t => { t with greeted := true })).sendAuth

/-- The partner's challenge: step 4. -/
def State.takeChallenge (s : State) (nonce : List Byte) : State :=
  if !s.twin.greeted || s.twin.authSent || nonce.length != 48 then s
  else (s.mapTwin (fun t => { t with asked := some nonce })).sendAuth.finishPairing

/-- Whether an answer to this module's challenge holds: the chain verifies to the root CA, its DeviceID certificate carries the UID that
the hello gave, and the signature verifies (R461). -/
def State.answerSound (s : State) (chain signature : List Byte) : Bool :=
  Config.chainVerifies chain && Config.chainUid chain == s.twin.partnerUid
    && ecdsaVerify (Config.chainKey chain) (twinProof s.sec.challenge s.twin.partnerUid s.part.uid) signature

/-- The partner's answer to the challenge: step 4. -/
def State.takeAnswer (s : State) (chain signature : List Byte) : State :=
  if !s.twin.greeted || s.twin.partnerAuth || s.sec.challenge.isEmpty then s
  else
    let s1 := { s with sec := { s.sec with challenge := [] } }
    if s.answerSound chain signature then (s1.mapTwin (fun t => { t with partnerAuth := true })).sendAuth.finishPairing
    else s1.pairRefused 2

/-- TWN_CFG.ENABLE has been written: a link that is up greets the partner. -/
def State.enableTwin (s : State) : State :=
  if (s.port 16).state = 5 ∧ s.twin.paired = false ∧ s.flag Reg.TWN_CFG.ENABLE = true then s.twinHello else s

/-! ### Messages of a paired twin (R315 to R324) -/

/-- A heartbeat: a partner whose mirror has become invalid is seeded again (R318, R319); one that is no longer armed mirrors no
more. -/
def State.takeHeartbeat (s : State) (valid armed : Bool) : State :=
  let s1 := s.mapTwin (fun t => { t with partnerValid := valid, partnerArmed := t.partnerArmed && armed })
  if !armed then s1.endMirroring
  else if s.twin.partnerValid ∧ valid = false ∧ s.twin.state = 6 then
    (s1.setTwin 5).mapTwin (fun t => { t with seedDue := true })
  else if valid ∧ s1.twin.state = 5 ∧ s1.flag Reg.TWN_STATUS.MIRROR_VALID = true then s1.setTwin 6
  else s1

/-- The partner is armed (R315, R322). -/
def State.takeArmed (s : State) (gib content : Nat) (tensors knots : List Nat) (reservation : Nat) (image : List Byte)
    (lists : List (Nat × List Byte)) : State :=
  (s.mapTwin (fun t => { t with
    partnerArmed := true, partnerGib := gib, partnerContent := content, partnerTensors := tensors, partnerKnots := knots
    partnerReservation := reservation, partnerImage := image, partnerLists := lists })).checkMirror

/-- Messages of mirroring and of a handover, from a paired twin. -/
def State.takeTwin (s : State) (m : TwinMsg) : State :=
  let mirrors := s.twin.state == 5 || s.twin.state == 6
  match m with
  | .hello .. => s
  | .challenge _ => s
  | .answer _ _ => s
  | .heartbeat valid armed => s.takeHeartbeat valid armed
  | .armed gib content tensors knots reservation image lists =>
    s.takeArmed gib.toNat content (tensors.map BitVec.toNat) (knots.map BitVec.toNat) reservation image
      (lists.map (fun x => (x.1.toNat, x.2)))
  | .recordTile step tensor tile bytes => if mirrors then s.takeRecordTile step.toNat tensor.toNat tile.toNat bytes else s
  | .maskTile step tensor tile bytes =>
    if mirrors then
      let s1 := s.takeMaskTile step.toNat tensor.toNat tile.toNat bytes
      s1.ackWhole (s1.twinRecord step.toNat)
    else s
  | .closing step clip norm skipped entry =>
    if mirrors then s.takeClosing step.toNat clip.toNat norm.toNat skipped (entry.map BitVec.toNat) else s
  | .commit st digest => if mirrors then s.takeCommit st digest else s
  | .seedTile step tensor tile rung bytes =>
    if s.twin.state = 5 ∨ s.twin.state = 9 then s.takeSeedTile step.toNat tensor.toNat tile.toNat rung.toNat bytes else s
  | .restoreAsk tensors => s.shipRestore (tensors.map BitVec.toNat)
  | .restoreTile tensor tile rung bytes => s.takeRestoreTile tensor.toNat tile.toNat rung.toNat bytes
  | .handover node image lists st => s.takeHandover node.toNat image (lists.map (fun x => (x.1.toNat, x.2))) st
  | .ackClosing step => s.takeMirrorAck false step.toNat
  | .ackRecord step => s.takeMirrorAck true step.toNat
  | .farewell => s.detach
  | .stopping => s.partnerLost

/-- A TWIN packet. -/
def State.twinMessage (s : State) (m : TwinMsg) : State :=
  match m with
  | .hello uid variant fwMajor node enabled => s.takeTwinHello uid variant fwMajor node enabled
  | .challenge nonce => s.takeChallenge nonce
  | .answer chain signature => s.takeAnswer chain signature
  | m => if s.twin.paired then State.asOwn (fun t => t.takeTwin m) s else s

/-- Every 100 µs: a heartbeat to the paired partner; a pairing that waited for the key store goes on. -/
def State.heartbeat (s : State) : State :=
  let s1 := if s.twin.paired then s.sendTwin (.heartbeat (s.flag Reg.TWN_STATUS.MIRROR_VALID) s.isArmed) else s
  s1.sendAuth.finishPairing.heldLoss

/-- A Binnacle-to-Binnacle message: the announcement of a stop by the partner makes it lost (R320, R347). -/
def State.takeMgmt (s : State) (src : Nat) (m : MgmtMsg) : State :=
  match m with
  | .stopping => if s.twin.paired ∧ s.twin.partnerNode = some src then s.partnerLost else s
  | .other _ => s

/-- TW_PRESENT_N is released: a link that is up counts as lost, and one that was refused may be attached again (R314, R472). -/
def State.presentReleased (s : State) : State :=
  let s1 := s.alignmentLost 16
  let s2 := (s1.setPort 16 { s1.port 16 with loopback := false }).mapTwin (fun t => { t with present := false })
  if s2.twin.state = 10 then s2.setTwin s2.twinIdle else s2.showTwin

/-! ### Meanings -/

/-- TWIN (R314 to R324). -/
def execTwin (msg : TwinMsg) (s : State) : Host.Outcome State Fault Refusal := .next (s.twinMessage msg)

/-- MGMT (R299, R347). -/
def execMgmt (src : BitVec 14) (msg : MgmtMsg) (s : State) : Host.Outcome State Fault Refusal := .next (s.takeMgmt src.toNat msg)

/-- TWIN_HEARTBEAT (R320). -/
def execTwinHeartbeat (s : State) : Host.Outcome State Fault Refusal := .next s.heartbeat

/-- TWIN_SILENCE (R320). -/
def execTwinSilence (s : State) : Host.Outcome State Fault Refusal := .next s.partnerLost

/-- TW_PRESENT_RELEASE (R472). -/
def execTwPresentRelease (s : State) : Host.Outcome State Fault Refusal := .next s.presentReleased

end Sys2Proof.Machine
end

