-- ==== Sys2Proof/Machine/Registers.lean ====
section
/-! DEFINITION. Register accesses: what a register shows, reads with their shadows and clears, and writes with what they set off
(spec/00_scope.md R6, R16 to R19; spec/04_precision_control.md R148; spec/06_memory_and_placement.md R228;
spec/08_sync_and_collectives.md R258, R287; spec/13_control_interface.md R393, R410, R413, R433). -/

namespace Sys2Proof

/-- Bytes of an access. -/
def Width.bytes : Width → Nat
  | .w8 => 1
  | .w16 => 2
  | .w32 => 4
  | .w64 => 8

/-- The number of a window's BAR. -/
def Window.bar : Window → Nat
  | .bar0 => 0
  | .bar2 => 2

/-- The lanes of an aligned access. -/
def Width.lanes (w : Width) (off : Nat) : W64 :=
  match w with
  | .w64 => 0xFFFFFFFFFFFFFFFF
  | _ => 0xFFFFFFFF <<< (8 * (off % 8))

end Sys2Proof

namespace Sys2Proof.Machine

/-! ### What a register shows -/

/-- Index of a key in an array of `n` registers or windows, if it lies there. -/
def within (key base stride n : Nat) : Option Nat :=
  if base ≤ key ∧ key < base + stride * n then some ((key - base) / stride) else none

/-- The register at a key belongs to an absent unit (R6). -/
def State.regAbsent (s : State) (key : Nat) : Bool :=
  let v := s.part.variant
  let cores := s.get Reg.CAP_UNITS.N_CORES
  (!v.hasTwin && decide (0x1C00000 ≤ key) && decide (key < 0x2000000))
    || (match within key 0x801000 0x20 32 with
        | some i => decide (v.dies ≤ i / 8)
        | none => false)
    || (match within key 0x802000 8 144 with
        | some i => !v.hasSensor i
        | none => false)
    || (match within key 0x803000 8 128 with
        | some i => decide (v.dies ≤ i / 32)
        | none => false)
    || (match within key 0x809000 0x40 48 with
        | some i => !v.hasRegion i
        | none => false)
    || (match within key 0xC10000 0x20 2048 with
        | some i => decide (cores ≤ i / 8) || decide (6 ≤ i % 8)
        | none => false)
    || (match within key 0xC30000 0x20 4 with
        | some i => decide (v.dies ≤ i)
        | none => false)
    || (match within key 0xC40000 0x80 256 with
        | some i => decide (cores ≤ i)
        | none => false)
    || (match within key 0xC60000 0x40 256 with
        | some i => decide (cores ≤ i)
        | none => false)
    || (match within key 0x2100000 0x20 256 with
        | some i => decide (cores ≤ i)
        | none => false)

/-- A word with a field put in. -/
def putField (f : Field) (v : Nat) (w : W64) : W64 := insertBits w f.hi f.lo v

/-- K0 of a knot: the own role's, or that of a carried role whose passage gives the knot a quota. -/
def State.armBaseOf (s : State) (k : Nat) : W64 :=
  if s.role.quotaOf k = 0 then
    match s.other with
    | some o => if o.quotaOf k = 0 then s.role.base k else o.base k
    | none => s.role.base k
  else s.role.base k

/-- Q of a knot, of either role. -/
def State.quotaShown (s : State) (k : Nat) : Nat := s.role.quotaOf k + (s.other.map (fun o => o.quotaOf k)).getD 0

/-- The record of a unit that is not fitted says so; a slot that no unit has reads zero (R6, R463). -/
def State.unitWord (s : State) (slot : Nat) (w : W64) : W64 :=
  match s.part.variant.unitPresent (unitCode (slot / 1024) (slot % 1024)) with
  | none => 0
  | some true => w
  | some false => putField (Reg.BST_UNIT.STATE slot) 6 0

/-- Word `j` of a measurement register's window (Table 14-13). -/
def State.measureWord (s : State) (m j : Nat) : W64 :=
  let x := s.measure m
  if j < 6 then BitVec.ofNat 64 (fieldAt x.value (8 * j) 8) else if j = 6 then BitVec.ofNat 64 x.count else 0

/-- Fields that the model holds elsewhere than in the register file (log 61). -/
def State.computed (s : State) (key : Nat) (w : W64) : W64 :=
  if key = Reg.CAP_STATE.STATE.reg then putField Reg.CAP_STATE.STATE s.dev.code w
  else if key = Reg.CAP_DTIME.DTIME.reg then BitVec.ofNat 64 s.dtime
  else if key = Reg.EVT_STATUS.QUEUED.reg then putField Reg.EVT_STATUS.QUEUED s.evt.queue.length w
  else if key = Reg.HELM_COOLANT.AGE.reg then putField Reg.HELM_COOLANT.AGE s.coolantAge w
  else if key = Reg.NUM_SUMMARY.ANY_RECORD.reg then s.numSummary
  else if key = Reg.SND_STEP_TILES.TOTAL.reg then
    putField Reg.SND_STEP_TILES.TOTAL ((s.role.passage.map Passage.productTiles).getD 0) w
  else if key = Reg.FAB_STATUS.HOST_TABLES.reg then putField Reg.FAB_STATUS.HOST_TABLES (s.get Reg.CAP_DUTY_MODE.ROUTING) w
  else if key = Reg.CHT_STATUS.ENTRIES_USED.reg then
    putField Reg.CHT_STATUS.ENTRIES_USED s.entriesUsed
      (putField Reg.CHT_STATUS.HOST_ASSISTED (s.get Reg.CAP_DUTY_MODE.PLACEMENT) w)
  else if key = Reg.FRW_STATUS.BUSY.reg then putField Reg.FRW_STATUS.BUSY (if s.frw.isSome then 1 else 0) w
  else
    match within key 0x1408000 8 4096, within key 0x1418000 8 4096, within key 0x1420000 8 4096 with
    | some k, _, _ => s.knot k
    | none, some k, _ => s.armBaseOf k
    | none, none, some k => putField (Reg.KNT_QUOTA.QUOTA k) (s.quotaShown k) w
    | none, none, none =>
      match within key 0x3001000 8 11264, within key 0xC10018 0x20 2048 with
      | some i, _ => s.unitWord i w
      | none, some i => BitVec.ofNat 64 (localTime (i / 8) w.toNat)
      | none, none => w

/-- The access types whose fields read as their value. -/
def Access.reads : Access → Bool
  | .wo => false
  | _ => true

/-- What a register shows: the current values of its fields; zero in reserved and write-only bits, at an offset without a
register, and for an absent unit (R6, R18, R413). -/
def State.view (s : State) (key : Nat) : W64 :=
  match within key 0x3801000 8 64 with
  | some i => s.measureWord (i / 8) (i % 8)
  | none =>
    if s.regAbsent key then 0
    else match findReg key regTable with
      | none => 0
      | some (d, _) => s.computed key (s.rd key) &&& accMask Access.reads d.fields

/-! ### Reads (R17) -/

/-- The RC fields of a register whose lowest bit is `lo` or above, as a mask. -/
def rcMask (key lo : Nat) : W64 :=
  match findReg key regTable with
  | none => 0
  | some (d, _) => accMask (fun a => a == .rc) (d.fields.filter (fun f => decide (lo ≤ f.lo)))

/-- Clear the RC fields of a register from bit `lo` up. -/
def State.clearRc (s : State) (key lo : Nat) : State :=
  let m := rcMask key lo
  if m = 0 then s else s.wr key (s.rd key &&& ~~~m)

/-- The shadow a requester holds. -/
def State.shadow (s : State) : Requester → Option Shadow
  | .host => s.hostShadow
  | .binnacle => s.binnacleShadow

/-- Replace a requester's shadow. -/
def State.setShadow (s : State) (who : Requester) (x : Option Shadow) : State :=
  match who with
  | .host => { s with hostShadow := x }
  | .binnacle => { s with binnacleShadow := x }

/-- An access arrives: the host's over a link that is up, Binnacle's while the module is not OFF. -/
def State.arrives (s : State) (who : Requester) : Bool :=
  match who with
  | .host => s.linkUp
  | .binnacle => s.dev != .off

/-- A read of a BAR0 offset is served: before READY the host reaches only the CAP_ block and mailbox 0 (R393). -/
def State.readServed (s : State) (who : Requester) (off : Nat) : Bool :=
  match who with
  | .host => s.hostReads off
  | .binnacle => s.dev != .off

/-- A write of a BAR0 offset is served. -/
def State.writeServed (s : State) (who : Requester) (off : Nat) : Bool :=
  match who with
  | .host => s.hostWrites off
  | .binnacle => s.dev != .off

/-- What a requester sees of a BAR0 register. -/
def State.seen (s : State) (who : Requester) (off : Nat) : W64 := if s.readServed who off then s.view off else 0

/-- The low 32 bits of a register value. -/
def lowerBits (w : W64) : W64 := w &&& 0xFFFFFFFF

/-- The high 32 bits of a register value, moved down. -/
def upperBits (w : W64) : W64 := w >>> 32

/-- A 32-bit read of a low half. -/
def State.readLow (s : State) (who : Requester) (key : Nat) : State :=
  let v := s.seen who key
  let s1 := if s.readServed who key then s.clearRc key 0 else s
  (s1.setShadow who (some ⟨key, (upperBits v).setWidth 32⟩)).emit (.readData who (lowerBits v))

/-- A 32-bit read of a high half. -/
def State.readHigh (s : State) (who : Requester) (key : Nat) : State :=
  let current :=
    ((if s.readServed who key then s.clearRc key 32 else s).setShadow who none).emit (.readData who (upperBits (s.seen who key)))
  match s.shadow who with
  | some x => if x.key = key then (s.setShadow who none).emit (.readData who (x.high.setWidth 64)) else current
  | none => current

/-- A 64-bit read. -/
def State.readWhole (s : State) (who : Requester) (key : Nat) : State :=
  let v := s.seen who key
  (if s.readServed who key then s.clearRc key 0 else s).emit (.readData who v)

/-- The key of a 32-bit register of the Forerunner window. -/
def frwKey (off : Nat) : Nat := 0x100000000 + off

/-- The byte at an offset of a window. -/
def State.seenByte (s : State) (who : Requester) (win : Window) (off : Nat) : Nat :=
  match win with
  | .bar0 => (s.seen who (off / 8 * 8)).toNat / 2 ^ (8 * (off % 8)) % 256
  | .bar2 => (s.view (frwKey (off / 4 * 4))).toNat / 2 ^ (8 * (off % 4)) % 256

/-- A read of 8 or 16 bits returns the addressed bytes and latches nothing. -/
def State.readBytesAt (s : State) (who : Requester) (win : Window) (off n : Nat) : State :=
  s.emit (.readData who (BitVec.ofNat 64 (((List.range n).map (fun j => s.seenByte who win (off + j) * 256 ^ j)).foldl (· + ·) 0)))

/-- A misaligned read of 32 or 64 bits returns zero; BAD_REG_ACCESS gives the BAR, the offset and the width in bits, where the
address is served (log 62). -/
def State.readMisaligned (s : State) (who : Requester) (win : Window) (off n : Nat) : State :=
  let s1 := s.emit (.readData who 0)
  if win = .bar2 ∨ s.readServed who off then s1.post Ev.badRegAccess [win.bar, off, 8 * n] else s1

/-! ### Writes -/

/-- A register's fields after a write of `value` to the bits of `lanes`: RW fields take the bits, W1C fields lose them, W1S
fields gain them (R17, R18). -/
def mergedWrite (fs : List FieldDesc) (old lanes value : W64) : W64 :=
  let rw := accMask (fun a => a == .rw) fs &&& lanes
  let w1c := accMask (fun a => a == .w1c) fs &&& lanes
  let w1s := accMask (fun a => a == .w1s) fs &&& lanes
  (((old &&& ~~~rw) ||| (value &&& rw)) &&& ~~~(value &&& w1c)) ||| (value &&& w1s)

/-- SND_CLEAR.PROMOTION (R148): from the next step start of each role. -/
def State.clearPromotion (s : State) : State :=
  let f := fun (r : Role) => { r with clearPromotion := true }
  { s with role := f s.role, other := s.other.map f }

/-- SND_CLEAR.TENSOR: what is queued for the rung goes too, so that the clear stands at the next step start (R148). -/
def State.clearTensor (s : State) (t : Nat) : State :=
  let f := fun (r : Role) => { r with
    clearRungs := t :: r.clearRungs.filter (· != t), setRungs := r.setRungs.filter (fun x => x.1 != t) }
  { s with role := f s.role, other := s.other.map f }

/-- SND_CLEAR.ALL_TENSORS. -/
def State.clearTensors (s : State) : State :=
  let f := fun (r : Role) => { r with clearAll := true, setRungs := [] }
  { s with role := f s.role, other := s.other.map f }

/-- CHT_INDEX has been written: the entry is copied out (R228). -/
def State.copyEntry (s : State) (index : Nat) : State :=
  let ws := (s.entry index).words
  let s1 := s.set Reg.CHT_INDEX.INDEX index
  (((s1.wr Reg.CHT_DATA0.WORD.reg (ws.getD 0 0)).wr Reg.CHT_DATA1.WORD.reg (ws.getD 1 0)).wr Reg.CHT_DATA2.WORD.reg
    (ws.getD 2 0)).wr Reg.CHT_DATA3.WORD.reg (ws.getD 3 0)

/-- A host's advance of a knot; 0 has no effect (R258). -/
def State.hostAdvance (s : State) (k amount : Nat) : State := if amount = 0 then s else s.advance k amount

/-- The integrity-failure record is emptied; its FAILURES count stays (R287). -/
def State.emptyIntegrity (s : State) : State :=
  ((s.wr Reg.KNT_INTEGRITY.VALID.reg 0).set Reg.KNT_INTEGRITY_HOP.PHASE 0).set Reg.KNT_INTEGRITY_HOP.POSITION 0

/-- TWN_CFG: MIRROR_GIB takes a value only in READY with no passage loaded (Table 9-16); ENABLE going to 1 lets an attached
twin pair. -/
def State.writeTwinCfg (s : State) (w : W64) : State :=
  let key := Reg.TWN_CFG.ENABLE.reg
  let old := s.rd key
  let gib := if s.dev = .ready ∧ s.loaded = false ∧ s.load.isNone then w else old
  let s1 := s.wr key ((w &&& ~~~0xFFFF) ||| (gib &&& 0xFFFF))
  if s1.flag Reg.TWN_CFG.ENABLE && !s.flag Reg.TWN_CFG.ENABLE then s1.enableTwin else s1

/-- MSIX_CTRL: a mask bit going to 0 unmasks its vector (R427). -/
def State.writeVector (s : State) (i : Nat) (w : W64) : State :=
  let s1 := s.wr (Reg.MSIX_CTRL.MASK i).reg w
  if s.flag (Reg.MSIX_CTRL.MASK i) && !s1.flag (Reg.MSIX_CTRL.MASK i) then s1.unmaskVector i else s1

/-- Any of the bits of a field. -/
def touches (f : Field) (bits : W64) : Bool := bits &&& fieldMask f.hi f.lo != 0

/-- A field of the bits written. -/
def writtenField (f : Field) (bits : W64) : Nat := extractBits bits f.hi f.lo

/-- The write-only fields act on what is written, and some fields set work off beside taking their value. `w` is the register
with the write merged in, `bits` the value in the lanes written. -/
def State.writeHook (s : State) (key : Nat) (d : RegDesc) (i : Nat) (w lanes bits : W64) : State :=
  if d.base = 0x100010 then s.writeMailboxCfg i w
  else if d.base = 0x100018 then
    if touches (Reg.MBX_SQ_TAIL.TAIL i) lanes then s.writeDoorbell i (writtenField (Reg.MBX_SQ_TAIL.TAIL i) w) else s
  else if d.base = 0x100028 then
    if touches (Reg.MBX_CQ_HEAD.HEAD i) lanes then s.writeCqHead i (writtenField (Reg.MBX_CQ_HEAD.HEAD i) w) else s
  else if d.base = 0x100030 then if touches (Reg.MBX_STATUS.ERROR i) bits then s.clearMailboxError i else s
  else if d.base = 0x300008 then s.writeVector i w
  else if key = Reg.EVT_RING_CFG.ENABLE.reg then s.writeRingCfg w
  else if key = Reg.EVT_RING_HEAD.HEAD.reg then
    if touches Reg.EVT_RING_HEAD.HEAD lanes then s.writeRingHead (writtenField Reg.EVT_RING_HEAD.HEAD w) else s
  else if key = (Reg.CAP_STOP_REC.WORD 0).reg then if bits.getLsbD 63 then s.clearStopRecord else s
  else if key = Reg.HELM_CAP.HOST_CAP_W.reg then s.writeCap w
  else if d.base = 0x802000 then
    if touches (Reg.HELM_SENSOR.SUSPECT i) bits then (pairOf i).foldl (fun t j => t.set (Reg.HELM_SENSOR.SUSPECT j) 0) s else s
  else if key = Reg.HELM_IN_MIN.REARM.reg then if touches Reg.HELM_IN_MIN.REARM bits then s.rearmInput else s
  else if d.base = 0x809008 then if touches (Reg.HELM_RGN_VMIN.REARM i) bits then s.rearmRegion i else s
  else if key = Reg.NUM_CLEAR_ALL.FLAGS.reg then
    let s1 := s.clearAllFlags (writtenField Reg.NUM_CLEAR_ALL.FLAGS bits)
    if touches Reg.NUM_CLEAR_ALL.RECORDS bits then s1.emptyRecords else s1
  else if key = Reg.NUM_SR_SEED.SEED.reg ∨ key = Reg.NUM_SR_STEP.STEP.reg ∨ key = Reg.NUM_SR_INDEX.TID.reg then
    (s.wr key w).probeResult
  else if d.base = 0xC10008 then if touches (Reg.NUM_FF_LOC.VALID i) bits then s.emptyRecord i else s
  else if key = Reg.SND_CLEAR.PROMOTION.reg then
    let s1 := if touches Reg.SND_CLEAR.PROMOTION bits then s.clearPromotion else s
    let s2 := if touches Reg.SND_CLEAR.TENSOR bits then s1.clearTensor (writtenField Reg.SND_CLEAR.TENSOR_ID bits) else s1
    if touches Reg.SND_CLEAR.ALL_TENSORS bits then s2.clearTensors else s2
  else if key = Reg.CHT_INDEX.INDEX.reg then
    if touches Reg.CHT_INDEX.INDEX lanes then s.copyEntry (writtenField Reg.CHT_INDEX.INDEX w) else s
  else if d.base = 0x1410000 then s.hostAdvance i (writtenField (Reg.KNT_ADVANCE.AMOUNT i) bits)
  else if key = Reg.KNT_INTEGRITY.VALID.reg then if touches Reg.KNT_INTEGRITY.VALID bits then s.emptyIntegrity else s
  else if key = Reg.FAB_NODE.PIN_EN.reg then if w = s.rd key then s else (s.wr key w).recordChanged
  else if key = Reg.FAB_CFG.PORT_ENABLE.reg then
    let s1 := s.wr key w
    if s1.role.inStep then s1 else s1.applyPortEnable
  else if key = Reg.FAB_ROUTE_CTL.COMMIT.reg then
    let s1 := if touches Reg.FAB_ROUTE_CTL.COMMIT bits then s.hostCommit else s
    if touches Reg.FAB_ROUTE_CTL.COPY bits then s1.copyTable else s1
  else if key = Reg.TWN_CFG.ENABLE.reg then s.writeTwinCfg w
  else s.wr key w

/-- A served, aligned write to a BAR0 register; one to an absent unit is ignored (R6). -/
def State.writeReg (s : State) (key : Nat) (lanes value : W64) : State :=
  if s.regAbsent key then s
  else match findReg key regTable with
    | none => s
    | some (d, i) => s.writeHook key d i (mergedWrite d.fields (s.rd key) lanes value) lanes (value &&& lanes)

/-- An aligned 32-bit write to the Forerunner window. -/
def State.writeFrw (s : State) (off : Nat) (value : W64) : State :=
  if off = 0x30 then s.frwGo (value.setWidth 32)
  else match findReg (frwKey off) regTable with
    | none => s
    | some (d, _) => s.wr (frwKey off) (mergedWrite d.fields (s.rd (frwKey off)) 0xFFFFFFFF value)

/-- A write to BAR0: a narrow or misaligned one is discarded with BAD_REG_ACCESS. -/
def State.writeBar0 (s : State) (who : Requester) (off : Nat) (width : Width) (value : W64) : State :=
  let key := off / 8 * 8
  if !s.writeServed who off || s.regAbsent key then s
  else if width.bytes < 4 ∨ off % width.bytes ≠ 0 then s.post Ev.badRegAccess [0, off, 8 * width.bytes]
  else s.writeReg key (width.lanes off) (value <<< (8 * (off % 8)))

/-- A write to BAR2: only aligned 32-bit writes take effect. -/
def State.writeBar2 (s : State) (off : Nat) (width : Width) (value : W64) : State :=
  if width ≠ .w32 ∨ off % 4 ≠ 0 then s.post Ev.badRegAccess [2, off, 8 * width.bytes] else s.writeFrw off value

/-! ### Meanings -/

/-- REG_READ_LOW_HALF (R17); a register of the Forerunner window has no high half (R433). -/
def execRegReadLowHalf (who : Requester) (win : Window) (reg : BitVec 29) (s : State) : Host.Outcome State Fault Refusal :=
  .next (if !s.arrives who then s
    else match win with
      | .bar0 => s.readLow who (8 * reg.toNat)
      | .bar2 => s.emit (.readData who (s.view (frwKey (8 * reg.toNat)))))

/-- REG_READ_HIGH_HALF (R17). -/
def execRegReadHighHalf (who : Requester) (win : Window) (reg : BitVec 29) (s : State) : Host.Outcome State Fault Refusal :=
  .next (if !s.arrives who then s
    else match win with
      | .bar0 => s.readHigh who (8 * reg.toNat)
      | .bar2 => s.emit (.readData who (s.view (frwKey (8 * reg.toNat + 4)))))

/-- REG_READ_FULL_WIDTH (R17); in the Forerunner window it returns two adjacent registers (R433). -/
def execRegReadFullWidth (who : Requester) (win : Window) (reg : BitVec 29) (s : State) : Host.Outcome State Fault Refusal :=
  .next (if !s.arrives who then s
    else match win with
      | .bar0 => s.readWhole who (8 * reg.toNat)
      | .bar2 => s.emit (.readData who (s.view (frwKey (8 * reg.toNat)) ||| (s.view (frwKey (8 * reg.toNat + 4)) <<< 32))))

/-- REG_READ_UNALIGNED (R17), with the reads of 8 and 16 bits; aligned reads of 32 and 64 bits have rows of their own. -/
def execRegReadUnaligned (who : Requester) (win : Window) (off : W32) (width : Width) (s : State) :
    Host.Outcome State Fault Refusal :=
  .next (if !s.arrives who then s
    else if width.bytes < 4 then s.readBytesAt who win off.toNat width.bytes
    else if off.toNat % width.bytes ≠ 0 then s.readMisaligned who win off.toNat width.bytes
    else s)

/-- REG_WRITE (R17, R18); a poisoned write is discarded with HOST_POISON (R410). -/
def execRegWrite (who : Requester) (win : Window) (off : W32) (width : Width) (value : W64) (poisoned : Bool) (s : State) :
    Host.Outcome State Fault Refusal :=
  .next (if !s.arrives who then s
    else if poisoned then s.post Ev.hostPoison [win.bar, off.toNat]
    else match win with
      | .bar0 => s.writeBar0 who off.toNat width value
      | .bar2 => s.writeBar2 off.toNat width value)

/-- SND_CLEAR_PROMOTION (R148). -/
def execSndClearPromotion (s : State) : Host.Outcome State Fault Refusal := .next (if s.served then s.clearPromotion else s)

/-- SND_CLEAR_TENSOR (R148). -/
def execSndClearTensor (tensor : W16) (s : State) : Host.Outcome State Fault Refusal :=
  .next (if s.served then s.clearTensor tensor.toNat else s)

/-- SND_CLEAR_ALL_TENSORS (R148). -/
def execSndClearAllTensors (s : State) : Host.Outcome State Fault Refusal := .next (if s.served then s.clearTensors else s)

/-- CHT_INDEX_WRITE (R228). -/
def execChtIndexWrite (index : BitVec 19) (s : State) : Host.Outcome State Fault Refusal :=
  .next (if s.served then s.copyEntry index.toNat else s)

/-- KNT_ADVANCE (R258). -/
def execKntAdvance (knot : BitVec 12) (amount : W32) (s : State) : Host.Outcome State Fault Refusal :=
  .next (if s.served then s.hostAdvance knot.toNat amount.toNat else s)

/-- KNT_INTEGRITY_CLEAR (R287). -/
def execKntIntegrityClear (s : State) : Host.Outcome State Fault Refusal := .next (if s.served then s.emptyIntegrity else s)

end Sys2Proof.Machine
end

