-- ==== Sys2Proof/Machine/Security.lean ====
section
/-! DEFINITION. The security block's responders: SPDM over DOE, the test port and debug unlock, and the management bus
(spec/14_reliability_test_security.md R452 to R460, spec/15_module_connectors.md R476, R477). -/

namespace Sys2Proof.Machine

/-! ### SPDM (R459, R460) -/

/-- The responder is served: the link is up and firmware runs. -/
def State.spdmServed (s : State) : Bool := s.linkUp && s.boot.fwStarted

/-- Answer a request. -/
def State.reply (s : State) (r : SpdmReply) : State := if s.spdmServed then s.emit (.spdm r) else s

/-- The slot 0 chain: Gindoash root CA, manufacturing CA, DeviceID, attestation key (Table 14-12). -/
def State.certificateChain (s : State) : List Byte := s.part.certificate ++ s.sec.issued

/-- The error for a request that needs a signature while signing is unavailable (R460). -/
def State.signingError (s : State) : SpdmError := if s.dev = .selftest then .busy else .unspecified

/-- Answer a request that needs a signature: with a nonce from the DRBG and a signature by the attestation key over
SHA-384 of the transcript (R454, R458, log 28). -/
def State.signedReply (s : State) (transcript : List Byte) (f : List Byte → List Byte → SpdmReply) : State :=
  match s.sec.attestKey with
  | none => s.reply (.error s.signingError)
  | some k =>
    let x := s.freeBytes 32
    let s1 := { x.2 with sec := { x.2.sec with drbg := x.2.sec.drbg + 1 } }
    s1.reply (f x.1 (ecdsaSign k (sha384 transcript)))

/-- GET_VERSION (R459). -/
def execGetVersion (s : State) : Host.Outcome State Fault Refusal := .next (s.reply (.version [12, 13]))

/-- GET_CAPABILITIES (R459). -/
def execGetCapabilities (s : State) : Host.Outcome State Fault Refusal :=
  .next (s.reply (.capabilities true true true true))

/-- NEGOTIATE_ALGORITHMS (R459). -/
def execNegotiateAlgorithms (s : State) : Host.Outcome State Fault Refusal :=
  .next (s.reply (.algorithms true true true))

/-- GET_DIGESTS (R459): the digest of slot 0. -/
def execGetDigests (s : State) : Host.Outcome State Fault Refusal :=
  .next (s.reply (.digests (sha384 s.certificateChain)))

/-- GET_CERTIFICATE (R459): a portion of the slot 0 chain. -/
def execGetCertificate (offset len : W16) (s : State) : Host.Outcome State Fault Refusal :=
  .next (let chain := s.certificateChain
    if chain.length ≤ offset.toNat then s.reply (.error .invalidRequest)
    else
      let part := (chain.drop offset.toNat).take len.toNat
      s.reply (.certificate part (chain.length - offset.toNat - part.length)))

/-- CHALLENGE (R459, R460). -/
def execChallenge (transcript : List Byte) (s : State) : Host.Outcome State Fault Refusal :=
  .next (if s.spdmServed then
    s.signedReply transcript (fun nonce sig => .challengeAuth (sha384 s.certificateChain) nonce sig)
  else s)

/-- The measurement blocks that an index names: 1 to 5 carry M0 to M4, 255 names them all, 0 asks for their number
(Table 14-12; 0 and 255 as SPDM has them, log 28). -/
def State.measurementBlocks (s : State) (index : Nat) : Option (List (Nat × Digest)) :=
  if index = 0 then some []
  else if index = 255 then some ((List.range 5).map (fun i => (i + 1, (s.measure i).value)))
  else if index ≤ 5 then some [(index, (s.measure (index - 1)).value)]
  else none

/-- GET_MEASUREMENTS (R459, R460): unsigned, always answered; signed, where signing is available. -/
def execGetMeasurements (signed : Bool) (index : Byte) (transcript : List Byte) (s : State) :
    Host.Outcome State Fault Refusal :=
  .next (if s.spdmServed then
    match s.measurementBlocks index.toNat with
    | none => s.reply (.error .invalidRequest)
    | some blocks =>
      if signed then s.signedReply transcript (fun nonce sig => .measurements 5 blocks (some (nonce, sig)))
      else s.reply (.measurements 5 blocks none)
  else s)

/-- SPDM_UNSUPPORTED_REQUEST (R459). -/
def execSpdmUnsupportedRequest (_code : Byte) (s : State) : Host.Outcome State Fault Refusal :=
  .next (s.reply (.error .unsupportedRequest))

/-! ### The test port (R452, R453) -/

/-- Select a TAP instruction: 1 IDCODE, 2 BYPASS, 3 EXTEST, 4 SAMPLE/PRELOAD, 5 internal scan. -/
def State.tapSelect (s : State) (i : Nat) : State := { s with tap := ⟨i⟩ }

/-- A debug unlock has been accepted since BOOT. -/
def State.unlocked (s : State) : Bool := s.flag Reg.SEC_STATUS.DEBUG_UNLOCKED

/-- IDCODE (R453): at all times. -/
def execIdcode (s : State) : Host.Outcome State Fault Refusal := .next (s.tapSelect 1)

/-- BYPASS (R453): at all times. -/
def execBypass (s : State) : Host.Outcome State Fault Refusal := .next (s.tapSelect 2)

/-- EXTEST (R453): after a debug unlock. -/
def execExtest (s : State) : Host.Outcome State Fault Refusal := .next (if s.unlocked then s.tapSelect 3 else s)

/-- SAMPLE_PRELOAD (R453): after a debug unlock. -/
def execSamplePreload (s : State) : Host.Outcome State Fault Refusal := .next (if s.unlocked then s.tapSelect 4 else s)

/-- INTERNAL_SCAN (R452, R453): after a debug unlock, with the secrets cleared before the chains are enabled. -/
def execInternalScan (s : State) : Host.Outcome State Fault Refusal :=
  .next (if s.unlocked then s.clearSecrets.tapSelect 5 else s)

/-- SHA-384 of "DEBUG" extends M3. -/
def debugWord : List Byte := [0x44, 0x45, 0x42, 0x55, 0x47]

/-- A token: the debug key x ‖ y, whose SHA-384 the fuses hold, and a signature over SHA-384(UID ‖ nonce) (R453,
log 29). -/
def State.tokenOk (s : State) (token : List Byte) : Bool :=
  !s.sec.debugNonce.isEmpty && token.length == 192 && sha384 (token.take 96) == s.part.debugKeyHash
    && ecdsaVerify (token.take 96) (sha384 (leBytes 8 s.part.uid.toNat ++ s.sec.debugNonce)) (token.drop 96)

/-- Accept a debug unlock. -/
def State.acceptUnlock (s : State) : State :=
  let s1 := (s.clearSecrets.extend 3 (sha384 debugWord)).set Reg.SEC_STATUS.DEBUG_UNLOCKED 1
  { s1 with sec := { s1.sec with debugNonce := [] } }.post Ev.debugUnlocked []

/-- DEBUG_UNLOCK (R453): without a token the device issues its nonce; a token is accepted only in READY with no passage
loaded, or in FAULTED, and ignored otherwise. -/
def execDebugUnlock (token : Option (List Byte)) (s : State) : Host.Outcome State Fault Refusal :=
  .next (match token with
    | none =>
      if s.dev = .off then s
      else
        let x := s.freeBytes 48
        { x.2 with sec := { x.2.sec with debugNonce := x.1, drbg := x.2.sec.drbg + 1 } }.emit (.tapNonce x.1)
    | some t =>
      if (s.dev = .faulted ∨ (s.dev = .ready ∧ s.loaded = false)) ∧ s.tokenOk t = true then s.acceptUnlock else s)

/-! ### The management bus (R476, R477) -/

/-- SETDASA (R476): the static address is 0x20 + SLOT_ID. -/
def execSetdasa (static dyn : BitVec 7) (s : State) : Host.Outcome State Fault Refusal :=
  .next (if s.dev ≠ .off ∧ static.toNat = 0x20 + s.boot.slotId.toNat then { s with i3c := ⟨some dyn⟩ } else s)

/-- ENTDAA (R476): the module without a dynamic address offers the low 48 bits of its UID and takes the address. -/
def execEntdaa (dyn : BitVec 7) (s : State) : Host.Outcome State Fault Refusal :=
  .next (if s.dev ≠ .off ∧ s.i3c.dynamicAddr = none then
    { s with i3c := ⟨some dyn⟩ }.emit (.busData (beBytes 6 s.part.uid.toNat)) else s)

/-- A management register as a read finds it (Table 15-7). -/
def State.mgView (s : State) (index : Nat) : Nat :=
  if index = 0x00 then s.dev.code * 2 ^ 16 + s.part.variant.code
  else if index = 0x04 then s.get Reg.MG_POWER.POWER_W * 2 ^ 16 + s.get Reg.HELM_IN_STATUS.VIN
  else if index = 0x08 then s.hold.alert.toNat
  else if index = 0x18 then
    s.get Reg.MG_INPUTS.BAD_READINGS * 2 ^ 24 + s.get Reg.MG_INPUTS.BAD_FRAMES * 2 ^ 16 + s.get Reg.HELM_LIMITS.BUDGET_W
  else if index = 0x1C then s.part.uid.toNat % 2 ^ 32
  else if index = 0x20 then s.part.uid.toNat / 2 ^ 32
  else 0

/-- A byte of the management registers. -/
def State.mgByte (s : State) (i : Nat) : Byte := BitVec.ofNat 8 (s.mgView (i / 4 * 4) / 2 ^ (8 * (i % 4)))

/-- A private read of `len` bytes from an index; a read that returns the byte of an RC field clears it. -/
def State.mgRead (s : State) (index len : Nat) : State :=
  let covers := fun b => decide (index ≤ b) && decide (b < index + len)
  let s1 := s.emit (.busData ((List.range len).map (fun i => s.mgByte (index + i))))
  let s2 := if covers 0x1B then s1.set Reg.MG_INPUTS.BAD_READINGS 0 else s1
  if covers 0x1A then s2.set Reg.MG_INPUTS.BAD_FRAMES 0 else s2

/-- MG_REGISTER_READ (R476). -/
def execMgRegisterRead (index : Byte) (len : Nat) (s : State) : Host.Outcome State Fault Refusal :=
  .next (if s.dev = .off then s else s.mgRead index.toNat len)

end Sys2Proof.Machine
end

