-- ==== Sys2Proof/Machine/Dispatch.lean ====
section
/-! DEFINITION. The effect of one command: one arm per constructor of `Instr`, each one call of its meaning. -/

namespace Sys2Proof.Machine

/-- The command's effect on everything but the queue (spec/95_what_each_step_holds.md). -/
def exec (i : Instr) (s : State) : Host.Outcome State Fault Refusal :=
  match i with
  | .regReadLowHalf who win reg => Sys2Proof.Machine.execRegReadLowHalf who win reg s
  | .regReadHighHalf who win reg => Sys2Proof.Machine.execRegReadHighHalf who win reg s
  | .regReadFullWidth who win reg => Sys2Proof.Machine.execRegReadFullWidth who win reg s
  | .regReadUnaligned who win off width => Sys2Proof.Machine.execRegReadUnaligned who win off width s
  | .regWrite who win off width value poisoned => Sys2Proof.Machine.execRegWrite who win off width value poisoned s
  | .numFfValidClear unit => Sys2Proof.Machine.execNumFfValidClear unit s
  | .numClearAllFlags flags => Sys2Proof.Machine.execNumClearAllFlags flags s
  | .numClearAllRecords => Sys2Proof.Machine.execNumClearAllRecords s
  | .numSrProbeWrite probe value => Sys2Proof.Machine.execNumSrProbeWrite probe value s
  | .sndClearPromotion => Sys2Proof.Machine.execSndClearPromotion s
  | .sndClearTensor tensor => Sys2Proof.Machine.execSndClearTensor tensor s
  | .sndClearAllTensors => Sys2Proof.Machine.execSndClearAllTensors s
  | .chtIndexWrite index => Sys2Proof.Machine.execChtIndexWrite index s
  | .kntAdvance knot amount => Sys2Proof.Machine.execKntAdvance knot amount s
  | .kntIntegrityClear => Sys2Proof.Machine.execKntIntegrityClear s
  | .fabRouteCommit => Sys2Proof.Machine.execFabRouteCommit s
  | .fabRouteCopy => Sys2Proof.Machine.execFabRouteCopy s
  | .helmInMinRearm => Sys2Proof.Machine.execHelmInMinRearm s
  | .helmRgnVminRearm region => Sys2Proof.Machine.execHelmRgnVminRearm region s
  | .helmCapWrite value => Sys2Proof.Machine.execHelmCapWrite value s
  | .helmSensorSuspectClear sensor => Sys2Proof.Machine.execHelmSensorSuspectClear sensor s
  | .mbxEnable m cfg => Sys2Proof.Machine.execMbxEnable m cfg s
  | .mbxDisable m cfg => Sys2Proof.Machine.execMbxDisable m cfg s
  | .mbxSqDoorbell m tail => Sys2Proof.Machine.execMbxSqDoorbell m tail s
  | .mbxCqHeadWrite m head => Sys2Proof.Machine.execMbxCqHeadWrite m head s
  | .mbxErrorClear m => Sys2Proof.Machine.execMbxErrorClear m s
  | .commandFetch fetch => Sys2Proof.Machine.execCommandFetch fetch s
  | .completionWrite m failed => Sys2Proof.Machine.execCompletionWrite m failed s
  | .evtRingEnable cfg => Sys2Proof.Machine.execEvtRingEnable cfg s
  | .evtRingHeadWrite head => Sys2Proof.Machine.execEvtRingHeadWrite head s
  | .evtIntEnable => Sys2Proof.Machine.execEvtIntEnable s
  | .eventRecordWrite failed => Sys2Proof.Machine.execEventRecordWrite failed s
  | .eventInterruptHoldoff => Sys2Proof.Machine.execEventInterruptHoldoff s
  | .msixVectorUnmask vector => Sys2Proof.Machine.execMsixVectorUnmask vector s
  | .capStopRecClear => Sys2Proof.Machine.execCapStopRecClear s
  | .bar4Read off len => Sys2Proof.Machine.execBar4Read off len s
  | .bar4Write off bytes poisoned => Sys2Proof.Machine.execBar4Write off bytes poisoned s
  | .nop c => Sys2Proof.Machine.execNop c s
  | .identGet c => Sys2Proof.Machine.execIdentGet c s
  | .measureGet c => Sys2Proof.Machine.execMeasureGet c s
  | .store c => Sys2Proof.Machine.execStore c s
  | .fwUpdate c => Sys2Proof.Machine.execFwUpdate c s
  | .deviceReset c => Sys2Proof.Machine.execDeviceReset c s
  | .deviceRecover c => Sys2Proof.Machine.execDeviceRecover c s
  | .bistRun c => Sys2Proof.Machine.execBistRun c s
  | .unitRetire c => Sys2Proof.Machine.execUnitRetire c s
  | .unitRetireRemoval c => Sys2Proof.Machine.execUnitRetireRemoval c s
  | .passageLoad c => Sys2Proof.Machine.execPassageLoad c s
  | .passageUnload c => Sys2Proof.Machine.execPassageUnload c s
  | .passageArm c => Sys2Proof.Machine.execPassageArm c s
  | .stepRun c => Sys2Proof.Machine.execStepRun c s
  | .stepStop c => Sys2Proof.Machine.execStepStop c s
  | .stepHold c => Sys2Proof.Machine.execStepHold c s
  | .stepResume c => Sys2Proof.Machine.execStepResume c s
  | .stepAbort c => Sys2Proof.Machine.execStepAbort c s
  | .passageDisarm c => Sys2Proof.Machine.execPassageDisarm c s
  | .dutySet c => Sys2Proof.Machine.execDutySet c s
  | .hostmapSet c => Sys2Proof.Machine.execHostmapSet c s
  | .updClipSet c => Sys2Proof.Machine.execUpdClipSet c s
  | .rungSet c => Sys2Proof.Machine.execRungSet c s
  | .historyRead c => Sys2Proof.Machine.execHistoryRead c s
  | .historyWrite c => Sys2Proof.Machine.execHistoryWrite c s
  | .snapshotRequest c => Sys2Proof.Machine.execSnapshotRequest c s
  | .snapshotAbort c => Sys2Proof.Machine.execSnapshotAbort c s
  | .restoreComplete c => Sys2Proof.Machine.execRestoreComplete c s
  | .fabricReleaseId c => Sys2Proof.Machine.execFabricReleaseId c s
  | .twinCarry c => Sys2Proof.Machine.execTwinCarry c s
  | .twinHandover c => Sys2Proof.Machine.execTwinHandover c s
  | .twinRelease c => Sys2Proof.Machine.execTwinRelease c s
  | .twinDetach c => Sys2Proof.Machine.execTwinDetach c s
  | .perstAssert => Sys2Proof.Machine.execPerstAssert s
  | .perstDeassert => Sys2Proof.Machine.execPerstDeassert s
  | .pcieLinkUp gen width => Sys2Proof.Machine.execPcieLinkUp gen width s
  | .d3hotEntry => Sys2Proof.Machine.execD3hotEntry s
  | .d0Return => Sys2Proof.Machine.execD0Return s
  | .busMasterEnableChange enable => Sys2Proof.Machine.execBusMasterEnableChange enable s
  | .hostTransferTimeout offload => Sys2Proof.Machine.execHostTransferTimeout offload s
  | .pcieCompletionError access => Sys2Proof.Machine.execPcieCompletionError access s
  | .getVersion => Sys2Proof.Machine.execGetVersion s
  | .getCapabilities => Sys2Proof.Machine.execGetCapabilities s
  | .negotiateAlgorithms => Sys2Proof.Machine.execNegotiateAlgorithms s
  | .getDigests => Sys2Proof.Machine.execGetDigests s
  | .getCertificate offset len => Sys2Proof.Machine.execGetCertificate offset len s
  | .challenge transcript => Sys2Proof.Machine.execChallenge transcript s
  | .getMeasurements signed index transcript => Sys2Proof.Machine.execGetMeasurements signed index transcript s
  | .spdmUnsupportedRequest code => Sys2Proof.Machine.execSpdmUnsupportedRequest code s
  | .idcode => Sys2Proof.Machine.execIdcode s
  | .bypass => Sys2Proof.Machine.execBypass s
  | .extest => Sys2Proof.Machine.execExtest s
  | .samplePreload => Sys2Proof.Machine.execSamplePreload s
  | .internalScan => Sys2Proof.Machine.execInternalScan s
  | .debugUnlock token => Sys2Proof.Machine.execDebugUnlock token s
  | .setdasa static dyn => Sys2Proof.Machine.execSetdasa static dyn s
  | .entdaa dyn => Sys2Proof.Machine.execEntdaa dyn s
  | .mgRegisterRead index len => Sys2Proof.Machine.execMgRegisterRead index len s
  | .mgAlertClear mask => Sys2Proof.Machine.execMgAlertClear mask s
  | .mgCoolantWrite index bytes => Sys2Proof.Machine.execMgCoolantWrite index bytes s
  | .coolantHoldEnd => Sys2Proof.Machine.execCoolantHoldEnd s
  | .coolantDataLost => Sys2Proof.Machine.execCoolantDataLost s
  | .budgetFrame frame => Sys2Proof.Machine.execBudgetFrame frame s
  | .budgetLost => Sys2Proof.Machine.execBudgetLost s
  | .twPresentRelease => Sys2Proof.Machine.execTwPresentRelease s
  | .powerUp => Sys2Proof.Machine.execPowerUp s
  | .busInRegulation => Sys2Proof.Machine.execBusInRegulation s
  | .bootEntry slotId => Sys2Proof.Machine.execBootEntry slotId s
  | .bootRomVerify => Sys2Proof.Machine.execBootRomVerify s
  | .vtableRead => Sys2Proof.Machine.execVtableRead s
  | .bridgeTrainingDone bridge ok => Sys2Proof.Machine.execBridgeTrainingDone bridge ok s
  | .stackTrainingDone stack ok => Sys2Proof.Machine.execStackTrainingDone stack ok s
  | .settingsLoad => Sys2Proof.Machine.execSettingsLoad s
  | .bistBatchComplete die failedCores failedClusters failedUncore => Sys2Proof.Machine.execBistBatchComplete die failedCores failedClusters failedUncore s
  | .memoryBistComplete hbm faults => Sys2Proof.Machine.execMemoryBistComplete hbm faults s
  | .bistConditionLost condition => Sys2Proof.Machine.execBistConditionLost condition s
  | .coreNumbering => Sys2Proof.Machine.execCoreNumbering s
  | .readyEntry => Sys2Proof.Machine.execReadyEntry s
  | .holdupReadyTimeout => Sys2Proof.Machine.execHoldupReadyTimeout s
  | .holdupBankReady vbank => Sys2Proof.Machine.execHoldupBankReady vbank s
  | .holdupBankLow vbank => Sys2Proof.Machine.execHoldupBankLow vbank s
  | .undervoltageTimerStart vin => Sys2Proof.Machine.execUndervoltageTimerStart vin s
  | .undervoltageTimerReset => Sys2Proof.Machine.execUndervoltageTimerReset s
  | .undervoltageTimerExpiry vin vbank => Sys2Proof.Machine.execUndervoltageTimerExpiry vin vbank s
  | .inputBelow48v vin vbank => Sys2Proof.Machine.execInputBelow48v vin vbank s
  | .inputAbove80v vin => Sys2Proof.Machine.execInputAbove80v vin s
  | .inputAbove84v vin vbank => Sys2Proof.Machine.execInputAbove84v vin vbank s
  | .preReadyInputLoss => Sys2Proof.Machine.execPreReadyInputLoss s
  | .stopAnnounce => Sys2Proof.Machine.execStopAnnounce s
  | .stopRegionsOff => Sys2Proof.Machine.execStopRegionsOff s
  | .stopRecordWritten => Sys2Proof.Machine.execStopRecordWritten s
  | .stopHubOff => Sys2Proof.Machine.execStopHubOff s
  | .stopComplete => Sys2Proof.Machine.execStopComplete s
  | .inputRemoval => Sys2Proof.Machine.execInputRemoval s
  | .stageaCellFault cell vin vbank => Sys2Proof.Machine.execStageaCellFault cell vin vbank s
  | .stageaOverloadTimeout cells vin vbank => Sys2Proof.Machine.execStageaOverloadTimeout cells vin vbank s
  | .phaseFailure region phase cause => Sys2Proof.Machine.execPhaseFailure region phase cause s
  | .regionClamp region => Sys2Proof.Machine.execRegionClamp region s
  | .clampRelease region => Sys2Proof.Machine.execClampRelease region s
  | .clampRestoreStep region => Sys2Proof.Machine.execClampRestoreStep region s
  | .clampTimeout region => Sys2Proof.Machine.execClampTimeout region s
  | .railOvervoltage region => Sys2Proof.Machine.execRailOvervoltage region s
  | .droopSkipStart region => Sys2Proof.Machine.execDroopSkipStart region s
  | .droopSkipEnd region => Sys2Proof.Machine.execDroopSkipEnd region s
  | .regionEnableRequest region => Sys2Proof.Machine.execRegionEnableRequest region s
  | .regionDeferEnd region => Sys2Proof.Machine.execRegionDeferEnd region s
  | .softStartStep region => Sys2Proof.Machine.execSoftStartStep region s
  | .fastLoopUpdate sample => Sys2Proof.Machine.execFastLoopUpdate sample s
  | .coreActivityUpdate core sample => Sys2Proof.Machine.execCoreActivityUpdate core sample s
  | .slowLoopPeriod sample => Sys2Proof.Machine.execSlowLoopPeriod sample s
  | .operatingPointChange cluster => Sys2Proof.Machine.execOperatingPointChange cluster s
  | .eclkChange cluster => Sys2Proof.Machine.execEclkChange cluster s
  | .reckoningInterval sample => Sys2Proof.Machine.execReckoningInterval sample s
  | .sensorPairDisagreement sensor => Sys2Proof.Machine.execSensorPairDisagreement sensor s
  | .hardwareTrip sensor temp => Sys2Proof.Machine.execHardwareTrip sensor temp s
  | .stepStart r => Sys2Proof.Machine.execStepStart r s
  | .assignmentDone r => Sys2Proof.Machine.execAssignmentDone r s
  | .replicaCopy entry cluster => Sys2Proof.Machine.execReplicaCopy entry cluster s
  | .tokenMessage r unit msg => Sys2Proof.Machine.execTokenMessage r unit msg s
  | .creditMessage r unit msg => Sys2Proof.Machine.execCreditMessage r unit msg s
  | .stagingGrant r unit msg => Sys2Proof.Machine.execStagingGrant r unit msg s
  | .verdictTokenRelease r unit msg => Sys2Proof.Machine.execVerdictTokenRelease r unit msg s
  | .forwardProduct r core => Sys2Proof.Machine.execForwardProduct r core s
  | .gEngineTileChoice r core => Sys2Proof.Machine.execGEngineTileChoice r core s
  | .vProgram r core => Sys2Proof.Machine.execVProgram r core s
  | .vComposite r core => Sys2Proof.Machine.execVComposite r core s
  | .rowChunkCombine r leg => Sys2Proof.Machine.execRowChunkCombine r leg s
  | .copy r leg dma => Sys2Proof.Machine.execCopy r leg dma s
  | .transposedCopy r leg dma => Sys2Proof.Machine.execTransposedCopy r leg dma s
  | .reBlockedCopy r leg dma => Sys2Proof.Machine.execReBlockedCopy r leg dma s
  | .partialFold r leg => Sys2Proof.Machine.execPartialFold r leg s
  | .tileIssueEnd r core g => Sys2Proof.Machine.execTileIssueEnd r core g s
  | .chunkResultArrival r leg tile => Sys2Proof.Machine.execChunkResultArrival r leg tile s
  | .tileConvert r leg tile => Sys2Proof.Machine.execTileConvert r leg tile s
  | .tileCommit r leg tile => Sys2Proof.Machine.execTileCommit r leg tile s
  | .legFinish r leg => Sys2Proof.Machine.execLegFinish r leg s
  | .pilotRequest r leg slot => Sys2Proof.Machine.execPilotRequest r leg slot s
  | .pilotReply r leg slot tile remote => Sys2Proof.Machine.execPilotReply r leg slot tile remote s
  | .soundingsPartial r tensor tile => Sys2Proof.Machine.execSoundingsPartial r tensor tile s
  | .sightCheck r tensor tile => Sys2Proof.Machine.execSightCheck r tensor tile s
  | .tileRepeat r tensor tile => Sys2Proof.Machine.execTileRepeat r tensor tile s
  | .updatePass1 r leg tile => Sys2Proof.Machine.execUpdatePass1 r leg tile s
  | .updatePass2 r leg tile => Sys2Proof.Machine.execUpdatePass2 r leg tile s
  | .paramEntryReread r => Sys2Proof.Machine.execParamEntryReread r s
  | .contributionLeg r leg tile => Sys2Proof.Machine.execContributionLeg r leg tile s
  | .redPartial p => Sys2Proof.Machine.execRedPartial p s
  | .reductionSpill r collective tile => Sys2Proof.Machine.execReductionSpill r collective tile s
  | .redResult p => Sys2Proof.Machine.execRedResult p s
  | .rendezvous r leg => Sys2Proof.Machine.execRendezvous r leg s
  | .rendezvousArrivalsComplete r collective => Sys2Proof.Machine.execRendezvousArrivalsComplete r collective s
  | .rdvArrive p => Sys2Proof.Machine.execRdvArrive p s
  | .rdvRelease p => Sys2Proof.Machine.execRdvRelease p s
  | .restoreShipmentLanded shipment => Sys2Proof.Machine.execRestoreShipmentLanded shipment s
  | .collectiveStalled r collective => Sys2Proof.Machine.execCollectiveStalled r collective s
  | .snapshotShipTile => Sys2Proof.Machine.execSnapshotShipTile s
  | .reserveSlotFreed => Sys2Proof.Machine.execReserveSlotFreed s
  | .snapshotFooter => Sys2Proof.Machine.execSnapshotFooter s
  | .offloadShip r group => Sys2Proof.Machine.execOffloadShip r group s
  | .offloadConfirm r group => Sys2Proof.Machine.execOffloadConfirm r group s
  | .offloadFetch r group => Sys2Proof.Machine.execOffloadFetch r group s
  | .offloadFetchDone r group shipment => Sys2Proof.Machine.execOffloadFetchDone r group shipment s
  | .baseStackRebuild => Sys2Proof.Machine.execBaseStackRebuild s
  | .eccCorrected site => Sys2Proof.Machine.execEccCorrected site s
  | .eccUncorrectable site => Sys2Proof.Machine.execEccUncorrectable site s
  | .binnacleSramError addr => Sys2Proof.Machine.execBinnacleSramError addr s
  | .softRepairEffect repair => Sys2Proof.Machine.execSoftRepairEffect repair s
  | .hbmScrub stack found => Sys2Proof.Machine.execHbmScrub stack found s
  | .sliceScrub slice found => Sys2Proof.Machine.execSliceScrub slice found s
  | .linkTrainingDone port failed reversed polarity => Sys2Proof.Machine.execLinkTrainingDone port failed reversed polarity s
  | .alignmentAcquired port => Sys2Proof.Machine.execAlignmentAcquired port s
  | .alignmentLoss port => Sys2Proof.Machine.execAlignmentLoss port s
  | .codewordReceive port cw => Sys2Proof.Machine.execCodewordReceive port cw s
  | .retrainDone port ok => Sys2Proof.Machine.execRetrainDone port ok s
  | .alignmentLossTimeout port => Sys2Proof.Machine.execAlignmentLossTimeout port s
  | .trainingTimeout port => Sys2Proof.Machine.execTrainingTimeout port s
  | .flapHoldExpiry port => Sys2Proof.Machine.execFlapHoldExpiry port s
  | .routerHop n => Sys2Proof.Machine.execRouterHop n s
  | .unroutableHoldTimeout n => Sys2Proof.Machine.execUnroutableHoldTimeout n s
  | .write p => Sys2Proof.Machine.execWrite p s
  | .readReq p => Sys2Proof.Machine.execReadReq p s
  | .readResp p => Sys2Proof.Machine.execReadResp p s
  | .ack p => Sys2Proof.Machine.execAck p s
  | .signal p => Sys2Proof.Machine.execSignal p s
  | .pace p => Sys2Proof.Machine.execPace p s
  | .sight port msg => Sys2Proof.Machine.execSight port msg s
  | .time stamps => Sys2Proof.Machine.execTime stamps s
  | .twin msg => Sys2Proof.Machine.execTwin msg s
  | .mgmt src msg => Sys2Proof.Machine.execMgmt src msg s
  | .badPacketType p => Sys2Proof.Machine.execBadPacketType p s
  | .ackSendTimer src => Sys2Proof.Machine.execAckSendTimer src s
  | .ackTimeout dest => Sys2Proof.Machine.execAckTimeout dest s
  | .readTimeout tag => Sys2Proof.Machine.execReadTimeout tag s
  | .sightingRecordSend => Sys2Proof.Machine.execSightingRecordSend s
  | .sightingDeparture uid => Sys2Proof.Machine.execSightingDeparture uid s
  | .sightingQuiet => Sys2Proof.Machine.execSightingQuiet s
  | .routeCompute => Sys2Proof.Machine.execRouteCompute s
  | .timeExchange => Sys2Proof.Machine.execTimeExchange s
  | .dtimeSlew => Sys2Proof.Machine.execDtimeSlew s
  | .twinHeartbeat => Sys2Proof.Machine.execTwinHeartbeat s
  | .twinSilence => Sys2Proof.Machine.execTwinSilence s
  | .mirrorAck whole step => Sys2Proof.Machine.execMirrorAck whole step s
  | .mirrorComputation => Sys2Proof.Machine.execMirrorComputation s
  | .seedComplete => Sys2Proof.Machine.execSeedComplete s
  | .handoverShipmentDone ok => Sys2Proof.Machine.execHandoverShipmentDone ok s
  | .frwGo value => Sys2Proof.Machine.execFrwGo value s
  | .forerunnerJobDone => Sys2Proof.Machine.execForerunnerJobDone s
  | .pcieLinkDown => Sys2Proof.Machine.execPcieLinkDown s
  | .railSample region mv lag => Sys2Proof.Machine.execRailSample region mv lag s
  | .sensorSample sensor reading => Sys2Proof.Machine.execSensorSample sensor reading s
  | .commandEnd m => Sys2Proof.Machine.execCommandEnd m s
  | .settlementComplete r => Sys2Proof.Machine.execSettlementComplete r s

end Sys2Proof.Machine
end

