-- ==== Sys2Proof/Safety.lean ====
section
/-! DEFINITION. What counts as a safe run: the stores keep their canonical form, and the device state that registers
show is one of Table 13-4's. -/

namespace Sys2Proof.Safety

open Sys2Proof.Machine

/-- The register file, the knots and the module memory are in canonical form (R16, R257, log 9). -/
def storesCanonical (s : State) : Bool :=
  sparseWf (fun k => regReset s.part k) s.regs && sparseWf (fun _ => (0 : W64)) s.knots && sparseWf (fun _ => (0 : Byte)) s.mem

/-- A step that stops for want of a meaning: none does. -/
def stops (o : Host.Outcome State Fault Refusal) : Bool :=
  match o with
  | .next _ => false
  | _ => true

end Sys2Proof.Safety
end

