-- ==== Sys2Proof/WellFormed.lean ====
section
/-! DEFINITION. The commands that can be sent: the conditions on operands that their types leave open. -/

namespace Sys2Proof

/-- Whether an access of a width at an offset is aligned (R17). -/
def Width.aligned (w : Width) (off : Nat) : Bool :=
  match w with
  | .w8 => true
  | .w16 => decide (off % 2 = 0)
  | .w32 => decide (off % 4 = 0)
  | .w64 => decide (off % 8 = 0)

/-- A packet is of the type that its command names (Table 9-4). -/
def Packet.isType (p : Packet) (n : Nat) : Bool := decide (p.ptype.toNat = n)

/-- Operands within what the command's rule allows; every other command is well formed as its types say. -/
def Instr.wf : Instr → Bool
  | .regReadUnaligned _ _ off w => w == .w8 || w == .w16 || !w.aligned off.toNat
  | .mbxEnable _ cfg => cfg.getLsbD 63
  | .mbxDisable _ cfg => !cfg.getLsbD 63
  | .evtRingEnable cfg => cfg.getLsbD 63
  | .bar4Read off len => decide (0 < len) && decide (off.toNat + len ≤ 2 ^ 39)
  | .bar4Write off bytes _ => decide (bytes ≠ []) && decide (off.toNat + bytes.length ≤ 2 ^ 39)
  | .unitRetire c => !c.a0.getLsbD 32
  | .unitRetireRemoval c => c.a0.getLsbD 32
  | .mgRegisterRead _ len => decide (0 < len)
  | .bistBatchComplete _ cores clusters _ => decide cores.Nodup && decide clusters.Nodup
  | .write p => p.isType 0
  | .readReq p => p.isType 1
  | .readResp p => p.isType 2
  | .ack p => p.isType 3
  | .signal p => p.isType 4
  | .rdvArrive p => p.isType 5
  | .rdvRelease p => p.isType 6
  | .redPartial p => p.isType 7
  | .redResult p => p.isType 8
  | .pace p => p.isType 9
  | .badPacketType p => decide (14 ≤ p.ptype.toNat)
  | _ => true

end Sys2Proof
end

