-- ==== Sys2Proof/Certificates/Slice0/Obligations.lean ====
section
/-! DEFINITION. The statements for the provers. Each clause says that a command answers a next state, what that state holds by the
rule it cites, and what stays as it was; the obligations gather the clauses of a family of commands. -/

open Sys2Proof Sys2Proof.Machine

namespace Sys2Proof.Claims

/-! ### How the clauses speak -/

/-- The command answers a next state, and that state has the property. -/
def runs (c : Instr) (s : State) (P : State → Prop) : Prop := ∃ t, exec c s = .next t ∧ P t

/-- Every register but those at the keys listed reads as before. -/
def regsKept (ks : List Nat) (s t : State) : Prop := ∀ k, k ∉ ks → t.rd k = s.rd k

/-- Every byte of module memory outside `n` bytes from `a` reads as before. -/
def bytesKeptBut (a n : Nat) (s t : State) : Prop := ∀ j, (j < a ∨ a + n ≤ j) → t.readByte j = s.readByte j

/-- Every byte of module memory reads as before. -/
def bytesKept (s t : State) : Prop := ∀ j, t.readByte j = s.readByte j

/-- Nothing but the register file changes. -/
abbrev onlyRegs (s t : State) : Prop := { t with regs := s.regs } = s

/-- Nothing but registers and what posting an event reaches changes: the event unit, the alerts and pins, the outputs. -/
abbrev onlyEvents (s t : State) : Prop := { t with regs := s.regs, evt := s.evt, hold := s.hold, out := s.out } = s

/-- The registers that posting an event writes. -/
def evtKeys : List Nat := [Reg.EVT_STATUS.MASKED.reg]

/-- One event has been posted with these arguments: SEQ has counted it, and unless its code is masked or the queue is full it is the
last record queued. -/
abbrev posted (e : EventKind) (args : List Nat) (s t : State) : Prop :=
  t.evt.seq = s.evt.seq + 1 ∧
    ((e.severity = .fatal ∨ s.eventMasked e.code = false) → s.evt.queue.length < 4096 →
      t.evt.queue.dropLast = s.evt.queue ∧
        (t.evt.queue.getLast?.map fun r => (r.code, r.severity, r.args, r.dtime)) =
          some (e.code, e.severity.code, args.map (BitVec.ofNat 64), BitVec.ofNat 64 s.dtime))

/-- The module memory, the knots and the bad transfers are as before. -/
abbrev storesKept (s t : State) : Prop := t.mem = s.mem ∧ t.knots = s.knots ∧ t.badLines = s.badLines

end Sys2Proof.Claims

/-! ### The queue, the clock and reset -/

/-- Each of the 248 commands of the table answers a next state, at every operand and in every state: none stops the
module. What that state is, each command's own statement says. (95_what_each_step_holds.md) -/
def Obligations.EveryCommandCompletes : Prop :=
  ∀ (c : Instr) (s : State), ∃ t, exec c s = .next t

/-- For every command c and every state with c at the front of its queue, one step is exec of c on that state with the
queue's rest. (95_what_each_step_holds.md) -/
def Obligations.StepRunsQueueFront : Prop :=
  ∀ (c : Instr) (rest : List Instr) (s : State), s.pending = c :: rest → step s = exec c { s with pending := rest }

namespace Sys2Proof.Claims

/-- On an empty queue a step is one BCLK tick: DTIME is one higher in every state except OFF, and what is on its way through the module
moves on (R43, R47; log 1). -/
def idleStep : Prop :=
  ∀ (s : State), s.pending = [] →
    step s = .next (if s.dev = .off then s else { s with dtime := s.dtime + 1, flights := moveFlights s.flights })

/-- A control message without the places still before it. -/
def bare_ (f : Flight) : Flight := { f with ways := [] }

/-- Moving on loses no control message, makes none, and takes no crossing past its depth (R43). -/
def crossingsKeep : Prop :=
  ∀ (fs : List Flight) (p : Place) (v : Vc),
    (∀ f, ((moveFlights fs).map bare_).count f = (fs.map bare_).count f) ∧
    (∀ n, p.depth = some n → (queueAt (moveFlights fs) p v).length ≤ max n (queueAt fs p v).length)

/-- A message moves only from the front of where it waits, by one place, to the back of what waits there (R39, R40, R43). -/
def moveInOrder : Prop :=
  ∀ (fs : List Flight) (f : Flight), moveFlight fs f ≠ fs →
    f.ways ≠ [] ∧ (queueAt fs (f.ways.headD .crossbar) f.vc).head? = some f ∧ moveFlight fs f = fs.erase f ++ [{ f with ways := f.ways.drop 1 }]

end Sys2Proof.Claims

/-- On an empty queue a step answers the same state with DTIME one higher and the control messages moved on, and in
OFF the same state. Moving on loses no message and makes none, takes each from the front of where it waits, one place
on, and takes no crossing past its depth. That an idle step is one tick and moves what is on its way is the model's
choice (logs 1 and 100); that DTIME counts each BCLK cycle in every state except OFF is R47. (R39, R40, R43, R47) -/
def Obligations.IdleStepIsOneTick : Prop :=
  Claims.idleStep ∧ Claims.crossingsKeep ∧ Claims.moveInOrder

/-- Right after reset the module is in BOOT with nothing queued, DTIME 0 and every knot 0, every register at its Reset
column (those set at boot or not given: logs 5 and 7, the model's choice), module memory reading zero (log 9), no
passage, no step, no event queued, and FRW_ID at 2. (R21, R48, R434) -/
def Obligations.ResetLeavesBoot : Prop :=
  State.reset.dev = .boot ∧ State.reset.pending = [] ∧ State.reset.dtime = 0 ∧
    (∀ k, State.reset.knot k = 0) ∧ (∀ k, State.reset.rd k = regReset State.reset.part k) ∧
    (∀ a, State.reset.readByte a = 0) ∧ State.reset.role.passage = none ∧ State.reset.role.inStep = false ∧
    State.reset.evt.queue = [] ∧ State.reset.get Reg.FRW_ID.ID = 2 ∧ State.reset.get Reg.CAP_STATE.STATE = 1 ∧
    State.reset.rd Reg.CAP_DTIME.DTIME.reg = 0

/-! ### Register accesses -/

namespace Sys2Proof.Claims

/-- A 32-bit read of a low half (R17). -/
def regReadLowHalf : Prop :=
  ∀ (who : Requester) (reg : BitVec 29) (s : State), s.arrives who = true → s.readServed who (8 * reg.toNat) = true →
    runs (.regReadLowHalf who .bar0 reg) s fun t =>
      t.out = .readData who (lowerBits (s.view (8 * reg.toNat))) :: s.out ∧
      t.shadow who = some ⟨8 * reg.toNat, (upperBits (s.view (8 * reg.toNat))).setWidth 32⟩ ∧
      t.rd (8 * reg.toNat) = s.rd (8 * reg.toNat) &&& ~~~(rcMask (8 * reg.toNat) 0) ∧
      regsKept [8 * reg.toNat] s t ∧
      (∀ other, other ≠ who → t.shadow other = s.shadow other) ∧
      { t with regs := s.regs, out := s.out, hostShadow := s.hostShadow, binnacleShadow := s.binnacleShadow } = s

/-- A 32-bit read of a high half with the shadow of that register returns it and clears nothing (R17). -/
def regReadHighHalfShadowed : Prop :=
  ∀ (who : Requester) (reg : BitVec 29) (s : State) (x : Shadow), s.arrives who = true → s.shadow who = some x →
    x.key = 8 * reg.toNat →
    runs (.regReadHighHalf who .bar0 reg) s fun t =>
      t.out = .readData who (x.high.setWidth 64) :: s.out ∧ t.shadow who = none ∧
      (∀ other, other ≠ who → t.shadow other = s.shadow other) ∧
      { t with out := s.out, hostShadow := s.hostShadow, binnacleShadow := s.binnacleShadow } = s

/-- A 32-bit read of a high half without that register's shadow returns the current half, clears the RC fields that lie
wholly in it, and uses up whatever shadow was held (R17). -/
def regReadHighHalfCurrent : Prop :=
  ∀ (who : Requester) (reg : BitVec 29) (s : State), s.arrives who = true → s.readServed who (8 * reg.toNat) = true →
    (∀ x, s.shadow who = some x → x.key ≠ 8 * reg.toNat) →
    runs (.regReadHighHalf who .bar0 reg) s fun t =>
      t.out = .readData who (upperBits (s.view (8 * reg.toNat))) :: s.out ∧ t.shadow who = none ∧
      t.rd (8 * reg.toNat) = s.rd (8 * reg.toNat) &&& ~~~(rcMask (8 * reg.toNat) 32) ∧
      regsKept [8 * reg.toNat] s t ∧
      { t with regs := s.regs, out := s.out, hostShadow := s.hostShadow, binnacleShadow := s.binnacleShadow } = s

/-- A 64-bit read returns the whole register, clears its RC fields and touches no shadow (R17). -/
def regReadFullWidth : Prop :=
  ∀ (who : Requester) (reg : BitVec 29) (s : State), s.arrives who = true → s.readServed who (8 * reg.toNat) = true →
    runs (.regReadFullWidth who .bar0 reg) s fun t =>
      t.out = .readData who (s.view (8 * reg.toNat)) :: s.out ∧
      t.rd (8 * reg.toNat) = s.rd (8 * reg.toNat) &&& ~~~(rcMask (8 * reg.toNat) 0) ∧
      regsKept [8 * reg.toNat] s t ∧ { t with regs := s.regs, out := s.out } = s

/-- What the read answered last to a requester returned. -/
def readValue (who : Requester) (out : List Out) : List W64 :=
  match out with
  | .readData w v :: _ => if w = who then [v] else []
  | _ => []

/-- A read of 8 or 16 bits returns the addressed bytes, latches and clears nothing (R17). -/
def regReadNarrow : Prop :=
  ∀ (who : Requester) (win : Window) (off : W32) (width : Width) (s : State), s.arrives who = true → width.bytes < 4 →
    runs (.regReadUnaligned who win off width) s fun t =>
      t.out.drop 1 = s.out ∧ (∃ v ∈ readValue who t.out, v.toNat < 256 ^ width.bytes ∧
        ∀ j ∈ List.range width.bytes, v.toNat / 256 ^ j % 256 = s.seenByte who win (off.toNat + j)) ∧
      { t with out := s.out } = s

/-- A misaligned read of 32 or 64 bits returns zero, touches no shadow and no field, and posts BAD_REG_ACCESS with the
offset (R17). -/
def regReadMisaligned : Prop :=
  ∀ (who : Requester) (off : W32) (width : Width) (s : State), s.arrives who = true → 4 ≤ width.bytes →
    off.toNat % width.bytes ≠ 0 → s.readServed who off.toNat = true →
    runs (.regReadUnaligned who .bar0 off width) s fun t =>
      t.out = .readData who 0 :: s.out ∧ posted Ev.badRegAccess [0, off.toNat, 8 * width.bytes] s t ∧
      regsKept evtKeys s t ∧ { t with regs := s.regs, evt := s.evt, out := s.out } = s

/-- In the Forerunner window a low or high half is a 32-bit register and nothing latches; a 64-bit read returns two
adjacent registers (R433). -/
def regReadForerunner : Prop :=
  ∀ (who : Requester) (reg : BitVec 29) (s : State), s.arrives who = true →
    runs (.regReadLowHalf who .bar2 reg) s (fun t =>
      t = s.emit (.readData who (s.view (frwKey (8 * reg.toNat))))) ∧
    runs (.regReadHighHalf who .bar2 reg) s (fun t =>
      t = s.emit (.readData who (s.view (frwKey (8 * reg.toNat + 4))))) ∧
    runs (.regReadFullWidth who .bar2 reg) s (fun t =>
      t = s.emit (.readData who
        (s.view (frwKey (8 * reg.toNat)) ||| (s.view (frwKey (8 * reg.toNat + 4)) <<< 32))))

/-- The registers whose write sets work off beside storing its RW fields, by the offset of the first of each array. -/
def actingRegisters : List Nat :=
  [0x100010, 0x100018, 0x100028, 0x100030, 0x300008, Reg.EVT_RING_CFG.ENABLE.reg, Reg.EVT_RING_HEAD.HEAD.reg,
   (Reg.CAP_STOP_REC.WORD 0).reg, Reg.HELM_CAP.HOST_CAP_W.reg, 0x802000, Reg.HELM_IN_MIN.REARM.reg, 0x809008,
   Reg.NUM_CLEAR_ALL.FLAGS.reg, Reg.NUM_SR_SEED.SEED.reg, Reg.NUM_SR_STEP.STEP.reg, Reg.NUM_SR_INDEX.TID.reg, 0xC10008,
   Reg.SND_CLEAR.PROMOTION.reg, Reg.CHT_INDEX.INDEX.reg, 0x1410000, Reg.KNT_INTEGRITY.VALID.reg, Reg.FAB_NODE.PIN_EN.reg,
   Reg.FAB_CFG.PORT_ENABLE.reg, Reg.FAB_ROUTE_CTL.COMMIT.reg, Reg.TWN_CFG.ENABLE.reg]

/-- An aligned 64-bit write changes each field by its access type, and nothing else (R17, R18). -/
def regWriteWhole : Prop :=
  ∀ (who : Requester) (off : W32) (value : W64) (s : State) (d : RegDesc) (i : Nat), s.arrives who = true →
    s.writeServed who off.toNat = true → off.toNat % 8 = 0 → s.regAbsent off.toNat = false →
    findReg off.toNat regTable = some (d, i) → d.base ∉ actingRegisters → off.toNat ∉ actingRegisters →
    runs (.regWrite who .bar0 off .w64 value false) s fun t =>
      (∀ f ∈ d.fields,
        extractBits (t.rd off.toNat) f.hi f.lo =
          match f.acc with
          | .rw => extractBits value f.hi f.lo
          | .w1c => extractBits (s.rd off.toNat &&& ~~~value) f.hi f.lo
          | .w1s => extractBits (s.rd off.toNat ||| value) f.hi f.lo
          | _ => extractBits (s.rd off.toNat) f.hi f.lo) ∧
      regsKept [off.toNat] s t ∧ onlyRegs s t

/-- An aligned 32-bit write updates the addressed half alone (R17). -/
def regWriteHalf : Prop :=
  ∀ (who : Requester) (off : W32) (value : W64) (s : State) (d : RegDesc) (i : Nat), s.arrives who = true →
    s.writeServed who off.toNat = true → off.toNat % 4 = 0 → s.regAbsent (off.toNat / 8 * 8) = false →
    findReg (off.toNat / 8 * 8) regTable = some (d, i) → d.base ∉ actingRegisters → off.toNat / 8 * 8 ∉ actingRegisters →
    runs (.regWrite who .bar0 off .w32 value false) s fun t =>
      (if off.toNat % 8 = 0 then upperBits (t.rd (off.toNat / 8 * 8)) = upperBits (s.rd (off.toNat / 8 * 8))
        else lowerBits (t.rd (off.toNat / 8 * 8)) = lowerBits (s.rd (off.toNat / 8 * 8))) ∧
      regsKept [off.toNat / 8 * 8] s t ∧ onlyRegs s t

/-- A narrow or misaligned write is discarded, with BAD_REG_ACCESS (R17). -/
def regWriteDiscarded : Prop :=
  ∀ (who : Requester) (off : W32) (width : Width) (value : W64) (s : State), s.arrives who = true →
    s.writeServed who off.toNat = true → s.regAbsent (off.toNat / 8 * 8) = false →
    (width.bytes < 4 ∨ off.toNat % width.bytes ≠ 0) →
    runs (.regWrite who .bar0 off width value false) s fun t =>
      posted Ev.badRegAccess [0, off.toNat, 8 * width.bytes] s t ∧ regsKept evtKeys s t ∧
      { t with regs := s.regs, evt := s.evt } = s

/-- A poisoned write is discarded, with HOST_POISON (R410). -/
def regWritePoisoned : Prop :=
  ∀ (who : Requester) (win : Window) (off : W32) (width : Width) (value : W64) (s : State), s.arrives who = true →
    runs (.regWrite who win off width value true) s fun t =>
      posted Ev.hostPoison [win.bar, off.toNat] s t ∧ regsKept evtKeys s t ∧ { t with regs := s.regs, evt := s.evt } = s

end Sys2Proof.Claims

/-- For a read that is served: a 32-bit low-half read returns the low half, latches the high half in the requester's
shadow and clears every RC field; a 32-bit high-half read returns the shadow of that register and clears nothing, or
the current half and clears the RC fields wholly in it; a 64-bit read returns all and clears every RC field; a narrow
read returns its bytes and latches nothing; a misaligned one returns zero and posts BAD_REG_ACCESS. The other
requester's shadow and everything else stays. In BAR2 nothing latches. (R17, R18, R48, R433) -/
def Obligations.RegisterReads : Prop :=
  Claims.regReadLowHalf ∧ Claims.regReadHighHalfShadowed ∧ Claims.regReadHighHalfCurrent ∧ Claims.regReadFullWidth ∧
    Claims.regReadNarrow ∧ Claims.regReadMisaligned ∧ Claims.regReadForerunner

/-- A served aligned write changes RW fields to the value written, W1C fields lose and W1S fields gain the ones
written, RO, RC and WO fields stay, and no other register or state changes; a 32-bit write leaves the other half; a
narrow or misaligned write is discarded with BAD_REG_ACCESS; a poisoned one with HOST_POISON. Registers whose write
sets work off have rows of their own. (R17, R18, R410) -/
def Obligations.RegisterWrites : Prop :=
  Claims.regWriteWhole ∧ Claims.regWriteHalf ∧ Claims.regWriteDiscarded ∧ Claims.regWritePoisoned

/-! ### Mailboxes, completions and the event ring -/

namespace Sys2Proof.Claims

/-- The BAR0 offset of a mailbox. -/
def mailboxAt (m : Fin 64) : Nat := 0x100000 + 0x40 * m.val

/-- Only the register file, the mailboxes and what posting reaches change. -/
def onlyMailboxes (s t : State) : Prop := { t with regs := s.regs, mbx := s.mbx, evt := s.evt } = s

/-- ENABLE going from 0 to 1 with both depths in 1 to 12 sets SQ_HEAD and CQ_TAIL to 0, starts PHASE at 1 and drops a
completion still held (R416). -/
def mbxEnable : Prop :=
  ∀ (m : Fin 64) (cfg : W64) (s : State), s.hostWrites (mailboxAt m) = true →
    s.flag (Reg.MBX_CFG.ENABLE m.val) = false → 1 ≤ extractBits cfg 7 0 → extractBits cfg 7 0 ≤ 12 →
    1 ≤ extractBits cfg 15 8 → extractBits cfg 15 8 ≤ 12 →
    runs (.mbxEnable m cfg) s fun t =>
      t.flag (Reg.MBX_CFG.ENABLE m.val) = true ∧ t.get (Reg.MBX_CFG.SQ_LOG2 m.val) = extractBits cfg 7 0 ∧
      t.get (Reg.MBX_CFG.CQ_LOG2 m.val) = extractBits cfg 15 8 ∧ t.get (Reg.MBX_CFG.VECTOR m.val) = extractBits cfg 26 16 ∧
      t.get (Reg.MBX_SQ_HEAD.HEAD m.val) = 0 ∧ t.get (Reg.MBX_CQ_TAIL.TAIL m.val) = 0 ∧
      t.mailbox m.val = { s.mailbox m.val with phase := true, held := [] } ∧
      (∀ n, n ≠ m.val → t.mailbox n = s.mailbox n) ∧
      regsKept [(Reg.MBX_CFG.ENABLE m.val).reg, (Reg.MBX_SQ_HEAD.HEAD m.val).reg, (Reg.MBX_CQ_TAIL.TAIL m.val).reg] s t ∧
      { t with regs := s.regs, mbx := s.mbx } = s

/-- A depth outside 1 to 12 when ENABLE is set stops the mailbox with cause 4 (Table 13-5). -/
def mbxEnableBadDepth : Prop :=
  ∀ (m : Fin 64) (cfg : W64) (s : State), s.hostWrites (mailboxAt m) = true →
    s.flag (Reg.MBX_CFG.ENABLE m.val) = false → s.flag (Reg.MBX_STATUS.ERROR m.val) = false →
    (12 < extractBits cfg 7 0 ∨ extractBits cfg 7 0 = 0 ∨ 12 < extractBits cfg 15 8 ∨ extractBits cfg 15 8 = 0) →
    runs (.mbxEnable m cfg) s fun t =>
      t.flag (Reg.MBX_STATUS.ERROR m.val) = true ∧ t.get (Reg.MBX_STATUS.ERR_CAUSE m.val) = 4 ∧
      posted Ev.mailboxError [m.val, 4] s t ∧ onlyMailboxes s t

/-- Clearing ENABLE leaves a started command and a held completion (R416). -/
def mbxDisable : Prop :=
  ∀ (m : Fin 64) (cfg : W64) (s : State), s.hostWrites (mailboxAt m) = true →
    runs (.mbxDisable m cfg) s fun t =>
      t.flag (Reg.MBX_CFG.ENABLE m.val) = false ∧ t.canFetch m.val = false ∧ regsKept [(Reg.MBX_CFG.ENABLE m.val).reg] s t ∧
      onlyRegs s t

/-- A doorbell below the depth is stored (R416). -/
def mbxSqDoorbell : Prop :=
  ∀ (m : Fin 64) (tail : BitVec 12) (s : State), s.hostWrites (mailboxAt m) = true → tail.toNat < s.sqDepth m.val →
    runs (.mbxSqDoorbell m tail) s fun t =>
      t.get (Reg.MBX_SQ_TAIL.TAIL m.val) = tail.toNat ∧ regsKept [(Reg.MBX_SQ_TAIL.TAIL m.val).reg] s t ∧ onlyRegs s t

/-- A doorbell at or beyond the depth stops the mailbox with cause 3; ERR_CAUSE keeps the first cause (R418). -/
def mbxSqDoorbellBeyond : Prop :=
  ∀ (m : Fin 64) (tail : BitVec 12) (s : State), s.hostWrites (mailboxAt m) = true → s.sqDepth m.val ≤ tail.toNat →
    runs (.mbxSqDoorbell m tail) s fun t =>
      t.flag (Reg.MBX_STATUS.ERROR m.val) = true ∧
      (if s.flag (Reg.MBX_STATUS.ERROR m.val) then
        t.get (Reg.MBX_STATUS.ERR_CAUSE m.val) = s.get (Reg.MBX_STATUS.ERR_CAUSE m.val) ∧ t.evt = s.evt
      else t.get (Reg.MBX_STATUS.ERR_CAUSE m.val) = 3 ∧ posted Ev.mailboxError [m.val, 3] s t) ∧
      regsKept ([(Reg.MBX_SQ_TAIL.TAIL m.val).reg, (Reg.MBX_STATUS.ERROR m.val).reg] ++ evtKeys) s t ∧
      { t with regs := s.regs, evt := s.evt } = s

/-- CQ_HEAD is taken as written; at or beyond the depth it is cause 5 (R418). -/
def mbxCqHeadWrite : Prop :=
  ∀ (m : Fin 64) (head : BitVec 12) (s : State), s.hostWrites (mailboxAt m) = true →
    s.flag (Reg.MBX_STATUS.ERROR m.val) = false →
    runs (.mbxCqHeadWrite m head) s fun t =>
      t.get (Reg.MBX_CQ_HEAD.HEAD m.val) = head.toNat ∧
      (if head.toNat < s.cqDepth m.val then onlyRegs s t ∧ regsKept [(Reg.MBX_CQ_HEAD.HEAD m.val).reg] s t
      else t.flag (Reg.MBX_STATUS.ERROR m.val) = true ∧ t.get (Reg.MBX_STATUS.ERR_CAUSE m.val) = 5 ∧
        posted Ev.mailboxError [m.val, 5] s t ∧ { t with regs := s.regs, evt := s.evt } = s)

/-- ERROR is cleared; the mailbox is free to stop again (R418, Table 13-5). -/
def mbxErrorClear : Prop :=
  ∀ (m : Fin 64) (s : State), s.hostWrites (mailboxAt m) = true →
    runs (.mbxErrorClear m) s fun t =>
      t.flag (Reg.MBX_STATUS.ERROR m.val) = false ∧
      t.get (Reg.MBX_STATUS.COMPLETED m.val) = s.get (Reg.MBX_STATUS.COMPLETED m.val) ∧
      regsKept [(Reg.MBX_STATUS.ERROR m.val).reg] s t ∧ onlyRegs s t

/-- A held completion goes to CQ_TAIL of the ring with the ring's PHASE when a slot is free and the host can be reached;
TAIL moves on and PHASE inverts when it wraps (R418). -/
def completionWrite : Prop :=
  ∀ (m : Fin 64) (s : State) (c : Completion) (cs : List Completion), (s.mailbox m.val).held = c :: cs →
    s.cqFree m.val = true → s.trafficOk = true → s.flag (Reg.MBX_CFG.INT_EN m.val) = false →
    s.get (Reg.MBX_CQ_TAIL.TAIL m.val) < s.cqDepth m.val → s.cqDepth m.val ≤ 4096 →
    runs (.completionWrite m false) s fun t =>
      t.out = .hostWrite (s.get (Reg.MBX_CQ_BASE.BASE m.val) / 4096 * 4096 + 32 * s.get (Reg.MBX_CQ_TAIL.TAIL m.val))
        (c.bytes (s.mailbox m.val).phase) :: s.out ∧
      t.get (Reg.MBX_CQ_TAIL.TAIL m.val) = (s.get (Reg.MBX_CQ_TAIL.TAIL m.val) + 1) % s.cqDepth m.val ∧
      (t.mailbox m.val).held = cs ∧
      ((t.mailbox m.val).phase = (s.mailbox m.val).phase ↔
        (s.get (Reg.MBX_CQ_TAIL.TAIL m.val) + 1) % s.cqDepth m.val ≠ 0) ∧
      t.get (Reg.MBX_STATUS.COMPLETED m.val) = satCount 32 (s.get (Reg.MBX_STATUS.COMPLETED m.val) + 1) ∧
      regsKept [(Reg.MBX_CQ_TAIL.TAIL m.val).reg, (Reg.MBX_STATUS.COMPLETED m.val).reg] s t ∧
      { t with regs := s.regs, mbx := s.mbx, out := s.out } = s

/-- A completion that cannot be written yet, for want of a slot or of traffic, stays held (R409, R418). -/
def completionHeld : Prop :=
  ∀ (m : Fin 64) (failed : Bool) (s : State), (s.cqFree m.val = false ∨ s.trafficOk = false) →
    runs (.completionWrite m failed) s fun t => t = s

/-- A failed access to the completion ring stops the mailbox with cause 2, and the completion stays (R410, R418). -/
def completionFails : Prop :=
  ∀ (m : Fin 64) (s : State) (c : Completion) (cs : List Completion), (s.mailbox m.val).held = c :: cs →
    s.cqFree m.val = true → s.trafficOk = true → s.flag (Reg.MBX_STATUS.ERROR m.val) = false →
    runs (.completionWrite m true) s fun t =>
      t.flag (Reg.MBX_STATUS.ERROR m.val) = true ∧ t.get (Reg.MBX_STATUS.ERR_CAUSE m.val) = 2 ∧ t.mbx = s.mbx ∧
      posted Ev.mailboxError [m.val, 2] s t

/-- A fetch takes the next slot of the next mailbox in rotation: SQ_HEAD moves on, and a NOP in it completes OK with
SQ_HEAD as it then stands (R417, Tables 13-6 and 13-7). -/
def commandFetchNop : Prop :=
  ∀ (f : Fetch) (m : Nat) (s : State), s.dev ≠ .off → s.pwr.stop = none → s.nextMailbox = some m → f.ringFailed = false →
    extractBits f.w0 15 0 = 1 → extractBits f.w0 63 32 = 0 → f.a0 = 0 → f.a1 = 0 → f.a2 = 0 → f.a3 = 0 → f.a4 = 0 →
    f.a5 = 0 → f.a6 = 0 → s.sqDepth m ≤ 4096 →
    runs (.commandFetch f) s fun t =>
      t.rotation = m ∧ t.get (Reg.MBX_SQ_HEAD.HEAD m) = (s.get (Reg.MBX_SQ_HEAD.HEAD m) + 1) % s.sqDepth m ∧
      (t.mailbox m).held = [⟨(s.get (Reg.MBX_SQ_HEAD.HEAD m) + 1) % s.sqDepth m, s.dev.code, 0,
        BitVec.ofNat 16 (extractBits f.w0 31 16), []⟩] ∧
      { t with regs := s.regs, mbx := s.mbx, rotation := s.rotation } = s

/-- A fetch runs the command its slot spells: SQ_HEAD moves on first (R417). -/
def commandFetchDispatch : Prop :=
  ∀ (f : Fetch) (m : Nat) (s : State), s.dev ≠ .off → s.nextMailbox = some m → f.ringFailed = false →
    runs (.commandFetch f) s fun t =>
      t = ({ s with rotation := m }.advanceHead m).dispatch (fetchedCommand f m) (extractBits f.w0 15 0)

/-- A failed access to the submission ring stops its mailbox with cause 1 (R410, R418). -/
def commandFetchFails : Prop :=
  ∀ (f : Fetch) (m : Nat) (s : State), s.dev ≠ .off → s.nextMailbox = some m → m < 64 → f.ringFailed = true →
    runs (.commandFetch f) s fun t =>
      t.flag (Reg.MBX_STATUS.ERROR m) = true ∧ t.get (Reg.MBX_STATUS.ERR_CAUSE m) = 1 ∧ t.mbx = s.mbx ∧
      posted Ev.mailboxError [m, 1] s t ∧ { t with regs := s.regs, evt := s.evt, rotation := s.rotation } = s

/-- A STORE that runs ends OK: STORES counts it, WEAR_MAX and the result show the highest count, STORE_DONE is posted
and the mailbox is no longer busy (R430, R431). -/
def commandEndStore : Prop :=
  ∀ (m : Fin 64) (s : State) (r : Running) (settings : List Nat) (records : List RepairRecord)
    (vtable : List (List (BitVec 10))), s.dev ≠ .off → (s.mailbox m.val).running = some r → r.opcode = 0x0004 →
    s.mramJob = some (.store [0] settings records vtable) →
    runs (.commandEnd m) s fun t =>
      t.mram.settings = s.mram.settings.write settings ∧ t.mram.repairs = s.mram.repairs ∧
      t.mram.vtable = s.mram.vtable ∧ t.mram.stores = s.mram.stores + 1 ∧ t.mramJob = none ∧
      (t.mailbox m.val).running = none ∧ t.flag (Reg.MBX_STATUS.BUSY m.val) = false ∧
      (t.mailbox m.val).held.dropLast = (s.mailbox m.val).held ∧
      ((t.mailbox m.val).held.getLast?.map fun c => (c.status, c.tag, c.results.getD 0 0)) = some (0, r.tag, 1) ∧
      t.mem = s.mem ∧ t.knots = s.knots ∧ t.role = s.role

/-- The EVT_RING_CFG bits that a register map names. -/
def ringBits (cfg : W64) : W64 := cfg &&& 0xC000FF0007FF001F

/-- ENABLE going from 0 to 1 with a depth of 6 to 16 sets TAIL to 0, with INT_EN as it was (R423). -/
def evtRingEnable : Prop :=
  ∀ (cfg : W64) (s : State), s.hostWrites 0x400008 = true → s.flag Reg.EVT_RING_CFG.ENABLE = false →
    6 ≤ extractBits cfg 4 0 → extractBits cfg 4 0 ≤ 16 → cfg.getLsbD 62 = s.flag Reg.EVT_RING_CFG.INT_EN →
    runs (.evtRingEnable cfg) s fun t =>
      t.flag Reg.EVT_RING_CFG.ENABLE = true ∧ t.get Reg.EVT_RING_CFG.LOG2_DEPTH = extractBits cfg 4 0 ∧
      t.get Reg.EVT_RING_TAIL.TAIL = 0 ∧ t.evt = { s.evt with phase := true } ∧
      regsKept [Reg.EVT_RING_CFG.ENABLE.reg, Reg.EVT_RING_TAIL.TAIL.reg] s t ∧ { t with regs := s.regs, evt := s.evt } = s

/-- A depth outside 6 to 16 stops the ring with ERROR (Table 13-10). -/
def evtRingBadDepth : Prop :=
  ∀ (cfg : W64) (s : State), s.hostWrites 0x400008 = true → s.flag Reg.EVT_RING_CFG.ENABLE = false →
    (extractBits cfg 4 0 < 6 ∨ 16 < extractBits cfg 4 0) → cfg.getLsbD 62 = false →
    runs (.evtRingEnable cfg) s fun t => t.flag Reg.EVT_STATUS.ERROR = true ∧ t.ringRuns = false

/-- EVT_RING_HEAD is taken as written, and at or beyond the depth it stops the ring (R423). -/
def evtRingHeadWrite : Prop :=
  ∀ (head : W16) (s : State), s.hostWrites 0x400010 = true →
    runs (.evtRingHeadWrite head) s fun t =>
      t.get Reg.EVT_RING_HEAD.HEAD = head.toNat ∧
      t.flag Reg.EVT_STATUS.ERROR = (s.flag Reg.EVT_STATUS.ERROR || decide (s.ringDepth ≤ head.toNat)) ∧
      regsKept [Reg.EVT_RING_HEAD.HEAD.reg, Reg.EVT_STATUS.ERROR.reg] s t ∧ onlyRegs s t

/-- INT_EN going to 1 with a kept signal and unconsumed records signals VECTOR at once when no hold-off runs (R423). -/
def evtIntEnable : Prop :=
  ∀ (s : State), s.hostWrites 0x400008 = true → s.flag Reg.EVT_RING_CFG.INT_EN = false →
    s.flag Reg.EVT_RING_CFG.ENABLE = true → s.evt.owed = true → s.evt.holdoff = false →
    s.get Reg.EVT_RING_HEAD.HEAD ≠ s.get Reg.EVT_RING_TAIL.TAIL →
    s.flag (Reg.MSIX_CTRL.MASK (s.get Reg.EVT_RING_CFG.VECTOR)) = false →
    runs (.evtIntEnable) s fun t =>
      t.out = .msix (s.get Reg.EVT_RING_CFG.VECTOR) :: s.out ∧ t.evt.owed = false ∧ t.flag Reg.EVT_RING_CFG.INT_EN = true

/-- With no signal kept, setting INT_EN sets the bit alone. -/
def evtIntEnableQuiet : Prop :=
  ∀ (s : State), s.hostWrites 0x400008 = true → s.evt.owed = false → s.flag Reg.EVT_RING_CFG.ENABLE = true →
    runs (.evtIntEnable) s fun t => t.flag Reg.EVT_RING_CFG.INT_EN = true ∧ onlyRegs s t

/-- The oldest queued record goes to TAIL with the ring's PHASE, TAIL moves on, and with INT_EN at 0 its signal is kept
(R423, R426). -/
def eventRecordWrite : Prop :=
  ∀ (s : State) (r : Record) (rs : List Record), s.evt.queue = r :: rs → s.ringRuns = true →
    (s.get Reg.EVT_RING_TAIL.TAIL + 1) % s.ringDepth ≠ s.get Reg.EVT_RING_HEAD.HEAD → s.ringDepth ≤ 65536 →
    s.flag Reg.EVT_RING_CFG.INT_EN = false → s.evt.lostSince = 0 →
    runs (.eventRecordWrite false) s fun t =>
      t.out = .hostWrite (s.get Reg.EVT_RING_BASE.BASE / 4096 * 4096 + 64 * s.get Reg.EVT_RING_TAIL.TAIL)
        (r.bytes s.evt.phase) :: s.out ∧
      t.evt.queue = rs ∧ t.get Reg.EVT_RING_TAIL.TAIL = (s.get Reg.EVT_RING_TAIL.TAIL + 1) % s.ringDepth ∧
      t.evt.owed = true ∧ (t.evt.phase = s.evt.phase ↔ (s.get Reg.EVT_RING_TAIL.TAIL + 1) % s.ringDepth ≠ 0) ∧
      regsKept [Reg.EVT_RING_TAIL.TAIL.reg] s t ∧ { t with regs := s.regs, evt := s.evt, out := s.out } = s

/-- While the ring is stopped or full, or the host out of reach, records stay queued (R426). -/
def eventRecordHeld : Prop :=
  ∀ (failed : Bool) (s : State),
    (s.ringRuns = false ∨ (s.get Reg.EVT_RING_TAIL.TAIL + 1) % s.ringDepth = s.get Reg.EVT_RING_HEAD.HEAD) →
    runs (.eventRecordWrite failed) s fun t => t = s

/-- At the end of a hold-off a kept signal goes (R423). -/
def eventInterruptHoldoff : Prop :=
  ∀ (s : State), s.evt.owed = true → s.flag Reg.EVT_RING_CFG.INT_EN = true → s.trafficOk = true →
    s.flag (Reg.MSIX_CTRL.MASK (s.get Reg.EVT_RING_CFG.VECTOR)) = false →
    runs (.eventInterruptHoldoff) s fun t =>
      t.out = .msix (s.get Reg.EVT_RING_CFG.VECTOR) :: s.out ∧ t.evt.owed = false ∧ t.regs = s.regs ∧
      { t with evt := s.evt, out := s.out } = s

/-- A vector that is unmasked with its pending bit set is signalled and the bit cleared (R427). -/
def msixVectorUnmask : Prop :=
  ∀ (v : Fin 2048) (s : State), s.hostWrites 0x300000 = true →
    runs (.msixVectorUnmask v) s fun t =>
      t.flag (Reg.MSIX_CTRL.MASK v.val) = false ∧
      (t.rd (Reg.MSIX_PBA.PENDING (v.val / 64)).reg).getLsbD (v.val % 64) = false ∧
      t.out = (if (s.rd (Reg.MSIX_PBA.PENDING (v.val / 64)).reg).getLsbD (v.val % 64) then [Out.msix v.val] else []) ++ s.out ∧
      regsKept [(Reg.MSIX_CTRL.MASK v.val).reg, (Reg.MSIX_PBA.PENDING (v.val / 64)).reg] s t ∧
      { t with regs := s.regs, out := s.out } = s

end Sys2Proof.Claims

/-- Setting ENABLE with legal depths restarts both rings and drops a held completion; a depth outside 1 to 12 is cause
4. Clearing ENABLE stops fetching alone. A doorbell below the depth is stored, one at or beyond it is cause 3, a
CQ_HEAD at or beyond the depth is taken as written and is cause 5; a further cause while ERROR is 1 changes nothing.
Clearing ERROR leaves COMPLETED. Nothing else changes. (R416, R418) -/
def Obligations.MailboxRegisters : Prop :=
  Claims.mbxEnable ∧ Claims.mbxEnableBadDepth ∧ Claims.mbxDisable ∧ Claims.mbxSqDoorbell ∧ Claims.mbxSqDoorbellBeyond ∧
    Claims.mbxCqHeadWrite ∧ Claims.mbxErrorClear

/-- A held completion goes to CQ_TAIL with PHASE when a slot is free and the host is within reach, and stays held
otherwise; a failed access is cause 2. A fetch takes the next mailbox in rotation, moves SQ_HEAD on and runs what the
slot spells; a NOP there completes OK; a failed access is cause 1. A STORE that ends writes its block, counts itself
and completes. (R409, R410, R417, R418, R430, R431) -/
def Obligations.CompletionsAndFetches : Prop :=
  Claims.completionWrite ∧ Claims.completionHeld ∧ Claims.completionFails ∧ Claims.commandFetchNop ∧
    Claims.commandFetchDispatch ∧ Claims.commandFetchFails ∧ Claims.commandEndStore

/-- Enabling the ring with a depth of 6 to 16 restarts it, another depth stops it; HEAD is taken as written and beyond
the depth stops the ring; the oldest record goes to TAIL with PHASE while the ring runs with a free slot and stays
queued otherwise; a kept signal goes when INT_EN is set or the hold-off ends; an unmasked vector that is pending is
signalled. (R423, R426, R427) -/
def Obligations.EventRingAndVectors : Prop :=
  Claims.evtRingEnable ∧ Claims.evtRingBadDepth ∧ Claims.evtRingHeadWrite ∧ Claims.evtIntEnable ∧
    Claims.evtIntEnableQuiet ∧ Claims.eventRecordWrite ∧ Claims.eventRecordHeld ∧ Claims.eventInterruptHoldoff ∧
    Claims.msixVectorUnmask

/-! ### BAR4, the stop-record window and the PCIe port -/

namespace Sys2Proof.Claims

/-- A BAR4 read returns the bytes reached, zero where no stack in use answers or in a state that BAR4 does not serve; with no bad
transfer touched it changes nothing else but the lines of the die caches (R197, R412). -/
def bar4Read : Prop :=
  ∀ (off : BitVec 39) (len : Nat) (s : State), s.inBar4 off.toNat len = true →
    (s.bar4Open = false ∨ s.badTouched (s.bar4Address off.toNat) len = []) →
    runs (.bar4Read off len) s fun t =>
      t = (if s.bar4Open then s.touchReached (s.bar4Address off.toNat) len false else s).emit (.bar4Data ((List.range len).map (fun i =>
        if s.bar4Open && s.reached (s.bar4Address off.toNat + i) then s.readByte (s.bar4Address off.toNat + i) else 0)) false)

/-- The latest output is poisoned data of a length. -/
def isPoisoned (len : Nat) (out : List Out) : Bool :=
  match out with
  | .bar4Data bytes bad :: _ => bad && decide (bytes.length = len)
  | _ => false

/-- A read that touches a bad transfer in use returns poisoned data (R436). -/
def bar4ReadPoisoned : Prop :=
  ∀ (off : BitVec 39) (len : Nat) (s : State), s.inBar4 off.toNat len = true → s.bar4Open = true →
    s.badTouched (s.bar4Address off.toNat) len ≠ [] →
    runs (.bar4Read off len) s fun t => isPoisoned len t.out = true

/-- A BAR4 write stores each byte at its module address where a stack in use is reached, and no other byte (R412). -/
def bar4Write : Prop :=
  ∀ (off : BitVec 39) (bytes : List Byte) (s : State), s.inBar4 off.toNat bytes.length = true → s.bar4Open = true →
    runs (.bar4Write off bytes false) s fun t =>
      (∀ i, i < bytes.length → s.reached (s.bar4Address off.toNat + i) = true →
        t.readByte (s.bar4Address off.toNat + i) = bytes.getD i 0) ∧
      (∀ i, i < bytes.length → s.reached (s.bar4Address off.toNat + i) = false →
        t.readByte (s.bar4Address off.toNat + i) = s.readByte (s.bar4Address off.toNat + i)) ∧
      bytesKeptBut (s.bar4Address off.toNat) bytes.length s t ∧
      { t with mem := s.mem, badLines := s.badLines, cache := s.cache } = s

/-- Outside READY, ARMED, RUNNING, HELD and DRAINING a write is ignored; a poisoned write is discarded with HOST_POISON
(R410, R412). -/
def bar4WriteIgnored : Prop :=
  ∀ (off : BitVec 39) (bytes : List Byte) (s : State), s.inBar4 off.toNat bytes.length = true →
    (s.bar4Open = false → runs (.bar4Write off bytes false) s fun t => t = s) ∧
    runs (.bar4Write off bytes true) s fun t =>
      posted Ev.hostPoison [4, off.toNat] s t ∧ t.mem = s.mem ∧ { t with regs := s.regs, evt := s.evt } = s

/-- Writing 1 to VALID empties the window and sets the record's cleared mark, unless a running stop has written a new
record (R401). -/
def capStopRecClear : Prop :=
  ∀ (s : State), s.hostWrites 0x400 = true → (s.rd (Reg.CAP_STOP_REC.WORD 0).reg).getLsbD 63 = true →
    runs (.capStopRecClear) s fun t =>
      (∀ w, w < 128 → t.rd (Reg.CAP_STOP_REC.WORD w).reg = 0) ∧
      t.mram.stop.cleared = (if s.pwr.stop.any (fun x => x.recorded) then s.mram.stop.cleared else true) ∧
      t.mram.stop.words = s.mram.stop.words ∧
      regsKept ((List.range 128).map (fun w => (Reg.CAP_STOP_REC.WORD w).reg)) s t ∧
      { t with regs := s.regs, mram := s.mram } = s

/-- PERST# resets the controller, its configuration space and the MSI-X table, and the device goes on (R394). -/
def perstAssert : Prop :=
  ∀ (s : State), s.pcie.perst = false →
    runs (.perstAssert) s fun t =>
      t.pcie.perst = true ∧ t.pcie.training = false ∧ t.linkUp = false ∧ t.get Reg.CAP_PCIE.GEN = 0 ∧
      t.get Reg.CAP_PCIE.DSTATE = 0 ∧ t.get Reg.CAP_PCIE.BUS_MASTER = 0 ∧
      t.get Reg.CAP_PCIE.PERSTS = satCount 16 (s.get Reg.CAP_PCIE.PERSTS + 1) ∧
      t.pcie.bar4Log2 = min 9 (s.get Reg.CAP_SETTINGS.BAR4_LOG2) ∧
      (∀ v, v < 2048 → t.rd (Reg.MSIX_CTRL.MASK v).reg = regReset s.part (Reg.MSIX_CTRL.MASK v).reg) ∧
      (∀ k, k ≠ Reg.CAP_PCIE.GEN.reg → (k < 0x300000 ∨ 0x308100 ≤ k) → t.rd k = s.rd k) ∧
      { t with regs := s.regs, pcie := s.pcie } = s

/-- Deassertion starts training, or leaves it to the 70 ms event (R393). -/
def perstDeassert : Prop :=
  ∀ (s : State), runs (.perstDeassert) s fun t =>
    t.pcie.perst = false ∧ t.pcie.training = (s.pcie.training || s.pcie.controllerReady) ∧
    { t with pcie := s.pcie } = s

/-- Training ends with the link up at Gen 5, 6 or 7 and 4, 8 or 16 lanes, in FLIT mode from Gen 6 (R408). -/
def pcieLinkUp : Prop :=
  ∀ (gen width : Fin 3) (s : State), s.pcie.training = true → s.pcie.perst = false → s.regulating 39 = true →
    s.dev ≠ .off →
    runs (.pcieLinkUp gen width) s fun t =>
      t.linkUp = true ∧ t.get Reg.CAP_PCIE.GEN = 5 + gen.val ∧ t.get Reg.CAP_PCIE.WIDTH = 4 * 2 ^ width.val ∧
      t.flag Reg.CAP_PCIE.FLIT = decide (1 ≤ gen.val) ∧ t.pcie.training = false ∧
      regsKept [Reg.CAP_PCIE.GEN.reg] s t ∧ { t with regs := s.regs, pcie := s.pcie } = s

/-- A link that goes down without PERST# after READY sets PCIE_DOWN and trains again (R477, Table 12-2). -/
def pcieLinkDown : Prop :=
  ∀ (s : State), s.linkUp = true → s.pcie.wasReady = true →
    runs (.pcieLinkDown) s fun t =>
      t.linkUp = false ∧ t.get Reg.CAP_PCIE.GEN = 0 ∧ t.pcie.training = (s.pcie.controllerReady && !s.pcie.perst) ∧
      t.hold.alert = s.hold.alert ||| 0x40 ∧ regsKept [Reg.CAP_PCIE.GEN.reg] s t ∧
      { t with regs := s.regs, pcie := s.pcie, hold := s.hold, out := s.out } = s

/-- D3hot stops traffic toward the host, and a return to D0 restores it without a reset (R409). -/
def powerStates : Prop :=
  ∀ (s : State), s.linkUp = true →
    (runs (.d3hotEntry) s fun t =>
      t.get Reg.CAP_PCIE.DSTATE = 3 ∧ t.trafficOk = false ∧ t.linkUp = true ∧ regsKept [Reg.CAP_PCIE.DSTATE.reg] s t ∧ onlyRegs s t) ∧
    (runs (.d0Return) s fun t =>
      t.get Reg.CAP_PCIE.DSTATE = 0 ∧ t.trafficOk = s.flag Reg.CAP_PCIE.BUS_MASTER ∧ t.linkUp = true ∧
      regsKept [Reg.CAP_PCIE.DSTATE.reg] s t ∧ onlyRegs s t)

/-- Bus Master Enable (R409). -/
def busMasterEnableChange : Prop :=
  ∀ (enable : Bool) (s : State), s.linkUp = true →
    runs (.busMasterEnableChange enable) s fun t =>
      t.flag Reg.CAP_PCIE.BUS_MASTER = enable ∧ (enable = false → t.trafficOk = false) ∧
      regsKept [Reg.CAP_PCIE.BUS_MASTER.reg] s t ∧ onlyRegs s t

/-- A snapshot to the host that has waited 50 ms, or meets a completion error, is aborted (R188, R409, R410). -/
def snapshotTransferFails : Prop :=
  ∀ (s : State) (x : SnapRun), s.dev ≠ .off → s.snap = some x → x.node = none →
    (s.trafficOk = false → runs (.hostTransferTimeout false) s fun t =>
      t.snap = none ∧ t.get Reg.NUM_SNAP_STATUS.ACTIVE = 0 ∧ t.get Reg.NUM_SNAP_STATUS.TILES_LEFT = 0 ∧
      posted Ev.snapshotFailed [1] s t) ∧
    runs (.pcieCompletionError .snapshot) s fun t =>
      t.snap = none ∧ t.get Reg.NUM_SNAP_STATUS.ACTIVE = 0 ∧ t.get Reg.NUM_SNAP_STATUS.TILES_LEFT = 0 ∧
      posted Ev.snapshotFailed [1] s t

/-- A transfer that does not wait, and one in OFF, is unharmed. -/
def hostTransferGoes : Prop :=
  ∀ (offload : Bool) (s : State), (s.dev = .off ∨ s.trafficOk = true) →
    runs (.hostTransferTimeout offload) s fun t => t = s

/-- Completion errors at the rings: the mailbox stops with cause 1 or 2, the event ring stops (Table 13-2a). -/
def pcieCompletionError : Prop :=
  ∀ (s : State) (m : Fin 64), s.dev ≠ .off →
    (s.flag (Reg.MBX_CFG.ENABLE m.val) = true → s.flag (Reg.MBX_STATUS.ERROR m.val) = false →
      (runs (.pcieCompletionError (.submissionRing m)) s fun t =>
        t.flag (Reg.MBX_STATUS.ERROR m.val) = true ∧ t.get (Reg.MBX_STATUS.ERR_CAUSE m.val) = 1 ∧
        posted Ev.mailboxError [m.val, 1] s t ∧ { t with regs := s.regs, evt := s.evt } = s) ∧
      (runs (.pcieCompletionError (.completionRing m)) s fun t =>
        t.flag (Reg.MBX_STATUS.ERROR m.val) = true ∧ t.get (Reg.MBX_STATUS.ERR_CAUSE m.val) = 2 ∧
        posted Ev.mailboxError [m.val, 2] s t ∧ { t with regs := s.regs, evt := s.evt } = s)) ∧
    (s.flag Reg.EVT_RING_CFG.ENABLE = true → runs (.pcieCompletionError .eventRing) s fun t =>
      t.flag Reg.EVT_STATUS.ERROR = true ∧ t.ringRuns = false ∧ t.evt = s.evt ∧ onlyRegs s t)

/-- A PASSAGE_LOAD or FW_UPDATE whose host reads fail completes with HOST_FAULT and leaves nothing behind (R410). -/
def commandReadFails : Prop :=
  ∀ (s : State) (m : Fin 64) (r : Running), s.dev ≠ .off → (s.mailbox m.val).running = some r →
    (r.opcode = 0x0005 ∨ r.opcode = 0x0101) →
    runs (.pcieCompletionError (.commandData m)) s fun t =>
      (t.mailbox m.val).running = none ∧ t.load = none ∧ (r.opcode = 0x0005 → t.mramJob = none) ∧
      (t.mailbox m.val).held.dropLast = (s.mailbox m.val).held ∧
      ((t.mailbox m.val).held.getLast?.map fun c => (c.status, c.tag)) = some (0x0A, r.tag) ∧
      t.mram = s.mram ∧ t.role = s.role ∧ t.chart = s.chart ∧ storesKept s t

end Sys2Proof.Claims

/-- A BAR4 read returns the bytes of stacks in use and zero elsewhere, poisoned where a transfer is bad; a write
stores each reached byte and no other; outside READY, ARMED, RUNNING, HELD and DRAINING it is ignored; a poisoned
write is discarded. Clearing VALID of the stop record empties the window and sets the cleared mark. (R401, R410, R412,
R436) -/
def Obligations.Bar4AndStopWindow : Prop :=
  Claims.bar4Read ∧ Claims.bar4ReadPoisoned ∧ Claims.bar4Write ∧ Claims.bar4WriteIgnored ∧ Claims.capStopRecClear

/-- PERST# resets the port's own state and nothing of the device; the link comes up at the trained rate and width;
D3hot and Bus Master Enable 0 stop traffic toward the host alone; a host snapshot that waits 50 ms fails; a completion
error stops the mailbox or ring it struck, and ends a load or update with HOST_FAULT and no side effects. (R188, R393,
R394, R408, R409, R410, R477) -/
def Obligations.PciePort : Prop :=
  Claims.perstAssert ∧ Claims.perstDeassert ∧ Claims.pcieLinkUp ∧ Claims.pcieLinkDown ∧ Claims.powerStates ∧
    Claims.busMasterEnableChange ∧ Claims.snapshotTransferFails ∧ Claims.hostTransferGoes ∧ Claims.pcieCompletionError ∧
    Claims.commandReadFails

/-! ### Binnacle commands -/

namespace Sys2Proof.Claims

/-- The mailbox of the command runs nothing, the module is on and no orderly stop runs: the command is judged. -/
abbrev judged (c : Cmd) (s : State) : Prop :=
  s.dev ≠ .off ∧ (s.mailbox c.mbx.val).running = none ∧ s.pwr.stop = none

/-- No argument is given. -/
abbrev bare (c : Cmd) : Prop :=
  c.rsv = 0 ∧ c.a0 = 0 ∧ c.a1 = 0 ∧ c.a2 = 0 ∧ c.a3 = 0 ∧ c.a4 = 0 ∧ c.a5 = 0 ∧ c.a6 = 0

/-- The arguments beyond the first are not given. -/
abbrev bareRest (c : Cmd) : Prop := c.rsv = 0 ∧ c.a1 = 0 ∧ c.a2 = 0 ∧ c.a3 = 0 ∧ c.a4 = 0 ∧ c.a5 = 0 ∧ c.a6 = 0

/-- The arguments beyond the second are not given. -/
abbrev bareTail (c : Cmd) : Prop := c.rsv = 0 ∧ c.a2 = 0 ∧ c.a3 = 0 ∧ c.a4 = 0 ∧ c.a5 = 0 ∧ c.a6 = 0

/-- The command has completed with a status and results: its mailbox holds that completion behind those it held, is not busy,
and no other mailbox changed (Table 13-7). -/
abbrev completed (c : Cmd) (st : Status) (results : List W64) (s t : State) : Prop :=
  (t.mailbox c.mbx.val).held = (s.mailbox c.mbx.val).held ++
    [⟨s.get (Reg.MBX_SQ_HEAD.HEAD c.mbx.val), t.dev.code, st.code, c.tag, results⟩] ∧
  (t.mailbox c.mbx.val).running = none ∧ t.flag (Reg.MBX_STATUS.BUSY c.mbx.val) = false ∧
  (∀ n, n ≠ c.mbx.val → t.mailbox n = s.mailbox n)

/-- A completion changes the mailboxes and MBX_STATUS alone. -/
abbrev onlyCompletion (c : Cmd) (s t : State) : Prop :=
  regsKept [(Reg.MBX_STATUS.BUSY c.mbx.val).reg] s t ∧ { t with regs := s.regs, mbx := s.mbx } = s

/-- The command has started and runs on. -/
abbrev started (c : Cmd) (opcode : Nat) (s t : State) : Prop :=
  (t.mailbox c.mbx.val).running = some ⟨opcode, c.tag⟩ ∧ (t.mailbox c.mbx.val).held = (s.mailbox c.mbx.val).held ∧
  t.flag (Reg.MBX_STATUS.BUSY c.mbx.val) = true

/-- The commands of Table 13-8. -/
def binnacle : List (Cmd → Instr) :=
  [.nop, .identGet, .measureGet, .store, .fwUpdate, .deviceReset, .deviceRecover, .bistRun, .unitRetire,
   .unitRetireRemoval, .passageLoad, .passageUnload, .passageArm, .stepRun, .stepStop, .stepHold, .stepResume,
   .stepAbort, .passageDisarm, .dutySet, .hostmapSet, .updClipSet, .rungSet, .historyRead, .historyWrite,
   .snapshotRequest, .snapshotAbort, .restoreComplete, .fabricReleaseId, .twinCarry, .twinHandover, .twinRelease, .twinDetach]

/-- The admin commands of Table 13-8 that take no argument. -/
def adminBare : List (Cmd → Instr) :=
  [.store, .deviceReset, .deviceRecover, .passageUnload, .stepStop, .stepHold, .stepResume, .stepAbort, .passageDisarm,
   .restoreComplete, .twinCarry, .twinHandover, .twinRelease, .twinDetach]

/-- A set reserved bit of word 0 is BAD_COMMAND, whatever else stands against the command, and nothing else happens
(R419, R422). -/
def reservedBitRefused : Prop :=
  ∀ k ∈ binnacle, ∀ (c : Cmd) (s : State), judged c s → c.rsv ≠ 0 →
    runs (k c) s fun t => completed c .badCommand [] s t ∧ onlyCompletion c s t

/-- An admin command from a mailbox other than 0 is NOT_ADMIN, ahead of every cause below it in Table 13-9 (R420, R422). -/
def notAdminRefused : Prop :=
  ∀ k ∈ adminBare, ∀ (c : Cmd) (s : State), judged c s → bare c → c.mbx ≠ 0 →
    runs (k c) s fun t => completed c .notAdmin [] s t ∧ onlyCompletion c s t

/-- A command taken while an orderly stop runs is ABORTED (R435). -/
def abortedInStop : Prop :=
  ∀ k ∈ binnacle, ∀ (c : Cmd) (s : State), s.dev ≠ .off → (s.mailbox c.mbx.val).running = none →
    s.pwr.stop.isSome = true →
    runs (k c) s fun t => completed c .aborted [] s t ∧ onlyCompletion c s t

/-- A mailbox runs one command at a time, and none in OFF (R417). -/
def commandWaits : Prop :=
  ∀ k ∈ binnacle, ∀ (c : Cmd) (s : State), (s.dev = .off ∨ (s.mailbox c.mbx.val).running ≠ none) →
    runs (k c) s fun t => t = s

/-- NOP. -/
def nop : Prop :=
  ∀ (c : Cmd) (s : State), judged c s → bare c →
    runs (.nop c) s fun t => completed c .ok [] s t ∧ onlyCompletion c s t

/-- IDENT_GET. -/
def identGet : Prop :=
  ∀ (c : Cmd) (s : State), judged c s → bare c →
    runs (.identGet c) s fun t =>
      completed c .ok [s.part.uid, s.rd Reg.CAP_IDENT.DEVICE_ID.reg, s.rd Reg.CAP_VERSION.FW_MAJOR.reg] s t ∧
      onlyCompletion c s t

/-- The 64 bytes that MEASURE_GET stores (R457). -/
def measureImage (s : State) (i : Nat) : List Byte :=
  (s.measure i).value ++ leBytes 8 (s.measure i).count ++ List.replicate 8 0

/-- MEASURE_GET into host memory. -/
def measureGetHost : Prop :=
  ∀ (c : Cmd) (s : State), judged c s → bareTail c → c.a0.toNat ≤ 7 → c.a1.getLsbD 63 = true →
    c.a1 &&& 0x7FF8000000000000 = 0 → c.fault = false →
    runs (.measureGet c) s fun t =>
      completed c .ok [] s t ∧ t.out = .hostWrite (c.a1.toNat % 2 ^ 51) (measureImage s c.a0.toNat) :: s.out ∧
      { t with regs := s.regs, mbx := s.mbx, out := s.out } = s

/-- MEASURE_GET into module memory stores those bytes and no other. -/
def measureGetModule : Prop :=
  ∀ (c : Cmd) (s : State), judged c s → bareTail c → c.a0.toNat ≤ 7 → c.a1.toNat + 64 ≤ 2 ^ 36 * s.part.variant.stacks →
    s.part.variant.stacks ≤ 8 → (s.measure c.a0.toNat).value.length = 48 → c.fault = false →
    runs (.measureGet c) s fun t =>
      completed c .ok [] s t ∧ t.readBytes c.a1.toNat 64 = measureImage s c.a0.toNat ∧
      bytesKeptBut c.a1.toNat 64 s t ∧ { t with regs := s.regs, mbx := s.mbx, mem := s.mem, badLines := s.badLines, cache := s.cache } = s

/-- STORE starts: it takes the present value of each block that differs from its sound copy (R430). -/
def store : Prop :=
  ∀ (c : Cmd) (s : State), judged c s → bare c → c.mbx = 0 → s.legalLate = true → s.mramJob = none → s.wornBlocks = [] →
    runs (.store c) s fun t =>
      started c 0x0004 s t ∧ t.mramJob = some (.store s.storeBlocks s.settingsNow s.recordsNow s.vtableNow) ∧
      t.mram = s.mram ∧ { t with regs := s.regs, mbx := s.mbx, mramJob := s.mramJob } = s

/-- A STORE that would pass 100,000 writes of a block writes none and completes with WORN (R431). -/
def storeWorn : Prop :=
  ∀ (c : Cmd) (s : State), judged c s → bare c → c.mbx = 0 → s.legalLate = true → s.mramJob = none → s.wornBlocks ≠ [] →
    runs (.store c) s fun t =>
      completed c .worn [BitVec.ofNat 64 (bitMask s.wornBlocks)] s t ∧ t.mram = s.mram ∧ t.mramJob = none ∧
      t.get Reg.CAP_STORE.LAST_STATUS = 9 ∧ { t with regs := s.regs, mbx := s.mbx } = s

/-- FW_UPDATE of an image that passes starts and is to write the slot that the pointer does not name; the pointer stays
(R420, R430). -/
def fwUpdate : Prop :=
  ∀ (c : Cmd) (s : State), judged c s → bareTail c → c.mbx = 0 → c.a0.getLsbD 63 = true →
    c.a0 &&& 0x7FF8000000000000 = 0 → 0 < c.a1.toNat → c.a1.toNat ≤ 3145728 → c.fault = false →
    (s.dev = .faulted ∨ s.dev = .ready ∧ s.loaded = false) → s.mramJob = none →
    s.part.imageOk (sliceBytes c.data 0 c.a1.toNat) = true →
    runs (.fwUpdate c) s fun t =>
      started c 0x0005 s t ∧ t.mramJob = some (.update (!s.mram.pointer) (sliceBytes c.data 0 c.a1.toNat)) ∧
      t.mram = s.mram ∧ { t with regs := s.regs, mbx := s.mbx, mramJob := s.mramJob } = s

/-- An image that fails verification is AUTH_FAILED and neither slot changes (R420). -/
def fwUpdateFails : Prop :=
  ∀ (c : Cmd) (s : State), judged c s → bareTail c → c.mbx = 0 → c.a0.getLsbD 63 = true →
    c.a0 &&& 0x7FF8000000000000 = 0 → 0 < c.a1.toNat → c.a1.toNat ≤ 3145728 → c.fault = false →
    (s.dev = .faulted ∨ s.dev = .ready ∧ s.loaded = false) → s.mramJob = none →
    s.part.imageOk (sliceBytes c.data 0 c.a1.toNat) = false →
    runs (.fwUpdate c) s fun t => completed c .authFailed [] s t ∧ onlyCompletion c s t

/-- DEVICE_RESET re-enters BOOT with its opcode as cause; DTIME runs on (R404, R415). -/
def deviceReset : Prop :=
  ∀ (c : Cmd) (s : State), judged c s → bare c → c.mbx = 0 → s.dev ≠ .boot →
    runs (.deviceReset c) s fun t =>
      t.dev = .boot ∧ t.get Reg.CAP_STATE.CAUSE = 6 ∧ t.dtime = s.dtime ∧ t.part = s.part ∧ t.pending = s.pending ∧
      t.get Reg.CAP_STATE.PREVIOUS = s.dev.code

/-- DEVICE_RECOVER leaves SAFE for BOOT with start-up BIST selected (R403). -/
def deviceRecover : Prop :=
  ∀ (c : Cmd) (s : State), judged c s → bare c → c.mbx = 0 → s.dev = .safe → s.tooHot = false →
    runs (.deviceRecover c) s fun t =>
      t.dev = .boot ∧ t.get Reg.CAP_STATE.CAUSE = 7 ∧ t.get Reg.CAP_STATE.PREVIOUS = 9 ∧ t.boot.bistSelected = true ∧
      t.dtime = s.dtime ∧ t.part = s.part ∧ t.pending = s.pending

/-- DEVICE_RECOVER is BUSY while a plausible reading stands at or above 90 °C (R403). -/
def deviceRecoverHot : Prop :=
  ∀ (c : Cmd) (s : State), judged c s → bare c → c.mbx = 0 → s.dev = .safe → s.tooHot = true →
    runs (.deviceRecover c) s fun t => completed c .busy [] s t ∧ onlyCompletion c s t

/-- BIST_RUN with no condition out of range enters SELFTEST and runs on (R415, R449). -/
def bistRun : Prop :=
  ∀ (c : Cmd) (s : State), judged c s → bareRest c → c.mbx = 0 → s.dev = .ready → s.loaded = false → s.frw = none →
    c.a0 = 0x200 → s.bistCondition = 0 →
    runs (.bistRun c) s fun t =>
      started c 0x0008 s t ∧ t.dev = .selftest ∧ t.get Reg.CAP_STATE.CAUSE = 8 ∧
      t.bist = some ⟨false, 0x200, [], true, false⟩ ∧ t.flag Reg.BST_STATUS.RUNNING = true

/-- BIST_RUN with a condition out of range is skipped, marks no unit failed and leaves the module in READY (R451). -/
def bistRunSkipped : Prop :=
  ∀ (c : Cmd) (s : State), judged c s → bareRest c → c.mbx = 0 → s.dev = .ready → s.loaded = false → s.frw = none →
    c.a0 = 0x200 → s.bistCondition ≠ 0 → s.rel.stackPending = [] →
    runs (.bistRun c) s fun t =>
      t.dev = .ready ∧ t.bist = none ∧ t.flag Reg.BST_STATUS.SKIPPED = true ∧ t.rel = s.rel

/-- UNIT_RETIRE of a present core that leaves a core usable (R444, R446). -/
def unitRetire : Prop :=
  ∀ (c : Cmd) (s : State) (core : Nat), judged c s → bareRest c → c.mbx = 0 → core < 288 →
    c.a0 = BitVec.ofNat 64 (unitCode 1 core) → s.part.variant.unitPresent (unitCode 1 core) = some true →
    s.legalLate = true → s.mramJob = none → s.isRetired (unitCode 1 core) = false →
    (∃ p, p < 288 ∧ p ≠ core ∧ s.coreUsable p = true) →
    runs (.unitRetire c) s fun t => t.isRetired (unitCode 1 core) = true ∧ completed c .ok [] s t

/-- With bit 32 the retirement record is to be removed at the next STORE, and the unit stays as it is (R446). -/
def unitRetireRemoval : Prop :=
  ∀ (c : Cmd) (s : State) (u : W32), judged c s → bareRest c → c.mbx = 0 → c.a0 = 0x100000000 + u.setWidth 64 →
    s.part.variant.unitPresent u.toNat = some true → unitType u.toNat ≠ 9 → unitType u.toNat ≠ 10 →
    s.legalLate = true → s.mramJob = none →
    runs (.unitRetireRemoval c) s fun t =>
      completed c .ok [] s t ∧ t.rel.removals.contains u.toNat = true ∧ t.rel.retired = s.rel.retired ∧
      { t with regs := s.regs, mbx := s.mbx, rel := s.rel } = s

end Sys2Proof.Claims

/-- For every Binnacle command: a set reserved bit completes with BAD_COMMAND whatever else stands against it; an
admin command without arguments from a mailbox other than 0 with NOT_ADMIN; a command taken during an orderly stop
with ABORTED; each leaves nothing but its completion. A mailbox that runs a command, and a module that is OFF, takes
none. (R417, R419, R420, R422, R435) -/
def Obligations.RefusedCommandsLeaveNothing : Prop :=
  Claims.reservedBitRefused ∧ Claims.notAdminRefused ∧ Claims.abortedInStop ∧ Claims.commandWaits

/-- NOP and IDENT_GET complete with what Table 13-8 gives and change nothing else; MEASURE_GET stores the register,
its count and zeros at the buffer and no other byte; STORE takes the blocks that differ and runs, or is WORN and
writes none; FW_UPDATE of a good image runs with the pointer unmoved, of a bad one is AUTH_FAILED. (R419, R420, R430,
R431, R457) -/
def Obligations.PlainCommands : Prop :=
  Claims.nop ∧ Claims.identGet ∧ Claims.measureGetHost ∧ Claims.measureGetModule ∧ Claims.store ∧ Claims.storeWorn ∧
    Claims.fwUpdate ∧ Claims.fwUpdateFails

/-- DEVICE_RESET re-enters BOOT with cause 0x0006 and DTIME running on; DEVICE_RECOVER leaves SAFE for BOOT with BIST
selected, or is BUSY while a reading stands at 90 degrees or more; BIST_RUN enters SELFTEST and runs, or is skipped
back to READY when a condition is out of range; UNIT_RETIRE retires the core named, and with bit 32 only removes a
record. (R403, R404, R415, R444, R446, R449, R451) -/
def Obligations.DeviceCommands : Prop :=
  Claims.deviceReset ∧ Claims.deviceRecover ∧ Claims.deviceRecoverHot ∧ Claims.bistRun ∧ Claims.bistRunSkipped ∧
    Claims.unitRetire ∧ Claims.unitRetireRemoval

/-! ### Loading and running a passage -/

namespace Sys2Proof.Claims

/-- A device state has been entered: CAUSE and PREVIOUS say how (R415). -/
abbrev arrivedIn (d : DevState) (cause : Nat) (s t : State) : Prop :=
  t.dev = d ∧ t.get Reg.CAP_STATE.CAUSE = cause ∧ t.get Reg.CAP_STATE.PREVIOUS = s.dev.code

/-- An admin command without arguments beyond those named, from mailbox 0, judged. -/
abbrev adminJudged (c : Cmd) (s : State) : Prop := judged c s ∧ c.mbx = 0

/-- PASSAGE_LOAD in READY takes its image and options and runs on; nothing is loaded yet (R246). -/
def passageLoad : Prop :=
  ∀ (c : Cmd) (s : State), adminJudged c s → c.rsv = 0 → c.a2.toNat ≤ 1 → c.a3 = 0 → c.a4 = 0 → c.a5 = 0 → c.a6 = 0 →
    c.a0 &&& ~~~(addressMask c.a0) = 0 → s.addressAbsent c.a0 c.a1.toNat = false → badAddress c.a0 c.a1.toNat = false → c.fault = false →
    s.dev = .ready → s.loaded = false → s.load = none → s.frw = none →
    runs (.passageLoad c) s fun t =>
      started c 0x0101 s t ∧
      t.load = some ⟨s.argumentBytes c c.a0 c.a1.toNat, [], c.data.drop (if isHostAddress c.a0 then c.a1.toNat else 0),
        c.a2.getLsbD 0⟩ ∧
      t.loaded = false ∧ { t with regs := s.regs, mbx := s.mbx, load := s.load } = s

/-- A load while a passage is loaded is BUSY and takes nothing (Table 13-9). -/
def passageLoadBusy : Prop :=
  ∀ (c : Cmd) (s : State), adminJudged c s → c.rsv = 0 → c.a2.toNat ≤ 1 → c.a3 = 0 → c.a4 = 0 → c.a5 = 0 → c.a6 = 0 →
    c.a0 &&& ~~~(addressMask c.a0) = 0 → s.addressAbsent c.a0 c.a1.toNat = false → s.dev = .ready → s.loaded = true →
    runs (.passageLoad c) s fun t => completed c .busy [] s t ∧ onlyCompletion c s t

/-- A load whose image fails a check ends with LOAD_REFUSED; CAP_LOAD_STATUS and RESULT0 name the first check that failed and
its record, and no passage is loaded (R244). -/
def loadEndsRefused : Prop :=
  ∀ (m : Fin 64) (s : State) (r : Running) (j : LoadJob) (e : LoadError), s.dev = .ready →
    (s.mailbox m.val).running = some r → r.opcode = 0x0101 → s.load = some j →
    s.checkLoad (parsePassage j.image (s.memberList j)) = some e → e.code < 256 → e.sect < 256 → e.index < 2 ^ 32 →
    runs (.commandEnd m) s fun t =>
      t.get Reg.CAP_LOAD_STATUS.CODE = e.code ∧ t.get Reg.CAP_LOAD_STATUS.SECTION = e.sect ∧
      t.get Reg.CAP_LOAD_STATUS.INDEX = e.index ∧
      (t.mailbox m.val).held = (s.mailbox m.val).held ++ [⟨s.get (Reg.MBX_SQ_HEAD.HEAD m.val), 3, Status.loadRefused.code, r.tag,
        [t.rd Reg.CAP_LOAD_STATUS.CODE.reg]⟩] ∧
      (t.mailbox m.val).running = none ∧
      regsKept [Reg.CAP_LOAD_STATUS.CODE.reg, (Reg.MBX_STATUS.BUSY m.val).reg] s t ∧
      { t with regs := s.regs, mbx := s.mbx, load := s.load } = s ∧ t.load = none

/-- A passage whose checks pass and whose tensors can be placed is loaded: the role holds it, LOADED and PASSAGE_ID show it,
and the command completes OK with load code 0 (R246). -/
def loadEndsLoaded : Prop :=
  ∀ (m : Fin 64) (s : State) (r : Running) (j : LoadJob) (p : Passage) (s1 : State) (plan : List (Nat × Nat)), s.dev = .ready →
    (s.mailbox m.val).running = some r → r.opcode = 0x0101 → s.load = some j → s.flag Reg.CAP_DUTY_MODE.PLACEMENT = false →
    parsePassage j.image (s.memberList j) = p → s.checkLoad p = none →
    (({ s with load := none } : State).place p none).toOption = some (s1, plan) →
    runs (.commandEnd m) s fun t =>
      t.passage = some p ∧ t.loaded = true ∧ t.get Reg.CAP_PASSAGE_ID.ID = p.id % 2 ^ 64 ∧ t.role.groups = plan ∧
      t.role.inStep = false ∧ t.load = none ∧ t.get Reg.CAP_LOAD_STATUS.CODE = 0 ∧ t.dev = .ready ∧
      (t.mailbox m.val).running = none ∧ ((t.mailbox m.val).held.map Completion.status).getLast? = some 0

/-- PASSAGE_UNLOAD frees every reservation and Chart entry and keeps the Drift watch slots for the next load (R246). -/
def passageUnload : Prop :=
  ∀ (c : Cmd) (s : State), adminJudged c s → bare c → s.dev = .ready → s.loaded = true → s.snap = none → s.other = none →
    s.role.carried = false →
    runs (.passageUnload c) s fun t =>
      t.passage = none ∧ t.loaded = false ∧ t.get Reg.CAP_PASSAGE_ID.ID = 0 ∧ t.chart = ChartUnit.empty ∧ t.restore = none ∧
      t.get Reg.CAP_RECOVERY.RESTORE = 0 ∧ t.oldHistory = s.role.history ∧ completed c .ok [] s t ∧
      regsKept [Reg.CAP_RUN.LOADED.reg, Reg.CAP_PASSAGE_ID.ID.reg, Reg.CHT_MARK_REGION.BASE.reg, Reg.CAP_RECOVERY.RESTORE.reg,
        Reg.CHT_AWAY.HOST.reg, (Reg.MBX_STATUS.BUSY c.mbx.val).reg] s t ∧
      { t with regs := s.regs, mbx := s.mbx, role := s.role, chart := s.chart, restore := s.restore, oldHistory := s.oldHistory } = s

/-- A snapshot in flight fails at the unload with cause 5 (R188, R191). -/
def passageUnloadSnapshot : Prop :=
  ∀ (c : Cmd) (s : State) (x : SnapRun), adminJudged c s → bare c → s.dev = .ready → s.loaded = true → s.snap = some x →
    s.other = none → s.role.carried = false →
    runs (.passageUnload c) s fun t =>
      t.snap = none ∧ t.passage = none ∧ posted Ev.snapshotFailed [5] s t ∧ completed c .ok [] s t

/-- PASSAGE_ARM: STEP is the base, ATTEMPT 0, each knot's base its present value, and no knot changes (R246, R259). -/
def passageArm : Prop :=
  ∀ (c : Cmd) (s : State) (p : Passage), adminJudged c s → bareRest c → s.dev = .ready → s.loaded = true → s.restore = none →
    s.passage = some p → s.role.carried = false → s.other = none → s.twin.paired = false → s.fab.early = [] →
    s.fab.waitingSignals = [] →
    runs (.passageArm c) s fun t =>
      arrivedIn .armed 0x0103 s t ∧ posted Ev.stateChanged [3, 4, 0x0103] s t ∧ t.get Reg.CAP_STEP.STEP = c.a0.toNat ∧
      t.get Reg.KNT_ATTEMPT.ATTEMPT = 0 ∧ t.get Reg.CAP_RUN.STEPS_LEFT = 0 ∧ t.role.step = c.a0.toNat ∧ t.role.attempt = 0 ∧
      t.role.armBase = s.knots ∧ t.passage = some p ∧ t.role.inStep = false ∧
      (∀ i, i < p.collectives.length → t.get (Reg.KNT_SCALE.HISTORY i) = 0) ∧ completed c .ok [] s t ∧
      { t with dev := s.dev, regs := s.regs, mbx := s.mbx, evt := s.evt, role := s.role, fab := s.fab, helm := s.helm } = s

/-- PASSAGE_ARM is BUSY while the host owes a restore (R398). -/
def passageArmBusy : Prop :=
  ∀ (c : Cmd) (s : State), adminJudged c s → bareRest c → s.dev = .ready → s.loaded = true → s.restore.isSome = true →
    runs (.passageArm c) s fun t => completed c .busy [] s t ∧ onlyCompletion c s t

/-- STEP_RUN enters RUNNING for the steps asked, 0 meaning until stopped; STEPS_LEFT saturates (R246, R20). -/
def stepRun : Prop :=
  ∀ (c : Cmd) (s : State), adminJudged c s → bareRest c → s.dev = .armed →
    runs (.stepRun c) s fun t =>
      arrivedIn .running 0x0104 s t ∧ posted Ev.stateChanged [4, 5, 0x0104] s t ∧
      t.role = { s.role with stepsLeft := if c.a0 = 0 then 2 ^ 64 else c.a0.toNat, withhold := false } ∧
      t.get Reg.CAP_RUN.STEPS_LEFT = (if c.a0 = 0 then 2 ^ 32 - 1 else min c.a0.toNat (2 ^ 32 - 1)) ∧ completed c .ok [] s t ∧
      regsKept ([Reg.CAP_RUN.STEPS_LEFT.reg, Reg.CAP_STATE.CAUSE.reg, (Reg.MBX_STATUS.BUSY c.mbx.val).reg] ++ evtKeys) s t ∧
      { t with dev := s.dev, regs := s.regs, mbx := s.mbx, evt := s.evt, role := s.role, other := s.other } = s

/-- STEP_STOP enters DRAINING with a stop pending, and the stop governs over a hold (R246, Table 7-13). -/
def stepStop : Prop :=
  ∀ (c : Cmd) (s : State), adminJudged c s → bare c → (s.dev = .running ∨ s.dev = .held) →
    runs (.stepStop c) s fun t =>
      arrivedIn .draining 0x0105 s t ∧ t.flag Reg.CAP_RUN.STOP_PENDING = true ∧ t.flag Reg.CAP_RUN.HOLD_PENDING = false ∧
      posted Ev.stateChanged [s.dev.code, DevState.draining.code, 0x0105] s t ∧ completed c .ok [] s t ∧
      regsKept ([Reg.CAP_RUN.STOP_PENDING.reg, Reg.CAP_STATE.CAUSE.reg, (Reg.MBX_STATUS.BUSY c.mbx.val).reg] ++ evtKeys) s t ∧
      { t with dev := s.dev, regs := s.regs, mbx := s.mbx, evt := s.evt } = s

/-- STEP_HOLD takes effect at the next Rendezvous: the hold is pending and the state stays RUNNING (R274, R400). -/
def stepHold : Prop :=
  ∀ (c : Cmd) (s : State), adminJudged c s → bare c → s.dev = .running → s.waitsStalled = false →
    runs (.stepHold c) s fun t =>
      t.flag Reg.CAP_RUN.HOLD_PENDING = true ∧ completed c .ok [] s t ∧
      regsKept [Reg.CAP_RUN.HOLD_PENDING.reg, (Reg.MBX_STATUS.BUSY c.mbx.val).reg] s t ∧ { t with regs := s.regs, mbx := s.mbx } = s

/-- In an episode that cannot complete, STEP_HOLD enters HELD at once (R400). -/
def stepHoldStalled : Prop :=
  ∀ (c : Cmd) (s : State), adminJudged c s → bare c → s.dev = .running → s.waitsStalled = true →
    runs (.stepHold c) s fun t =>
      arrivedIn .held 0x0106 s t ∧ completed c .ok [] s t ∧ { t with dev := s.dev, regs := s.regs, mbx := s.mbx, evt := s.evt } = s

/-- STEP_RESUME returns to RUNNING; while the host owes a restore it is BUSY (R246, R398). -/
def stepResume : Prop :=
  ∀ (c : Cmd) (s : State), adminJudged c s → bare c → s.dev = .held →
    runs (.stepResume c) s fun t =>
      if s.get Reg.CAP_RECOVERY.RESTORE = 3 then completed c .busy [] s t ∧ onlyCompletion c s t
      else arrivedIn .running 0x0107 s t ∧ completed c .ok [] s t ∧
        regsKept ([Reg.CAP_STATE.CAUSE.reg, (Reg.MBX_STATUS.BUSY c.mbx.val).reg] ++ evtKeys) s t ∧
        { t with dev := s.dev, regs := s.regs, mbx := s.mbx, evt := s.evt } = s

/-- STEP_ABORT before pass 2 discards the step in progress and enters ARMED with nothing pending (R249, R274). -/
def stepAbort : Prop :=
  ∀ (c : Cmd) (s : State), adminJudged c s → bare c → (s.dev = .running ∨ s.dev = .held) → s.pass2Begun = false →
    runs (.stepAbort c) s fun t =>
      arrivedIn .armed 0x0108 s t ∧ t.role.withhold = true ∧ t.role.discardMark = (s.role.inStep || s.role.discardMark) ∧
      { t.role with withhold := s.role.withhold, discardMark := s.role.discardMark } = s.role ∧
      t.flag Reg.CAP_RUN.STOP_PENDING = false ∧ t.flag Reg.CAP_RUN.HOLD_PENDING = false ∧
      t.flag Reg.CAP_RUN.ABORT_PENDING = false ∧ completed c .ok [] s t ∧
      { t with dev := s.dev, regs := s.regs, mbx := s.mbx, evt := s.evt, role := s.role, other := s.other } = s

/-- Once pass 2 has begun an abort of a RUNNING module waits for the commit (R249). -/
def stepAbortDeferred : Prop :=
  ∀ (c : Cmd) (s : State), adminJudged c s → bare c → s.dev = .running → s.pass2Begun = true →
    runs (.stepAbort c) s fun t =>
      t.flag Reg.CAP_RUN.ABORT_PENDING = true ∧ completed c .ok [] s t ∧
      regsKept [Reg.CAP_RUN.ABORT_PENDING.reg, (Reg.MBX_STATUS.BUSY c.mbx.val).reg] s t ∧ { t with regs := s.regs, mbx := s.mbx } = s

/-- PASSAGE_DISARM with no data lost and no pass 2 committed discards what ran and enters READY with nothing left to run; the
passage stays loaded (R246, R400). -/
def passageDisarm : Prop :=
  ∀ (c : Cmd) (s : State), adminJudged c s → bare c → (s.dev = .armed ∨ s.dev = .held) → s.other = none →
    s.role.carried = false → s.restore = none → s.role.update.committed = false → s.lostKinds = [] → s.fab.early = [] →
    s.twin.detachPending = false →
    runs (.passageDisarm c) s fun t =>
      arrivedIn .ready 0x0109 s t ∧ t.role.inStep = false ∧ t.role.stepsLeft = 0 ∧ t.role.legs = [] ∧ t.passage = s.passage ∧
      t.role.discardMark = false ∧ t.get Reg.CAP_RUN.STEPS_LEFT = 0 ∧ t.flag Reg.CAP_RUN.STOP_PENDING = false ∧
      t.flag Reg.CAP_RUN.HOLD_PENDING = false ∧ t.flag Reg.CAP_RUN.ABORT_PENDING = false ∧
      t.flag Reg.KNT_STATUS.IN_RENDEZVOUS = false ∧ t.restore = none ∧ completed c .ok [] s t ∧ storesKept s t

end Sys2Proof.Claims

/-- PASSAGE_LOAD in READY takes its image and runs; with a passage loaded it is BUSY; it ends with LOAD_REFUSED and
the first failing check's code, section and index, or with the passage loaded and shown in LOADED and PASSAGE_ID.
PASSAGE_UNLOAD empties the Chart and keeps the Drift watch slots; a snapshot in flight fails with cause 5. (R188,
R191, R244, R246) -/
def Obligations.PassageLoadAndUnload : Prop :=
  Claims.passageLoad ∧ Claims.passageLoadBusy ∧ Claims.loadEndsRefused ∧ Claims.loadEndsLoaded ∧ Claims.passageUnload ∧
    Claims.passageUnloadSnapshot

/-- Each of PASSAGE_ARM, STEP_RUN, STEP_STOP, STEP_HOLD, STEP_RESUME, STEP_ABORT and PASSAGE_DISARM enters the state
Table 13-4 names with its opcode as cause, or leaves its request pending: arming sets STEP, ATTEMPT 0 and every arm
base and changes no knot; a stop governs over a hold; a hold waits for a Rendezvous unless the episode is stalled; an
abort before pass 2 marks the step for discard and one after waits for the commit; disarming leaves nothing running
and keeps the passage. (R20, R246, R249, R259, R274, R398, R400, R415) -/
def Obligations.RunningAPassage : Prop :=
  Claims.passageArm ∧ Claims.passageArmBusy ∧ Claims.stepRun ∧ Claims.stepStop ∧ Claims.stepHold ∧ Claims.stepHoldStalled ∧
    Claims.stepResume ∧ Claims.stepAbort ∧ Claims.stepAbortDeferred ∧ Claims.passageDisarm

/-! ### Functions, maps and settings of a passage -/

namespace Sys2Proof.Claims

/-- DUTY_SET of one function: it switches at once, or shows in PENDING until it does; no other function changes (R253). -/
def dutySet : Prop :=
  ∀ (c : Cmd) (i : Nat) (s : State), adminJudged c s → bareTail c → i < 7 → c.a0 = BitVec.ofNat 64 (2 ^ i) → c.a1.toNat < 128 →
    s.romOnly = false → s.maySwitch i = true → (i = 0 → s.frw = none ∧ s.load = none) →
    runs (.dutySet c) s fun t =>
      (if s.switchWaits i then
        (∀ f ∈ dutyFields, t.get f = s.get f) ∧
        (t.get Reg.CAP_DUTY_MODE.PENDING / 2 ^ i % 2 = 1 ↔
          s.flag (dutyFields.getD i Reg.CAP_DUTY_MODE.PLACEMENT) ≠ c.a1.getLsbD i)
      else
        t.flag (dutyFields.getD i Reg.CAP_DUTY_MODE.PLACEMENT) = c.a1.getLsbD i ∧
        (∀ j, j < 7 → j ≠ i → t.get (dutyFields.getD j Reg.CAP_DUTY_MODE.PLACEMENT) =
          s.get (dutyFields.getD j Reg.CAP_DUTY_MODE.PLACEMENT)) ∧
        t.get Reg.CAP_DUTY_MODE.PENDING / 2 ^ i % 2 = 0) ∧
      completed c .ok [] s t ∧ regsKept [Reg.CAP_DUTY_MODE.PENDING.reg, (Reg.MBX_STATUS.BUSY c.mbx.val).reg] s t ∧
      { t with regs := s.regs, mbx := s.mbx } = s

/-- With one function that may not switch now, none does (R253). -/
def dutySetIllegal : Prop :=
  ∀ (c : Cmd) (i : Nat) (s : State), adminJudged c s → bareTail c → c.a0.toNat < 128 → c.a1.toNat < 128 → i < 7 →
    c.a0.getLsbD i = true → s.maySwitch i = false →
    runs (.dutySet c) s fun t => completed c .stateConflict [] s t ∧ onlyCompletion c s t

/-- HOSTMAP_SET replaces the map of the passage in force (R225). -/
def hostmapSet : Prop :=
  ∀ (c : Cmd) (s : State) (p : Passage) (hm : List Nat), judged c s → c.rsv = 0 → c.a2 = 0 → c.a3 = 0 → c.a4 = 0 → c.a5 = 0 → c.a6 = 0 →
    c.a0 &&& ~~~(addressMask c.a0) = 0 → s.addressAbsent c.a0 (8 * c.a1.toNat) = false → badAddress c.a0 (8 * c.a1.toNat) = false →
    c.fault = false → (s.dev = .armed ∨ s.dev = .held) → s.flag Reg.CAP_DUTY_MODE.PLACEMENT = true → s.passage = some p →
    c.a1.toNat = p.legs.length → s.mapNamesAbsent (s.argumentBytes c c.a0 (8 * c.a1.toNat)) = false →
    s.parseHostmap (s.argumentBytes c c.a0 (8 * c.a1.toNat)) p.legs.length = some hm →
    runs (.hostmapSet c) s fun t =>
      t.passage = some { p with hostmap := hm } ∧ completed c .ok [] s t ∧ onlyRegs { s with mbx := t.mbx, role := t.role } t ∧
      regsKept [(Reg.MBX_STATUS.BUSY c.mbx.val).reg] s t

/-- UPD_CLIP_SET gives the step in progress its clip factor and policy (R254). -/
def updClipSet : Prop :=
  ∀ (c : Cmd) (s : State), judged c s → c.rsv = 0 → c.a2.toNat ≤ 1 → c.a3 = 0 → c.a4 = 0 → c.a5 = 0 → c.a6 = 0 →
    (s.dev = .running ∨ s.dev = .held) → s.role.inStep = true → s.role.step = c.a0.toNat → s.role.carried = false →
    s.other = none → s.role.update.hostClip = none → s.role.update.combined = false →
    runs (.updClipSet c) s fun t =>
      t.role = { s.role with update := { s.role.update with hostClip := some (clip32 c.a1.toNat, c.a2.getLsbD 0) } } ∧
      completed c .ok [] s t ∧ regsKept [(Reg.MBX_STATUS.BUSY c.mbx.val).reg] s t ∧
      { t with regs := s.regs, mbx := s.mbx, role := s.role } = s

/-- RUNG_SET, HISTORY_READ and HISTORY_WRITE: the two that set take effect at the next step start (R420). -/
def rungSet : Prop :=
  ∀ (c : Cmd) (s : State) (id rung : Nat), judged c s → bareRest c → id < 65536 → rung < 4 →
    c.a0 = BitVec.ofNat 64 (65536 * rung + id) → s.passageAt = true → (s.tensor? id).isSome = true →
    runs (.rungSet c) s fun t =>
      t.role = { s.role with setRungs := s.role.setRungs ++ [(id, rung)] } ∧ completed c .ok [] s t ∧
      regsKept [(Reg.MBX_STATUS.BUSY c.mbx.val).reg] s t ∧ { t with regs := s.regs, mbx := s.mbx, role := s.role } = s

/-- HISTORY_READ answers h and n of a watched tensor and changes nothing. -/
def historyRead : Prop :=
  ∀ (c : Cmd) (s : State) (w : Tensor), judged c s → bareRest c → s.passageAt = true → s.watched c.a0.toNat = some w →
    runs (.historyRead c) s fun t =>
      completed c .ok [BitVec.ofNat 64 (s.history w).h, BitVec.ofNat 64 (s.history w).n] s t ∧ onlyCompletion c s t

/-- HISTORY_WRITE keeps h and n for the next step start. -/
def historyWrite : Prop :=
  ∀ (c : Cmd) (s : State), adminJudged c s → c.rsv = 0 → c.a3 = 0 → c.a4 = 0 → c.a5 = 0 → c.a6 = 0 → c.a2.toNat ≤ 255 →
    (s.readyLoaded = true ∨ s.dev = .armed ∨ s.dev = .held) → (s.watched c.a0.toNat).isSome = true →
    runs (.historyWrite c) s fun t =>
      t.role = { s.role with setHistory := s.role.setHistory ++ [(c.a0.toNat, c.a1.toNat, c.a2.toNat)] } ∧
      completed c .ok [] s t ∧ regsKept [(Reg.MBX_STATUS.BUSY c.mbx.val).reg] s t ∧
      { t with regs := s.regs, mbx := s.mbx, role := s.role } = s

end Sys2Proof.Claims

/-- DUTY_SET switches the named function at once or shows it in PENDING, and changes no other; where one named
function may not switch, none does. HOSTMAP_SET replaces the passage's map. UPD_CLIP_SET gives the step in progress
its clip factor. RUNG_SET and HISTORY_WRITE are kept for the next step start; HISTORY_READ answers h and n and changes
nothing. (R225, R253, R254, R420) -/
def Obligations.PassageSettings : Prop :=
  Claims.dutySet ∧ Claims.dutySetIllegal ∧ Claims.hostmapSet ∧ Claims.updClipSet ∧ Claims.rungSet ∧ Claims.historyRead ∧
    Claims.historyWrite

/-! ### Snapshot, restore, node IDs and the twin commands -/

namespace Sys2Proof.Claims

/-- SNAPSHOT_REQUEST opens a snapshot at its boundary with a reserve in free HBM4E, and marks nothing yet (R185, R186). -/
def snapshotRequest : Prop :=
  ∀ (c : Cmd) (s : State) (ids : List Nat) (a : Nat), judged c s → c.rsv = 0 → c.a5 = 0 → c.a6 = 0 →
    c.a0 &&& ~~~(addressMask c.a0) = 0 → c.a3 &&& ~~~(snapMask c.a3) = 0 → s.addressAbsent c.a0 (2 * c.a1.toNat) = false → c.fault = false →
    (s.dev = .armed ∨ s.dev = .running ∨ s.dev = .held) → s.snap = none → 0 < c.a1.toNat → c.a1.toNat ≤ 65536 →
    badAddress c.a0 (2 * c.a1.toNat) = false → snapIds (s.argumentBytes c c.a0 (2 * c.a1.toNat)) = ids →
    (∀ i ∈ ids, ((s.tensor? i).map Tensor.kind) = some 0 ∧ ((s.tensor? i).map Tensor.format) = some 1) →
    s.role.step ≤ c.a2.toNat → 8 ≤ c.a4.toNat → c.a4.toNat ≤ 2 ^ 26 → s.fitAny (8192 * c.a4.toNat) = some a →
    runs (.snapshotRequest c) s fun t =>
      t.snap.map (fun x => (x.tensors, x.boundary, x.slots)) = some (ids, c.a2.toNat, c.a4.toNat) ∧
      t.snap.map SnapRun.reserve = some [] ∧ t.snap.map (fun x => (x.reserveAddr, x.marked, x.trailer)) = some (a, false, false) ∧
      t.snap.map SnapRun.node = some (if c.a3.getLsbD 63 then some (c.a3.toNat / 2 ^ 48 % 2 ^ 14) else none) ∧
      t.flag Reg.NUM_SNAP_STATUS.ACTIVE = true ∧ t.get Reg.NUM_SNAP_STATUS.STEP_LO = c.a2.toNat % 2 ^ 31 ∧
      completed c .ok [] s t ∧ regsKept [Reg.NUM_SNAP_STATUS.ACTIVE.reg, (Reg.MBX_STATUS.BUSY c.mbx.val).reg] s t ∧
      { t with regs := s.regs, mbx := s.mbx, snap := s.snap } = s

/-- SNAPSHOT_ABORT is a failure with cause 4; with no snapshot in flight nothing happens (R188). -/
def snapshotAbort : Prop :=
  ∀ (c : Cmd) (s : State), judged c s → bare c → s.legalLate = true →
    runs (.snapshotAbort c) s fun t =>
      completed c .ok [] s t ∧ t.snap = none ∧
      (if s.snap.isSome then posted Ev.snapshotFailed [4] s t else onlyCompletion c s t)

/-- A copy in the reserve is shipped before any pending tile, to its place behind the header and table, and its slot then waits to
be freed (R186, Table 5-10). -/
def snapshotShipReserve : Prop :=
  ∀ (s : State) (x : SnapRun) (id k : Nat) (bs : List Byte) (rest : List (Nat × Nat × List Byte)), s.snap = some x →
    x.marked = true → x.node = none → s.trafficOk = true → x.reserve = (id, k, bs) :: rest →
    runs (.snapshotShipTile) s fun t =>
      Out.hostWrite (x.dest + (x.tilesAt + 8192 * (s.snapFirst x id + k))) (sliceBytes bs 0 8192) ∈ t.out ∧
      t.snap.map (fun y => (y.reserve, y.waiting)) = some (rest, x.waiting + 1) ∧ t.role = s.role ∧ t.dev = s.dev

/-- With no copy waiting, the lowest pending tile is shipped as its home holds it and is pending no more (R186). -/
def snapshotShipPending : Prop :=
  ∀ (s : State) (x : SnapRun) (id k : Nat), s.snap = some x → x.marked = true → x.node = none → s.trafficOk = true →
    x.reserve = [] → (s.pendingTiles x).head? = some (id, k) →
    runs (.snapshotShipTile) s fun t =>
      Out.hostWrite (x.dest + (x.tilesAt + 8192 * (s.snapFirst x id + k))) (sliceBytes (match s.home id k with
        | some h => s.readBytes h.2.2 8192
        | none => []) 0 8192) ∈ t.out ∧
      t.isPending id k = false ∧ t.role = s.role ∧ t.dev = s.dev

/-- A slot whose copy has been sent is free again (R186). -/
def reserveSlotFreed : Prop :=
  ∀ (s : State) (x : SnapRun), s.snap = some x →
    runs (.reserveSlotFreed) s fun t => t.snap = some { x with waiting := x.waiting - 1 } ∧ { t with snap := s.snap } = s

/-- The footer goes last, behind all the data: the boundary step and 1; SNAPSHOT_DONE is posted and the snapshot is over
(R187). -/
def snapshotFooter : Prop :=
  ∀ (s : State) (x : SnapRun), s.snap = some x → x.trailer = true → x.node = none → s.trafficOk = true →
    runs (.snapshotFooter) s fun t =>
      t.out = .hostWrite (x.dest + (x.tilesAt + 8192 * s.snapTotal x + 4 * s.snapTotal x)) (leBytes 8 x.boundary ++ leBytes 8 1) :: s.out ∧
      t.snap = none ∧ t.flag Reg.NUM_SNAP_STATUS.ACTIVE = false ∧ t.get Reg.NUM_SNAP_STATUS.TILES_LEFT = 0 ∧
      posted Ev.snapshotDone [x.boundary] s t ∧ t.role = s.role ∧ t.dev = s.dev

/-- RESTORE_COMPLETE: RESTORE goes to done, FROM_HOST counts, and every entry of the set is RESIDENT (R398). -/
def restoreComplete : Prop :=
  ∀ (c : Cmd) (s : State) (x : RestoreRun), adminJudged c s → bare c → (s.dev = .held ∨ s.dev = .ready) →
    s.get Reg.CAP_RECOVERY.RESTORE = 3 → s.restore = some x →
    runs (.restoreComplete c) s fun t =>
      t.get Reg.CAP_RECOVERY.RESTORE = 4 ∧ t.get Reg.CAP_RECOVERY.MIB_LEFT = 0 ∧
      t.get Reg.CAP_RECOVERY.FROM_HOST = satCount Reg.CAP_RECOVERY.FROM_HOST.width (s.get Reg.CAP_RECOVERY.FROM_HOST + 1) ∧
      t.restore = none ∧ (∀ i ∈ x.entries, (t.entry i).state = 2) ∧ completed c .ok [] s t ∧
      { t with regs := s.regs, mbx := s.mbx, restore := s.restore, chart := s.chart } = s

/-- RESTORE_COMPLETE is illegal unless the host owes a restore (R398). -/
def restoreCompleteIllegal : Prop :=
  ∀ (c : Cmd) (s : State), adminJudged c s → bare c → s.get Reg.CAP_RECOVERY.RESTORE ≠ 3 →
    runs (.restoreComplete c) s fun t => completed c .stateConflict [] s t ∧ onlyCompletion c s t

/-- The last tile of a set has landed from the twin: its bytes stand at their home, the set is RESIDENT and RESTORE_DONE is posted
(R397). -/
def restoreShipmentLanded : Prop :=
  ∀ (s : State) (x : RestoreRun) (i : Nat) (a : Addr) (bs : List Byte), s.restore = some x →
    s.get Reg.CAP_RECOVERY.RESTORE = 2 → x.disarm = false → i ∈ x.entries → (s.entry i).tier ≤ 1 → (s.entry i).addr ≤ a.toNat →
    a.toNat + bs.length ≤ (s.entry i).addr + (s.entry i).bytes →
    runs (.restoreShipmentLanded [(a, bs)]) s fun t =>
      t.readBytes a.toNat bs.length = bs ∧ bytesKeptBut a.toNat bs.length s t ∧
      (∀ j ∈ x.entries, (t.entry j).state = 2) ∧ t.restore = none ∧ t.get Reg.CAP_RECOVERY.RESTORE = 4 ∧
      t.get Reg.CAP_RECOVERY.MIB_LEFT = 0 ∧
      posted Ev.restoreDone [s.get Reg.CAP_RECOVERY.CAUSE, ceilDiv x.bytes (2 ^ 20)] s t ∧ t.dev = s.dev ∧ t.role = s.role

/-- FABRIC_RELEASE_ID releases the ID of a departed module (R304). -/
def fabricReleaseId : Prop :=
  ∀ (c : Cmd) (s : State), adminJudged c s → bareRest c → s.legalLate = true → s.reservedFor c.a0.toNat ≠ [] →
    runs (.fabricReleaseId c) s fun t =>
      t.reservedFor c.a0.toNat = [] ∧ (∀ x ∈ s.fab.reserved, x ∉ s.reservedFor c.a0.toNat → x ∈ t.fab.reserved) ∧
      completed c .ok [] s t ∧ regsKept [(Reg.MBX_STATUS.BUSY c.mbx.val).reg] s t ∧
      { t with regs := s.regs, mbx := s.mbx, fab := { t.fab with reserved := s.fab.reserved } } = s

/-- An ID that is not reserved for a departed module is BAD_ARGUMENT (R304). -/
def fabricReleaseIdRefused : Prop :=
  ∀ (c : Cmd) (s : State), adminJudged c s → bareRest c → s.legalLate = true → s.reservedFor c.a0.toNat = [] →
    runs (.fabricReleaseId c) s fun t => completed c .badArgument [] s t ∧ onlyCompletion c s t

/-- A twin command that the twin's state forbids completes with STATE_CONFLICT and STATE in RESULT0; without a twin link it is
UNIT_ABSENT (R321 to R324, Table 13-9). -/
def twinReleaseRefused : Prop :=
  ∀ (c : Cmd) (s : State), adminJudged c s → bare c → s.dev = .ready → s.twin.state ≠ 7 →
    runs (.twinRelease c) s fun t =>
      (if s.part.variant.hasTwin then completed c .stateConflict [BitVec.ofNat 64 s.twin.state] s t
      else completed c .unitAbsent [] s t) ∧ onlyCompletion c s t

/-- A detach in CARRYING or HANDOVER is refused in the same way (R324). -/
def twinDetachRefused : Prop :=
  ∀ (c : Cmd) (s : State), adminJudged c s → bare c → s.dev = .ready → (s.twin.state = 8 ∨ s.twin.state = 9) →
    s.part.variant.hasTwin = true →
    runs (.twinDetach c) s fun t =>
      completed c .stateConflict [BitVec.ofNat 64 s.twin.state] s t ∧ onlyCompletion c s t

/-- TWIN_CARRY: the module takes the lost twin's node ID as its alias and carries its role beside its own (R322). -/
def twinCarry : Prop :=
  ∀ (c : Cmd) (s : State) (st : MirrorState) (s1 : State), adminJudged c s → bare c → s.part.variant.hasTwin = true → s.dev = .running →
    s.twin.state = 7 → s.flag Reg.TWN_STATUS.CARRY_READY = true → s.flag Reg.TWN_STATUS.MIRROR_VALID = true →
    s.twin.lostPending = false → s.role.carried = false → s.twin.partnerState = some st →
    s.placePartner s.partnerPassage true = some s1 →
    runs (.twinCarry c) s fun t =>
      t.twin.state = 8 ∧ t.get Reg.TWN_STATUS.STATE = 8 ∧ t.flag Reg.TWN_STATUS.MIRROR_VALID = false ∧
      t.other.map Role.carried = some true ∧ t.other.map Role.passage = some (some s.partnerPassage) ∧
      (∀ n, s.twin.lostNode = some n → n < 2 ^ 14 → t.get Reg.FAB_NODE.ALIAS = n ∧ t.flag Reg.FAB_NODE.ALIAS_VALID = true) ∧
      t.role = s1.role ∧ t.dev = .running ∧ completed c .ok [] s t

/-- TWIN_HANDOVER from SOLO starts the shipment to a paired replacement that has no passage armed (R323). -/
def twinHandover : Prop :=
  ∀ (c : Cmd) (s : State), adminJudged c s → bare c → s.part.variant.hasTwin = true → s.dev = .held → s.twin.state = 7 →
    s.flag Reg.TWN_STATUS.MIRROR_VALID = true → s.twin.paired = true → s.twin.partnerArmed = false → s.twin.lostPending = false →
    runs (.twinHandover c) s fun t =>
      t.twin.state = 9 ∧ t.twin.handoverPrior = 7 ∧ t.get Reg.TWN_STATUS.STATE = 9 ∧ completed c .ok [] s t ∧ t.dev = s.dev ∧
      t.role = s.role ∧ storesKept s t

/-- TWIN_RELEASE drops the mirror and the lost node's ID; the survivor goes on alone (R321). -/
def twinRelease : Prop :=
  ∀ (c : Cmd) (s : State), adminJudged c s → bare c → s.part.variant.hasTwin = true → s.passageAt = true → s.twin.state = 7 →
    s.get Reg.CAP_STATE.CAUSE ≠ eventCause Ev.twinLost →
    runs (.twinRelease c) s fun t =>
      t.twin.state = s.twinIdle ∧ t.get Reg.TWN_STATUS.STATE = s.twinIdle ∧ t.flag Reg.TWN_STATUS.MIRROR_VALID = false ∧
      t.flag Reg.TWN_STATUS.CARRY_READY = false ∧ t.twin.mirror = [] ∧ t.twin.records = [] ∧ t.twin.lostNode = none ∧
      completed c .ok [] s t ∧ regsKept [Reg.TWN_STATUS.STATE.reg, (Reg.MBX_STATUS.BUSY c.mbx.val).reg] s t ∧
      { t with regs := s.regs, mbx := s.mbx, twin := s.twin } = s

/-- TWIN_DETACH waits for the commit of a step in progress, and parts the twins at once otherwise (R324). -/
def twinDetach : Prop :=
  ∀ (c : Cmd) (s : State), adminJudged c s → bare c → s.part.variant.hasTwin = true → (s.passageAt = true ∨ s.dev = .ready) →
    s.twin.state ≠ 8 → s.twin.state ≠ 9 → s.awayOnTwin = false →
    runs (.twinDetach c) s fun t =>
      completed c .ok [] s t ∧
      (if s.role.inStep then t.twin = { s.twin with detachPending := true } ∧ { t with regs := s.regs, mbx := s.mbx, twin := s.twin } = s
      else t.twin.paired = false ∧ t.twin.state = 1 ∧ t.get Reg.TWN_STATUS.STATE = 1 ∧ t.get Reg.TWN_STATUS.PATH = 0 ∧
        t.twin.mirror = [] ∧ t.twin.records = [] ∧ t.flag Reg.TWN_STATUS.MIRROR_VALID = false ∧ t.role = s.role ∧ storesKept s t)

end Sys2Proof.Claims

/-- SNAPSHOT_REQUEST opens a snapshot at its boundary with a reserve in free HBM4E; an abort is a failure with cause
4. The shipper sends a copy of the reserve first, else the lowest pending tile, each to its place in the image; a sent
copy's slot is freed; the footer goes last and ends the snapshot with SNAPSHOT_DONE. (R185, R186, R187, R188) -/
def Obligations.Snapshots : Prop :=
  Claims.snapshotRequest ∧ Claims.snapshotAbort ∧ Claims.snapshotShipReserve ∧ Claims.snapshotShipPending ∧
    Claims.reserveSlotFreed ∧ Claims.snapshotFooter

/-- RESTORE_COMPLETE, legal only while the host owes a restore, makes the set RESIDENT and counts it; a shipment from
the twin lands its bytes at their homes and ends the restore with RESTORE_DONE; FABRIC_RELEASE_ID releases the IDs of
departed modules and no other. (R304, R397, R398) -/
def Obligations.RestoresAndNodeIds : Prop :=
  Claims.restoreComplete ∧ Claims.restoreCompleteIllegal ∧ Claims.restoreShipmentLanded ∧ Claims.fabricReleaseId ∧
    Claims.fabricReleaseIdRefused

/-- A twin command that the twin's state forbids is STATE_CONFLICT with STATE in RESULT0. TWIN_CARRY takes the lost
twin's node ID as alias and carries its role; TWIN_HANDOVER starts the shipment in state 9; TWIN_RELEASE drops the
mirror; TWIN_DETACH parts the twins at once or at the commit. (R321, R322, R323, R324) -/
def Obligations.TwinCommands : Prop :=
  Claims.twinReleaseRefused ∧ Claims.twinDetachRefused ∧ Claims.twinCarry ∧ Claims.twinHandover ∧ Claims.twinRelease ∧ Claims.twinDetach

/-! ### Attestation, the test port and the management bus -/

namespace Sys2Proof.Claims

/-- GET_VERSION, GET_CAPABILITIES, NEGOTIATE_ALGORITHMS, GET_DIGESTS and an unsupported request are answered while the link is up
and firmware runs, and change nothing (R459). -/
def spdmPlain : Prop :=
  ∀ (code : Byte) (s : State), s.spdmServed = true →
    (runs (.getVersion) s fun t => t = s.emit (.spdm (.version [12, 13]))) ∧
    (runs (.getCapabilities) s fun t => t = s.emit (.spdm (.capabilities true true true true))) ∧
    (runs (.negotiateAlgorithms) s fun t => t = s.emit (.spdm (.algorithms true true true))) ∧
    (runs (.getDigests) s fun t => t = s.emit (.spdm (.digests (sha384 s.certificateChain)))) ∧
    (runs (.spdmUnsupportedRequest code) s fun t => t = s.emit (.spdm (.error .unsupportedRequest)))

/-- With the link down, or before firmware starts, no request is answered. -/
def spdmSilent : Prop :=
  ∀ (off len : W16) (signed : Bool) (index : Byte) (transcript : List Byte) (s : State), s.spdmServed = false →
    (runs .getVersion s fun t => t = s) ∧ (runs .getCapabilities s fun t => t = s) ∧
    (runs .negotiateAlgorithms s fun t => t = s) ∧ (runs .getDigests s fun t => t = s) ∧
    (runs (.getCertificate off len) s fun t => t = s) ∧ (runs (.challenge transcript) s fun t => t = s) ∧
    (runs (.getMeasurements signed index transcript) s fun t => t = s) ∧
    (runs (.spdmUnsupportedRequest index) s fun t => t = s)

/-- GET_CERTIFICATE answers a portion of the slot 0 chain and how much remains; beyond its end the request is invalid (R459). -/
def getCertificate : Prop :=
  ∀ (off len : W16) (s : State), s.spdmServed = true →
    runs (.getCertificate off len) s fun t =>
      t = s.emit (.spdm (if s.certificateChain.length ≤ off.toNat then .error .invalidRequest
        else .certificate ((s.certificateChain.drop off.toNat).take len.toNat)
          (s.certificateChain.length - off.toNat - ((s.certificateChain.drop off.toNat).take len.toNat).length)))

/-- CHALLENGE is answered with the digest of slot 0, a fresh nonce and a signature by the attestation key; without the key it is
an error, busy during self-test (R459, R460). The nonce's value is open (log 2). -/
def challenge : Prop :=
  ∀ (transcript : List Byte) (s : State) (k : Nat), s.spdmServed = true → s.sec.attestKey = some k →
    runs (.challenge transcript) s fun t =>
      t.out = .spdm (.challengeAuth (sha384 s.certificateChain) (s.freeBytes 32).1 (ecdsaSign k (sha384 transcript))) :: s.out ∧
      { t with out := s.out, sec := { t.sec with drbg := s.sec.drbg }, fresh := s.fresh } = s

/-- Without the attestation key a challenge and signed measurements are an error: busy during self-test (R460). -/
def unsignedError : Prop :=
  ∀ (transcript : List Byte) (s : State), s.spdmServed = true → s.sec.attestKey = none →
    (runs (.challenge transcript) s fun t => t = s.emit (.spdm (.error (if s.dev = .selftest then .busy else .unspecified)))) ∧
    (runs (.getMeasurements true 255 transcript) s fun t =>
      t = s.emit (.spdm (.error (if s.dev = .selftest then .busy else .unspecified))))

/-- GET_MEASUREMENTS unsigned is always answered: 5 blocks, of which an index of 1 to 5 names one register and 255 all; any other
index but 0 is invalid (R459, R460). -/
def getMeasurements : Prop :=
  ∀ (index : Byte) (transcript : List Byte) (s : State), s.spdmServed = true →
    runs (.getMeasurements false index transcript) s fun t =>
      t = s.emit (.spdm (
        if index.toNat = 0 then .measurements 5 [] none
        else if index.toNat ≤ 5 then .measurements 5 [(index.toNat, (s.measure (index.toNat - 1)).value)] none
        else if index.toNat = 255 then .measurements 5 ((List.range 5).map (fun i => (i + 1, (s.measure i).value))) none
        else .error .invalidRequest))

/-- Signed measurements carry a fresh nonce and a signature by the attestation key, as a challenge does (R460). -/
def getMeasurementsSigned : Prop :=
  ∀ (transcript : List Byte) (s : State) (k : Nat), s.spdmServed = true → s.sec.attestKey = some k →
    runs (.getMeasurements true 255 transcript) s fun t =>
      t.out = .spdm (.measurements 5 ((List.range 5).map (fun i => (i + 1, (s.measure i).value)))
        (some ((s.freeBytes 32).1, ecdsaSign k (sha384 transcript)))) :: s.out ∧
      { t with out := s.out, sec := { t.sec with drbg := s.sec.drbg }, fresh := s.fresh } = s

/-- IDCODE and BYPASS work at all times; EXTEST, SAMPLE/PRELOAD and internal scan only after a debug unlock (R453). -/
def tapLocked : Prop :=
  ∀ (s : State), s.flag Reg.SEC_STATUS.DEBUG_UNLOCKED = false →
    (runs (.idcode) s fun t => t.tap.instruction = 1 ∧ { t with tap := s.tap } = s) ∧
    (runs (.bypass) s fun t => t.tap.instruction = 2 ∧ { t with tap := s.tap } = s) ∧
    (runs (.extest) s fun t => t = s) ∧ (runs (.samplePreload) s fun t => t = s) ∧ (runs (.internalScan) s fun t => t = s)

/-- After a debug unlock the three select their registers; internal scan clears the secrets first (R452, R453). -/
def tapUnlocked : Prop :=
  ∀ (s : State), s.flag Reg.SEC_STATUS.DEBUG_UNLOCKED = true →
    (runs (.extest) s fun t => t.tap.instruction = 3 ∧ { t with tap := s.tap } = s) ∧
    (runs (.samplePreload) s fun t => t.tap.instruction = 4 ∧ { t with tap := s.tap } = s) ∧
    (runs (.internalScan) s fun t => t.tap.instruction = 5 ∧ t.sec.attestKey = none ∧ t.sec.drbg = 0 ∧ t.sec.fuseGate = true ∧
      t.sec.scanEnabled = true ∧ t.flag Reg.SEC_STATUS.KEYSTORE_LOADED = false ∧ t.flag Reg.SEC_STATUS.ATTEST_READY = false ∧
      posted Ev.secretsCleared [] s t ∧ { t with regs := s.regs, evt := s.evt, sec := s.sec, tap := s.tap } = s)

/-- Without a token the device issues its nonce, whose value is open (R453, log 2). -/
def debugNonce : Prop :=
  ∀ (s : State), s.dev ≠ .off →
    runs (.debugUnlock none) s fun t =>
      t.out = .tapNonce t.sec.debugNonce :: s.out ∧ t.sec.debugNonce = (s.freeBytes 48).1 ∧
      { t with out := s.out, sec := { t.sec with debugNonce := s.sec.debugNonce, drbg := s.sec.drbg }, fresh := s.fresh } = s

/-- A valid token in READY with nothing loaded, or in FAULTED, unlocks: the secrets are cleared, M3 is extended with SHA-384 of
DEBUG, the nonce is used up and DEBUG_UNLOCKED is posted (R453, R457). -/
def debugUnlock : Prop :=
  ∀ (token : List Byte) (s : State), (s.dev = .faulted ∨ s.dev = .ready ∧ s.loaded = false) → s.tokenOk token = true →
    s.sec.measures.length = 8 →
    runs (.debugUnlock (some token)) s fun t =>
      t.flag Reg.SEC_STATUS.DEBUG_UNLOCKED = true ∧ t.sec.attestKey = none ∧ t.sec.debugNonce = [] ∧
      t.measure 3 = ⟨sha384 ((s.measure 3).value ++ sha384 debugWord), (s.measure 3).count + 1⟩ ∧
      (∀ i, i < 8 → i ≠ 3 → t.measure i = s.measure i) ∧ t.evt.seq = s.evt.seq + 2 ∧ t.dev = s.dev ∧
      regsKept ([Reg.SEC_STATUS.DEBUG_UNLOCKED.reg] ++ evtKeys ++ [Reg.EVT_STATUS.LOST.reg]) s t ∧
      { t with regs := s.regs, evt := s.evt, sec := s.sec } = s

/-- A token that is not valid, or comes in another state, is ignored (R453). -/
def debugUnlockIgnored : Prop :=
  ∀ (token : List Byte) (s : State), (s.tokenOk token = false ∨ (s.dev ≠ .faulted ∧ ¬(s.dev = .ready ∧ s.loaded = false))) →
    runs (.debugUnlock (some token)) s fun t => t = s

/-- SETDASA to the static address 0x20 + SLOT_ID sets the dynamic address, to another does nothing; ENTDAA is answered with the
low 48 bits of the UID only while there is no dynamic address (R476). -/
def busAddresses : Prop :=
  ∀ (static dyn : BitVec 7) (s : State), s.dev ≠ .off →
    (runs (.setdasa static dyn) s fun t =>
      t.i3c.dynamicAddr = (if static.toNat = 0x20 + s.boot.slotId.toNat then some dyn else s.i3c.dynamicAddr) ∧
      { t with i3c := s.i3c } = s) ∧
    (runs (.entdaa dyn) s fun t =>
      t.i3c.dynamicAddr = (if s.i3c.dynamicAddr = none then some dyn else s.i3c.dynamicAddr) ∧
      t.out = (if s.i3c.dynamicAddr = none then [Out.busData (beBytes 6 s.part.uid.toNat)] else []) ++ s.out ∧
      { t with i3c := s.i3c, out := s.out } = s)

/-- A bus read answers the bytes from an index and clears the counts of MG_INPUTS whose byte it returns (R476). -/
def mgRegisterRead : Prop :=
  ∀ (index : Byte) (len : Nat) (s : State), s.dev ≠ .off →
    runs (.mgRegisterRead index len) s fun t =>
      t.out = .busData ((List.range len).map (fun i => s.mgByte (index.toNat + i))) :: s.out ∧
      t.get Reg.MG_INPUTS.BAD_READINGS = (if index.toNat ≤ 0x1B ∧ 0x1B < index.toNat + len then 0 else s.get Reg.MG_INPUTS.BAD_READINGS) ∧
      t.get Reg.MG_INPUTS.BAD_FRAMES = (if index.toNat ≤ 0x1A ∧ 0x1A < index.toNat + len then 0 else s.get Reg.MG_INPUTS.BAD_FRAMES) ∧
      regsKept [Reg.MG_INPUTS.BAD_FRAMES.reg] s t ∧ { t with regs := s.regs, out := s.out } = s

/-- MG_ALERT is write-one-to-clear over the bus; ALERT_N is released when no alert remains (R477). -/
def mgAlertClear : Prop :=
  ∀ (mask : W32) (s : State), s.dev ≠ .off →
    runs (.mgAlertClear mask) s fun t =>
      t.hold.alert = s.hold.alert &&& ~~~(mask.setWidth 7) ∧
      t.out = (if s.hold.alert ≠ 0 ∧ t.hold.alert = 0 then [Out.pin .alert false] else []) ++ s.out ∧
      { t with hold := { t.hold with alert := s.hold.alert }, out := s.out } = s

end Sys2Proof.Claims

/-- With the link up and firmware running, version, capabilities, algorithms, digests, certificate and unsigned
measurement requests are answered and change nothing; a challenge and signed measurements are signed by the
attestation key with a fresh nonce, or answered with an error while there is no key; an unsupported request is an
error; otherwise nothing is answered. (R459, R460) -/
def Obligations.Attestation : Prop :=
  Claims.spdmPlain ∧ Claims.spdmSilent ∧ Claims.getCertificate ∧ Claims.challenge ∧ Claims.unsignedError ∧
    Claims.getMeasurements ∧ Claims.getMeasurementsSigned

/-- IDCODE and BYPASS work at all times; EXTEST, SAMPLE/PRELOAD and internal scan do nothing without a debug unlock,
and internal scan clears the secrets first. A token signed for this device and nonce unlocks in READY with nothing
loaded or FAULTED, clears the secrets and extends M3 alone; any other token is ignored. (R452, R453, R457) -/
def Obligations.TestPort : Prop :=
  Claims.tapLocked ∧ Claims.tapUnlocked ∧ Claims.debugNonce ∧ Claims.debugUnlock ∧ Claims.debugUnlockIgnored

/-! ### What the tray sends -/

namespace Sys2Proof.Claims

/-- The bytes of a coolant write with its CRC. -/
def coolantBytes (inlet outlet flow : W16) (seq : Byte) : List Byte :=
  let b := leBytes 2 inlet.toNat ++ leBytes 2 outlet.toNat ++ leBytes 2 flow.toNat ++ [seq]
  b ++ [crc8 b]

/-- An accepted coolant reading is reported, starts AGE anew and becomes the latest of at most four usable ones; the loss of data
ends (R377, R478, R479). -/
def coolantAccepted : Prop :=
  ∀ (inlet outlet flow : W16) (seq : Byte) (s : State), s.dev ≠ .off → inlet.toNat ≤ 800 → outlet.toNat ≤ 800 →
    flow.toNat ≤ 10000 → inlet.toNat ≤ outlet.toNat + 16 → s.helm.lastSeq ≠ some seq → 25 * s.ratedFlow ≤ 100 * flow.toNat →
    s.get Reg.HELM_COOLANT_CFG.OUTLET_SLOPE = 0 →
    runs (.mgCoolantWrite 0x10 (coolantBytes inlet outlet flow seq)) s fun t =>
      t.get Reg.HELM_COOLANT.INLET = inlet.toNat ∧ t.get Reg.HELM_COOLANT.OUTLET = outlet.toNat ∧
      t.get Reg.HELM_COOLANT.FLOW = flow.toNat ∧ t.coolantAge = 0 ∧ t.flag Reg.HELM_THERMAL.DATA_LOST = false ∧
      t.helm.readings = (⟨inlet.toNat, outlet.toNat, flow.toNat⟩ :: s.helm.readings).take 4 ∧ t.helm.lastSeq = some seq ∧
      regsKept [Reg.HELM_COOLANT.FLOW.reg, Reg.HELM_THERMAL.DATA_LOST.reg] s t ∧ { t with regs := s.regs, helm := s.helm } = s

/-- A reading with a wrong CRC, a repeated sequence number, a temperature outside −20 to 100 °C or a flow above 10,000 mL/min, and a
write over those bytes in any other form, is discarded and counted (R479). -/
def coolantDiscarded : Prop :=
  ∀ (index : Byte) (bs : List Byte) (s : State), s.dev ≠ .off →
    ((index.toNat = 0x10 ∧ bs.length = 8 ∧ s.coolantReading bs = none) ∨
      (index.toNat < 0x18 ∧ 0x10 < index.toNat + bs.length ∧ ¬(index.toNat = 0x10 ∧ bs.length = 8))) →
    runs (.mgCoolantWrite index bs) s fun t =>
      t.get Reg.MG_INPUTS.BAD_READINGS = min 255 (s.get Reg.MG_INPUTS.BAD_READINGS + 1) ∧
      regsKept [Reg.MG_INPUTS.BAD_READINGS.reg] s t ∧ onlyRegs s t

/-- The second reading in a row below a quarter of rated flow is a coolant stop: the floor hold at once, any boost ended,
COOLANT_STOP posted with criterion 1 and signalled (R380). -/
def coolantStops : Prop :=
  ∀ (inlet outlet flow : W16) (seq : Byte) (s : State), s.dev ≠ .off → inlet.toNat ≤ 800 → outlet.toNat ≤ 800 →
    inlet.toNat ≤ outlet.toNat + 16 → s.helm.lastSeq ≠ some seq → 100 * flow.toNat < 25 * s.ratedFlow → 1 ≤ s.helm.lowFlows →
    s.flag Reg.HELM_THERMAL.COOLANT_STOP = false →
    runs (.mgCoolantWrite 0x10 (coolantBytes inlet outlet flow seq)) s fun t =>
      t.flag Reg.HELM_THERMAL.COOLANT_STOP = true ∧ t.floorHold = true ∧ t.flag Reg.HELM_OP_STATUS.BOOSTING = false ∧
      posted Ev.coolantStop [1] s t ∧ t.hold.alert = s.hold.alert ||| 16 ∧ (∀ i, t.targetIndex i = 0)

/-- COOLANT_HOLD_END ends the hold once flow is back at half of rated and the outlet has settled, and not before (R380). -/
def coolantHoldEnd : Prop :=
  ∀ (s : State) (r : Coolant) (rs : List Coolant), s.helm.readings = r :: rs → s.flag Reg.HELM_THERMAL.COOLANT_STOP = true →
    runs (.coolantHoldEnd) s fun t =>
      if s.ratedFlow ≤ 2 * r.flow ∧ s.outletSettled = true then
        t.flag Reg.HELM_THERMAL.COOLANT_STOP = false ∧ t.helm.flowLimit = flowLimitOf (s.get Reg.HELM_STAGEA.CEILING_W) s.ratedFlow r.flow ∧
        t.helm.readings = s.helm.readings ∧ { t with regs := s.regs, helm := s.helm } = s
      else t = s

/-- COOLANT_DATA_LOST sets DATA_LOST once and posts its event with AGE; C_cool is then half the ceiling (R381). -/
def coolantDataLost : Prop :=
  ∀ (s : State), s.dev ≠ .off → s.flag Reg.HELM_THERMAL.DATA_LOST = false →
    runs (.coolantDataLost) s fun t =>
      t.flag Reg.HELM_THERMAL.DATA_LOST = true ∧ posted Ev.coolantDataLost [s.coolantAge] s t ∧
      (s.helm.loopsRunning = true → t.get Reg.HELM_LIMITS.COOL_LIMIT_W = s.get Reg.HELM_STAGEA.CEILING_W / 2 % 2 ^ 16) ∧
      { t with regs := s.regs, evt := s.evt } = s

/-- Data already lost is not lost again. -/
def coolantDataLostAgain : Prop :=
  ∀ (s : State), s.flag Reg.HELM_THERMAL.DATA_LOST = true → runs (.coolantDataLost) s fun t => t = s

/-- A budget frame with its sync byte and CRC. -/
def budgetBytes (watts : W16) (b3 b4 : Byte) : List Byte :=
  let b := leBytes 2 watts.toNat ++ [b3, b4]
  [0xD5] ++ b ++ [crc8 b]

/-- A valid budget frame is the budget from then on, valid and not stale (R480, R481). -/
def budgetFrame : Prop :=
  ∀ (watts : W16) (b3 b4 : Byte) (s : State), s.dev ≠ .off →
    runs (.budgetFrame (budgetBytes watts b3 b4)) s fun t =>
      t.get Reg.HELM_LIMITS.BUDGET_W = watts.toNat ∧ t.flag Reg.HELM_LIMITS.BUDGET_VALID = true ∧
      t.flag Reg.HELM_LIMITS.BUDGET_STALE = false ∧
      (s.helm.loopsRunning = false → regsKept [Reg.HELM_LIMITS.BUDGET_W.reg] s t ∧ onlyRegs s t) ∧
      { t with regs := s.regs, evt := s.evt, helm := s.helm } = s

/-- A bad frame is counted and changes nothing else (R480). -/
def budgetFrameBad : Prop :=
  ∀ (frame : List Byte) (s : State), s.dev ≠ .off → frameOk frame = false →
    runs (.budgetFrame frame) s fun t =>
      t.get Reg.MG_INPUTS.BAD_FRAMES = min 255 (s.get Reg.MG_INPUTS.BAD_FRAMES + 1) ∧
      regsKept [Reg.MG_INPUTS.BAD_FRAMES.reg] s t ∧ onlyRegs s t

/-- BUDGET_LOST holds the last valid budget, marks it stale and posts the event once (R383, R481). -/
def budgetLost : Prop :=
  ∀ (s : State), s.dev ≠ .off → s.flag Reg.HELM_LIMITS.BUDGET_STALE = false →
    runs (.budgetLost) s fun t =>
      t.flag Reg.HELM_LIMITS.BUDGET_STALE = true ∧ t.get Reg.HELM_LIMITS.BUDGET_W = s.get Reg.HELM_LIMITS.BUDGET_W ∧
      t.get Reg.HELM_LIMITS.BUDGET_VALID = s.get Reg.HELM_LIMITS.BUDGET_VALID ∧
      posted Ev.budgetLost [s.get Reg.HELM_LIMITS.BUDGET_W] s t ∧ { t with regs := s.regs, evt := s.evt } = s

end Sys2Proof.Claims

/-- A coolant write with a right CRC, a new sequence number and values in range is reported and kept among the last
four, and ends the loss of data; any other write over those bytes is discarded and counted. The second reading below a
quarter of rated flow is a coolant stop with a floor hold; the hold ends when flow is back and the outlet has settled;
lost data halve the coolant limit. (R377, R378, R380, R381, R478, R479) -/
def Obligations.CoolantReadings : Prop :=
  Claims.coolantAccepted ∧ Claims.coolantDiscarded ∧ Claims.coolantStops ∧ Claims.coolantHoldEnd ∧ Claims.coolantDataLost ∧
    Claims.coolantDataLostAgain

/-- SETDASA to the module's static address sets its dynamic address and ENTDAA is answered only without one; a read
answers the bytes from its index and clears the error counts whose byte it returns; a write to MG_ALERT clears the
bits written as 1 and releases ALERT_N when none remains. A budget frame of six bytes with sync 0xD5 and a right CRC
sets the budget, valid and not stale; any other frame is counted and changes nothing else; when frames stop, the last
valid budget is held, marked stale, and the event posted. (R383, R476, R477, R480, R481) -/
def Obligations.ManagementBusAndBudget : Prop :=
  Claims.busAddresses ∧ Claims.mgRegisterRead ∧ Claims.mgAlertClear ∧ Claims.budgetFrame ∧ Claims.budgetFrameBad ∧ Claims.budgetLost

/-! ### The Forerunner window -/

namespace Sys2Proof.Claims

/-- A write to FRW_GO with GO 1 and the window idle takes the descriptor when every check passes, and shows the first check that
fails otherwise (R433). -/
def frwGo : Prop :=
  ∀ (value : W32) (s : State), s.dev ≠ .off → value.getLsbD 0 = true → s.frw = none →
    runs (.frwGo value) s fun t =>
      t.get Reg.FRW_STATUS.CODE = s.frwCode s.frwDescriptor ∧
      t.frw = (if s.frwCode s.frwDescriptor = 0 then some s.frwDescriptor else none) ∧
      regsKept [Reg.FRW_STATUS.CODE.reg] s t ∧ { t with regs := s.regs, frw := s.frw } = s

/-- A GO while a job runs is dropped and counted; a write with GO 0 does nothing (R433). -/
def frwGoDropped : Prop :=
  ∀ (value : W32) (s : State), s.dev ≠ .off → s.frw.isSome = true →
    runs (.frwGo value) s fun t =>
      if value.getLsbD 0 then
        t.get Reg.FRW_STATUS.DROPPED_GO = satCount Reg.FRW_STATUS.DROPPED_GO.width (s.get Reg.FRW_STATUS.DROPPED_GO + 1) ∧
        regsKept [Reg.FRW_STATUS.DROPPED_GO.reg] s t ∧ onlyRegs s t
      else t = s

/-- Outside host-assisted placement the window takes no job and answers code 1; outside READY, or with a passage loaded, code 2
(R433). -/
def frwRefused : Prop :=
  ∀ (s : State), s.dev ≠ .off → s.frw = none →
    (s.flag Reg.CAP_DUTY_MODE.PLACEMENT = false ∨ s.dev ≠ .ready ∨ s.loaded = true) →
    runs (.frwGo 1) s fun t =>
      t.frw = none ∧ t.get Reg.FRW_STATUS.CODE = (if s.flag Reg.CAP_DUTY_MODE.PLACEMENT then 2 else 1)

/-- A whole job stores Y from its operands, counts itself finished with code 0 and leaves the window idle; no byte outside Y
changes (R434). -/
def forerunnerJobDone : Prop :=
  ∀ (s : State) (j : FrwJob), s.frw = some j → s.frwBroken j = false →
    runs (.forerunnerJobDone) s fun t =>
      t.readBytes j.y (packCodes (frwFmt j.yFmt) ((List.range (j.m * j.n)).map (fun i => (s.frwResult j i).1))).length =
        packCodes (frwFmt j.yFmt) ((List.range (j.m * j.n)).map (fun i => (s.frwResult j i).1)) ∧
      bytesKeptBut j.y (packCodes (frwFmt j.yFmt) ((List.range (j.m * j.n)).map (fun i => (s.frwResult j i).1))).length s t ∧
      t.frw = none ∧ t.get Reg.FRW_STATUS.CODE = 0 ∧
      t.get Reg.FRW_DONE.COUNT = satCount Reg.FRW_DONE.COUNT.width (s.get Reg.FRW_DONE.COUNT + 1) ∧ t.dev = s.dev ∧ t.role = s.role

/-- After a fault the job ends with code 7 and Y undefined: nothing outside Y changes (R434, log 2). -/
def forerunnerJobBroken : Prop :=
  ∀ (s : State) (j : FrwJob), s.frw = some j → s.frwBroken j = true →
    runs (.forerunnerJobDone) s fun t =>
      bytesKeptBut j.y j.rangeY.2 s t ∧ t.frw = none ∧ t.get Reg.FRW_STATUS.CODE = 7 ∧
      t.get Reg.FRW_DONE.COUNT = satCount Reg.FRW_DONE.COUNT.width (s.get Reg.FRW_DONE.COUNT + 1) ∧
      { t with regs := s.regs, mem := s.mem, frw := s.frw, fresh := s.fresh } = s

end Sys2Proof.Claims

/-- GO takes the descriptor of an idle window when every check passes and shows the first failing check otherwise:
without host-assisted placement, or outside READY with nothing loaded, it takes none; a GO while a job runs is dropped
and counted. A job that ends whole stores Y and no byte else; one that met a fault ends with code 7 and leaves nothing
outside Y changed. (R433, R434) -/
def Obligations.ForerunnerWindow : Prop :=
  Claims.frwGo ∧ Claims.frwGoDropped ∧ Claims.frwRefused ∧ Claims.forerunnerJobDone ∧ Claims.forerunnerJobBroken

/-! ### Power-up and entry to BOOT -/

namespace Sys2Proof.Claims

/-- With the module OFF and no stop under cause 4 behind it, the input switch closes and Stage A and the charger start (R328,
R331). -/
def powerUp : Prop :=
  ∀ (s : State), s.dev = .off → s.hold.cellsGone = false → s.pwr.stop = none →
    runs (.powerUp) s fun t =>
      t.pwr.inputSwitch = true ∧ t.pwr.stageA = true ∧ t.pwr.charger = true ∧ t.boot.busUp = false ∧ t.dev = .off ∧
      { t with boot := { t.boot with busUp := s.boot.busUp }, pwr := { t.pwr with
          inputSwitch := s.pwr.inputSwitch, stageA := s.pwr.stageA, charger := s.pwr.charger } } = s

/-- After a stop under cause 4 the module stays OFF until the input has been removed (R331). -/
def powerUpRefused : Prop :=
  ∀ (s : State), (s.dev ≠ .off ∨ s.hold.cellsGone = true) → runs (.powerUp) s fun t => t = s

/-- The 6 V bus in regulation enables hub.q0, unless it is dark (R388). -/
def busInRegulation : Prop :=
  ∀ (s : State), s.dev = .off → s.pwr.stageA = true → s.hold.dark.all (fun d => d.1 != 36) = true →
    runs (.busInRegulation) s fun t => t.boot.busUp = true ∧ { t with boot := { t.boot with busUp := s.boot.busUp } } = s

/-- The 16 ms event samples the slot straps and enters BOOT from OFF: DTIME starts at 0 and hub.q0 alone is ON (R21, R388, R404). -/
def bootEntry : Prop :=
  ∀ (slot : BitVec 4) (s : State), s.dev = .off → s.boot.busUp = true → s.hold.dark.all (fun d => d.1 != 36) = true →
    s.mram.stop.faultNote = none →
    runs (.bootEntry slot) s fun t =>
      t.dev = .boot ∧ t.dtime = 0 ∧ t.boot.slotId = slot ∧ t.boot.fwStarted = false ∧ t.get Reg.CAP_BOOT.STAGE = 1 ∧
      t.regionState 36 = 3 ∧ t.get Reg.CAP_STATE.PREVIOUS = 0 ∧ t.get Reg.CAP_STATE.CAUSE = 0 ∧ t.part = s.part ∧
      t.mram = s.mram ∧ t.pending = s.pending ∧ t.mem = [] ∧ t.knots = [] ∧ t.role = Role.empty ∧
      t.twin.present = s.twin.present

/-- Any other 16 ms event does nothing. -/
def bootEntryIdle : Prop :=
  ∀ (slot : BitVec 4) (s : State), (s.dev ≠ .off ∨ s.boot.busUp = false) → runs (.bootEntry slot) s fun t => t = s

/-- Before READY, with the bank not ready, the loss of the input switches every region off: OFF with cause 0 and no stop record
(R395, R415). -/
def preReadyInputLoss : Prop :=
  ∀ (s : State), s.dev ≠ .off → s.dev ≠ .safe → s.pwr.stop = none → s.pcie.wasReady = false →
    s.flag Reg.HELM_IN_STATUS.HOLDUP_READY = false →
    runs (.preReadyInputLoss) s fun t =>
      t.dev = .off ∧ t.get Reg.CAP_STATE.CAUSE = 0 ∧ t.get Reg.CAP_STATE.PREVIOUS = s.dev.code ∧
      (∀ r ∈ s.regions, t.regionState r = 0 ∨ t.regionState r = 5) ∧ t.pwr.inputSwitch = false ∧ t.pwr.stageA = false ∧
      t.pwr.charger = false ∧ t.boot.busUp = false ∧ t.mram = s.mram ∧ t.linkUp = false ∧
      posted Ev.stateChanged [s.dev.code, 0, 0] s t ∧ t.part = s.part ∧ t.hold = s.hold ∧ t.knots = s.knots

/-- Removing the input releases the four pins, loses MG_ALERT and ends all that stands until the input is removed (R473). -/
def inputRemoval : Prop :=
  ∀ (s : State), s.dev = .off → s.pwr.stop = none →
    runs (.inputRemoval) s fun t =>
      t.hold = Housekeeping.reset ∧ t.boot.busUp = false ∧ t.pwr.inputSwitch = false ∧ t.pwr.stageA = false ∧
      t.out = [Out.pin .stop false, .pin .trip false, .pin .fault false, .pin .alert false] ++ s.out ∧
      { t with hold := s.hold, out := s.out, boot := { t.boot with busUp := s.boot.busUp }, pwr := s.pwr } = s

/-- The bank's voltage is shown with HOLDUP_READY 1 or 0 (R346). -/
def holdupBank : Prop :=
  ∀ (vbank : W16) (s : State), s.dev ≠ .off →
    (runs (.holdupBankReady vbank) s fun t =>
      t.get Reg.HELM_IN_STATUS.VBANK = vbank.toNat ∧ t.flag Reg.HELM_IN_STATUS.HOLDUP_READY = true ∧
      t.get Reg.HELM_IN_STATUS.VIN = s.get Reg.HELM_IN_STATUS.VIN ∧ regsKept [Reg.HELM_IN_STATUS.VBANK.reg] s t ∧ onlyRegs s t) ∧
    (runs (.holdupBankLow vbank) s fun t =>
      t.get Reg.HELM_IN_STATUS.VBANK = vbank.toNat ∧ t.flag Reg.HELM_IN_STATUS.HOLDUP_READY = false ∧
      t.get Reg.HELM_IN_STATUS.VIN = s.get Reg.HELM_IN_STATUS.VIN ∧ regsKept [Reg.HELM_IN_STATUS.VBANK.reg] s t ∧ onlyRegs s t)

end Sys2Proof.Claims

/-- From OFF the input switch closes and Stage A starts, unless a stop under cause 4 stands; the bus in regulation
enables hub.q0; the 16 ms event samples the straps and enters BOOT with DTIME 0, the part and MRAM kept. The input's
loss before the bank is ready leaves OFF with cause 0 and no stop record; its removal ends what the housekeeping
domain keeps. The bank's voltage and readiness are shown. (R328, R331, R346, R388, R395, R404, R473) -/
def Obligations.PowerUpAndEntry : Prop :=
  Claims.powerUp ∧ Claims.powerUpRefused ∧ Claims.busInRegulation ∧ Claims.bootEntry ∧ Claims.bootEntryIdle ∧
    Claims.preReadyInputLoss ∧ Claims.inputRemoval ∧ Claims.holdupBank

/-! ### The start-up sequence -/

namespace Sys2Proof.Claims

/-- The image that the pointer names passes: it is measured, its attestation key derived, its versions shown, and hub.q1 to hub.q3
are enabled (R391, R392, R457, R458). -/
def bootRomVerify : Prop :=
  ∀ (s : State), s.dev = .boot → s.boot.fwStarted = false → s.sec.measures.length = 8 →
    s.part.imageOk (s.mram.slot s.mram.pointer) = true → [37, 38, 39].all (fun r => s.regionState r != 5) = true →
    runs (.bootRomVerify) s fun t =>
      t.boot.fwStarted = true ∧ t.boot.failedSlot = none ∧
      t.measure 0 = ⟨sha384 ((s.measure 0).value ++ sha384 (s.mram.slot s.mram.pointer)), (s.measure 0).count + 1⟩ ∧
      (t.measure 1).count = (s.measure 1).count + 1 ∧
      t.sec.attestKey = some (attestationKey s.part.deviceKey (t.measure 0).value (t.measure 1).value) ∧
      t.get Reg.CAP_VERSION.FW_MAJOR = fieldAt (s.mram.slot s.mram.pointer) 16 2 ∧
      t.get Reg.CAP_VERSION.FW_MINOR = fieldAt (s.mram.slot s.mram.pointer) 18 2 ∧
      t.get Reg.SEC_SVN.RUNNING = fieldAt (s.mram.slot s.mram.pointer) 12 2 ∧
      t.flag Reg.SEC_STATUS.ATTEST_READY = true ∧ t.flag Reg.SEC_STATUS.KEYSTORE_LOADED = true ∧
      t.flag Reg.CAP_BOOT.SLOT = s.mram.pointer ∧ t.flag Reg.CAP_BOOT.SLOT_FALLBACK = false ∧ t.get Reg.CAP_BOOT.STAGE = 2 ∧
      (∀ r ∈ [37, 38, 39], t.regionState r ≠ 0) ∧
      { t with regs := s.regs, sec := s.sec, boot := s.boot, pwr := s.pwr } = s

/-- When the slot named fails and the other passes, the other starts and the failure is kept to be reported (R391). -/
def bootRomFallback : Prop :=
  ∀ (s : State), s.dev = .boot → s.boot.fwStarted = false → s.part.imageOk (s.mram.slot s.mram.pointer) = false →
    s.part.imageOk (s.mram.slot (!s.mram.pointer)) = true → [37, 38, 39].all (fun r => s.regionState r != 5) = true →
    runs (.bootRomVerify) s fun t =>
      t.boot.fwStarted = true ∧ t.boot.failedSlot = some (if s.mram.pointer then 1 else 0) ∧
      t.flag Reg.CAP_BOOT.SLOT = !s.mram.pointer ∧ t.flag Reg.CAP_BOOT.SLOT_FALLBACK = true ∧ t.mram = s.mram

/-- When neither passes the module is FAULTED with FAIL 1 and no firmware runs (R391). -/
def bootRomFails : Prop :=
  ∀ (s : State), s.dev = .boot → s.boot.fwStarted = false → s.part.imageOk (s.mram.slot true) = false →
    s.part.imageOk (s.mram.slot false) = false → [37, 38, 39].all (fun r => s.regionState r != 5) = true →
    runs (.bootRomVerify) s fun t =>
      t.dev = .faulted ∧ t.get Reg.CAP_BOOT.FAIL = 1 ∧ t.boot = s.boot ∧ t.sec = s.sec ∧ t.hold.faultPin = true ∧
      posted Ev.stateChanged [1, 8, 0] s t

/-- The 70 ms event reads the voltage tables: every entry of a sound table is usable at its fused voltage, TOP_USABLE follows, and
the PCIe controller is ready to train unless PERST# is asserted (R362, R393). -/
def vtableRead : Prop :=
  ∀ (s : State) (d p : Nat), s.dev = .boot → s.boot.fwStarted = true → s.regionState 39 = 3 → d < s.part.variant.dies → p < 23 →
    s.part.vfSound d = true →
    runs (.vtableRead) s fun t =>
      t.get Reg.CAP_BOOT.STAGE = 3 ∧ t.flag (Reg.HELM_VF.USABLE (32 * d + p)) = true ∧
      t.get (Reg.HELM_VF.EFFECTIVE_MV (32 * d + p)) = (s.part.fusedEntry (32 * d + p)).mv.toNat ∧
      t.get Reg.HELM_OP_STATUS.TOP_USABLE = t.topUsable ∧ t.pcie.controllerReady = true ∧ t.pcie.training = !s.pcie.perst ∧
      { t with regs := s.regs, evt := s.evt, pcie := s.pcie } = s

/-- A die whose index 0 has no sound source is unused (R362, R395). -/
def vtableFault : Prop :=
  ∀ (s : State) (d : Nat), s.dev = .boot → s.boot.fwStarted = true → d < s.part.variant.dies →
    (s.part.fusedEntry (32 * d)).parityOk = false → s.mram.vtable.content = none →
    runs (.vtableRead) s fun t => t.dieUsed d = false ∧ t.flag (Reg.HELM_VF.USABLE (32 * d)) = false

/-- A bridge that trains is counted as done; one that fails is reported, and one to the hub leaves its die unused (R395). -/
def bridgeTrainingDone : Prop :=
  ∀ (bridge : Fin 8) (s : State), s.dev = .boot → s.boot.fwStarted = true → s.part.variant.bridgeFitted bridge.val = true →
    (runs (.bridgeTrainingDone bridge true) s fun t =>
      t.get Reg.CAP_BOOT.STAGE = max 4 (s.get Reg.CAP_BOOT.STAGE) ∧ regsKept [Reg.CAP_BOOT.STAGE.reg] s t ∧ onlyRegs s t) ∧
    (runs (.bridgeTrainingDone bridge false) s fun t =>
      t.boot.bridgesFailed = s.boot.bridgesFailed ||| BitVec.ofNat 8 (2 ^ bridge.val) ∧
      posted Ev.bridgeFailed [bridge.val] s t ∧
      t.get Reg.CAP_BOOT.DIE_UNUSED =
        (if bridge.val < 4 then s.get Reg.CAP_BOOT.DIE_UNUSED ||| 2 ^ bridge.val else s.get Reg.CAP_BOOT.DIE_UNUSED) ∧
      regsKept (evtKeys ++ [Reg.CAP_BOOT.STAGE.reg]) s t ∧
      { t with regs := s.regs, evt := s.evt, boot := { t.boot with bridgesFailed := s.boot.bridgesFailed } } = s)

/-- A stack that trains is written with zeros and every other byte stays (R388). -/
def stackTrained : Prop :=
  ∀ (stack : Fin 8) (s : State), s.dev = .boot → s.boot.fwStarted = true → s.stackInUse stack.val = true →
    runs (.stackTrainingDone stack true) s fun t =>
      bytesKeptBut (stack.val * 2 ^ 36) (2 ^ 36) s t ∧
      (∀ j, j < 2 ^ 36 → t.readByte (stack.val * 2 ^ 36 + j) = 0) ∧
      t.boot.stacksUp = s.boot.stacksUp ||| BitVec.ofNat 8 (2 ^ stack.val) ∧
      t.cache = s.cache.filter (fun x => !(stackOfSet x.1 == stack.val)) ∧
      { t with
        mem := s.mem, badLines := s.badLines, cache := s.cache
        boot := { t.boot with stacksUp := s.boot.stacksUp } } = s

/-- A failed training is tried again; the third leaves the stack unused and is reported (R388, R395). -/
def stackTrainingFails : Prop :=
  ∀ (stack : Fin 8) (s : State) (n : Nat), s.dev = .boot → s.boot.fwStarted = true → s.stackInUse stack.val = true →
    sparseGet 0 stack.val s.boot.stackTries = n →
    runs (.stackTrainingDone stack false) s fun t =>
      sparseGet 0 stack.val t.boot.stackTries = n + 1 ∧ t.mem = s.mem ∧
      (if n < 2 then { t with boot := { t.boot with stackTries := s.boot.stackTries } } = s
      else t.get Reg.CAP_BOOT.STACK_FAILED = s.get Reg.CAP_BOOT.STACK_FAILED ||| 2 ^ stack.val ∧ t.stackInUse stack.val = false)

/-- The 280 ms event loads the settings that STORE kept and extends M2 with them (R388, R389, R429, R457). -/
def settingsLoad : Prop :=
  ∀ (s s0 : State), s.dev = .boot → s.boot.fwStarted = true → s.boot.settingsLoaded = false →
    s.mram.settings.content = some s0.settingsNow → s.loadSettings.flag Reg.CAP_SETTINGS.STARTUP_BIST = false →
    s.boot.afterFault = false → s.boot.bistSelected = false → s.sec.measures.length = 8 →
    runs (.settingsLoad) s fun t =>
      t.settingsNow = s0.settingsNow ∧ t.boot.settingsLoaded = true ∧ t.dev = .boot ∧ t.get Reg.CAP_BOOT.STAGE = 5 ∧
      (t.measure 2).count = (s.measure 2).count + 1 ∧ t.get Reg.HELM_OP_STATUS.TOP_USABLE = t.topUsable ∧
      t.pcie.bar4Log2 = min 9 (t.get Reg.CAP_SETTINGS.BAR4_LOG2) ∧ t.mem = s.mem ∧ t.mram = s.mram ∧ t.part = s.part

/-- Without a sound copy the settings take their defaults, which is reported for each block (R428, R429). -/
def settingsDefaulted : Prop :=
  ∀ (s : State), s.dev = .boot → s.boot.fwStarted = true → s.boot.settingsLoaded = false → s.boot.afterFault = false →
    s.boot.bistSelected = false → s.mram.settings.content = none → s.mram.repairs.content = none → s.mram.vtable.content = none →
    runs (.settingsLoad) s fun t =>
      t.settingsNow = settingDefaults s.part.variant ∧ t.boot.settingsLoaded = true ∧ t.evt.seq = s.evt.seq + 3 ∧ t.dev = .boot

/-- After a fault, start-up BIST runs in SELFTEST when its conditions hold (R389, R449). -/
def settingsLoadBist : Prop :=
  ∀ (s : State), s.dev = .boot → s.boot.fwStarted = true → s.boot.settingsLoaded = false → s.boot.afterFault = true →
    s.loadSettings.bistCondition = 0 →
    runs (.settingsLoad) s fun t =>
      t.dev = .selftest ∧ (t.bist.map BistRun.startup) = some true ∧ t.flag Reg.BST_STATUS.RUNNING = true ∧
      t.get Reg.CAP_BOOT.STAGE = 6 ∧ t.boot.afterFault = false ∧ t.boot.settingsLoaded = true

/-- The 300 ms event numbers the logical cores and starts the Helm's loops with every cluster at index 0 (R10, R388). -/
def coreNumbering : Prop :=
  ∀ (s : State) (c : Nat), s.dev = .boot → s.boot.settingsLoaded = true → s.boot.numbered = false →
    (List.range 32).flatMap s.clusterCores ≠ [] → c ∈ s.clusters →
    runs (.coreNumbering) s fun t =>
      t.boot.numbering = (List.range 32).flatMap s.clusterCores ∧ t.get Reg.CAP_UNITS.N_CORES = t.boot.numbering.length ∧
      t.boot.numbered = true ∧ t.helm.loopsRunning = true ∧ t.get (Reg.HELM_CL_STATUS.INDEX c) = 0 ∧
      t.get Reg.CAP_BOOT.STAGE = 8 ∧ t.dev = .boot ∧ t.mem = s.mem ∧ t.mram = s.mram

/-- With no usable core the module is FAULTED with FAIL 3 (R395). -/
def noCores : Prop :=
  ∀ (s : State), s.dev = .boot → s.boot.settingsLoaded = true → s.boot.numbered = false →
    (List.range 32).flatMap s.clusterCores = [] →
    runs (.coreNumbering) s fun t => t.dev = .faulted ∧ t.get Reg.CAP_BOOT.FAIL = 3 ∧ t.boot.numbered = false

/-- The bank ready, the module enters READY: READY_MS is the whole start-up and READY is posted (R388, R407). -/
def readyEntry : Prop :=
  ∀ (s : State), s.dev = .boot → s.boot.numbered = true → s.flag Reg.HELM_IN_STATUS.HOLDUP_READY = true →
    s.boot.failedSlot = none → s.boot.commitSvn = false → s.rel.stackPending = [] →
    runs (.readyEntry) s fun t =>
      t.dev = .ready ∧ t.get Reg.CAP_BOOT.STAGE = 9 ∧
      t.get Reg.CAP_BOOT.READY_MS = satCount 32 ((s.dtime - s.boot.began) / 1000000) ∧ t.get Reg.CAP_STATE.PREVIOUS = 1 ∧
      t.get Reg.CAP_STATE.CAUSE = 0 ∧ t.evt.seq = s.evt.seq + 2 ∧ t.pcie.wasReady = true ∧
      regsKept (evtKeys ++ [Reg.CAP_BOOT.STAGE.reg, Reg.CAP_STATE.CAUSE.reg]) s t ∧
      { t with regs := s.regs, evt := s.evt, dev := s.dev, pcie := s.pcie, boot := { t.boot with awaitBank := s.boot.awaitBank } } = s

/-- A COMMIT_SVN image that reaches READY raises the fused minimum and revokes the roots it names (R456). -/
def readyCommits : Prop :=
  ∀ (s : State), s.dev = .boot → s.boot.numbered = true → s.flag Reg.HELM_IN_STATUS.HOLDUP_READY = true →
    s.boot.failedSlot = none → s.boot.commitSvn = true → s.part.svnMin < s.boot.imageSvn → s.rel.stackPending = [] →
    runs (.readyEntry) s fun t =>
      t.part.svnMin = s.boot.imageSvn ∧ t.part.rootRevoked = s.part.rootRevoked ||| s.boot.imageRevoke ∧
      t.get Reg.SEC_SVN.FUSED_MIN = s.boot.imageSvn.toNat ∧ t.evt.seq = s.evt.seq + 3 ∧ t.dev = .ready ∧
      { t.part with svnMin := s.part.svnMin, rootRevoked := s.part.rootRevoked } = s.part

/-- After 2 s without the bank the module enters READY all the same and posts HOLDUP_FAULT (R346). -/
def holdupReadyTimeout : Prop :=
  ∀ (s : State), s.dev = .boot → s.boot.numbered = true → s.flag Reg.HELM_IN_STATUS.HOLDUP_READY = false →
    s.boot.failedSlot = none → s.boot.commitSvn = false → s.rel.stackPending = [] →
    runs (.holdupReadyTimeout) s fun t =>
      t.dev = .ready ∧ t.get Reg.CAP_BOOT.STAGE = 9 ∧ t.evt.seq = s.evt.seq + 3 ∧ t.pcie.wasReady = true ∧
      { t with regs := s.regs, evt := s.evt, dev := s.dev, pcie := s.pcie, boot := { t.boot with awaitBank := s.boot.awaitBank } } = s

end Sys2Proof.Claims

/-- The slot that the pointer names starts when its image passes, else the other, else the module is FAULTED with FAIL
1; a starting image is measured, its attestation key derived and its versions shown. The voltage tables are read, with
index 0 unusable leaving the die unused, and the PCIe controller is ready. (R362, R391, R392, R393, R457, R458) -/
def Obligations.FirmwareAndTables : Prop :=
  Claims.bootRomVerify ∧ Claims.bootRomFallback ∧ Claims.bootRomFails ∧ Claims.vtableRead ∧ Claims.vtableFault

/-- A trained stack reads zero and leaves other stacks as they were, a third failure leaves it unused, and a failed
bridge to the hub its die. The settings are those STORE kept, or their defaults; start-up BIST runs after a fault. The
cores are numbered and the Helm's loops started, or the module is FAULTED with no core; READY follows with its event,
with HOLDUP_FAULT when the bank was not ready, and with the fuses of a COMMIT_SVN image blown. (R10, R346, R388, R389,
R395, R407, R428, R429, R456) -/
def Obligations.TrainingToReady : Prop :=
  Claims.bridgeTrainingDone ∧ Claims.stackTrained ∧ Claims.stackTrainingFails ∧ Claims.settingsLoad ∧ Claims.settingsDefaulted ∧
    Claims.settingsLoadBist ∧ Claims.coreNumbering ∧ Claims.noCores ∧ Claims.readyEntry ∧ Claims.readyCommits ∧
    Claims.holdupReadyTimeout

/-! ### BIST -/

namespace Sys2Proof.Claims

/-- The batch of a die without a failure counts 81 domains tested and takes the die off the list; the rest of BIST goes on (R449). -/
def bistBatch : Prop :=
  ∀ (die : Fin 4) (s : State) (b : BistRun), s.bist = some b → b.logic.head? = some die.val → s.dev = .selftest → b.sram = true →
    runs (.bistBatchComplete die [] [] false) s fun t =>
      t.get Reg.BST_RESULT.DOMAINS_TESTED = satCount 16 (s.get Reg.BST_RESULT.DOMAINS_TESTED + 81) ∧
      t.bist = some { b with logic := b.logic.drop 1 } ∧ regsKept [Reg.BST_RESULT.DOMAINS_TESTED.reg] s t ∧
      { t with regs := s.regs, bist := s.bist } = s

/-- A core whose domain fails is retired with cause 3 and counted (R444, R449). -/
def bistBatchFails : Prop :=
  ∀ (die : Fin 4) (k : Fin 72) (s : State) (b : BistRun), s.bist = some b → b.logic.head? = some die.val → s.dev = .selftest →
    b.sram = true → die.val < s.part.variant.dies → s.isRetired (unitCode 1 (72 * die.val + k.val)) = false →
    s.role.passage = none → s.other = none → s.frw = none →
    runs (.bistBatchComplete die [k] [] false) s fun t =>
      t.isRetired (unitCode 1 (72 * die.val + k.val)) = true ∧ t.coreUsable (72 * die.val + k.val) = false ∧
      t.get Reg.BST_RESULT.DOMAINS_FAILED = satCount 16 (s.get Reg.BST_RESULT.DOMAINS_FAILED + 1) ∧ t.dev = .selftest

/-- March C− over the SRAMs without a fault leaves HBM4E to be tested (R448, R449). -/
def bistSram : Prop :=
  ∀ (s : State) (b : BistRun), s.bist = some b → b.logic = [] → b.sram = true → b.hbm = true → s.dev = .selftest →
    runs (.memoryBistComplete false []) s fun t => t.bist = some { b with sram := false } ∧ { t with bist := s.bist } = s

/-- When HBM4E is done too, BIST_DONE is posted and start-up goes on in BOOT (R389, R451). -/
def bistDone : Prop :=
  ∀ (s : State) (b : BistRun), s.bist = some b → b.startup = true → b.logic = [] → b.sram = false → b.hbm = true →
    s.dev = .selftest → b.selection / 256 % 2 = 0 →
    runs (.memoryBistComplete true []) s fun t =>
      t.bist = none ∧ t.dev = .boot ∧ t.flag Reg.CAP_BOOT.BIST_RAN = true ∧ t.flag Reg.BST_STATUS.RUNNING = false ∧
      t.evt.seq = s.evt.seq + 2 ∧ t.get Reg.BST_RESULT.DOMAINS_TESTED = s.get Reg.BST_RESULT.DOMAINS_TESTED

/-- A condition that leaves its range stops BIST: ABORTED with its code, BIST_ABORTED posted, and for BIST_RUN the device in READY
with the cores numbered (R451, R452). -/
def bistAborts : Prop :=
  ∀ (condition : Fin 9) (s : State) (b : BistRun), s.bist = some b → b.startup = false → s.dev = .selftest →
    s.rel.stackPending = [] →
    runs (.bistConditionLost condition) s fun t =>
      t.bist = none ∧ t.dev = .ready ∧ t.flag Reg.BST_STATUS.ABORTED = true ∧ t.get Reg.BST_STATUS.CONDITION = condition.val + 1 ∧
      t.flag Reg.BST_STATUS.RUNNING = false ∧ t.get Reg.CAP_STATE.CAUSE = 8 ∧ t.evt.seq = s.evt.seq + 2 ∧
      t.boot.numbering = (List.range 32).flatMap s.clusterCores ∧ t.get Reg.CAP_UNITS.N_CORES = t.boot.numbering.length

/-- Without BIST under way the three do nothing. -/
def bistIdle : Prop :=
  ∀ (die : Fin 4) (condition : Fin 9) (hbm : Bool) (s : State), s.bist = none →
    (runs (.bistBatchComplete die [] [] false) s fun t => t = s) ∧ (runs (.memoryBistComplete hbm []) s fun t => t = s) ∧
    (runs (.bistConditionLost condition) s fun t => t = s)

/-- An uncorrectable error in Binnacle SRAM acts as a DEVICE_RESET, with the note in MRAM told of by an event in BOOT (R438). -/
def binnacleSramError : Prop :=
  ∀ (addr : W64) (s : State), s.dev ≠ .off → s.pwr.stop = none →
    runs (.binnacleSramError addr) s fun t =>
      t.dev = .boot ∧ t.get Reg.CAP_STATE.CAUSE = 6 ∧ t.get Reg.CAP_STATE.PREVIOUS = s.dev.code ∧ t.dtime = s.dtime ∧
      t.mram.stop.faultNote = none ∧ t.part = s.part ∧ t.pending = s.pending ∧ t.role = Role.empty

end Sys2Proof.Claims

/-- A die's batch counts 81 domains and retires what failed; the memories follow, and when nothing remains BIST_DONE
is posted and start-up goes on; a condition out of range aborts BIST, back to READY after BIST_RUN. A Binnacle SRAM
error resets the device. (R438, R444, R448, R449, R451, R452) -/
def Obligations.BistSteps : Prop :=
  Claims.bistBatch ∧ Claims.bistBatchFails ∧ Claims.bistSram ∧ Claims.bistDone ∧ Claims.bistAborts ∧ Claims.bistIdle ∧
    Claims.binnacleSramError

/-! ### The input and the orderly stop -/

namespace Sys2Proof.Claims

/-- Below 56 V the timer runs: UNDER_56 is 1, INPUT_LOW is posted with VIN and, with the loops running, the floor hold binds
C_eff to the floor at most (R328, R352). -/
def undervoltageStart : Prop :=
  ∀ (vin : W16) (s : State), s.thresholdsAct = true → s.flag Reg.HELM_IN_STATUS.UNDER_56 = false →
    runs (.undervoltageTimerStart vin) s fun t =>
      t.flag Reg.HELM_IN_STATUS.UNDER_56 = true ∧ t.get Reg.HELM_IN_STATUS.VIN = vin.toNat ∧ posted Ev.inputLow [vin.toNat] s t ∧
      t.floorHold = true ∧
      (s.helm.loopsRunning = true → t.get Reg.HELM_CAP_STATUS.EFFECTIVE_W ≤ t.get Reg.HELM_CAP_STATUS.FLOOR_W ∧
        t.flag Reg.HELM_CAP_STATUS.FLOOR_HOLD = true ∧ t.helm.target = []) ∧
      { t with regs := s.regs, evt := s.evt, helm := s.helm } = s

/-- The timer's reset ends UNDER_56 and nothing is posted (R328). -/
def undervoltageReset : Prop :=
  ∀ (s : State), s.flag Reg.HELM_IN_STATUS.UNDER_56 = true → s.pwr.stop = none →
    runs (.undervoltageTimerReset) s fun t => t.flag Reg.HELM_IN_STATUS.UNDER_56 = false ∧ onlyRegs s t

/-- What the detection of a stop leaves: the switches change over, issue has stopped, STOPPING is 1 and the stop is kept with its
cause, voltages and time; memory, the knots and MRAM stand (R347). -/
abbrev stopsWith (cause : Nat) (vin vbank : W16) (s t : State) : Prop :=
  t.pwr.stop = some ⟨cause, vin.toNat, vbank.toNat, BitVec.ofNat 64 s.dtime, false, false, false, false, false⟩ ∧
    t.pwr.inputSwitch = false ∧ t.pwr.bankSwitch = true ∧ t.flag Reg.HELM_IN_STATUS.STOPPING = true ∧ t.role.inStep = false ∧
    t.dev = s.dev ∧ t.mramJob = none ∧ t.mram = s.mram ∧ storesKept s t ∧ (t.mailbox 0).running = none ∧ (t.mailbox 63).running = none

/-- The timer's expiry is a stop with cause 1 (R328, R347). -/
def undervoltageExpiry : Prop :=
  ∀ (vin vbank : W16) (s : State), s.thresholdsAct = true → s.flag Reg.HELM_IN_STATUS.UNDER_56 = true →
    runs (.undervoltageTimerExpiry vin vbank) s fun t => stopsWith 1 vin vbank s t

/-- Below 48 V the stop comes at once with cause 2, and above 84 V with cause 3 (R328, R347). -/
def inputStops : Prop :=
  ∀ (vin vbank : W16) (s : State), s.thresholdsAct = true →
    (runs (.inputBelow48v vin vbank) s fun t => stopsWith 2 vin vbank s t) ∧
    (runs (.inputAbove84v vin vbank) s fun t => stopsWith 3 vin vbank s t)

/-- Above 80 V INPUT_HIGH is shown and posted, once (R328). -/
def inputAbove80 : Prop :=
  ∀ (vin : W16) (s : State), s.thresholdsAct = true → s.flag Reg.HELM_IN_STATUS.INPUT_HIGH = false →
    runs (.inputAbove80v vin) s fun t =>
      t.flag Reg.HELM_IN_STATUS.INPUT_HIGH = true ∧ t.get Reg.HELM_IN_STATUS.VIN = vin.toNat ∧
      posted Ev.inputHigh [vin.toNat] s t ∧ regsKept (evtKeys ++ [Reg.HELM_IN_STATUS.VIN.reg]) s t ∧
      { t with regs := s.regs, evt := s.evt } = s

/-- While a stop runs, or before READY with the bank not ready, the thresholds do nothing (R395). -/
def thresholdsIdle : Prop :=
  ∀ (vin vbank : W16) (s : State), s.thresholdsAct = false →
    (runs (.undervoltageTimerStart vin) s fun t => t = s) ∧ (runs (.undervoltageTimerExpiry vin vbank) s fun t => t = s) ∧
    (runs (.inputBelow48v vin vbank) s fun t => t = s) ∧ (runs (.inputAbove80v vin) s fun t => t = s) ∧
    (runs (.inputAbove84v vin vbank) s fun t => t = s)

/-- The stop is announced: HOLDUP_STOP is posted with VIN and cause and signalled, and STOP_N goes low (R347, R350). -/
def stopAnnounce : Prop :=
  ∀ (s : State) (x : StopRun), s.pwr.stop = some x → x.announced = false →
    runs (.stopAnnounce) s fun t =>
      t.pwr.stop = some { x with announced := true } ∧ t.hold.stopPin = true ∧ t.hold.alert = s.hold.alert ||| 1 ∧
      t.out.head? = some (.pin .stop true) ∧ posted Ev.holdupStop [x.vin, x.cause] s t ∧ storesKept s t ∧ t.dev = s.dev

/-- The cluster, uncore and stack regions are switched off, unless dark, and the contents of HBM4E are lost; the hub regions
stand (R347). -/
def stopRegionsOff : Prop :=
  ∀ (s : State) (x : StopRun) (a r : Nat), s.pwr.stop = some x → x.announced = true → x.regionsOff = false →
    runs (.stopRegionsOff) s fun t =>
      t.pwr.stop = some { x with regionsOff := true } ∧ (isHbm a = true → t.readByte a = 0) ∧
      (r ∈ s.computeRegions → t.regionState r = 0 ∨ t.regionState r = 5) ∧
      (∀ q ∈ [36, 37, 38, 39], t.regionState q = s.regionState q) ∧ t.dev = s.dev ∧ t.mram = s.mram ∧ t.evt = s.evt

/-- The stop record is written to MRAM with its cleared mark at 0 and the stop counted (R347, R401, R464). -/
def stopRecordWritten : Prop :=
  ∀ (s : State) (x : StopRun), s.pwr.stop = some x → x.regionsOff = true → x.recorded = false →
    runs (.stopRecordWritten) s fun t =>
      t.mram.stop.written = true ∧ t.mram.stop.cleared = false ∧ t.mram.stop.stops = s.mram.stop.stops + 1 ∧
      t.mram.stop.words.length = 128 ∧ t.mram.stop.words.getD 1 0 = x.dtime ∧
      (t.mram.stop.words.getD 0 0).toNat = (2 ^ 63 + (if x.tripped then 2 ^ 62 else 0) + x.cause * 2 ^ 48 + x.vin * 2 ^ 32 +
        x.vbank * 2 ^ 16 + satCount 16 (s.mram.stop.stops + 1)) % 2 ^ 64 ∧
      t.pwr.stop = some { x with recorded := true } ∧
      { t with mram := { t.mram with stop := s.mram.stop }, pwr := { t.pwr with stop := s.pwr.stop } } = s

/-- hub.q1 to hub.q3 are switched off, and with them the host link and the ports (R310, R347). -/
def stopHubOff : Prop :=
  ∀ (s : State) (x : StopRun), s.pwr.stop = some x → x.recorded = true → x.hubOff = false →
    runs (.stopHubOff) s fun t =>
      t.pwr.stop = some { x with hubOff := true } ∧ (∀ q ∈ [37, 38, 39], t.regionState q = 0 ∨ t.regionState q = 5) ∧
      t.get Reg.CAP_PCIE.WIDTH = 0 ∧ t.linkUp = false ∧ t.mram = s.mram ∧ t.mem = s.mem ∧ t.dev = s.dev

/-- hub.q0 and Stage A are off and the module is OFF, the cause taken from HOLDUP_STOP (R347, R415). -/
def stopComplete : Prop :=
  ∀ (s : State) (x : StopRun), s.pwr.stop = some x → x.hubOff = true →
    runs (.stopComplete) s fun t =>
      t.dev = .off ∧ t.pwr.stop = none ∧ t.pwr.stageA = false ∧ t.pwr.charger = false ∧ t.pwr.bankSwitch = false ∧
      t.boot.busUp = false ∧ t.get Reg.CAP_STATE.CAUSE = 0x8A07 ∧ t.get Reg.CAP_STATE.PREVIOUS = s.dev.code ∧
      t.hold.cellsGone = (s.hold.cellsGone || x.cause == 4) ∧ t.role = Role.empty ∧ t.mram = s.mram

/-- The five do nothing while no stop runs. -/
def noStop : Prop :=
  ∀ (s : State), s.pwr.stop = none →
    (runs (.stopAnnounce) s fun t => t = s) ∧ (runs (.stopRegionsOff) s fun t => t = s) ∧
    (runs (.stopRecordWritten) s fun t => t = s) ∧ (runs (.stopHubOff) s fun t => t = s) ∧
    (runs (.stopComplete) s fun t => t = s)

/-- A Stage A cell that fails is disabled: the ceiling follows the healthy cells and STAGEA_CELL_FAILED is posted with it; with the
last cell the module stops under cause 4 (R331). -/
def stageaCellFault : Prop :=
  ∀ (cell : Fin 4) (vin vbank : W16) (s : State), s.dev ≠ .off → s.pwr.stop = none → s.snap = none →
    s.get Reg.HELM_STAGEA.CELLS_OK / 2 ^ cell.val % 2 = 1 →
    runs (.stageaCellFault cell vin vbank) s fun t =>
      t.get Reg.HELM_STAGEA.CELLS_OK = s.get Reg.HELM_STAGEA.CELLS_OK - 2 ^ cell.val ∧
      t.get Reg.HELM_STAGEA.CEILING_W = min s.part.variant.maxPower (550 * t.healthyCells) ∧
      t.hold.failedCells = s.hold.failedCells ||| BitVec.ofNat 4 (2 ^ cell.val) ∧
      t.hold.alert = s.hold.alert ||| 4 ∧
      posted Ev.stageaCellFailed [cell.val, t.get Reg.HELM_STAGEA.CEILING_W] s t ∧
      (if t.healthyCells = 0 then (t.pwr.stop.map StopRun.cause) = some 4 else t.pwr = s.pwr) ∧ storesKept s t ∧ t.dev = s.dev

/-- An overload that lasts disables every cell so loaded (R331). -/
def stageaOverload : Prop :=
  ∀ (cells : BitVec 4) (vin vbank : W16) (s : State), s.dev ≠ .off → s.pwr.stop = none →
    runs (.stageaOverloadTimeout cells vin vbank) s fun t =>
      t.get Reg.HELM_STAGEA.CELLS_OK = s.get Reg.HELM_STAGEA.CELLS_OK &&& (15 - cells.toNat) ∧
      (t.pwr.stop.isSome = true ↔ 0 < s.healthyCells ∧ t.healthyCells = 0) ∧ storesKept s t

end Sys2Proof.Claims

/-- Below 56 V the floor is held, INPUT_LOW posted, and a stop follows when the timer expires; below 48 V and above 84
V the stop comes at once; above 80 V INPUT_HIGH is posted. A stop changes the switches over, stops issue and keeps
memory and MRAM. A failed Stage A cell lowers the ceiling, and the last one stops the module under cause 4. (R328,
R331, R347, R352, R395) -/
def Obligations.InputThresholds : Prop :=
  Claims.undervoltageStart ∧ Claims.undervoltageReset ∧ Claims.undervoltageExpiry ∧ Claims.inputStops ∧ Claims.inputAbove80 ∧
    Claims.thresholdsIdle ∧ Claims.stageaCellFault ∧ Claims.stageaOverload

/-- The stop is announced with HOLDUP_STOP and STOP_N low, then the cluster, uncore and stack regions go off and HBM4E
is lost, then the stop record is in MRAM, then hub.q1 to hub.q3 and the host link are off, then the module is OFF with
the cause of HOLDUP_STOP; without a stop none of the five does anything. (R310, R347, R350, R401, R415, R464) -/
def Obligations.OrderlyStop : Prop :=
  Claims.stopAnnounce ∧ Claims.stopRegionsOff ∧ Claims.stopRecordWritten ∧ Claims.stopHubOff ∧ Claims.stopComplete ∧ Claims.noStop

/-! ### The power regions -/

namespace Sys2Proof.Claims

/-- A region's first failed phase is disabled and reported; the region goes on (R341). -/
def phaseFails : Prop :=
  ∀ (region : Fin 48) (phase : Fin 8) (cause : PhaseCause) (s : State), s.part.variant.hasRegion region.val = true →
    s.get (Reg.HELM_RGN_STATUS.PHASES_OK region.val) / 2 ^ phase.val % 2 = 1 →
    s.phasesHealthy region.val = s.part.variant.phasesFitted region.val →
    runs (.phaseFailure region phase cause) s fun t =>
      t.get (Reg.HELM_RGN_STATUS.PHASES_OK region.val) =
        s.get (Reg.HELM_RGN_STATUS.PHASES_OK region.val) - 2 ^ phase.val ∧
      t.regionState region.val = s.regionState region.val ∧ t.isRetired (unitCode 6 (8 * region.val + phase.val)) = true ∧
      posted Ev.regulatorFailed [region.val, phase.val, phaseCauseCode cause] s t ∧ storesKept s t ∧ t.dev = s.dev ∧
      t.pwr = s.pwr ∧ t.hold = s.hold

/-- A second failed phase makes the region dark with cause 1 (R341, R342). -/
def phaseFailsAgain : Prop :=
  ∀ (region : Fin 48) (phase : Fin 8) (cause : PhaseCause) (s : State), region.val < 32 →
    s.part.variant.hasRegion region.val = true → s.regionState region.val ≠ 5 →
    s.get (Reg.HELM_RGN_STATUS.PHASES_OK region.val) / 2 ^ phase.val % 2 = 1 →
    s.phasesHealthy region.val + 1 = s.part.variant.phasesFitted region.val →
    runs (.phaseFailure region phase cause) s fun t =>
      t.regionState region.val = 5 ∧ t.get (Reg.HELM_RGN_STATUS.DARK_CAUSE region.val) = 1 ∧
      t.hold.dark = (region.val, 1) :: s.hold.dark ∧ t.boot.afterFault = true

/-- Current above 125 % of the limit clamps an ON region: the clamp is counted, and reported at most once in a second (R337, R338). -/
def regionClamp : Prop :=
  ∀ (region : Fin 48) (s : State), s.regionState region.val = 3 → (s.region region.val).lastOvercurrent = none →
    runs (.regionClamp region) s fun t =>
      t.regionState region.val = 4 ∧
      t.get (Reg.HELM_RGN_EVENTS.OC_CLAMPS region.val) = satCount 16 (s.get (Reg.HELM_RGN_EVENTS.OC_CLAMPS region.val) + 1) ∧
      (t.region region.val).restored = 0 ∧ (t.region region.val).lastOvercurrent = some s.dtime ∧
      posted Ev.regionOvercurrent [region.val] s t ∧
      regsKept (evtKeys ++ [(Reg.HELM_RGN_STATUS.STATE region.val).reg, (Reg.HELM_RGN_EVENTS.OC_CLAMPS region.val).reg]) s t ∧
      { t with regs := s.regs, evt := s.evt, pwr := s.pwr, helm := s.helm } = s

/-- Within a second of the last report the clamp is counted and not reported (R338). -/
def regionClampQuiet : Prop :=
  ∀ (region : Fin 48) (s : State) (last : Nat), s.regionState region.val = 3 →
    (s.region region.val).lastOvercurrent = some last → s.dtime < last + 1000000000 →
    runs (.regionClamp region) s fun t =>
      t.regionState region.val = 4 ∧ t.evt = s.evt ∧ (t.region region.val).lastOvercurrent = some last

/-- A clamp's release puts the region ON with a sixteenth restored at a time (R338). -/
def clampRelease : Prop :=
  ∀ (region : Fin 48) (s : State), s.regionState region.val = 4 →
    runs (.clampRelease region) s fun t =>
      t.regionState region.val = 3 ∧ (t.region region.val).restoring = true ∧ (t.region region.val).restored = 0 ∧
      regsKept [(Reg.HELM_RGN_STATUS.STATE region.val).reg] s t ∧ { t with regs := s.regs, pwr := s.pwr } = s

/-- Each step of the restoration gives back one sixteenth, and the sixteenth ends it (R338). -/
def clampRestoreStep : Prop :=
  ∀ (region : Fin 48) (s : State), (s.region region.val).restoring = true →
    runs (.clampRestoreStep region) s fun t =>
      t.region region.val = { s.region region.val with
        restored := (s.region region.val).restored + 1, restoring := decide ((s.region region.val).restored + 1 < 16) } ∧
      { t with pwr := s.pwr } = s

/-- A clamp that lasts makes the region dark with OVERCURRENT; a rail above its limit makes it dark with OVERVOLTAGE (R338, R339). -/
def regionsGoDark : Prop :=
  ∀ (region : Fin 48) (s : State), region.val < 32 → s.part.variant.hasRegion region.val = true → s.regionState region.val = 4 →
    (runs (.clampTimeout region) s fun t =>
      t.regionState region.val = 5 ∧ t.get (Reg.HELM_RGN_STATUS.DARK_CAUSE region.val) = 2 ∧
      t.hold.dark = (region.val, 2) :: s.hold.dark ∧ t.dev = s.dev) ∧
    (runs (.railOvervoltage region) s fun t =>
      t.regionState region.val = 5 ∧ t.get (Reg.HELM_RGN_STATUS.DARK_CAUSE region.val) = 3 ∧
      t.hold.dark = (region.val, 3) :: s.hold.dark ∧ t.dev = s.dev)

/-- A droop in a regulating cluster skips its issue slots and counts one episode, until its end (R336). -/
def droopSkips : Prop :=
  ∀ (region : Fin 48) (s : State), region.val < 32 → s.regulating region.val = true → (s.region region.val).skipping = false →
    (runs (.droopSkipStart region) s fun t =>
      (t.region region.val).skipping = true ∧
      t.get (Reg.HELM_RGN_EVENTS.DROOPS region.val) = satCount 32 (s.get (Reg.HELM_RGN_EVENTS.DROOPS region.val) + 1) ∧
      regsKept [(Reg.HELM_RGN_EVENTS.DROOPS region.val).reg] s t ∧ { t with regs := s.regs, pwr := s.pwr } = s) ∧
    (runs (.droopSkipEnd region) s fun t => (t.region region.val).skipping = false ∧ { t with pwr := s.pwr } = s)

/-- A request to enable a quiet region with quiet neighbours starts its soft start at its setpoint; a busy neighbour defers it
(R343, R344). -/
def regionEnableRequest : Prop :=
  ∀ (region : Fin 48) (s : State), s.part.variant.hasRegion region.val = true → s.dev ≠ .off → s.regionState region.val = 0 →
    s.get Reg.CAP_BOOT.DIE_UNUSED = 0 → s.enableDue region.val = true →
    runs (.regionEnableRequest region) s fun t =>
      (if s.lowerEnabling region.val = true ∨ (s.neighbours region.val).any s.isBusy = true then
        t.regionState region.val = 1 ∧
        t.get (Reg.HELM_RGN_EVENTS.DEFERS region.val) = satCount 16 (s.get (Reg.HELM_RGN_EVENTS.DEFERS region.val) + 1) ∧
        t.pwr = s.pwr
      else t.regionState region.val = 2 ∧ (t.region region.val).softStep = 0 ∧
        t.get (Reg.HELM_RGN_STATUS.SETPOINT region.val) = s.enableSetpoint region.val % 2 ^ 11) ∧
      regsKept [(Reg.HELM_RGN_STATUS.STATE region.val).reg, (Reg.HELM_RGN_EVENTS.DEFERS region.val).reg] s t ∧
      { t with regs := s.regs, pwr := s.pwr } = s

/-- A dark region is never enabled (R334). -/
def darkStaysDark : Prop :=
  ∀ (region : Fin 48) (s : State), s.regionState region.val = 5 →
    (runs (.regionEnableRequest region) s fun t => t = s) ∧ (runs (.regionDeferEnd region) s fun t => t = s) ∧
    (runs (.softStartStep region) s fun t => t = s) ∧ (runs (.regionClamp region) s fun t => t = s) ∧
    (runs (.clampRelease region) s fun t => t = s) ∧ (runs (.clampTimeout region) s fun t => t = s) ∧
    (runs (.railOvervoltage region) s fun t => t = s)

/-- The end of a deferral starts the soft start (R344). -/
def regionDeferEnd : Prop :=
  ∀ (region : Fin 48) (s : State), s.regionState region.val = 1 → s.lowerEnabling region.val = false →
    runs (.regionDeferEnd region) s fun t =>
      t.regionState region.val = 2 ∧ (t.region region.val).softStep = 0 ∧ (t.region region.val).restored = 16 ∧
      regsKept [(Reg.HELM_RGN_STATUS.STATE region.val).reg] s t ∧ { t with regs := s.regs, pwr := s.pwr } = s

/-- A soft start takes 64 steps, after which the region is ON; a clamped neighbour pauses it (R344, R345). -/
def softStartStep : Prop :=
  ∀ (region : Fin 48) (s : State), s.regionState region.val = 2 → region.val ≠ 38 →
    runs (.softStartStep region) s fun t =>
      if (s.neighbours region.val).all (fun n => s.regionState n != 4) = true then
        (t.region region.val).softStep = (s.region region.val).softStep + 1 ∧
        t.regionState region.val = (if (s.region region.val).softStep + 1 < 64 then 2 else 3) ∧
        regsKept [(Reg.HELM_RGN_STATUS.STATE region.val).reg] s t ∧ { t with regs := s.regs, pwr := s.pwr } = s
      else t = s

/-- A rail sample is shown, and becomes the minimum with its time when it is the first since the capture was armed or lies below it
(R340). -/
def railSample : Prop :=
  ∀ (region : Fin 48) (mv : W16) (lag : Fin 7) (s : State), s.regulating region.val = true →
    (s.region region.val).captured = false →
    runs (.railSample region mv lag) s fun t =>
      t.get (Reg.HELM_RGN_STATUS.VOLTAGE region.val) = mv.toNat ∧ t.get (Reg.HELM_RGN_VMIN.VMIN region.val) = mv.toNat ∧
      (t.region region.val).captured = true ∧ { t with regs := s.regs, pwr := s.pwr } = s

/-- Re-arming starts both captures anew (R340). -/
def capturesRearmed : Prop :=
  ∀ (region : Fin 48) (s : State), s.served = true → s.part.variant.hasRegion region.val = true →
    (runs (.helmInMinRearm) s fun t =>
      t.get Reg.HELM_IN_MIN.VIN_MIN = 0xFFFF ∧ t.get Reg.HELM_IN_MIN_TIME.DTIME = 0 ∧ t.pwr.inputCaptured = false ∧
      regsKept [Reg.HELM_IN_MIN.VIN_MIN.reg, Reg.HELM_IN_MIN_TIME.DTIME.reg] s t ∧
      { t with regs := s.regs, pwr := { t.pwr with inputCaptured := s.pwr.inputCaptured } } = s) ∧
    (runs (.helmRgnVminRearm region) s fun t =>
      t.get (Reg.HELM_RGN_VMIN.VMIN region.val) = 0xFFFF ∧ t.get (Reg.HELM_RGN_VMIN_TIME.DTIME region.val) = 0 ∧
      (t.region region.val).captured = false ∧
      regsKept [(Reg.HELM_RGN_VMIN.VMIN region.val).reg, (Reg.HELM_RGN_VMIN_TIME.DTIME region.val).reg] s t ∧
      { t with regs := s.regs, pwr := s.pwr } = s)

end Sys2Proof.Claims

/-- A first failed phase is disabled and reported, a second makes the region dark; over-current clamps it, counted and
reported at most once a second, the clamp is released and restored by sixteenths, and one that lasts makes the region
dark, as an over-voltage does; a droop skips a cluster's issue slots. A dark region does nothing more. (R334, R336,
R337, R338, R339, R341, R342) -/
def Obligations.RegionFaults : Prop :=
  Claims.phaseFails ∧ Claims.phaseFailsAgain ∧ Claims.regionClamp ∧ Claims.regionClampQuiet ∧ Claims.clampRelease ∧
    Claims.clampRestoreStep ∧ Claims.regionsGoDark ∧ Claims.droopSkips ∧ Claims.darkStaysDark

/-- A quiet region is soft-started at its setpoint in 64 steps, deferred while a neighbour is busy and paused while
one is clamped; a rail sample is shown and captured as the minimum, and re-arming starts the captures anew. (R340,
R343, R344, R345) -/
def Obligations.RegionEnabling : Prop :=
  Claims.regionEnableRequest ∧ Claims.regionDeferEnd ∧ Claims.softStartStep ∧ Claims.railSample ∧ Claims.capturesRearmed

/-! ### The Helm -/

namespace Sys2Proof.Claims

/-- A write to HELM_CAP takes the cap and the enable; with the loops running C_eff is then the smallest of the limits that apply and
of the maximum sustained power, and LIMIT names one that gives it (R351, R354). -/
def helmCapWrite : Prop :=
  ∀ (value : W64) (s : State), s.served = true →
    runs (.helmCapWrite value) s fun t =>
      t.get Reg.HELM_CAP.HOST_CAP_W = value.toNat % 65536 ∧ t.get Reg.HELM_CAP.BUDGET_EN = value.toNat / 65536 % 2 ∧
      (s.helm.loopsRunning = true → t.get Reg.HELM_CAP_STATUS.EFFECTIVE_W ≤ s.part.variant.maxPower ∧
        (∀ l ∈ t.limits, t.get Reg.HELM_CAP_STATUS.EFFECTIVE_W ≤ l.2) ∧
        (t.get Reg.HELM_CAP_STATUS.LIMIT, t.get Reg.HELM_CAP_STATUS.EFFECTIVE_W) ∈ (0, s.part.variant.maxPower) :: t.limits) ∧
      { t with regs := s.regs, evt := s.evt, helm := { t.helm with belowPosted := s.helm.belowPosted } } = s

/-- The fast loop shows the input; above C_eff, b rises by 256 times the excess over P_dyn, at least 64 W, up to 240; below 98 % of it
b falls by RAMP_STEP, and between the two it stands; every cluster then applies its B_c (R329, R356, R358). -/
def fastLoopUpdate : Prop :=
  ∀ (vin iin vbank : W16) (s : State) (c : Nat), s.dev ≠ .off → s.helm.loopsRunning = true → s.floorHold = false →
    iin.toNat ≤ 3800 → c ∈ s.clusters →
    runs (.fastLoopUpdate ⟨vin, iin, vbank, []⟩) s fun t =>
      t.get Reg.HELM_IN_STATUS.VIN = vin.toNat ∧ t.get Reg.HELM_IN_STATUS.IIN = iin.toNat ∧
      t.get Reg.HELM_IN_STATUS.VBANK = vbank.toNat ∧
      t.get Reg.HELM_CAP_STATUS.BUBBLE =
        (if t.get Reg.HELM_CAP_STATUS.EFFECTIVE_W * 10000 < vin.toNat * iin.toNat then
          min 240 (s.get Reg.HELM_CAP_STATUS.BUBBLE + ceilDiv (256 * (vin.toNat * iin.toNat -
            t.get Reg.HELM_CAP_STATUS.EFFECTIVE_W * 10000)) (max (s.helm.pdyn * 10) 640000))
        else if 100 * (vin.toNat * iin.toNat) < 98 * (t.get Reg.HELM_CAP_STATUS.EFFECTIVE_W * 10000) then
          s.get Reg.HELM_CAP_STATUS.BUBBLE - s.rampStep
        else s.get Reg.HELM_CAP_STATUS.BUBBLE) ∧
      t.get (Reg.HELM_CL_STATUS.B_C c) = t.clusterBubble c ∧
      { t with regs := s.regs, evt := s.evt, helm := s.helm, pwr := s.pwr } = s

/-- In a floor hold b is 240 (R356). -/
def fastLoopHeld : Prop :=
  ∀ (vin iin vbank : W16) (s : State), s.dev ≠ .off → s.helm.loopsRunning = true → s.floorHold = true →
    runs (.fastLoopUpdate ⟨vin, iin, vbank, []⟩) s fun t => t.get Reg.HELM_CAP_STATUS.BUBBLE = 240

/-- A core's activity is the share of its engines' slots that issued, and next microsecond it may rise by RAMP_STEP; filler fills up to
RAMP_STEP below (R359, R360). -/
def coreActivity : Prop :=
  ∀ (core : Fin 288) (c : CoreSample) (s : State), s.helm.loopsRunning = true →
    s.part.variant.hasRegion (coreCluster core.val) = true → 0 < c.fTotal + 2 * c.gTotal →
    s.flag Reg.HELM_CTRL_CFG.FILLER_EN = true → s.regulating (coreCluster core.val) = true →
    s.regionState (coreCluster core.val) = 3 → s.dev = .ready →
    runs (.coreActivityUpdate core c) s fun t =>
      sparseGet CoreActivity.idle core.val t.helm.activity =
        ⟨256 * (c.fReal + c.fFiller + 2 * (c.gReal + c.gFiller)) / (c.fTotal + 2 * c.gTotal),
         min 256 (256 * (c.fReal + c.fFiller + 2 * (c.gReal + c.gFiller)) / (c.fTotal + 2 * c.gTotal) + s.rampStep),
         256 * (c.fReal + c.fFiller + 2 * (c.gReal + c.gFiller)) / (c.fTotal + 2 * c.gTotal) - s.rampStep⟩ ∧
      regsKept [(Reg.HELM_CL_FILLER.CYCLES (coreCluster core.val)).reg] s t ∧
      { t with regs := s.regs, helm := { t.helm with activity := s.helm.activity } } = s

/-- The slow loop sets the module index: never above TOP_USABLE, nor above 16 without boost, rising by at most two a period, 0 in a
floor hold and FIXED_INDEX in fixed-frequency mode; the averages are shown (R364 to R366). -/
def slowLoopPeriod : Prop :=
  ∀ (x : SlowSample) (s : State), s.helm.loopsRunning = true → s.role.inStep = false →
    runs (.slowLoopPeriod x) s fun t =>
      t.get Reg.HELM_OP_STATUS.INDEX ≤ s.get Reg.HELM_OP_STATUS.TOP_USABLE ∧
      (s.flag Reg.HELM_CTRL_CFG.BOOST_EN = false → t.get Reg.HELM_OP_STATUS.INDEX ≤ 16) ∧
      (s.floorHold = true → t.get Reg.HELM_OP_STATUS.INDEX = 0) ∧
      (s.floorHold = false → s.flag Reg.HELM_CTRL_CFG.FIXED_FREQ = true → t.get Reg.HELM_OP_STATUS.INDEX =
        min (min (s.get Reg.HELM_CTRL_CFG.FIXED_INDEX) 16) (s.get Reg.HELM_OP_STATUS.TOP_USABLE)) ∧
      (s.flag Reg.HELM_CTRL_CFG.FIXED_FREQ = false →
        t.get Reg.HELM_OP_STATUS.INDEX ≤ s.get Reg.HELM_OP_STATUS.INDEX + 2) ∧
      t.get Reg.HELM_CAP_STATUS.BUBBLE_AVG = min 255 x.bubbleAvg ∧ t.get Reg.MG_POWER.POWER_W = x.meanPower.toNat ∧
      t.get Reg.HELM_OP_STATUS.OP_CHANGES = (if t.get Reg.HELM_OP_STATUS.INDEX = s.get Reg.HELM_OP_STATUS.INDEX then
        s.get Reg.HELM_OP_STATUS.OP_CHANGES else satCount 32 (s.get Reg.HELM_OP_STATUS.OP_CHANGES + 1)) ∧
      { t with regs := s.regs, evt := s.evt, helm := s.helm } = s

/-- The setpoint moves first when the index rises and last when it falls; ECLK changes only to an index whose setpoint is on the rail
(R45, R363). -/
def operatingPoint : Prop :=
  ∀ (cluster : Fin 32) (s : State), s.regulating cluster.val = true →
    (runs (.operatingPointChange cluster) s fun t =>
      t.get (Reg.HELM_RGN_STATUS.SETPOINT cluster.val) =
        (if s.get (Reg.HELM_CL_STATUS.INDEX cluster.val) ≤ s.targetIndex cluster.val then
          s.setpoint (cluster.val / 8) (s.targetIndex cluster.val) % 2 ^ 11
        else s.get (Reg.HELM_RGN_STATUS.SETPOINT cluster.val)) ∧
      regsKept [(Reg.HELM_RGN_STATUS.SETPOINT cluster.val).reg] s t ∧ onlyRegs s t) ∧
    (runs (.eclkChange cluster) s fun t =>
      t.get (Reg.HELM_CL_STATUS.INDEX cluster.val) =
        (if s.setpoint (cluster.val / 8) (s.targetIndex cluster.val) ≤ s.get (Reg.HELM_RGN_STATUS.SETPOINT cluster.val) then
          s.targetIndex cluster.val % 2 ^ 5
        else s.get (Reg.HELM_CL_STATUS.INDEX cluster.val)) ∧
      regsKept [(Reg.HELM_CL_STATUS.INDEX cluster.val).reg] s t ∧ onlyRegs s t)

/-- A Reckoning interval adds the metered energy to the step and to the total, which is shown in mJ; the floor estimate is the
model's free value (R353, R370, R371, log 20). -/
def reckoningInterval : Prop :=
  ∀ (x : ReckonSample) (s : State), s.helm.loopsRunning = true →
    runs (.reckoningInterval x) s fun t =>
      t.helm.stepEnergy = s.helm.stepEnergy + x.metered ∧ t.helm.totalUj = s.helm.totalUj + x.metered ∧
      t.get Reg.HELM_RK_TOTAL.ENERGY = (s.helm.totalUj + x.metered) / 1000 % 2 ^ 64 ∧
      t.get Reg.HELM_CAP_STATUS.FLOOR_W = (Config.floorEstimate s.fresh).toNat ∧
      regsKept (evtKeys ++ [Reg.HELM_RK_TOTAL.ENERGY.reg, Reg.HELM_CAP_STATUS.FLOOR_W.reg]) s t ∧
      { t with regs := s.regs, evt := s.evt, helm := s.helm, fresh := s.fresh } = s

/-- Before the loops run, none of the loop commands does anything. -/
def loopsIdle : Prop :=
  ∀ (core : Fin 288) (c : CoreSample) (x : SlowSample) (r : ReckonSample) (s : State), s.helm.loopsRunning = false →
    (runs (.coreActivityUpdate core c) s fun t => t = s) ∧ (runs (.slowLoopPeriod x) s fun t => t = s) ∧
    (runs (.reckoningInterval r) s fun t => t = s)

end Sys2Proof.Claims

/-- A write to HELM_CAP makes C_eff the smallest limit that applies; the fast loop shows the input and moves the
bubble level b by the excess over C_eff, up to 240, down by RAMP_STEP below 98 %, and holds it at 240 in a floor hold;
a core's activity bounds its next microsecond. (R329, R351, R354, R356, R358, R359, R360) -/
def Obligations.CapAndFastLoop : Prop :=
  Claims.helmCapWrite ∧ Claims.fastLoopUpdate ∧ Claims.fastLoopHeld ∧ Claims.coreActivity

/-- The module index never exceeds TOP_USABLE and rises by at most two a period, is 0 in a floor hold and FIXED_INDEX
in fixed-frequency mode; setpoint and ECLK change in the safe order; a Reckoning interval adds the metered energy to
the step and the total. The floor estimate is a free value of the model. (R45, R353, R363, R364, R365, R366, R370,
R371) -/
def Obligations.SlowLoopAndReckoning : Prop :=
  Claims.slowLoopPeriod ∧ Claims.operatingPoint ∧ Claims.reckoningInterval ∧ Claims.loopsIdle

/-! ### Sensors and the trip -/

namespace Sys2Proof.Claims

/-- A reading from −20 to 150 °C is valid and shown; any other is out of range, not valid and shown saturated (R374). -/
def sensorReading : Prop :=
  ∀ (sensor : Fin 144) (temp : Int) (s : State), s.part.variant.hasSensor sensor.val = true → s.dev ≠ .off →
    runs (.sensorSample sensor (.temp temp)) s fun t =>
      t.flag (Reg.HELM_SENSOR.VALID sensor.val) = decide (-160 ≤ temp ∧ temp ≤ 1200) ∧
      t.flag (Reg.HELM_SENSOR.OUT_OF_RANGE sensor.val) = !decide (-160 ≤ temp ∧ temp ≤ 1200) ∧
      t.flag (Reg.HELM_SENSOR.OPEN_SHORT sensor.val) = false ∧ t.get (Reg.HELM_SENSOR.TEMP sensor.val) = tempCode temp ∧
      t.flag (Reg.HELM_SENSOR.SUSPECT sensor.val) = s.flag (Reg.HELM_SENSOR.SUSPECT sensor.val) ∧
      regsKept [(Reg.HELM_SENSOR.TEMP sensor.val).reg] s t ∧
      { t with regs := s.regs, helm := { t.helm with lastTemp := s.helm.lastTemp } } = s

/-- An open or short is not valid, and the last reading in range stays shown (R374). -/
def sensorOpen : Prop :=
  ∀ (sensor : Fin 144) (s : State), s.part.variant.hasSensor sensor.val = true → s.dev ≠ .off →
    runs (.sensorSample sensor .openShort) s fun t =>
      t.flag (Reg.HELM_SENSOR.VALID sensor.val) = false ∧ t.flag (Reg.HELM_SENSOR.OPEN_SHORT sensor.val) = true ∧
      t.get (Reg.HELM_SENSOR.TEMP sensor.val) = tempCode (sparseGet 0 sensor.val s.helm.lastTemp) ∧
      regsKept [(Reg.HELM_SENSOR.TEMP sensor.val).reg] s t ∧ onlyRegs s t

/-- A pair that disagrees is marked suspect, both of it, and reported once; the host's clear ends the mark (R375). -/
def sensorSuspect : Prop :=
  ∀ (sensor : Fin 144) (mate : Nat) (s : State), s.part.variant.hasSensor sensor.val = true → s.dev ≠ .off →
    sensorMate sensor.val = some mate → s.flag (Reg.HELM_SENSOR.SUSPECT sensor.val) = false → s.pairDiffers sensor.val = true →
    runs (.sensorPairDisagreement sensor) s fun t =>
      t.flag (Reg.HELM_SENSOR.SUSPECT sensor.val) = true ∧ t.flag (Reg.HELM_SENSOR.SUSPECT mate) = true ∧
      posted Ev.sensorSuspect [min sensor.val mate] s t ∧
      regsKept (evtKeys ++ [(Reg.HELM_SENSOR.SUSPECT sensor.val).reg, (Reg.HELM_SENSOR.SUSPECT mate).reg]) s t ∧
      { t with regs := s.regs, evt := s.evt } = s

/-- The clear covers the pair. -/
def sensorSuspectClear : Prop :=
  ∀ (sensor : Fin 144) (mate : Nat) (s : State), s.served = true → s.part.variant.hasSensor sensor.val = true →
    sensorMate sensor.val = some mate →
    runs (.helmSensorSuspectClear sensor) s fun t =>
      t.flag (Reg.HELM_SENSOR.SUSPECT sensor.val) = false ∧ t.flag (Reg.HELM_SENSOR.SUSPECT mate) = false ∧
      regsKept [(Reg.HELM_SENSOR.SUSPECT sensor.val).reg, (Reg.HELM_SENSOR.SUSPECT mate).reg] s t ∧ onlyRegs s t

/-- A reading of 110 °C or more trips: the regions but the hub's are OFF and not dark, HBM4E and the step are lost, TRIP_N goes low,
THERMAL_TRIP is posted and the module is SAFE (R382, R415). -/
def hardwareTrip : Prop :=
  ∀ (sensor : Fin 144) (temp : Int) (s : State) (a r : Nat), s.part.variant.hasSensor sensor.val = true → s.dev ≠ .off →
    s.dev ≠ .safe → 880 ≤ temp → temp ≤ 1200 → s.snap = none → s.frw = none →
    runs (.hardwareTrip sensor temp) s fun t =>
      t.dev = .safe ∧ t.get Reg.CAP_STATE.CAUSE = 0x8B0A ∧ t.get Reg.CAP_STATE.PREVIOUS = s.dev.code ∧ t.hold.tripPin = true ∧
      t.flag (Reg.HELM_SENSOR.TRIPPED sensor.val) = true ∧ t.flag Reg.HELM_THERMAL.TRIPPED = true ∧ t.role.inStep = false ∧
      (isHbm a = true → t.readByte a = 0) ∧
      (r ∈ s.computeRegions → s.regionState r ≠ 5 → t.regionState r = 0) ∧
      (sensor.val < 128 ∨ 136 ≤ sensor.val → ∀ q ∈ [36, 37, 38, 39], t.regionState q = s.regionState q) ∧
      t.hold.alert = s.hold.alert ||| 8 ∧ t.boot.afterFault = true ∧ t.mram = s.mram ∧ t.knots = s.knots

/-- Below 110 °C the trip does not act, nor does it on a reading that is out of range (R374, R382). -/
def noTrip : Prop :=
  ∀ (sensor : Fin 144) (temp : Int) (s : State), (temp < 880 ∨ 1200 < temp ∨ s.dev = .off) →
    runs (.hardwareTrip sensor temp) s fun t => t = s

end Sys2Proof.Claims

/-- A reading in range is valid and shown, another is not; a disagreeing pair is marked suspect and reported until the
host clears it. A reading of 110 °C or more switches the regions off, loses HBM4E and the step, and leaves the module
SAFE; a lower one does not act. (R374, R375, R382, R415) -/
def Obligations.SensorsAndTrip : Prop :=
  Claims.sensorReading ∧ Claims.sensorOpen ∧ Claims.sensorSuspect ∧ Claims.sensorSuspectClear ∧ Claims.hardwareTrip ∧ Claims.noTrip

/-! ### Registers that act when written -/

namespace Sys2Proof.Claims

/-- Clearing VALID empties the record of a present unit; that of a unit outside the present cores ignores the write (R6, R85). -/
def recordClear : Prop :=
  ∀ (unit : Fin 2048) (s : State), s.served = true →
    runs (.numFfValidClear unit) s fun t =>
      if unit.val ∈ s.numUnits then
        t.rd (Reg.NUM_FF_LOC.VALID unit.val).reg = 0 ∧ t.rd (Reg.NUM_FF_DETAIL.CAUSE unit.val).reg = 0 ∧
        t.rd (Reg.NUM_FF_TIME.DTIME unit.val).reg = 0 ∧
        regsKept [(Reg.NUM_FF_LOC.VALID unit.val).reg, (Reg.NUM_FF_DETAIL.CAUSE unit.val).reg, (Reg.NUM_FF_TIME.DTIME unit.val).reg] s t ∧
        onlyRegs s t
      else t = s

/-- NUM_CLEAR_ALL clears the chosen flags, or the records, of every present unit, and nothing else (R85, R88). -/
def clearAllUnits : Prop :=
  ∀ (flags : BitVec 5) (s : State) (i : Nat), s.served = true → i ∈ s.numUnits →
    (runs (.numClearAllFlags flags) s fun t =>
      t.rd (Reg.NUM_FLAGS.INVALID i).reg = s.rd (Reg.NUM_FLAGS.INVALID i).reg &&& ~~~(flags.setWidth 64) ∧
      regsKept (s.numUnits.map (fun j => (Reg.NUM_FLAGS.INVALID j).reg)) s t ∧ onlyRegs s t) ∧
    (runs (.numClearAllRecords) s fun t =>
      t.rd (Reg.NUM_FF_LOC.VALID i).reg = 0 ∧ t.rd (Reg.NUM_FF_DETAIL.CAUSE i).reg = 0 ∧ t.rd (Reg.NUM_FF_TIME.DTIME i).reg = 0 ∧
      regsKept (s.numUnits.flatMap (fun j =>
        [(Reg.NUM_FF_LOC.VALID j).reg, (Reg.NUM_FF_DETAIL.CAUSE j).reg, (Reg.NUM_FF_TIME.DTIME j).reg])) s t ∧ onlyRegs s t)

/-- A write to a probe register recomputes the words of R78 for the three inputs that then stand (R78, R81). -/
def probeWrite : Prop :=
  ∀ (probe : Probe) (value : W64) (s : State), s.served = true →
    runs (.numSrProbeWrite probe value) s fun t =>
      t.rd (match probe with
        | .seed => Reg.NUM_SR_SEED.SEED.reg
        | .step => Reg.NUM_SR_STEP.STEP.reg
        | .index => Reg.NUM_SR_INDEX.TID.reg) = value ∧
      (t.get Reg.NUM_SR_RESULT.X, t.get Reg.NUM_SR_RESULT.Y) =
        ((srWords (t.rd Reg.NUM_SR_SEED.SEED.reg) (t.rd Reg.NUM_SR_STEP.STEP.reg) (t.get Reg.NUM_SR_INDEX.TID)
            (t.get Reg.NUM_SR_INDEX.TILE) (t.get Reg.NUM_SR_INDEX.ELEM)).1.toNat,
         (srWords (t.rd Reg.NUM_SR_SEED.SEED.reg) (t.rd Reg.NUM_SR_STEP.STEP.reg) (t.get Reg.NUM_SR_INDEX.TID)
            (t.get Reg.NUM_SR_INDEX.TILE) (t.get Reg.NUM_SR_INDEX.ELEM)).2.toNat) ∧
      regsKept [Reg.NUM_SR_SEED.SEED.reg, Reg.NUM_SR_STEP.STEP.reg, Reg.NUM_SR_INDEX.TID.reg, Reg.NUM_SR_RESULT.X.reg] s t ∧
      onlyRegs s t

/-- SND_CLEAR marks what the next step start clears, in both roles, and drops the rungs that were to be set there and are cleared (R148). -/
def soundingsClears : Prop :=
  ∀ (tensor : W16) (s : State), s.served = true →
    (runs (.sndClearPromotion) s fun t => t.role.clearPromotion = true ∧ t.other.all (fun r => r.clearPromotion) = true ∧
      { t with role := { t.role with clearPromotion := s.role.clearPromotion }, other := s.other } = s) ∧
    (runs (.sndClearTensor tensor) s fun t => tensor.toNat ∈ t.role.clearRungs ∧
      (∀ x, x ∈ t.role.setRungs → x.1 ≠ tensor.toNat) ∧
      { t with
        role := { t.role with
          clearRungs := s.role.clearRungs
          setRungs := s.role.setRungs }
        other := s.other } = s) ∧
    (runs (.sndClearAllTensors) s fun t => t.role.clearAll = true ∧ t.other.all (fun r => r.clearAll) = true ∧
      t.role.setRungs = [] ∧
      { t with
        role := { t.role with
          clearAll := s.role.clearAll
          setRungs := s.role.setRungs }
        other := s.other } = s)

/-- A write to CHT_INDEX copies the entry out (R228). -/
def chartIndexWrite : Prop :=
  ∀ (index : BitVec 19) (s : State), s.served = true →
    runs (.chtIndexWrite index) s fun t =>
      t.get Reg.CHT_INDEX.INDEX = index.toNat ∧
      [t.rd Reg.CHT_DATA0.WORD.reg, t.rd Reg.CHT_DATA1.WORD.reg, t.rd Reg.CHT_DATA2.WORD.reg, t.rd Reg.CHT_DATA3.WORD.reg] =
        (s.entry index.toNat).words ∧
      regsKept [Reg.CHT_INDEX.INDEX.reg, Reg.CHT_DATA0.WORD.reg, Reg.CHT_DATA1.WORD.reg, Reg.CHT_DATA2.WORD.reg,
        Reg.CHT_DATA3.WORD.reg] s t ∧ onlyRegs s t

/-- The host's advance adds to the knot, 0 having no effect; a knot never decreases, and what it would take beyond 64 bits is left open
(R257, R258, log 2). -/
def knotAdvance : Prop :=
  ∀ (k : BitVec 12) (amount : W32) (s : State) (j : Nat), s.served = true →
    runs (.kntAdvance k amount) s fun t =>
      ((s.knot k.toNat).toNat + amount.toNat < 2 ^ 64 → (t.knot k.toNat).toNat = (s.knot k.toNat).toNat + amount.toNat) ∧
      (s.knot k.toNat).toNat ≤ (t.knot k.toNat).toNat ∧ (j ≠ k.toNat → t.knot j = s.knot j) ∧
      { t with knots := s.knots, fresh := s.fresh } = s

/-- The integrity record is emptied and its count of failures stays (R287). -/
def integrityClear : Prop :=
  ∀ (s : State), s.served = true →
    runs (.kntIntegrityClear) s fun t =>
      t.rd Reg.KNT_INTEGRITY.VALID.reg = 0 ∧ t.get Reg.KNT_INTEGRITY_HOP.PHASE = 0 ∧ t.get Reg.KNT_INTEGRITY_HOP.POSITION = 0 ∧
      t.get Reg.KNT_INTEGRITY_HOP.FAILURES = s.get Reg.KNT_INTEGRITY_HOP.FAILURES ∧
      regsKept [Reg.KNT_INTEGRITY.VALID.reg, Reg.KNT_INTEGRITY_HOP.PHASE.reg] s t ∧ onlyRegs s t

end Sys2Proof.Claims

/-- Clearing records and flags empties those chosen in the present units and nothing else; a probe write recomputes
the words of R78; SND_CLEAR marks what the next step start clears; CHT_INDEX copies the entry out; a host's advance
adds to its knot alone, which never decreases; the integrity record empties and keeps its count. (R6, R78, R81, R85,
R88, R148, R228, R257, R258, R287) -/
def Obligations.RegistersThatAct : Prop :=
  Claims.recordClear ∧ Claims.clearAllUnits ∧ Claims.probeWrite ∧ Claims.soundingsClears ∧ Claims.chartIndexWrite ∧
    Claims.knotAdvance ∧ Claims.integrityClear

/-! ### Step start and control messages -/

namespace Sys2Proof.Claims

/-- Work under a role: nothing changes but the role, registers, events, what is put out and the control messages on their way. -/
abbrev withinRole (s t : State) : Prop :=
  { t with regs := s.regs, evt := s.evt, role := s.role, out := s.out, flights := s.flights } = s

/-- The newest control message: the role's, from a sender to a unit. -/
abbrev sent (x : Sender) (core : Nat) (e : Engine) (m : W64) (s t : State) : Prop :=
  t.flights.getLast? = some ⟨s.sel, x, ⟨Fin.ofNat 256 core, e⟩, .control, m, s.controlWay x ⟨Fin.ofNat 256 core, e⟩⟩

/-- A step starts: every leg of the passage stands in its queue with nothing done, the configuration fields are latched, what the last
step left is gone, and the assignment has begun (R148, R212, R248). -/
def stepStart : Prop :=
  ∀ (s : State) (p : Passage), s.role.passage = some p → s.mayStart = true → s.chart.relocateMarks = false →
    runs (.stepStart .own) s fun t =>
      t.role.inStep = true ∧ t.role.legs.map Prod.fst = List.range p.legs.length ∧
      t.role.legs.all (fun x => decide (x.2.started = 0) && !x.2.finished && x.2.committed.isEmpty && x.2.redo.isEmpty) = true ∧
      t.role.acc = [] ∧ t.role.outTiles = [] ∧ t.role.ready = [] ∧ t.role.triggers = [] ∧ t.role.repeatedTiles = 0 ∧
      t.role.closed = false ∧ t.role.latched.map Prod.fst = latchedKeys ∧ (s.role.clearPromotion = true → t.role.level = 0) ∧
      t.flag Reg.CHT_STATUS.ASSIGNING = true ∧ t.role.step = s.role.step ∧ t.role.attempt = s.role.attempt ∧
      t.role.passage = some p ∧ storesKept s t ∧ t.dev = s.dev ∧ t.other = s.other

/-- No step starts while one runs, while a settlement or a restore runs, or outside RUNNING and DRAINING. -/
def stepStartIdle : Prop :=
  ∀ (s : State), s.mayStart = false → runs (.stepStart .own) s fun t => t = s

/-- The assignment ends: ASSIGNING is 0 (R215). -/
def assignmentDone : Prop :=
  ∀ (s : State), s.role.inStep = true →
    runs (.assignmentDone .own) s fun t =>
      t.get Reg.CHT_STATUS.ASSIGNING = 0 ∧ regsKept [Reg.CHT_STATUS.ASSIGNING.reg] s t ∧ onlyRegs s t

/-- A replica lands in the cluster's store, byte for byte (R213). -/
def replicaCopy : Prop :=
  ∀ (entry : BitVec 19) (c : Fin 32) (s : State), s.dev = .running ∨ s.dev = .draining →
    (s.entry entry.toNat).replicas / 2 ^ c.val % 2 = 1 → s.chart.landedReplicas.contains (entry.toNat, c.val) = false →
    (s.entry entry.toNat).tier = 1 →
    runs (.replicaCopy entry c) s fun t =>
      t.readBytes (storeBase c.val + 256 * (s.entry entry.toNat).aux) (s.entry entry.toNat).bytes =
        s.readBytes (s.entry entry.toNat).addr (s.entry entry.toNat).bytes ∧
      bytesKeptBut (storeBase c.val + 256 * (s.entry entry.toNat).aux) (s.entry entry.toNat).bytes s t ∧
      t.chart = { s.chart with landedReplicas := s.chart.landedReplicas ++ [(entry.toNat, c.val)] } ∧
      { t with mem := s.mem, badLines := s.badLines, chart := s.chart } = s

/-- A token message that has come adds its count to the queue it names, saturating at 16 bits; a count for a leg that the Navigator has
not entered yet is held (R250). -/
def tokenMessage : Prop :=
  ∀ (unit : UnitAddr) (m : W64) (s : State) (f : Flight) (x : Nat × Leg × LegRun), s.working = true → msgType m = 0 →
    msgUnit m = false → nextFlight s.flights s.sel unit m = some f → s.namedLeg unit m = some x →
    runs (.tokenMessage .own unit m) s fun t =>
      t = (if s.entered unit.core.val unit.engine x.2.2.position = true then
          ({ s with flights := s.flights.erase f } : State).mapStream x.1 (msgSlot m)
            (fun q => { q with tokens := satCount 16 (q.tokens + msgCount m) })
        else ({ s with flights := s.flights.erase f } : State).mapRole
          (fun r => { r with held := r.held ++ [⟨unit, msgPosition m, msgSlot m, false, msgCount m⟩] }))

/-- A message is taken only once it has come, and in the order in which its sender sent its own (R40). -/
def messageAwaited : Prop :=
  ∀ (unit : UnitAddr) (m : W64) (s : State), nextFlight s.flights s.sel unit m = none →
    (runs (.tokenMessage .own unit m) s fun t => t = s) ∧ (runs (.creditMessage .own unit m) s fun t => t = s) ∧
    (runs (.verdictTokenRelease .own unit m) s fun t => t = s)

/-- A credit message for a pool of the unit itself returns its count, never beyond the pool (R250, R251). -/
def creditMessage : Prop :=
  ∀ (unit : UnitAddr) (m : W64) (s : State) (f : Flight) (q : UnitQueue), s.working = true → msgType m = 1 → msgUnit m = true →
    nextFlight s.flights s.sel unit m = some f → queueOf (msgSlot m) = some q → q ≠ .staging →
    runs (.creditMessage .own unit m) s fun t =>
      t.credit unit.core.val q = min (s.credit unit.core.val q + msgCount m) (s.pool unit.core.val q) ∧
      t.flights = s.flights.erase f ∧
      { t with role := { t.role with regionCredits := s.role.regionCredits }, flights := s.flights } = s

/-- A staging grant lets the core whose turn it is drain as many weight-gradient tiles as slots are free and it has waiting; the
level rises and its peak with it, and the turn moves on (R113). -/
def stagingGrant : Prop :=
  ∀ (unit : UnitAddr) (m : W64) (s : State), s.working = true → msgType m = 2 → msgUnit m = true → msgSlot m = 3 →
    s.nextGrant (s.dieOf unit.core.val) = some unit.core.val →
    runs (.stagingGrant .own unit m) s fun t =>
      let die := s.dieOf unit.core.val
      let free := s.pool (256 + die) .staging - s.get (Reg.NUM_STG_LEVEL.CURRENT die)
      sparseGet 0 unit.core.val t.role.grants =
        sparseGet 0 unit.core.val s.role.grants + min (min (msgCount m) free) (s.waitingDrain unit.core.val) ∧
      (free = 0 → t.get (Reg.NUM_STG_FULL.COUNT die) =
        satCount (Reg.NUM_STG_FULL.COUNT die).width (s.get (Reg.NUM_STG_FULL.COUNT die) + 1)) ∧
      (free ≠ 0 → sparseGet 0 die t.role.grantLast = unit.core.val + 1) ∧
      regsKept [(Reg.NUM_STG_FULL.COUNT die).reg, (Reg.NUM_STG_LEVEL.CURRENT die).reg, (Reg.NUM_STG_LEVEL.PEAK die).reg] s t ∧
      { t with regs := s.regs, role := { t.role with grants := s.role.grants, grantLast := s.role.grantLast } } = s

/-- A release posts the tokens of the tiles it covers whose verdicts are closed and whose commit is posted (R138, R143, R250). -/
def verdictTokenRelease : Prop :=
  ∀ (unit : UnitAddr) (m : W64) (s : State) (f : Flight) (x : Nat × Leg × LegRun), s.working = true → msgType m = 3 → msgUnit m = false →
    nextFlight s.flights s.sel unit m = some f → msgCount m = 1 → (s.unitLegs unit.core.val unit.engine).find? (fun x => decide (x.2.2.position % 32768 = msgPosition m)) = some x →
    s.streamsOf x.2.1 = [] → (∀ h ∈ s.role.heldTokens, h.tensor = x.2.1.y → h.tile = msgSeq m → h.drift = false ∧ h.sight = false) →
    (s.role.heldTokens.any (fun h => h.tensor == x.2.1.y && h.tile == msgSeq m)) = true → s.uncommitted x.2.1.y (msgSeq m) = false →
    runs (.verdictTokenRelease .own unit m) s fun t =>
      (x.2.1.y, msgSeq m) ∈ t.role.ready ∧ t.role.heldTokens.all (fun h => !(h.tensor == x.2.1.y && h.tile == msgSeq m)) = true ∧
      t.flights = s.flights.erase f ∧
      { t with role := { t.role with ready := s.role.ready, heldTokens := s.role.heldTokens }, flights := s.flights } = s

/-- A message of another type, or while no unit works, does nothing. -/
def messagesIdle : Prop :=
  ∀ (unit : UnitAddr) (m : W64) (s : State), s.working = false ∨ 4 ≤ msgType m →
    (runs (.tokenMessage .own unit m) s fun t => t = s) ∧ (runs (.creditMessage .own unit m) s fun t => t = s) ∧
    (runs (.stagingGrant .own unit m) s fun t => t = s) ∧ (runs (.verdictTokenRelease .own unit m) s fun t => t = s)

end Sys2Proof.Claims

/-- A step that may start puts every leg of the passage in its queue with nothing done, latches the configuration,
applies the clears and begins the assignment, leaving memory and the knots; it does not start while a step, a
settlement or a restore runs. The assignment's end clears ASSIGNING; a replica is a copy of its home, byte for byte.
(R148, R212, R213, R215, R248) -/
def Obligations.StepStart : Prop :=
  Claims.stepStart ∧ Claims.stepStartIdle ∧ Claims.assignmentDone ∧ Claims.replicaCopy

/-- A unit takes a control message once it has come, in its sender's order: a token message adds its count to the
queue named or is held for a leg not yet entered; a credit returns to its pool and never beyond it; a staging grant
takes free slots only; a release posts the tokens of tiles whose verdicts are closed and whose commit is posted. Other
message types do nothing, nor does any while no unit works. (R40, R113, R138, R143, R250, R251) -/
def Obligations.ControlMessages : Prop :=
  Claims.tokenMessage ∧ Claims.messageAwaited ∧ Claims.creditMessage ∧ Claims.stagingGrant ∧ Claims.verdictTokenRelease ∧
    Claims.messagesIdle

/-! ### The engines -/

namespace Sys2Proof.Claims

/-- The F engine starts the next tile that has its tokens and a page: the chunk's sums stand in the accumulator buffer in issue and a
credit of the F region is taken (R30, R97, R111, R112). -/
def forwardProduct : Prop :=
  ∀ (core : Fin 256) (s : State) (i : Nat) (l : Leg) (r : LegRun), s.working = true → s.issuing core.val false = false →
    s.skipsIssue core.val = false → s.nextLeg core.val .f (fun l => l.kind == 0) = some (i, l, r) → s.canStart core.val i l r = true →
    runs (.forwardProduct .own core) s fun t =>
      (t.role.acc.getLast?.map fun a => (a.leg, a.tensor, a.tile, a.core, a.issuing)) = some (i, l.y, l.nextTile r, core.val, true) ∧
      (t.role.acc.getLast?.map fun a => (a.value.isSome, a.chunks.head?)) =
        some (false, some (l.chunk, (s.tileChunk i l (l.nextTile r) false).1)) ∧
      t.issuing core.val false = true ∧ t.credit core.val .f = min (s.credit core.val .f - 1) (s.pool core.val .f) ∧ withinRole s t ∧
      t.role.step = s.role.step ∧ t.role.passage = s.role.passage

/-- With no tile that can start the F engine counts the cycle (R112). -/
def forwardStalls : Prop :=
  ∀ (core : Fin 256) (s : State), s.working = true → s.issuing core.val false = false → s.skipsIssue core.val = false →
    s.nextLeg core.val .f (fun l => l.kind == 0) = none →
    runs (.forwardProduct .own core) s fun t =>
      t.get (Reg.NUM_MX_STALL.F_NO_START core.val) =
        satCount (Reg.NUM_MX_STALL.F_NO_START core.val).width (s.get (Reg.NUM_MX_STALL.F_NO_START core.val) + 1) ∧
      regsKept [(Reg.NUM_MX_STALL.F_NO_START core.val).reg] s t ∧ onlyRegs s t

/-- The G engine takes the stream its pattern names when that stream's next tile can start, and turns the pattern (R112). -/
def gEngineChoice : Prop :=
  ∀ (core : Fin 256) (s : State) (i : Nat) (l : Leg) (r : LegRun), s.working = true → s.issuing core.val true = false →
    s.skipsIssue core.val = false → s.wanted core.val = false → s.gStream core.val false = some (i, l, r) → s.canStart core.val i l r = true →
    runs (.gEngineTileChoice .own core) s fun t =>
      (t.role.acc.getLast?.map fun a => (a.leg, a.tensor, a.tile, a.core, a.issuing, a.chunks.head?)) =
        some (i, l.y, l.nextTile r, core.val, true, some (l.chunk, (s.tileChunk i l (l.nextTile r) false).1)) ∧
      t.credit core.val .dx = min (s.credit core.val .dx - 1) (s.pool core.val .dx) ∧ withinRole s t ∧
      sparseGet 0 core.val t.role.patternPtr =
        (sparseGet 0 core.val s.role.patternPtr + 1) % max ((s.role.passage.map Passage.patternLen).getD 1) 1

/-- The end of issue counts the tile's cycles; the result of a product of one chunk stands whole in the buffer (R95, R98). -/
def tileIssueEnd : Prop :=
  ∀ (core : Fin 256) (s : State) (a : AccTile) (l : Leg) (r : LegRun) (codes : List Nat), s.working = true →
    s.role.acc = [a] → a.core = core.val → a.issuing = true → a.region = 0 → a.value = none → a.chunks = [(0, codes)] →
    s.legAt a.leg = some (l, r) → l.chunk = 0 → l.chunkCount ≤ 1 → l.useIndex = 0 →
    runs (.tileIssueEnd .own core false) s fun t =>
      t.role.acc = [{ a with issuing := false, value := some ((combineChunks [codes]).map Prod.fst), folded := 0 }] ∧
      t.get (Reg.NUM_MX_F_ISSUE.COUNT core.val) =
        satCount (Reg.NUM_MX_F_ISSUE.COUNT core.val).width (s.get (Reg.NUM_MX_F_ISSUE.COUNT core.val) + s.issueCycles a.leg l a.tile false) ∧
      withinRole s t

/-- The result of any other chunk leaves for the owner in carriage form and its page is freed by a message (R98, R111). -/
def chunkIssueEnd : Prop :=
  ∀ (core : Fin 256) (s : State) (a : AccTile) (l : Leg) (r : LegRun) (codes : List Nat), s.working = true →
    s.role.acc = [a] → a.core = core.val → a.issuing = true → a.region = 0 → a.chunks = [(l.chunk, codes)] →
    s.legAt a.leg = some (l, r) → l.chunk ≠ 0 →
    runs (.tileIssueEnd .own core false) s fun t =>
      t.role.acc = [] ∧ t.role.carriage = s.role.carriage ++ [⟨a.leg, a.tensor, a.tile, l.chunk, codes⟩] ∧
      sent (.unit ⟨core, .f⟩) core.val .f (unitMessage 1 .f 1 0) s t ∧ withinRole s t

/-- A chunk's result reaches the owner, which holds it until its own chunk is issued (R98). -/
def chunkArrives : Prop :=
  ∀ (leg : BitVec 20) (tile : W32) (s : State) (c : Carriage) (p : Passage) (l : Leg) (r : LegRun) (o : Nat) (lo : Leg),
    s.working = true → s.role.carriage.find? (fun c => c.leg == leg.toNat && c.tile == tile.toNat) = some c →
    s.role.passage = some p → s.legAt leg.toNat = some (l, r) → p.chunkOwner l = some (o, lo) →
    s.role.carriage.find? (fun x => s.carriageWay p x == s.carriageWay p c) = some c →
    s.role.acc.find? (fun a => a.leg == o && a.tile == tile.toNat) = none →
    runs (.chunkResultArrival .own leg tile) s fun t =>
      t.role.carriage = s.role.carriage.erase c ∧
      (t.role.acc.getLast?.map fun a => (a.leg, a.tile, a.core, a.region, a.issuing, a.chunks)) =
        some (o, tile.toNat, s.coreOf o, waitRegion, false, [(c.index, c.codes)]) ∧ withinRole s t

/-- Separate partials fold into the value that holds the earlier use indices, in ascending use index (R117). -/
def partialFold : Prop :=
  ∀ (leg : BitVec 20) (s : State) (l : Leg) (r : LegRun) (p : Passage) (a : AccTile) (parts : List Carriage) (core : Nat),
    s.working = true → s.legAt leg.toNat = some (l, r) → l.kind = 9 → r.core = some core → s.skipsIssue core = false →
    s.role.passage = some p → s.chosen leg.toNat (fun j m _ => m.kind == 9 && (s.foldParts j).isSome) = true →
    s.foldParts leg.toNat = some (a, parts) → s.role.acc = [a] →
    runs (.partialFold .own leg) s fun t =>
      t.role.acc = [{ a with
        value := some ((parts.foldl (fun sum c => addTiles sum (c.codes.map (fun v => (v, Flags.none))))
          ((a.value.getD []).map (fun v => (v, Flags.none)))).map Prod.fst)
        folded := p.lastUse l.y (l.nextTile r) }] ∧
      t.role.partials = s.role.partials.filter (fun c => !(c.tensor == l.y && c.tile == l.nextTile r)) ∧ withinRole s t

/-- A whole value is converted at its tensor's rung: the codes wait for their commit, the Soundings partial is on its way, and the
pages are freed (R102, R111, R124). -/
def tileConvert : Prop :=
  ∀ (leg : BitVec 20) (tile : W32) (s : State) (l : Leg) (r : LegRun) (p : Passage) (y : Tensor) (a : AccTile), s.working = true →
    s.legAt leg.toNat = some (l, r) → l.kind < 3 → s.role.passage = some p → s.tensor? l.y = some y →
    s.role.acc = [a] → s.finalEntry p l.y tile.toNat = some a → (p.owner l.y tile.toNat).map Prod.fst = some leg.toNat →
    p.reducedTile l.y tile.toNat = false → s.uncommitted y.id tile.toNat = false → s.role.ready.contains (y.id, tile.toNat) = false →
    s.role.heldTokens = [] → s.role.sightJudged = [] → s.outFree leg.toNat l y.id = true → 0 < s.credit a.core .soundings →
    s.sightActive = false →
    runs (.tileConvert .own leg tile) s fun t =>
      t.role.outTiles.any (fun o => o.leg == leg.toNat && o.tensor == y.id && o.tile == tile.toNat) = true ∧
      t.role.inFlight.any (fun x => x.1 == y.id && x.2.1 == tile.toNat) = true ∧ t.role.acc = [] ∧
      (y.drift ≠ 0 → s.fallbackHw = true → s.role.stormMark = false → t.role.heldTokens = [⟨y.id, tile.toNat, true, false⟩]) ∧
      (y.drift = 0 → t.role.heldTokens = []) ∧ t.credit a.core .soundings = min (s.credit a.core .soundings - 1) (s.pool a.core .soundings) ∧ withinRole s t

/-- A tile's commit stores its bytes at its home and its mark, and no other byte changes; its token is posted (R176, R206, R245). -/
def tileCommit : Prop :=
  ∀ (leg : BitVec 20) (tile : W32) (s : State) (l : Leg) (r : LegRun) (o : OutTile) (w : TileWrite) (i : Nat) (e : ChartEntry) (a : Nat),
    s.working = true → s.legAt leg.toNat = some (l, r) → l.kind ≠ 5 → s.role.outTiles = [o] → o.leg = leg.toNat → o.tile = tile.toNat →
    o.writes = [w] → w.tensor = o.tensor → w.tile = o.tile → s.home o.tensor o.tile = some (i, e, a) → e.tier = 1 → e.state ≠ 4 →
    s.needsCopy o.tensor o.tile = false → s.role.heldTokens = [] → s.snap = none →
    (s.role.passage.map (fun p => p.reducedTile o.tensor o.tile)) = some false → l.signalEn = false →
    (s.get Reg.CHT_MARK_REGION.BASE + e.markOf o.tile / 2 < a + w.offset ∨
      a + w.offset + w.bytes.length ≤ s.get Reg.CHT_MARK_REGION.BASE + e.markOf o.tile / 2) →
    runs (.tileCommit .own leg tile) s fun t =>
      t.readBytes (a + w.offset) w.bytes.length = w.bytes ∧ t.mark (e.markOf o.tile) % 4 = o.rung % 4 ∧
      (o.tensor, o.tile) ∈ t.role.ready ∧ t.role.outTiles = [] ∧
      bytesKeptBut (a + w.offset) w.bytes.length s (t.writeByte (s.get Reg.CHT_MARK_REGION.BASE + e.markOf o.tile / 2)
        (s.readByte (s.get Reg.CHT_MARK_REGION.BASE + e.markOf o.tile / 2))) ∧
      t.knots = s.knots ∧
      { t with regs := s.regs, mem := s.mem, badLines := s.badLines, role := s.role, chart := s.chart, cache := s.cache } = s

/-- A leg whose work is done finishes: its knot advances by 1 if it signals and has not, and its rings are free (R30, R250, R258). -/
def legFinish : Prop :=
  ∀ (leg : BitVec 20) (s : State) (l : Leg) (r : LegRun), s.working = true → s.legAt leg.toNat = some (l, r) →
    s.legActive leg.toNat = true → s.legDone leg.toNat = true → s.legNode l = none → s.role.held = [] →
    s.chart.keptHomes = [] → (s.streamsOf l).all (fun st => !st.chunkIn) = true →
    (s.knot l.signalKnot).toNat < 2 ^ 64 - 1 →
    runs (.legFinish .own leg) s fun t =>
      ((t.legAt leg.toNat).map fun x => (x.2.finished, x.2.streams.all (fun q => q.landed.isEmpty && q.credits == q.pool))) =
        some (true, true) ∧
      t.knot l.signalKnot = (if l.signalEn = true ∧ r.signalled = false then s.knot l.signalKnot + 1 else s.knot l.signalKnot) ∧
      (∀ k, k ≠ l.signalKnot → t.knot k = s.knot k) ∧ t.mem = s.mem ∧ t.legActive leg.toNat = false ∧
      { t with knots := s.knots, role := s.role } = s

end Sys2Proof.Claims

/-- An engine starts the next tile that has its tokens and a page, the G engine by its pattern; the end of issue
counts its cycles and leaves the value whole or sends the chunk to its owner, which holds it; separate partials fold
in use-index order. (R30, R95, R97, R98, R111, R112, R117) -/
def Obligations.MatrixEngines : Prop :=
  Claims.forwardProduct ∧ Claims.forwardStalls ∧ Claims.gEngineChoice ∧ Claims.tileIssueEnd ∧ Claims.chunkIssueEnd ∧
    Claims.chunkArrives ∧ Claims.partialFold

/-- A whole value is converted and waits for its commit with its Soundings partial on the way; the commit stores its
bytes and its mark and changes no other byte, and posts its token; a leg whose tiles are all out finishes and advances
its knot once if it signals. (R30, R102, R124, R176, R206, R250, R258) -/
def Obligations.ConvertAndCommit : Prop := Claims.tileConvert ∧ Claims.tileCommit ∧ Claims.legFinish

/-! ### Pilots, copies and the V engine -/

namespace Sys2Proof.Claims

/-- The slot of an inbound stream of a leg. -/
abbrev streamAt (s : State) (i slot : Nat) (l : Leg) (r : LegRun) (st : Stream) (q : StreamRun) : Prop :=
  s.legAt i = some (l, r) ∧ (s.streamsOf l)[slot]? = some st ∧ r.streams[slot]? = some q

/-- A Pilot asks for the stream's next tile while a ring slot is free and the tile can be read (R199, R200). -/
def pilotRequest : Prop :=
  ∀ (leg : BitVec 20) (slot : Fin 16) (s : State) (l : Leg) (r : LegRun) (st : Stream) (q : StreamRun) (i : Nat) (e : ChartEntry),
    s.working = true → s.halted (32 + s.dieOf (r.core.getD 0)) = false → s.legActive leg.toNat = true → s.waitMet l = true →
    s.piloted leg.toNat = true → s.follows leg.toNat l st = true → streamAt s leg.toNat slot.val l r st q → st.outbound = false →
    st.chunkIn = false → q.asked < st.tileCount → 0 < q.credits → s.entryOf st.tensor (st.tileAt q.asked) = some (i, e) →
    e.state = 2 → e.tier = 1 → s.tileFinal leg.toNat st.tensor (st.tileAt q.asked) = true →
    runs (.pilotRequest .own leg slot) s fun t =>
      t = s.mapStream leg.toNat slot.val (fun x => { x with
        asked := x.asked + 1
        credits := x.credits - 1
        sources := x.sources ++ ((s.replicaAddr i e (s.clusterOf (r.core.getD 0)) (st.tileAt q.asked)).map
          (fun b => (st.tileAt q.asked, b))).toList })

/-- A reply lands the tile's bytes and posts the tokens of the tiles that have landed in order (R200, R208). -/
def pilotReply : Prop :=
  ∀ (leg : BitVec 20) (slot : Fin 16) (tile : W32) (remote : List Byte) (s : State) (l : Leg) (r : LegRun) (st : Stream) (q : StreamRun)
    (i : Nat) (e : ChartEntry) (a : Nat),
    s.working = true → streamAt s leg.toNat slot.val l r st q → st.tileAt q.posted = tile.toNat → q.asked = q.posted + 1 →
    q.landed = [] → ((List.range q.posted).map st.tileAt).contains tile.toNat = false → q.posted < st.tileCount →
    (∀ n, n < st.tileCount → st.tileAt n = tile.toNat → n = q.posted) →
    s.home st.tensor tile.toNat = some (i, e, a) → e.tier = 1 → q.sources = [] → s.halted (40 + addrStack a) = false →
    runs (.pilotReply .own leg slot tile remote) s fun t =>
      ((t.legAt leg.toNat).bind fun x => (x.2.streams[slot.val]?).map fun z => (z.posted, z.landed.map fun d => (d.tile, d.bytes))) =
        some (q.posted + 1, [(tile.toNat, s.readBytes a e.stride)]) ∧
      sent (.pilot (r.core.getD 0)) (r.core.getD 0) l.engine (legMessage 0 r.position slot.val 1 tile.toNat) s t ∧
      storesKept s t ∧ t.dev = s.dev

/-- A plain copy between tensors of one coding moves the codes unchanged: the tile waits for its commit and no Soundings partial
is sent (R73, R108, R122). -/
def copyMoves : Prop :=
  ∀ (leg : BitVec 20) (dma : Fin 2) (s : State) (l : Leg) (r : LegRun) (a y : Tensor) (n : Nat), s.working = true →
    s.legAt leg.toNat = some (l, r) → l.kind = 6 → s.tensor? l.a = some a → s.tensor? l.y = some y → y.shape ≠ 3 →
    s.chosen leg.toNat s.copyReady = true →
    s.moveRung leg.toNat l (l.turns a y) a y (l.nextTile r) = some n → s.streamsOf l = [] →
    runs (.copy .own leg dma) s fun t =>
      t.role.outTiles.getLast? = some (s.movedTile leg.toNat (l.turns a y) a y (l.nextTile r) n) ∧
      t.role.inFlight = s.role.inFlight ∧ t.regs = s.regs ∧ withinRole s t ∧
      ((t.legAt leg.toNat).map fun x => x.2.started) = some (if r.redo.isEmpty then r.started + 1 else r.started)

/-- A transposed copy counts its shaped tile (R108, Table 3-9). -/
def transposedCopy : Prop :=
  ∀ (leg : BitVec 20) (dma : Fin 2) (s : State) (l : Leg) (r : LegRun) (a y : Tensor) (n : Nat), s.working = true →
    s.legAt leg.toNat = some (l, r) → l.kind = 7 → s.tensor? l.a = some a → s.tensor? l.y = some y → y.shape ≠ 3 →
    s.chosen leg.toNat s.copyReady = true →
    s.moveRung leg.toNat l (l.turns a y) a y (l.nextTile r) = some n → s.streamsOf l = [] →
    runs (.transposedCopy .own leg dma) s fun t =>
      t.role.outTiles.getLast? = some (s.movedTile leg.toNat (l.turns a y) a y (l.nextTile r) n) ∧
      t.get (Reg.NUM_MX_DMA_SHAPE.TRANSPOSED (r.core.getD 0)) = satCount (Reg.NUM_MX_DMA_SHAPE.TRANSPOSED (r.core.getD 0)).width
        (s.get (Reg.NUM_MX_DMA_SHAPE.TRANSPOSED (r.core.getD 0)) + 1) ∧
      regsKept [(Reg.NUM_MX_DMA_SHAPE.TRANSPOSED (r.core.getD 0)).reg] s t ∧ withinRole s t

/-- A re-blocked copy converts its tile anew, sends its Soundings partial and counts (R69, R124). -/
def reBlockedCopy : Prop :=
  ∀ (leg : BitVec 20) (dma : Fin 2) (s : State) (l : Leg) (r : LegRun) (a y : Tensor), s.working = true →
    s.legAt leg.toNat = some (l, r) → l.kind = 8 → s.tensor? l.a = some a → s.tensor? l.y = some y → y.shape ≠ 3 →
    s.chosen leg.toNat s.copyReady = true → s.streamsOf l = [] →
    runs (.reBlockedCopy .own leg dma) s fun t =>
      (t.role.outTiles.getLast?.map fun o => (o.leg, o.tensor, o.tile)) = some (leg.toNat, y.id, l.nextTile r) ∧
      t.role.inFlight.any (fun x => x.1 == y.id && x.2.1 == l.nextTile r) = true ∧
      t.get (Reg.NUM_MX_DMA_SHAPE.REBLOCKED (r.core.getD 0)) = satCount (Reg.NUM_MX_DMA_SHAPE.REBLOCKED (r.core.getD 0)).width
        (s.get (Reg.NUM_MX_DMA_SHAPE.REBLOCKED (r.core.getD 0)) + 1) ∧ withinRole s t

/-- The V engine takes the next tile of a program leg: its outputs wait for their commit and its cycles are counted (R160, R166). -/
def vProgram : Prop :=
  ∀ (core : Fin 256) (s : State) (i : Nat) (l : Leg) (r : LegRun) (p : Passage) (g : Program), s.working = true →
    s.skipsIssue core.val = false →
    s.readyLeg core.val .v (fun i l _ => l.kind == 3 && s.outputsFree core.val i l (s.outputsOf l).length) = some (i, l, r) →
    s.role.passage = some p → p.programs[l.op]? = some g →
    runs (.vProgram .own core) s fun t =>
      t = s.programTile core.val i l r g ∧
      ((t.legAt i).map fun x => x.2.started) = some (if r.redo.isEmpty then r.started + 1 else r.started) ∧ withinRole s t

/-- The V engine takes the next tile of a composite leg, whole rows at once (R168, R169). -/
def vComposite : Prop :=
  ∀ (core : Fin 256) (s : State) (i : Nat) (l : Leg) (r : LegRun) (y : Tensor), s.working = true → s.skipsIssue core.val = false →
    s.readyLeg core.val .v (fun i l _ => l.kind == 4 && s.outputsFree core.val i l 1) = some (i, l, r) →
    s.role.passage.isSome = true → s.outputsOf l = [y] → l.rowChunk = 0 →
    runs (.vComposite .own core) s fun t =>
      (t.role.outTiles.getLast?.map fun o => (o.leg, o.tensor, o.tile)) = some (i, y.id, l.nextTile r) ∧
      ((t.legAt i).map fun x => x.2.started) = some (if r.redo.isEmpty then r.started + 1 else r.started) ∧ withinRole s t

/-- Chunk results of a row combine once every chunk has reported, and are handed to every chunk; other rows stand (R168). -/
def rowChunkCombine : Prop :=
  ∀ (leg : BitVec 20) (s : State) (l : Leg) (r : LegRun), s.working = true → s.legAt leg.toNat = some (l, r) →
    runs (.rowChunkCombine .own leg) s fun t =>
      t.role.rowPhases.map (fun x => (x.y, x.row, x.phase, x.results)) =
        s.role.rowPhases.map (fun x => (x.y, x.row, x.phase, x.results)) ∧
      t.role.rowPhases.map (fun x => x.combined.isSome) = s.role.rowPhases.map (fun x =>
        x.combined.isSome || (decide (x.y = l.y) && decide (max l.chunkCount 1 ≤ x.results.length))) ∧
      { t with role := { t.role with rowPhases := s.role.rowPhases } } = s

/-- Nothing runs on a module whose units do not work. -/
def unitsIdle : Prop :=
  ∀ (core : Fin 256) (leg : BitVec 20) (tile : W32) (slot : Fin 16) (remote : List Byte) (s : State), s.working = false →
    (runs (.forwardProduct .own core) s fun t => t = s) ∧ (runs (.gEngineTileChoice .own core) s fun t => t = s) ∧
    (runs (.vProgram .own core) s fun t => t = s) ∧ (runs (.vComposite .own core) s fun t => t = s) ∧
    (runs (.rowChunkCombine .own leg) s fun t => t = s) ∧ (runs (.copy .own leg 0) s fun t => t = s) ∧
    (runs (.transposedCopy .own leg 0) s fun t => t = s) ∧ (runs (.reBlockedCopy .own leg 0) s fun t => t = s) ∧
    (runs (.partialFold .own leg) s fun t => t = s) ∧ (runs (.tileIssueEnd .own core false) s fun t => t = s) ∧
    (runs (.chunkResultArrival .own leg tile) s fun t => t = s) ∧ (runs (.tileConvert .own leg tile) s fun t => t = s) ∧
    (runs (.tileCommit .own leg tile) s fun t => t = s) ∧ (runs (.legFinish .own leg) s fun t => t = s) ∧
    (runs (.pilotRequest .own leg slot) s fun t => t = s) ∧ (runs (.pilotReply .own leg slot tile remote) s fun t => t = s)

end Sys2Proof.Claims

/-- A Pilot asks for the next tile of a stream while a ring slot is free and lands its bytes, posting tokens in order;
a plain or transposed copy of one coding moves codes unchanged and without Soundings, a re-blocked copy converts anew;
the V engine runs programs and composites tile by tile, and a row's chunks combine once all have reported. Nothing
runs while the units do not work. (R69, R73, R108, R122, R124, R160, R166, R168, R169, R199, R200) -/
def Obligations.PilotsCopiesAndVector : Prop :=
  Claims.pilotRequest ∧ Claims.pilotReply ∧ Claims.copyMoves ∧ Claims.transposedCopy ∧ Claims.reBlockedCopy ∧ Claims.vProgram ∧
    Claims.vComposite ∧ Claims.rowChunkCombine ∧ Claims.unitsIdle

/-! ### Soundings, Sight check and repeats -/

namespace Sys2Proof.Claims

/-- Work under a role that may also write module memory. -/
abbrev withinRoleAndStores (s t : State) : Prop :=
  { t with regs := s.regs, evt := s.evt, role := s.role, out := s.out, flights := s.flights, mem := s.mem, badLines := s.badLines, cache := s.cache } = s

/-- A partial reaches its collector: its entry is free again, and the record that it completes is written as Table 4-1 lays it out
into the step's slot of the Soundings table (R124 to R126). -/
def soundingsRecord : Prop :=
  ∀ (tensor : W16) (tile : W32) (s : State) (x : Nat × Nat × Partial) (p : Passage) (y : Tensor) (i : Nat) (l : Leg),
    s.working = true → s.role.inFlight = [x] → x.1 = tensor.toNat → x.2.1 = tile.toNat → s.role.passage = some p →
    p.tensor? tensor.toNat = some y → p.owner tensor.toNat tile.toNat = some (i, l) → y.drift = 0 → s.role.snd = [] →
    p.writtenTiles y ≤ 1 → p.sndBase + s.role.step % max p.sndDepth 1 * p.sndStride + 64 * y.id < 0x8000000000000 →
    runs (.soundingsPartial .own tensor tile) s fun t =>
      let a := p.sndBase + s.role.step % max p.sndDepth 1 * p.sndStride + 64 * y.id
      t.role.inFlight = [] ∧ sent (.collector (s.dieOf (s.coreOf i))) (s.coreOf i) l.engine (unitMessage 1 .soundings 1 0) s t ∧ t.out = s.out ∧
      (t.role.snd.map fun z => (z.1, z.2.partials, z.2.complete)) = [(y.id, [(tile.toNat, x.2.2)], true)] ∧
      (t.role.snd.map fun z => z.2.bytes y.id s.role.step) = [t.readBytes a 64] ∧
      bytesKeptBut a 64 s t ∧ t.knots = s.knots ∧ t.regs = s.regs ∧ withinRoleAndStores s t

/-- A partial that Drift watch lets pass closes the tile's verdict; nothing is repeated (R136, R138). -/
def driftWatchPasses : Prop :=
  ∀ (tensor : W16) (tile : W32) (s : State) (x : Nat × Nat × Partial) (p : Passage) (y : Tensor) (i : Nat) (l : Leg),
    s.working = true → s.role.inFlight = [x] → x.1 = tensor.toNat → x.2.1 = tile.toNat → s.role.passage = some p →
    p.tensor? tensor.toNat = some y → p.owner tensor.toNat tile.toNat = some (i, l) → y.drift = 2 → s.drifts y x.2.2 = false →
    y.id = tensor.toNat → s.role.heldTokens = [⟨tensor.toNat, tile.toNat, true, false⟩] →
    p.sndBase + s.role.step % max p.sndDepth 1 * p.sndStride + 64 * y.id < 0x8000000000000 →
    runs (.soundingsPartial .own tensor tile) s fun t =>
      t.role.heldTokens = [⟨tensor.toNat, tile.toNat, false, false⟩] ∧ t.role.triggers = s.role.triggers ∧
      t.role.repeatedTiles = s.role.repeatedTiles ∧ t.regs = s.regs ∧ withinRoleAndStores s t

/-- A tile whose partial drifts is asked for once more, one rung up, while the step's budget holds (R136, R144, R145). -/
def driftWatchTriggers : Prop :=
  ∀ (tensor : W16) (tile : W32) (s : State) (x : Nat × Nat × Partial) (p : Passage) (y : Tensor) (i : Nat) (l : Leg),
    s.working = true → s.role.inFlight = [x] → x.1 = tensor.toNat → x.2.1 = tile.toNat → s.role.passage = some p →
    p.tensor? tensor.toNat = some y → p.owner tensor.toNat tile.toNat = some (i, l) → y.drift = 2 → s.drifts y x.2.2 = true →
    y.id = tensor.toNat → s.fallbackHw = true → s.role.stormMark = false → s.role.triggers = [] → s.role.outTiles = [] →
    s.tileRung tensor.toNat tile.toNat < y.top → s.role.repeatedTiles + 1 ≤ s.budget →
    p.sndBase + s.role.step % max p.sndDepth 1 * p.sndStride + 64 * y.id < 0x8000000000000 →
    ((s.entryOf tensor.toNat tile.toNat).map fun z =>
      let m := s.get Reg.CHT_MARK_REGION.BASE + z.2.markOf tile.toNat / 2;
      let a := p.sndBase + s.role.step % max p.sndDepth 1 * p.sndStride + 64 * y.id;
      decide (m < a) || decide (a + 64 ≤ m)).getD true = true →
    runs (.soundingsPartial .own tensor tile) s fun t =>
      t.role.triggers = [⟨tensor.toNat, tile.toNat, s.tileRung tensor.toNat tile.toNat + 1, false⟩] ∧
      t.role.repeatedTiles = s.role.repeatedTiles + 1 ∧ t.role.heldTokens = s.role.heldTokens ∧
      t.role.stormMark = false ∧ withinRoleAndStores s t

/-- A sampled tile that the references agree with is judged: it is counted, its entry is freed and its tokens go on (R142, R143). -/
def sightPass : Prop :=
  ∀ (tensor : W16) (tile : W32) (s : State) (p : Passage) (y : Tensor) (a : AccTile), s.working = true → s.role.passage = some p →
    p.tensor? tensor.toNat = some y → s.role.acc = [a] → s.finalEntry p tensor.toNat tile.toNat = some a → s.sightActive = true →
    s.sampled tensor.toNat tile.toNat = true → (s.role.ready.contains (tensor.toNat, tile.toNat) = true ∨
      s.uncommitted tensor.toNat tile.toNat = true ∨ (s.role.legs.all (fun z => z.2.committed.contains tile.toNat) = true ∧
        (s.owner tensor.toNat tile.toNat).any (fun z => (s.legAt z.1).isSome) = true)) →
    s.role.sightJudged = [] → s.role.triggers = [] → p.reducedTile tensor.toNat tile.toNat = false →
    (s.bump Reg.SND_SIGHT_COUNT.SAMPLED 1).sightFailure p y tile.toNat a = none →
    runs (.sightCheck .own tensor tile) s fun t =>
      t.get Reg.SND_SIGHT_COUNT.SAMPLED = satCount Reg.SND_SIGHT_COUNT.SAMPLED.width (s.get Reg.SND_SIGHT_COUNT.SAMPLED + 1) ∧
      t.get Reg.SND_SIGHT_COUNT.MISSES = s.get Reg.SND_SIGHT_COUNT.MISSES ∧
      regsKept [Reg.SND_SIGHT_COUNT.SAMPLED.reg] s t ∧ t.role.acc = [] ∧ (tensor.toNat, tile.toNat) ∈ t.role.sightJudged ∧
      t.role.triggers = [] ∧ t.evt = s.evt ∧ withinRole s t

/-- A miss counts, posts SIGHT_MISS and asks for the tile once more on another core; it is a fault event of the core (R143). -/
def sightMisses : Prop :=
  ∀ (tensor : W16) (tile : W32) (s : State) (p : Passage) (y : Tensor) (a : AccTile) (e q : Nat), s.working = true →
    s.role.passage = some p → p.tensor? tensor.toNat = some y → y.id = tensor.toNat → s.role.acc = [a] →
    s.finalEntry p tensor.toNat tile.toNat = some a → s.sightActive = true → s.sampled tensor.toNat tile.toNat = true →
    s.role.legs.all (fun z => z.2.committed.contains tile.toNat) = true →
    (s.owner tensor.toNat tile.toNat).any (fun z => (s.legAt z.1).isSome) = true → s.role.sightJudged = [] → s.role.triggers = [] →
    (s.bump Reg.SND_SIGHT_COUNT.SAMPLED 1).sightFailure p y tile.toNat a = some e → s.fallbackHw = true → s.role.stormMark = false →
    s.role.repeatedTiles + 1 ≤ s.budget → s.physicalCore a.core = some q → s.evt.queue.length < 4000 →
    s.eventMasked Ev.sightMiss.code = false →
    runs (.sightCheck .own tensor tile) s fun t =>
      t.get Reg.SND_SIGHT_COUNT.MISSES = satCount Reg.SND_SIGHT_COUNT.MISSES.width (s.get Reg.SND_SIGHT_COUNT.MISSES + 1) ∧
      t.evt.queue.any (fun r => r.code == 0x0403 && r.args == [y.id, a.core, tile.toNat, e].map (BitVec.ofNat 64)) = true ∧
      t.role.triggers.map (fun x => (x.tensor, x.tile, x.elsewhere)) = [(y.id, tile.toNat, true)] ∧
      t.role.acc.map AccTile.core = [s.otherCore a.core] ∧ t.role.repeatedTiles = s.role.repeatedTiles + 1 ∧
      t.get Reg.BST_FAULTS.EVENTS = satCount Reg.BST_FAULTS.EVENTS.width (s.get Reg.BST_FAULTS.EVENTS + 1) ∧
      t.rel.totEvents = s.rel.totEvents + 1 ∧ storesKept s t ∧ t.role.step = s.role.step

/-- A repeat computes the tile anew at its trigger's rung: the codes wait for their commit and its partial is on its way (R144). -/
def tileRepeat : Prop :=
  ∀ (tensor : W16) (tile : W32) (s : State) (x : Trigger) (p : Passage) (y : Tensor) (i : Nat) (l : Leg), s.working = true →
    s.role.triggers = [x] → x.tensor = tensor.toNat → x.tile = tile.toNat → s.role.passage = some p →
    p.tensor? tensor.toNat = some y → y.id = tensor.toNat → p.owner tensor.toNat tile.toNat = some (i, l) → s.role.stormMark = false →
    s.fallbackHw = true → p.landsTile tensor.toNat tile.toNat = false → y.outliers = false →
    runs (.tileRepeat .own tensor tile) s fun t =>
      t.role.triggers = [] ∧ t.role.outTiles.any (fun o => o.tensor == tensor.toNat && o.tile == tile.toNat && o.leg == i) = true ∧
      t.role.inFlight.any (fun z => z.1 == tensor.toNat && z.2.1 == tile.toNat) = true ∧
      t.get Reg.SND_FALLBACK_COUNT.REPEATED =
        satCount Reg.SND_FALLBACK_COUNT.REPEATED.width (s.get Reg.SND_FALLBACK_COUNT.REPEATED + 1) ∧
      t.role.repeatedTiles = s.role.repeatedTiles ∧ withinRole s t

/-- Without a trigger, a partial on its way, or work under way, none of the three does anything. -/
def precisionIdle : Prop :=
  ∀ (tensor : W16) (tile : W32) (s : State),
    s.working = false ∨ (s.role.inFlight = [] ∧ s.role.triggers = [] ∧ s.role.acc = []) →
    (runs (.soundingsPartial .own tensor tile) s fun t => t = s) ∧ (runs (.tileRepeat .own tensor tile) s fun t => t = s) ∧
    (runs (.sightCheck .own tensor tile) s fun t => t = s)

end Sys2Proof.Claims

/-- A partial frees its entry and the record it completes is written to the step's slot of the Soundings table and
nowhere else; Drift watch closes a tile's verdict or asks for the tile one rung up within the budget. A sampled tile
is judged and freed, or counted as a miss, posted, and asked for on another core. A repeat puts the tile's new codes
in its out ring. (R124, R125, R126, R136, R138, R142, R143, R144, R145) -/
def Obligations.SoundingsAndRepeats : Prop :=
  Claims.soundingsRecord ∧ Claims.driftWatchPasses ∧ Claims.driftWatchTriggers ∧ Claims.sightPass ∧ Claims.sightMisses ∧
    Claims.tileRepeat ∧ Claims.precisionIdle

/-! ### The update -/

namespace Sys2Proof.Claims

/-- The exact terms of one element tile of an update leg's gradients: Σx² of the finite values and the count of the others. -/
abbrev passTerms (s : State) (i : Nat) (l : Leg) (tile : Nat) : Nat × Nat :=
  (((s.gradients l).map (fun g => (measureCodes ((g.flatTile tile).map (fun k => (s.fp32At i g k).1))).1)).foldl (· + ·) 0,
    ((s.gradients l).map (fun g => (measureCodes ((g.flatTile tile).map (fun k => (s.fp32At i g k).1))).2)).foldl (· + ·) 0)

/-- Pass 1 measures a gradient tile once, exactly, and writes nothing (R180). -/
def updatePass1 : Prop :=
  ∀ (leg : BitVec 20) (tile : W32) (s : State) (l : Leg) (r : LegRun), s.working = true → s.role.closed = false →
    s.legAt leg.toNat = some (l, r) → l.kind = 5 → s.skipsIssue (r.core.getD 0) = false → s.legActive leg.toNat = true →
    s.waitMet l = true →
    (s.unitLegs (r.core.getD 0) .u).findSome? (fun x => ((s.unmeasured x.1 x.2.1).head?).map (fun k => (x.1, k))) =
      some (leg.toNat, tile.toNat) →
    s.tokensFor l r Stream.isGradient tile.toNat ((s.unmeasured leg.toNat l).drop 1).isEmpty = true →
    runs (.updatePass1 .own leg tile) s fun t =>
      t.role.update = { s.role.update with
        measured := s.role.update.measured ++ [(leg.toNat, tile.toNat, passTerms s leg.toNat l tile.toNat)] } ∧
      (s.role.carried = false → t.get Reg.NUM_UPD_STATUS.PASS = 1) ∧ t.role.outTiles = s.role.outTiles ∧
      t.role.ready = s.role.ready ∧ t.role.acc = s.role.acc ∧ withinRole s t

/-- A tile measured already is not measured again. -/
def updatePass1Once : Prop :=
  ∀ (leg : BitVec 20) (tile : W32) (s : State),
    s.role.closed = true ∨ s.role.update.measured.any (fun m => m.1 == leg.toNat && m.2.1 == tile.toNat) = true →
    runs (.updatePass1 .own leg tile) s fun t => t = s

/-- Pass 2 runs the next tile of the core's update legs under c and the parameter entry: the outputs wait for their commit, and the
tile is done (R173, R183). -/
def updatePass2 : Prop :=
  ∀ (leg : BitVec 20) (tile : W32) (s : State) (l : Leg) (r : LegRun) (p : Passage) (g : Program) (e : List Nat),
    s.legAt leg.toNat = some (l, r) → l.kind = 5 → s.role.passage = some p → p.programs[l.op]? = some g →
    s.role.update.entry = some e → s.pass2Open = true → s.skipsIssue (r.core.getD 0) = false → s.legReady leg.toNat = true →
    (((s.unitLegs (r.core.getD 0) .u).find? (fun x => x.2.2.more x.2.1)).map Prod.fst) = some leg.toNat →
    l.nextTile r = tile.toNat → s.outputsFree (r.core.getD 0) leg.toNat l (s.outputsOf l).length = true →
    runs (.updatePass2 .own leg tile) s fun t =>
      t = s.updateTile p leg.toNat l (r.core.getD 0) tile.toNat g e ∧ t.role.update.done.head? = some (leg.toNat, tile.toNat) ∧
      t.role.update.entry = some e ∧ t.role.update.clip = s.role.update.clip ∧ t.role.step = s.role.step ∧ withinRole s t

/-- Pass 2 waits for the close, and nothing is written once it is skipped (R182, R183). -/
def updatePass2Waits : Prop :=
  ∀ (leg : BitVec 20) (tile : W32) (s : State), s.role.closed = false ∨ s.role.update.skip = true →
    runs (.updatePass2 .own leg tile) s fun t => t = s

/-- A stale parameter entry is read again; once its tag is the step, its scalars are taken and STALE is 0 (R184). -/
def paramEntryTaken : Prop :=
  ∀ (s : State) (xs : List Nat), s.working = true → s.role.closed = true → s.role.update.entry = none →
    s.role.update.stalePosted = true → s.paramAddr < 0x8000000000000 → s.shipping = false →
    paramScalars (s.readBytes s.paramAddr 64) s.role.step = some xs →
    runs (.paramEntryReread .own) s fun t =>
      t.role = { s.role with update := { s.role.update with entry := some xs } } ∧
      (s.role.carried = false → t.get Reg.NUM_UPD_STATUS.STALE = 0) ∧ regsKept [Reg.NUM_UPD_STATUS.STALE.reg] s t ∧
      { t with regs := s.regs, role := s.role } = s

/-- An entry that is still stale leaves STALE set and posts nothing more (R184). -/
def paramEntryStale : Prop :=
  ∀ (s : State), s.working = true → s.role.closed = true → s.role.update.entry = none →
    s.role.update.stalePosted = true → s.paramAddr < 0x8000000000000 →
    paramScalars (s.readBytes s.paramAddr 64) s.role.step = none →
    runs (.paramEntryReread .own) s fun t =>
      (s.role.carried = false → t.get Reg.NUM_UPD_STATUS.STALE = 1) ∧ regsKept [Reg.NUM_UPD_STATUS.STALE.reg] s t ∧ onlyRegs s t

end Sys2Proof.Claims

/-- Pass 1 measures each gradient tile once, exactly, and writes nothing else; pass 2 waits for the close and its
entry, runs the next tile of the core's update legs and leaves its outputs waiting; a stale parameter entry is read
again until its tag is the step. (R173, R180, R182, R183, R184) -/
def Obligations.Update : Prop :=
  Claims.updatePass1 ∧ Claims.updatePass1Once ∧ Claims.updatePass2 ∧ Claims.updatePass2Waits ∧ Claims.paramEntryTaken ∧
    Claims.paramEntryStale

/-! ### Gradient reduction -/

namespace Sys2Proof.Claims

/-- A packet for the module's own role that has arrived whole. -/
abbrev arrivedHere (s : State) (p : Packet) (ptype : Nat) : Prop :=
  s.fab.inbox.contains p = true ∧ p.dataOk = true ∧ p.ptype.toNat = ptype ∧ s.packetRole p = .own

/-- The packet has been taken out of what is delivered. -/
def taken (s : State) (p : Packet) : State := { s with fab := { s.fab with inbox := s.fab.inbox.erase p } }

/-- A message of the collective classes for the present attempt at an armed module. -/
abbrev currentHere (s : State) (p : Packet) (ptype : Nat) : Prop :=
  arrivedHere s p ptype ∧ s.isArmed = true ∧ p.attempt = s.attemptTag

/-- Nothing but work under the role, module memory, knots and the fabric's queues. -/
abbrev withinCollectives (s t : State) : Prop :=
  { t with
    regs := s.regs, evt := s.evt, role := s.role, out := s.out, mem := s.mem, badLines := s.badLines
    knots := s.knots, fresh := s.fresh, fab := s.fab, flights := s.flights, cache := s.cache } = s

/-- A contribution leg takes a finished tile under a grant: the page is freed, the tile counts, and away from the first position of the
ring the contribution waits in a staging slot for the partial (R113, R276, R277). -/
def contributionWaits : Prop :=
  ∀ (leg : BitVec 20) (tile : W32) (s : State) (l : Leg) (r : LegRun) (p : Passage) (d : Collective) (y : Tensor) (a : AccTile),
    s.working = true → s.legAt leg.toNat = some (l, r) → s.role.passage = some p → p.collectives[l.op]? = some d →
    p.tensor? d.tensor = some y → s.role.acc = [a] → s.finalEntry p y.id tile.toNat = some a → l.kind = 10 → d.kind = 1 →
    s.legActive leg.toNat = true → s.waitMet l = true → l.hasTile tile.toNat = true → r.committed = [] → r.redo = [] →
    s.sightHolds (some a) y.id tile.toNat = false → 0 < sparseGet 0 a.core s.role.grants → 2 ≤ d.members.length →
    d.selfPos ≠ nextPosition d.members.length (tile.toNat % d.members.length) → s.role.colls = [] →
    runs (.contributionLeg .own leg tile) s fun t =>
      (t.coll l.op).contributions = [s.contribution l.op d y tile.toNat (y.values tile.toNat (a.value.getD []))] ∧
      t.role.acc = [] ∧ sparseGet 0 a.core t.role.grants = sparseGet 0 a.core s.role.grants - 1 ∧
      ((t.legAt leg.toNat).map fun z => (z.2.started, z.2.committed)) = some (r.started + 1, [tile.toNat]) ∧
      storesKept s t ∧ t.fab = s.fab ∧ withinRole s t

/-- The first position of the ring sends its contribution on as the partial: 4 KiB segments in class 2 to the next position, with the
count of contributions (R277, R278). -/
def contributionStarts : Prop :=
  ∀ (leg : BitVec 20) (tile : W32) (s : State) (l : Leg) (r : LegRun) (p : Passage) (d : Collective) (y : Tensor) (a : AccTile),
    s.working = true → s.legAt leg.toNat = some (l, r) → s.role.passage = some p → p.collectives[l.op]? = some d →
    p.tensor? d.tensor = some y → s.role.acc = [a] → s.finalEntry p y.id tile.toNat = some a → l.kind = 10 → d.kind = 1 →
    d.wire = 0 → y.shape < 3 → s.legActive leg.toNat = true → s.waitMet l = true → l.hasTile tile.toNat = true → r.committed = [] →
    r.redo = [] → s.sightHolds (some a) y.id tile.toNat = false → 0 < sparseGet 0 a.core s.role.grants → 2 ≤ d.members.length →
    d.selfPos = nextPosition d.members.length (tile.toNat % d.members.length) → s.role.colls = [] →
    runs (.contributionLeg .own leg tile) s fun t =>
      (t.coll l.op).contributions = [] ∧ t.role.acc = [] ∧
      sparseGet 0 a.core t.role.grants = sparseGet 0 a.core s.role.grants - 1 ∧
      (t.fab.router.drop s.fab.router.length).map (fun k => (k.ptype.toNat, k.cls.toNat, k.dest.toNat, k.arg, k.tag.toNat, k.addr.toNat)) =
        (List.range (ceilDiv (4 * tileElems y.shape) 4096)).map (fun n =>
          (7, 2, d.node (nextPosition d.members.length d.selfPos) % 16384, tile, 1, n)) ∧
      t.fab.router.take s.fab.router.length = s.fab.router ∧ storesKept s t ∧ withinCollectives s t

/-- Without a grant, before its wait is met, or for a tile it has taken, a contribution leg does nothing (R113, R276). -/
def contributionNotReady : Prop :=
  ∀ (leg : BitVec 20) (tile : W32) (s : State) (l : Leg) (r : LegRun), s.legAt leg.toNat = some (l, r) →
    s.role.grants = [] ∨ s.waitMet l = false ∨ (tile.toNat ∈ r.committed ∧ r.redo = []) →
    runs (.contributionLeg .own leg tile) s fun t => t = s

/-- A partial whose last segment arrives waits whole in a staging slot for the contribution (R278). -/
def partialArrives : Prop :=
  ∀ (p : Packet) (s : State) (d : Collective) (y : Tensor) (e : RedEntry), currentHere s p 7 →
    (taken s p).redSource p = some (d, y) → ((taken s p).takeSegment y p false).1 = some e →
    d.selfPos ≠ nextPosition d.members.length (e.tile % max d.members.length 1) → (s.coll p.aux.toNat).contributions = [] →
    runs (.redPartial p) s fun t =>
      (t.coll p.aux.toNat).incoming.getLast? = some e ∧
      (t.coll p.aux.toNat).segments.all (fun z => !(z.1 == e.tile && z.2.1 == false)) = true ∧
      (s.role.carried = false → t.get (Reg.NUM_STG_LEVEL.CURRENT (s.tileDie y.id e.tile)) =
        (s.get (Reg.NUM_STG_LEVEL.CURRENT (s.tileDie y.id e.tile)) + 1) %
          2 ^ (Reg.NUM_STG_LEVEL.CURRENT (s.tileDie y.id e.tile)).width) ∧
      t.fab = (taken s p).fab ∧ storesKept s t ∧ t.out = s.out ∧ t.evt = s.evt ∧ withinCollectives s t

/-- A segment before the last is kept with those of its tile (R278). -/
def segmentKept : Prop :=
  ∀ (p : Packet) (s : State) (d : Collective) (y : Tensor), currentHere s p 7 → (taken s p).redSource p = some (d, y) →
    ((taken s p).takeSegment y p false).1 = none →
    runs (.redPartial p) s fun t =>
      (p.arg.toNat, false, p.addr.toNat % 16, p) ∈ (t.coll p.aux.toNat).segments ∧
      (t.coll p.aux.toNat).incoming = (s.coll p.aux.toNat).incoming ∧ t.fab = (taken s p).fab ∧
      { t with fab := s.fab, role := s.role } = s

/-- Partials and results of another attempt: one ahead is held, any other is stale and counted (R265). -/
def staleReduction : Prop :=
  ∀ (p : Packet) (s : State), arrivedHere s p 7 → s.isArmed = true → p.attempt ≠ s.attemptTag → p.attempt ≠ s.attemptTag + 1 →
    runs (.redPartial p) s fun t =>
      t.get Reg.KNT_STALE.STALE = satCount Reg.KNT_STALE.STALE.width (s.get Reg.KNT_STALE.STALE + 1) ∧
      regsKept [Reg.KNT_STALE.STALE.reg] s t ∧ { t with regs := s.regs, fab := s.fab } = s ∧ t.fab = (taken s p).fab

/-- An early packet is held until the attempt rises (R265). -/
def earlyReduction : Prop :=
  ∀ (p : Packet) (s : State), arrivedHere s p 7 → s.isArmed = true → p.attempt = s.attemptTag + 1 →
    runs (.redPartial p) s fun t =>
      t.fab = { (taken s p).fab with early := s.fab.early ++ [p] } ∧
      t.get Reg.KNT_STATUS.HELD = satCount 16 (s.fab.early.length + 1) ∧ regsKept [Reg.KNT_STATUS.HELD.reg] s t ∧
      { t with regs := s.regs, fab := s.fab } = s

/-- A result whose last segment arrives lands: the home takes the FP32 values, the knot advances, the token is posted; its checksum is
right and so nothing is posted (R279, R280). -/
def resultLands : Prop :=
  ∀ (p : Packet) (s : State) (d : Collective) (y : Tensor) (e : RedEntry) (i : Nat) (h : ChartEntry) (a : Nat), currentHere s p 8 →
    (taken s p).redSource p = some (d, y) → ((taken s p).takeSegment y p true).1 = some e → e.scaled = false →
    d.selfPos ≠ e.tile % max d.members.length 1 → (s.coll p.aux.toNat).landedTiles.contains e.tile = false →
    landCheck (sumFp64 ((y.validElems e.tile).map (fun k => (e.codes 0).getD k 0))) e.checks = true →
    s.home y.id e.tile = some (i, h, a) → h.tier = 1 → (s.knot d.knotBase).toNat < 2 ^ 64 - 1 →
    (s.get Reg.CHT_MARK_REGION.BASE + h.markOf e.tile / 2 < a ∨
      a + 4 * e.values.length ≤ s.get Reg.CHT_MARK_REGION.BASE + h.markOf e.tile / 2) →
    runs (.redResult p) s fun t =>
      t.readBytes a (4 * e.values.length) = e.values.flatMap (fun v => leBytes 4 v.toNat) ∧
      bytesKeptBut a (4 * e.values.length) s (t.writeByte (s.get Reg.CHT_MARK_REGION.BASE + h.markOf e.tile / 2)
        (s.readByte (s.get Reg.CHT_MARK_REGION.BASE + h.markOf e.tile / 2))) ∧
      t.knot d.knotBase = s.knot d.knotBase + 1 ∧ (∀ k, k ≠ d.knotBase → t.knot k = s.knot k) ∧
      (t.coll p.aux.toNat).landedTiles = (s.coll p.aux.toNat).landedTiles ++ [e.tile] ∧ (y.id, e.tile) ∈ t.role.ready ∧
      t.evt = s.evt ∧ t.regs = s.regs ∧ t.role.step = s.role.step ∧ t.dev = s.dev

/-- A waiting entry is spilled to its tile's home and its slot is free; a tile whose two entries wait, or neither, is left (R278). -/
def spills : Prop :=
  ∀ (c : BitVec 12) (tile : W32) (s : State) (d : Collective) (e : RedEntry) (i : Nat) (h : ChartEntry) (a : Nat),
    s.collective? c.toNat = some d → (s.coll c.toNat).contributions = [] → (s.coll c.toNat).incoming = [e] → e.tile = tile.toNat →
    e.spilled = false → s.home d.tensor tile.toNat = some (i, h, a) → h.tier = 1 →
    runs (.reductionSpill .own c tile) s fun t =>
      t.readBytes a e.bytes.length = e.bytes ∧ bytesKeptBut a e.bytes.length s t ∧
      (t.coll c.toNat).incoming = [{ e with spilled := true }] ∧
      t.get Reg.KNT_SPILL.PARTIALS = satCount Reg.KNT_SPILL.PARTIALS.width (s.get Reg.KNT_SPILL.PARTIALS + 1) ∧
      t.knots = s.knots ∧ withinRoleAndStores s t

/-- Nothing waits: nothing is spilled. -/
def nothingSpills : Prop :=
  ∀ (c : BitVec 12) (tile : W32) (s : State), (s.coll c.toNat).contributions = [] → (s.coll c.toNat).incoming = [] →
    runs (.reductionSpill .own c tile) s fun t => t = s

end Sys2Proof.Claims

/-- A contribution leg takes a finished tile under a grant; the ring's first position sends it on in 4 KiB segments
and every other holds it for the partial. A partial waits whole in a slot; a result lands in its home, advances the
collective's knot once and posts its token. A waiting entry may be spilled to its home. Packets of another attempt are
held or counted as stale. (R113, R265, R276, R277, R278, R279, R280) -/
def Obligations.GradientReduction : Prop :=
  Claims.contributionWaits ∧ Claims.contributionStarts ∧ Claims.contributionNotReady ∧ Claims.partialArrives ∧ Claims.segmentKept ∧
    Claims.staleReduction ∧ Claims.earlyReduction ∧ Claims.resultLands ∧ Claims.spills ∧ Claims.nothingSpills

/-! ### Rendezvous and what its verdicts bring -/

namespace Sys2Proof.Claims

/-- A Rendezvous leg arrives when everything before it is done: its own payload is taken, the arrival knot advances by 1 and no other
knot moves (R264, R271, R272). -/
def arrival : Prop :=
  ∀ (leg : BitVec 20) (s : State) (l : Leg) (r : LegRun) (d : Collective), s.legAt leg.toNat = some (l, r) →
    s.collective? l.op = some d → l.kind = 11 → r.finished = false → (s.coll l.op).arrived = false → s.mayArrive = true →
    s.arrivalReady leg.toNat d = true → s.twinWithholds = false → s.role.placeFailed = false →
    s.flag Reg.CAP_RUN.HOLD_PENDING = false → s.normOfLeg l = none → (s.knot d.knotBase).toNat < 2 ^ 64 - 1 →
    runs (.rendezvous .own leg) s fun t =>
      t.coll l.op = { s.coll l.op with
        arrived := true, arrivedAt := s.dtime, own := some (s.ownPayload d), leg := leg.toNat } ∧
      t.knot d.knotBase = s.knot d.knotBase + 1 ∧ (∀ k, k ≠ d.knotBase → t.knot k = s.knot k) ∧
      t.get Reg.KNT_STATUS.IN_RENDEZVOUS = 1 ∧ regsKept [Reg.KNT_STATUS.IN_RENDEZVOUS.reg] s t ∧
      { t with regs := s.regs, knots := s.knots, role := { t.role with colls := s.role.colls } } = s

/-- Under STEP_HOLD the module withholds every arrival but that at a STEP_CLOSE, and enters HELD with cause 0x0106 (R246, R274). -/
def arrivalHeld : Prop :=
  ∀ (leg : BitVec 20) (s : State) (l : Leg) (r : LegRun) (d : Collective), s.legAt leg.toNat = some (l, r) →
    s.collective? l.op = some d → l.kind = 11 → r.finished = false → (s.coll l.op).arrived = false → s.mayArrive = true →
    s.arrivalReady leg.toNat d = true → s.twinWithholds = false → s.role.placeFailed = false → s.role.carried = false →
    s.flag Reg.CAP_RUN.HOLD_PENDING = true → d.stepClose = false → s.dev = .running ∨ s.dev = .draining →
    runs (.rendezvous .own leg) s fun t =>
      t.dev = .held ∧ t.get Reg.CAP_STATE.CAUSE = 0x0106 ∧ t.flag Reg.CAP_RUN.HOLD_PENDING = false ∧
      t.role.colls = s.role.colls ∧ storesKept s t

/-- While a Rendezvous cannot be arrived at, its leg does nothing (R249, R264). -/
def arrivalWaits : Prop :=
  ∀ (leg : BitVec 20) (s : State), s.mayArrive = false → runs (.rendezvous .own leg) s fun t => t = s

/-- Once every arrival due is counted, a member below the root sends the joined payload to its parent, once (R271, R272). -/
def arrivalsToParent : Prop :=
  ∀ (c : BitVec 12) (s : State) (d : Collective) (v : Payload) (q : Nat), s.collective? c.toNat = some d → d.kind ≠ 1 →
    (s.coll c.toNat).own = some v → (s.coll c.toNat).arrived = true → (s.coll c.toNat).sent = false →
    (s.coll c.toNat).children = [] → d.parent? = some q →
    s.role.started d.knotBase + ((s.coll c.toNat).episode + 1) * (d.children.length + 1) ≤ (s.knot d.knotBase).toNat →
    runs (.rendezvousArrivalsComplete .own c) s fun t =>
      (t.coll c.toNat).sent = true ∧
      t.fab.router = s.fab.router ++ [s.addressed (d.node q) { blankPacket 5 3 with
        attempt := s.attemptTag
        aux := c
        arg := BitVec.ofNat 32 (s.coll c.toNat).episode
        data := v.bytes (d.kind == 2) }] ∧
      { t with fab := { t.fab with router := s.fab.router }, role := { t.role with colls := s.role.colls } } = s

/-- Before every arrival due is counted nothing is sent (R271). -/
def arrivalsDue : Prop :=
  ∀ (c : BitVec 12) (s : State) (d : Collective), s.collective? c.toNat = some d →
    (s.knot d.knotBase).toNat < s.role.started d.knotBase + ((s.coll c.toNat).episode + 1) * (d.children.length + 1) →
    runs (.rendezvousArrivalsComplete .own c) s fun t => t = s

/-- The facts of a root that is about to complete an episode of a Rendezvous that no norm combine runs beside. -/
abbrev rootReady (s : State) (c : Nat) (d : Collective) (v : Payload) (p : Passage) (l : Leg) (r : LegRun) : Prop :=
  s.collective? c = some d ∧ d.kind = 0 ∧ d.parent? = none ∧ d.children = [] ∧ (s.coll c).own = some v ∧
    (s.coll c).arrived = true ∧ (s.coll c).sent = false ∧ (s.coll c).children = [] ∧
    s.role.started d.knotBase + ((s.coll c).episode + 1) ≤ (s.knot d.knotBase).toNat ∧ s.role.passage = some p ∧
    s.legAt (s.coll c).leg = some (l, r) ∧ l.op = c ∧ s.normOfLeg l = none ∧ (s.knot (d.knotBase + 1)).toNat < 2 ^ 64 - 1

/-- The STEP_CLOSE of a member alone, without flags, commits the step: the step and the attempt rise by 1 and CAP_STEP shows the new
step (R248, R271). -/
def stepCommits : Prop :=
  ∀ (c : BitVec 12) (s : State) (d : Collective) (v : Payload) (p : Passage) (l : Leg) (r : LegRun), rootReady s c.toNat d v p l r →
    v.mismatch = false → v.storm = false → v.discard = false → d.stepClose = true →
    runs (.rendezvousArrivalsComplete .own c) s fun t =>
      t.role.step = s.role.step + 1 ∧ t.role.attempt = s.role.attempt + 1 ∧ t.role.inStep = false ∧ t.role.legs = [] ∧
      (s.role.carried = false → t.get Reg.CAP_STEP.STEP = (s.role.step + 1) % 2 ^ 64)

/-- A discard mark discards the step: settlement begins, the step stays, and the discard counts (R247, R261). -/
def stepDiscarded : Prop :=
  ∀ (c : BitVec 12) (s : State) (d : Collective) (v : Payload) (p : Passage) (l : Leg) (r : LegRun), rootReady s c.toNat d v p l r →
    v.mismatch = false → v.storm = false → v.discard = true →
    runs (.rendezvousArrivalsComplete .own c) s fun t =>
      t.role.settling = true ∧ t.role.inStep = false ∧ t.role.step = s.role.step ∧ t.role.attempt = s.role.attempt ∧
      t.flag Reg.KNT_STATUS.SETTLING = true ∧ t.role.level = s.role.level ∧
      t.get Reg.KNT_RDV_STATS.DISCARDS = satCount Reg.KNT_RDV_STATS.DISCARDS.width (s.get Reg.KNT_RDV_STATS.DISCARDS + 1)

/-- A storm discards the step with LEVEL one higher, for a step that runs again (R146). -/
def stormDiscards : Prop :=
  ∀ (c : BitVec 12) (s : State) (d : Collective) (v : Payload) (p : Passage) (l : Leg) (r : LegRun), rootReady s c.toNat d v p l r →
    v.mismatch = false → v.storm = true →
    runs (.rendezvousArrivalsComplete .own c) s fun t =>
      t.role.settling = true ∧ t.role.inStep = false ∧ t.role.step = s.role.step ∧ t.role.attempt = s.role.attempt ∧
      t.role.level = min 3 (s.role.level + 1) ∧ t.role.rerun = true ∧ t.role.stormMark = false ∧
      t.get Reg.SND_FALLBACK_COUNT.STORMS = satCount Reg.SND_FALLBACK_COUNT.STORMS.width (s.get Reg.SND_FALLBACK_COUNT.STORMS + 1)

/-- A mismatch governs over both: the step is discarded and the module enters HELD (R272). -/
def mismatchHolds : Prop :=
  ∀ (c : BitVec 12) (s : State) (d : Collective) (v : Payload) (p : Passage) (l : Leg) (r : LegRun), rootReady s c.toNat d v p l r →
    v.mismatch = true → s.dev = .running ∨ s.dev = .draining → s.role.carried = false → s.role.placeFailed = false →
    runs (.rendezvousArrivalsComplete .own c) s fun t =>
      t.dev = .held ∧ t.role.settling = true ∧ t.role.inStep = false ∧ t.role.step = s.role.step ∧ t.role.level = s.role.level ∧
      t.role.rerun = s.role.rerun

/-- A child's arrival is kept and counted; a list of another CRC, or the other sense of episode, marks a mismatch (R264, R271,
R272). -/
def childArrives : Prop :=
  ∀ (p : Packet) (s : State) (d : Collective) (q : Nat), currentHere s p 5 → s.collective? p.aux.toNat = some d → d.kind ≠ 1 →
    d.positionOf p.src.toNat = some q → d.children.contains q = true → (s.knot d.knotBase).toNat < 2 ^ 64 - 1 →
    runs (.rdvArrive p) s fun t =>
      ((t.coll p.aux.toNat).children.getLast?.map fun x => (x.1, x.2.storm, x.2.discard, x.2.mismatch)) =
        some (q, (readPayload p.data).storm, (readPayload p.data).discard, (readPayload p.data).mismatch ||
          decide ((readPayload p.data).crc ≠ d.crc) || decide (p.arg.toNat % 2 ≠ (s.coll p.aux.toNat).episode % 2)) ∧
      t.knot d.knotBase = s.knot d.knotBase + 1 ∧ (∀ k, k ≠ d.knotBase → t.knot k = s.knot k) ∧ t.fab = (taken s p).fab ∧
      { t with knots := s.knots, fab := s.fab, role := { t.role with colls := s.role.colls } } = s

/-- From a disarm until the next arm, collective messages are dropped without effect (R400). -/
def disarmedDrops : Prop :=
  ∀ (p : Packet) (s : State), arrivedHere s p 5 → s.isArmed = false → runs (.rdvArrive p) s fun t => t = taken s p

/-- The parent's release releases the children and lets the verdict act: a Rendezvous without a close ends its leg and its episode
(R271, R273). -/
def releaseActs : Prop :=
  ∀ (p : Packet) (s : State) (d : Collective) (g : Passage) (l : Leg) (r : LegRun), currentHere s p 6 →
    s.collective? p.aux.toNat = some d → d.kind = 0 → d.children = [] → d.positionOf p.src.toNat = d.parent? →
    (s.coll p.aux.toNat).sent = true → (readPayload p.data).storm = false → (readPayload p.data).discard = false →
    (readPayload p.data).mismatch = false → p.arg.toNat % 2 = (s.coll p.aux.toNat).episode % 2 → s.role.passage = some g →
    s.legAt (s.coll p.aux.toNat).leg = some (l, r) → l.op = p.aux.toNat → s.normOfLeg l = none → d.stepClose = false →
    d.gradientClose = false → (s.knot (d.knotBase + 1)).toNat < 2 ^ 64 - 1 →
    runs (.rdvRelease p) s fun t =>
      t.knot (d.knotBase + 1) = s.knot (d.knotBase + 1) + 1 ∧ (∀ k, k ≠ d.knotBase + 1 → t.knot k = s.knot k) ∧
      (t.coll p.aux.toNat).episode = (s.coll p.aux.toNat).episode + 1 ∧ (t.coll p.aux.toNat).arrived = false ∧
      ((t.legAt (s.coll p.aux.toNat).leg).map fun x => x.2.finished) = some true ∧
      t.flag Reg.KNT_STATUS.IN_RENDEZVOUS = false ∧ t.get Reg.KNT_STATUS.LAST_COLLECTIVE = p.aux.toNat ∧
      t.get Reg.KNT_RDV_STATS.EPISODES = satCount Reg.KNT_RDV_STATS.EPISODES.width (s.get Reg.KNT_RDV_STATS.EPISODES + 1) ∧
      t.role.step = s.role.step ∧ t.mem = s.mem ∧ t.dev = s.dev

/-- A release that no arrival was sent for, or from another node, changes nothing (R271). -/
def releaseUnasked : Prop :=
  ∀ (p : Packet) (s : State) (d : Collective), currentHere s p 6 → s.collective? p.aux.toNat = some d →
    (s.coll p.aux.toNat).sent = false ∨ d.positionOf p.src.toNat ≠ d.parent? → runs (.rdvRelease p) s fun t => t = taken s p

/-- An episode that outlasts STALL_US is posted and counted once, and the member waits on (R275). -/
def stallPosted : Prop :=
  ∀ (c : BitVec 12) (s : State) (d : Collective), s.collective? c.toNat = some d → d.kind ≠ 1 → d.stallUs ≠ 0 →
    (s.coll c.toNat).arrived = true → (s.coll c.toNat).stalled = false → (s.coll c.toNat).verdict = none →
    s.flag Reg.CAP_RUN.HOLD_PENDING = false → s.eventMasked 0x0803 = false → s.evt.queue.length < 4096 →
    runs (.collectiveStalled .own c) s fun t =>
      posted Ev.collectiveStalled [s.role.attempt, c.toNat, (s.coll c.toNat).episode, s.missingPosition c.toNat d] s t ∧
      t.get Reg.KNT_RDV_STATS.STALLS = satCount Reg.KNT_RDV_STATS.STALLS.width (s.get Reg.KNT_RDV_STATS.STALLS + 1) ∧
      t.coll c.toNat = { s.coll c.toNat with stalled := true } ∧ t.dev = s.dev ∧
      { t with regs := s.regs, evt := s.evt, role := { t.role with colls := s.role.colls } } = s

/-- Settlement ends: every knot of the passage stands at its waypoint or above, and the attempt rises (R259, R261). -/
def settlement : Prop :=
  ∀ (s : State), s.role.settling = true → s.role.quotaKnots.all (fun k => decide (s.role.waypoint k < 2 ^ 64 - 1)) = true →
    runs (.settlementComplete .own) s fun t =>
      t.role.settling = false ∧ t.flag Reg.KNT_STATUS.SETTLING = false ∧ t.role.attempt = s.role.attempt + 1 ∧
      t.role.step = s.role.step ∧ t.mem = s.mem ∧ t.dev = s.dev ∧
      s.role.quotaKnots.all (fun k => decide (s.role.quotaOf k = 0) || decide (s.role.waypoint k ≤ (t.knot k).toNat)) = true ∧
      (∀ k, k ∉ s.role.quotaKnots → t.knot k = s.knot k)

/-- Without a settlement there is nothing to end. -/
def settlementIdle : Prop :=
  ∀ (s : State), s.role.settling = false → runs (.settlementComplete .own) s fun t => t = s

end Sys2Proof.Claims

/-- A Rendezvous leg arrives once everything before it is done: its payload is taken and the arrival knot advances by
1; under STEP_HOLD the module enters HELD instead. The joined payload goes to the parent once; a child's arrival is
kept and counted, a parent's release ends the episode, a long wait is posted once. Settlement raises the knots and the
attempt. (R246, R259, R261, R264, R271, R272, R273, R274, R275, R400) -/
def Obligations.RendezvousEpisodes : Prop :=
  Claims.arrival ∧ Claims.arrivalHeld ∧ Claims.arrivalWaits ∧ Claims.arrivalsToParent ∧ Claims.arrivalsDue ∧ Claims.childArrives ∧
    Claims.disarmedDrops ∧ Claims.releaseActs ∧ Claims.releaseUnasked ∧ Claims.stallPosted ∧ Claims.settlement ∧ Claims.settlementIdle

/-- At the root of a Rendezvous of one member: a STEP_CLOSE without flags commits, and the step and the attempt rise
by 1; a discard begins settlement and leaves step, attempt and LEVEL; a storm does so with LEVEL one higher, for a
rerun; a mismatch governs over both and holds the module. (R146, R247, R248, R261, R271, R272) -/
def Obligations.StepVerdicts : Prop :=
  Claims.stepCommits ∧ Claims.stepDiscarded ∧ Claims.stormDiscards ∧ Claims.mismatchHolds

/-! ### Off-load -/

namespace Sys2Proof.Claims

/-- Every entry of the group is in a state of Table 6-4. -/
abbrev groupIn (s : State) (g n : Nat) : Prop :=
  s.groupEntries g ≠ [] ∧ (s.groupEntries g).all (fun x => decide (x.2.state = n)) = true

/-- A group whose forward readers are done is shipped: its entries are OUTBOUND and their homes stay, and each tile counts (R223). -/
def groupShips : Prop :=
  ∀ (g : W16) (s : State) (p : Passage) (tier : Nat) (x : Nat × ChartEntry), s.working = true → s.role.passage = some p →
    s.groupTier g.toNat = some tier → s.groupEntries g.toNat = [x] → x.2.state = 2 → s.forwardDone p g.toNat = true →
    tier ≠ 4 ∨ s.trafficOk = true → s.chart.entries = [x] →
    runs (.offloadShip .own g) s fun t =>
      t.chart.entries = [(x.1, { x.2 with state := 3 })] ∧
      t.get Reg.CHT_OFFLOAD.SHIPPED = satCount Reg.CHT_OFFLOAD.SHIPPED.width (s.get Reg.CHT_OFFLOAD.SHIPPED + x.2.tiles) ∧
      (tier = 4 → t.out = .hostWrite (Config.offloadAddr 4 x.1) (s.readBytes x.2.addr x.2.bytes) :: s.out ∧ t.fab = s.fab) ∧
      storesKept s t ∧ t.role = s.role ∧ { t with regs := s.regs, chart := s.chart, out := s.out, fab := s.fab } = s

/-- A group that is not whole at home, or still read by the forward pass, is not shipped (R223). -/
def shipWaits : Prop :=
  ∀ (g : W16) (s : State), (s.groupEntries g.toNat).all (fun x => decide (x.2.state = 2)) = false →
    runs (.offloadShip .own g) s fun t => t = s

/-- The tier's confirmation releases the local storage: the entries are AWAY at their tier (R223). -/
def groupConfirmed : Prop :=
  ∀ (g : W16) (s : State) (tier : Nat) (x : Nat × ChartEntry), s.groupTier g.toNat = some tier → s.groupEntries g.toNat = [x] →
    x.2.state = 3 → tier = 4 ∨ sparseGet 0 (if tier = 2 then s.twinNode else s.offloadPeer) s.fab.unacked = 0 → s.chart.entries = [x] →
    runs (.offloadConfirm .own g) s fun t =>
      (t.chart.entries.map fun y => (y.1, y.2.state, y.2.tier, y.2.bytes)) = [(x.1, 4, tier, x.2.bytes)] ∧
      regsKept [Reg.CHT_AWAY.TWIN.reg, Reg.CHT_AWAY.PEER.reg, Reg.CHT_AWAY.HOST.reg] s t ∧
      { t with regs := s.regs, chart := s.chart } = s

/-- Writes to the tier that are not acknowledged keep the group OUTBOUND (R223). -/
def confirmWaits : Prop :=
  ∀ (g : W16) (s : State) (tier : Nat), s.groupTier g.toNat = some tier → tier ≠ 4 →
    0 < sparseGet 0 (if tier = 2 then s.twinNode else s.offloadPeer) s.fab.unacked →
    runs (.offloadConfirm .own g) s fun t => t = s

/-- A group that the backward pass will need is fetched into free local storage: its entries are INBOUND there (R223). -/
def groupFetched : Prop :=
  ∀ (g : W16) (s : State) (p : Passage) (tier : Nat) (x : Nat × ChartEntry) (a : Nat), s.working = true → s.role.passage = some p →
    s.groupTier g.toNat = some tier → s.groupEntries g.toNat = [x] → x.2.state = 4 → s.chart.entries = [x] →
    s.backwardReached p (g.toNat + ((p.offload.head?.map OffloadEntry.lead).getD 2)) = true → tier ≠ 4 ∨ s.trafficOk = true →
    (s.fitStack (((s.tensor? x.2.tensor).map fun d => s.homeStack d x.2.first).getD 0) x.2.bytes) = some a →
    runs (.offloadFetch .own g) s fun t =>
      t.chart.entries = [(x.1, { x.2 with
        state := 5
        tier := 1
        addr := a
        aux := 0 })] ∧
      (tier = 4 → t.fab = s.fab) ∧ (tier ≠ 4 → t.fab.reads.length = s.fab.reads.length + ceilDiv x.2.bytes 4096) ∧
      storesKept s t ∧ { t with chart := s.chart, fab := s.fab } = s

/-- A group away is not fetched before the backward pass reaches the group that leads it (R223). -/
def fetchWaits : Prop :=
  ∀ (g : W16) (s : State) (p : Passage), s.role.passage = some p →
    s.backwardReached p (g.toNat + ((p.offload.head?.map OffloadEntry.lead).getD 2)) = false →
    runs (.offloadFetch .own g) s fun t => t = s

/-- The last of a group has come back: its bytes stand in the storage that was taken for them and its entries are RESIDENT (R223). -/
def groupBack : Prop :=
  ∀ (g : W16) (at_ : Addr) (bytes : List Byte) (s : State) (x : Nat × ChartEntry), s.groupEntries g.toNat = [x] → x.2.state = 5 →
    s.chart.entries = [x] → x.2.tier ≤ 1 → at_.toNat = x.2.addr → bytes.length ≤ x.2.bytes →
    s.fetching [x.2] = false →
    runs (.offloadFetchDone .own g [(at_, bytes)]) s fun t =>
      t.chart.entries = [(x.1, { x.2 with state := 2 })] ∧ t.readBytes x.2.addr bytes.length = bytes ∧
      bytesKeptBut x.2.addr bytes.length s t ∧
      t.get Reg.CHT_OFFLOAD.FETCHED = satCount Reg.CHT_OFFLOAD.FETCHED.width (s.get Reg.CHT_OFFLOAD.FETCHED + x.2.tiles) ∧
      t.role.ready = (s.role.ready ++ (List.range x.2.tiles).map (fun k => (x.2.tensor, x.2.first + k))).eraseDups ∧
      { t with
        regs := s.regs, chart := s.chart, mem := s.mem, badLines := s.badLines, cache := s.cache
        role := { t.role with ready := s.role.ready } } = s

/-- A group that is not on its way back is not changed by a shipment. -/
def fetchDoneIdle : Prop :=
  ∀ (g : W16) (shipment : List (Addr × List Byte)) (s : State),
    (s.groupEntries g.toNat).all (fun x => decide (x.2.state = 5)) = false →
    runs (.offloadFetchDone .own g shipment) s fun t => t = s

/-- The rebuild of the base stack ends; sighting may turn quiet again (R220). -/
def rebuildEnds : Prop :=
  ∀ (s : State), runs .baseStackRebuild s fun t => t = { s with fab := { s.fab with rebuilding := false } }

end Sys2Proof.Claims

/-- A group whose forward readers are done is shipped and its entries are OUTBOUND; the tier's confirmation makes them
AWAY and releases their storage; the backward pass fetches them into free storage and the last arrival makes them
RESIDENT with their bytes. Where the conditions do not hold, nothing changes. (R220, R222, R223) -/
def Obligations.OffloadGroups : Prop :=
  Claims.groupShips ∧ Claims.shipWaits ∧ Claims.groupConfirmed ∧ Claims.confirmWaits ∧ Claims.groupFetched ∧ Claims.fetchWaits ∧
    Claims.groupBack ∧ Claims.fetchDoneIdle ∧ Claims.rebuildEnds

/-! ### Errors, windows and repair -/

namespace Sys2Proof.Claims

/-- The registers of one unit that a fault event writes. -/
def faultKeys (u : Nat) : List Nat :=
  [Reg.BST_FAULTS.EVENTS.reg, Reg.BST_FAULTS.UNCORRECTABLE.reg, (Reg.BST_UNIT.TOTAL (unitSlot u)).reg, Reg.EVT_STATUS.MASKED.reg,
    Reg.EVT_STATUS.LOST.reg]

/-- A corrected error is one fault event of its unit; below the threshold nothing else happens (R436, R439, R440). -/
def errorCorrected : Prop :=
  ∀ (x : EccSite) (s : State) (u : Nat), s.dev ≠ .off → siteUnit x = some u → s.part.variant.unitPresent u = some true →
    unitType u ≠ 5 → (s.faultWindow u).times = [] → s.siteReal x = true →
    runs (.eccCorrected x) s fun t =>
      t.get Reg.BST_FAULTS.EVENTS = satCount Reg.BST_FAULTS.EVENTS.width (s.get Reg.BST_FAULTS.EVENTS + 1) ∧
      t.get (Reg.BST_UNIT.TOTAL (unitSlot u)) =
        satCount (Reg.BST_UNIT.TOTAL (unitSlot u)).width (s.get (Reg.BST_UNIT.TOTAL (unitSlot u)) + 1) ∧
      t.get (Reg.BST_UNIT.IN_WINDOW (unitSlot u)) = 1 ∧ (t.faultWindow u).times = [s.dtime] ∧
      t.rel.totEvents = s.rel.totEvents + 1 ∧ regsKept (faultKeys u) s t ∧ t.evt = s.evt ∧ storesKept s t ∧
      { t with regs := s.regs, rel := s.rel } = s

/-- The event that brings a unit's window to its threshold makes the fault lasting: it is counted and posted once, and in hardware mode
the failing row takes the next spare: at once where no step runs, of a core memory or a cluster store (R440 to R443). -/
def errorLasting : Prop :=
  ∀ (x : EccSite) (s : State) (u spare : Nat), s.dev ≠ .off → siteUnit x = some u → s.part.variant.unitPresent u = some true →
    unitType u ≠ 5 → (s.faultWindow u).posted = false →
    s.faultThreshold (unitType u) ≤ (withinWindow s.dtime (s.faultWindowNs (unitType u)) (s.faultWindow u).times).length + 1 →
    s.isRetired u = false → s.flag Reg.CAP_DUTY_MODE.REPAIR = false → s.nextSpare u x = some spare → s.siteReal x = true →
    s.repairPending u (some (x, [])) = false →
    runs (.eccCorrected x) s fun t =>
      t.get Reg.BST_FAULTS.LASTING = satCount Reg.BST_FAULTS.LASTING.width (s.get Reg.BST_FAULTS.LASTING + 1) ∧
      t.rel.repairs = s.rel.repairs ++ [⟨u, spare, siteTarget x, [], repairBetweenSteps u && !s.stepRuns⟩] ∧
      t.get (Reg.BST_UNIT.STATE (unitSlot u)) = (if repairBetweenSteps u && !s.stepRuns then 2 else 1) ∧
      t.get (Reg.BST_UNIT.SPARES_USED (unitSlot u)) =
        satCount (Reg.BST_UNIT.SPARES_USED (unitSlot u)).width (s.get (Reg.BST_UNIT.SPARES_USED (unitSlot u)) + 1) ∧
      (t.faultWindow u).times = [] ∧ t.evt.seq = s.evt.seq + 2 ∧ storesKept s t

/-- In host-assisted repair a lasting fault only waits for the host (R441). -/
def errorWaitsForHost : Prop :=
  ∀ (x : EccSite) (s : State) (u : Nat), s.dev ≠ .off → siteUnit x = some u → s.part.variant.unitPresent u = some true →
    unitType u ≠ 5 → (s.faultWindow u).posted = false →
    s.faultThreshold (unitType u) ≤ (withinWindow s.dtime (s.faultWindowNs (unitType u)) (s.faultWindow u).times).length + 1 →
    s.isRetired u = false → s.flag Reg.CAP_DUTY_MODE.REPAIR = true → s.siteReal x = true →
    s.repairPending u (some (x, [])) = false →
    runs (.eccCorrected x) s fun t =>
      t.get (Reg.BST_UNIT.STATE (unitSlot u)) = 3 ∧ t.rel.repairs = s.rel.repairs ∧ t.evt.seq = s.evt.seq + 1 ∧ storesKept s t

/-- An error of an HBM4E line that cannot be corrected makes its transfer bad and is posted and counted (R436). -/
def errorUncorrectable : Prop :=
  ∀ (a : Addr) (row : Nat) (s : State), s.dev ≠ .off → a.toNat < 2 ^ 39 → s.part.variant.unitPresent (unitCode 5 (addrStack a.toNat)) =
      some true → s.chart.entries = [] → s.rel.rows = [] → (s.faultWindow (unitCode 5 (addrStack a.toNat))).times = [] →
    s.evt.queue.length < 4096 → s.eventMasked 0x0E05 = false → s.snap = none → s.restore = none → s.role.passage = none →
    s.other = none →
    runs (.eccUncorrectable (.hbm a row)) s fun t =>
      t.badLines.contains (a.toNat / 64 * 64) = true ∧ t.mem = s.mem ∧
      t.get Reg.BST_FAULTS.UNCORRECTABLE = satCount Reg.BST_FAULTS.UNCORRECTABLE.width (s.get Reg.BST_FAULTS.UNCORRECTABLE + 1) ∧
      t.get Reg.BST_FAULTS.EVENTS = satCount Reg.BST_FAULTS.EVENTS.width (s.get Reg.BST_FAULTS.EVENTS + 1) ∧
      t.rel.totUncorrectable = s.rel.totUncorrectable + 1 ∧
      t.evt.queue.any (fun r => r.code == 0x0E05 &&
        r.args == [unitCode 5 (addrStack a.toNat), 6, a.toNat].map (BitVec.ofNat 64)) = true

/-- Nothing is counted in OFF. -/
def errorsOff : Prop :=
  ∀ (x : EccSite) (s : State), s.dev = .off →
    (runs (.eccCorrected x) s fun t => t = s) ∧ (runs (.eccUncorrectable x) s fun t => t = s)

/-- A repair takes effect once: its transfers are good again and its unit is REPAIRED (R436, R443). -/
def repairEffective : Prop :=
  ∀ (k : Nat) (s : State) (r : Repair), s.rel.repairs[k]? = some r → r.effective = false → s.isRetired r.unit = false →
    runs (.softRepairEffect k) s fun t =>
      t.badLines = s.badLines.filter (fun a => !r.lines.contains a) ∧ t.rel.repairs[k]? = some { r with effective := true } ∧
      t.get (Reg.BST_UNIT.STATE (unitSlot r.unit)) = 2 ∧ t.mem = s.mem ∧ t.evt = s.evt ∧
      { t with regs := s.regs, rel := s.rel, badLines := s.badLines } = s

/-- A repair that has taken effect, or that does not exist, does nothing. -/
def repairIdle : Prop :=
  ∀ (k : Nat) (s : State), (s.rel.repairs[k]?).all Repair.effective = true → runs (.softRepairEffect k) s fun t => t = s

/-- A scrub that finds nothing changes nothing, and none is made of memory whose region is not on (R437). -/
def scrubClean : Prop :=
  ∀ (stack : Fin 8) (slice : Fin 32) (found : Option EccSite) (s : State),
    found = none ∨ (s.regionState (40 + stack.val) ≠ 3 ∧ s.regionState (32 + slice.val / 8) ≠ 3) →
    (runs (.hbmScrub stack found) s fun t => t = s) ∧ (runs (.sliceScrub slice found) s fun t => t = s)

/-- An error that a scrub finds in a line of its stack or slice is a fault event of that unit, and the line is rewritten as it was
(R437, R439). -/
def scrubFinds : Prop :=
  ∀ (stack : Fin 8) (slice : Fin 32) (a : Addr) (row set : Nat) (s : State), addrStack a.toNat = stack.val →
    s.part.variant.unitPresent (unitCode 5 stack.val) = some true → s.part.variant.unitPresent (unitCode 3 slice.val) = some true →
    s.rel.rows = [] → (s.faultWindow (unitCode 3 slice.val)).times = [] →
    s.regionState (40 + stack.val) = 3 → s.regionState (32 + slice.val / 8) = 3 →
    (runs (.hbmScrub stack (some (.hbm a row))) s fun t =>
      t.get Reg.BST_FAULTS.EVENTS = satCount Reg.BST_FAULTS.EVENTS.width (s.get Reg.BST_FAULTS.EVENTS + 1) ∧
      sparseGet [] stack.val t.rel.rows = [⟨row, [a.toNat / 64 * 64], [s.dtime]⟩] ∧ t.evt = s.evt ∧
      storesKept s t ∧ { t with regs := s.regs, rel := s.rel } = s) ∧
    (runs (.sliceScrub slice (some (.slice slice set none))) s fun t =>
      t.get Reg.BST_FAULTS.EVENTS = satCount Reg.BST_FAULTS.EVENTS.width (s.get Reg.BST_FAULTS.EVENTS + 1) ∧
      (t.faultWindow (unitCode 3 slice.val)).times = [s.dtime] ∧ t.evt = s.evt ∧
      storesKept s t ∧ { t with regs := s.regs, rel := s.rel } = s)

end Sys2Proof.Claims

/-- A corrected error is one fault event of its unit; the event that fills the window makes the fault lasting, is
posted once, and takes the next spare in hardware mode. An uncorrectable error of an HBM4E line makes its transfer
bad. A repair in effect makes its transfers good. A scrub that finds nothing changes nothing; what it finds is a fault
event. (R436, R437, R439, R440, R441, R442, R443) -/
def Obligations.ErrorsAndRepair : Prop :=
  Claims.errorCorrected ∧ Claims.errorLasting ∧ Claims.errorWaitsForHost ∧ Claims.errorUncorrectable ∧ Claims.errorsOff ∧
    Claims.repairEffective ∧ Claims.repairIdle ∧ Claims.scrubClean ∧ Claims.scrubFinds

/-! ### The links -/

namespace Sys2Proof.Claims

/-- The width that training leaves: each half of four lanes that trained whole (Table 9-1). -/
def trainedWidth (failed : Byte) : Nat := (if halfTrained failed false then 1 else 0) + (if halfTrained failed true then 2 else 0)

/-- Training that leaves all eight lanes: the port takes width 8 and waits for alignment (R291). -/
def trainedWhole : Prop :=
  ∀ (p : Fin 17) (reversed : Bool) (polarity : Byte) (s : State), p.val ≠ 16 → s.mayTrain p.val = true →
    runs (.linkTrainingDone p 0 reversed polarity) s fun t =>
      (t.port p.val) = { s.port p.val with state := 3 } ∧ (∀ k : Fin 17, k ≠ p → t.port k.val = s.port k.val) ∧
      t.get (Reg.FAB_PORT_STATUS.STATE p.val) = 3 ∧ t.get (Reg.FAB_PORT_STATUS.WIDTH p.val) = 3 ∧
      t.flag (Reg.FAB_PORT_STATUS.REVERSED p.val) = reversed ∧ t.get (Reg.FAB_PORT_STATUS.POLARITY p.val) = polarity.toNat ∧
      regsKept [(Reg.FAB_PORT_STATUS.STATE p.val).reg] s t ∧ t.evt = s.evt ∧
      { t with regs := s.regs, fab := s.fab } = s

/-- Training that leaves one half whole gives width 4, marks the port degraded and posts LINK_DEGRADED (R291). -/
def trainedHalf : Prop :=
  ∀ (p : Fin 17) (failed : Byte) (s : State), p.val ≠ 16 → s.mayTrain p.val = true →
    (trainedWidth failed = 1 ∨ trainedWidth failed = 2) → s.eventMasked 0x0902 = false → s.evt.queue.length < 4096 →
    runs (.linkTrainingDone p failed false 0) s fun t =>
      (t.port p.val).state = 3 ∧ t.get (Reg.FAB_PORT_STATUS.WIDTH p.val) = trainedWidth failed ∧
      t.get Reg.FAB_STATUS.PORTS_DEGRADED / 2 ^ p.val % 2 = 1 ∧ posted Ev.linkDegraded [p.val] s t ∧
      regsKept [(Reg.FAB_PORT_STATUS.STATE p.val).reg, Reg.FAB_STATUS.PORTS_DEGRADED.reg] s t ∧
      { t with regs := s.regs, fab := s.fab, evt := s.evt } = s

/-- With neither half whole the port stays DOWN (R291). -/
def trainedNot : Prop :=
  ∀ (p : Fin 17) (failed : Byte) (reversed : Bool) (polarity : Byte) (s : State), p.val ≠ 16 → s.mayTrain p.val = true →
    trainedWidth failed = 0 →
    runs (.linkTrainingDone p failed reversed polarity) s fun t =>
      t.port p.val = { s.port p.val with state := 1 } ∧ regsKept [(Reg.FAB_PORT_STATUS.STATE p.val).reg] s t ∧ t.evt = s.evt ∧
      { t with regs := s.regs, fab := s.fab } = s

/-- A trained port gains alignment: its counts start at 0, its credits are those of Table 9-2, and it says hello with its UID (R293,
R294, R301). -/
def aligned : Prop :=
  ∀ (p : Fin 17) (s : State), p.val ≠ 16 → s.portUsable p.val = true → (s.port p.val).state = 3 →
    runs (.alignmentAcquired p) s fun t =>
      t.port p.val = { s.port p.val with
        state := 4, aligned := true, received := 0, sent := 0, unacked := [], nakSending := false, failures := 0
        retraining := false, credits := [384, 384, 864, 128, 40, 40, 40, 40] } ∧
      t.out = .sight p.val (.hello s.part.uid p (BitVec.ofNat 16 s.part.variant.code)) :: s.out ∧
      regsKept [(Reg.FAB_PORT_STATUS.STATE p.val).reg] s t ∧ { t with regs := s.regs, fab := s.fab, out := s.out } = s

/-- An up link that loses alignment and gains it again goes on as it was (R293). -/
def realigned : Prop :=
  ∀ (p : Fin 17) (s : State), p.val ≠ 16 → (s.port p.val).state = 5 → (s.port p.val).aligned = true → s.portUsable p.val = true →
    (runs (.alignmentLoss p) s fun t => t = s.setPort p.val { s.port p.val with aligned := false }) ∧
    (runs (.alignmentAcquired p) (s.setPort p.val { s.port p.val with aligned := false }) fun t =>
      t.port p.val = s.port p.val ∧ { t with fab := s.fab } = s)

/-- What makes a port go DOWN by R295: its packets are dropped, it is held for FLAP_HOLD, LINK_DOWN is posted and its downs count. -/
abbrev wentDown (p : Fin 17) (s t : State) : Prop :=
  (t.port p.val).state = (if s.cfg Reg.FAB_CFG.FLAP_HOLD = 0 then 1 else 6) ∧ (t.port p.val).aligned = false ∧
    (t.port p.val).unacked = [] ∧ (t.port p.val).retraining = false ∧ (t.port p.val).credits = [] ∧
    t.get (Reg.FAB_PORT_STATUS.WIDTH p.val) = 0 ∧ t.rd (Reg.FAB_PORT_PEER.UID p.val).reg = 0 ∧
    t.get (Reg.FAB_PORT_RETRY.DOWNS p.val) =
      satCount (Reg.FAB_PORT_RETRY.DOWNS p.val).width (s.get (Reg.FAB_PORT_RETRY.DOWNS p.val) + 1) ∧
    t.evt.queue.any (fun r => r.code == 0x0901 && r.args == [BitVec.ofNat 64 p.val]) = true ∧
    t.fab.seq = s.fab.seq + 1 ∧ t.fab.router = s.fab.router ∧ storesKept s t ∧ t.role = s.role

/-- Alignment lost for 1 ms, and a retrain that fails, take the port down (R295). -/
def alignmentTimeout : Prop :=
  ∀ (p : Fin 17) (s : State), p.val ≠ 16 → (s.port p.val).state = 5 → (s.port p.val).aligned = false → s.evt.queue.length < 4096 →
    (s.faultWindow (unitCode 7 p.val)).times = [] →
    s.eventMasked 0x0901 = false → runs (.alignmentLossTimeout p) s fun t => wentDown p s t

/-- Training that has not finished in 500 ms does so too (R295). -/
def trainingTimesOut : Prop :=
  ∀ (p : Fin 17) (s : State), p.val ≠ 16 → s.mayTrain p.val = true → s.evt.queue.length < 4096 → s.eventMasked 0x0901 = false →
    (s.faultWindow (unitCode 7 p.val)).times = [] →
    runs (.trainingTimeout p) s fun t => wentDown p s t

/-- A retrain that fails takes the port down; one that succeeds resends what is not acknowledged (R295). -/
def retrainEnds : Prop :=
  ∀ (p : Fin 17) (s : State) (n : Nat) (ps : List Packet) (rest : List (Nat × List Packet)), p.val ≠ 16 →
    (s.port p.val).retraining = true → (s.port p.val).unacked = (n, ps) :: rest → s.evt.queue.length < 4096 →
    (s.faultWindow (unitCode 7 p.val)).times = [] →
    s.eventMasked 0x0901 = false →
    (runs (.retrainDone p false) s fun t => wentDown p s t) ∧
    (runs (.retrainDone p true) s fun t =>
      t.port p.val = { s.port p.val with retraining := false, failures := 0 } ∧
      t.out = .replay p.val n (ps ++ rest.flatMap Prod.snd) :: s.out ∧
      t.get (Reg.FAB_PORT_RETRY.RESENDS p.val) = satCount (Reg.FAB_PORT_RETRY.RESENDS p.val).width
        (s.get (Reg.FAB_PORT_RETRY.RESENDS p.val) + (rest.length + 1)) ∧
      regsKept [(Reg.FAB_PORT_RETRY.RESENDS p.val).reg] s t ∧ { t with regs := s.regs, fab := s.fab, out := s.out } = s)

/-- FLAP_HOLD has passed: the port may train again, or is DISABLED where it is not usable (R295). -/
def flapHoldOver : Prop :=
  ∀ (p : Fin 17) (s : State), p.val ≠ 16 → (s.port p.val).state = 6 →
    runs (.flapHoldExpiry p) s fun t =>
      t.port p.val = { s.port p.val with state := if s.portUsable p.val then 2 else 0 } ∧
      regsKept [(Reg.FAB_PORT_STATUS.STATE p.val).reg] s t ∧ { t with regs := s.regs, fab := s.fab } = s

/-- The twin link goes over to the fabric the moment its alignment is lost, and comes back with it (R320). -/
def twinPath : Prop :=
  ∀ (s : State), (s.port 16).state = 5 → (s.port 16).aligned = true → s.twin.paired = true → s.flag Reg.TWN_STATUS.PATH = false →
    runs (.alignmentLoss 16) s fun t =>
      t.flag Reg.TWN_STATUS.PATH = true ∧ (t.port 16).aligned = false ∧ t.fab.router = s.fab.router ++ s.fab.twinQueue ∧
      t.fab.twinQueue = [] ∧
      t.get Reg.TWN_COUNT.PATH_CHANGES = satCount Reg.TWN_COUNT.PATH_CHANGES.width (s.get Reg.TWN_COUNT.PATH_CHANGES + 1) ∧
      t.twin = s.twin ∧ storesKept s t ∧ t.role = s.role

/-- Nothing happens at a port that the command does not fit. -/
def linksIdle : Prop :=
  ∀ (p : Fin 17) (s : State), (s.port p.val).state = 0 → (s.port p.val).retraining = false → s.portUsable p.val = false →
    (runs (.linkTrainingDone p 0 false 0) s fun t => t = s) ∧ (runs (.alignmentAcquired p) s fun t => t = s) ∧
    (runs (.alignmentLoss p) s fun t => t = s) ∧ (runs (.alignmentLossTimeout p) s fun t => t = s) ∧
    (runs (.trainingTimeout p) s fun t => t = s) ∧ (runs (.flapHoldExpiry p) s fun t => t = s) ∧
    (runs (.retrainDone p true) s fun t => t = s) ∧ (runs (.codewordReceive p .uncorrectable) s fun t => t = s)

/-- The next codeword in order is taken: its number is acknowledged, its credits come back, and its packets go to the router (R292,
R294, R295, R299). -/
def codewordTaken : Prop :=
  ∀ (p : Fin 17) (count : BitVec 24) (corrected : BitVec 5) (ack : BitVec 24) (ps : List Packet) (s : State), p.val ≠ 16 →
    (s.port p.val).state = 5 → (s.port p.val).aligned = true → (s.port p.val).retraining = false →
    count = (s.port p.val).received + 1 → ps.all (fun k => k.headOk) = true →
    runs (.codewordReceive p (.sound count corrected ack false [] false 0 ps)) s fun t =>
      t.port p.val = { s.port p.val with
        received := count, nakSending := false, failures := 0
        flitsRx := (s.port p.val).flitsRx % 1024
        unacked := (s.port p.val).unacked.filter (fun x => !notLater x.1 ack.toNat) } ∧
      t.fab.router = s.fab.router ++ ps ∧ t.fab.inbox = s.fab.inbox ∧
      t.get (Reg.FAB_PORT_FEC.CORRECTED p.val) =
        satCount (Reg.FAB_PORT_FEC.CORRECTED p.val).width (s.get (Reg.FAB_PORT_FEC.CORRECTED p.val) + corrected.toNat) ∧
      { t with regs := s.regs, fab := s.fab } = s

/-- A codeword out of order is not taken: the NAK is sent until the missing one comes (R295). -/
def codewordAhead : Prop :=
  ∀ (p : Fin 17) (count : BitVec 24) (ps : List Packet) (s : State), (s.port p.val).state = 5 → (s.port p.val).aligned = true →
    (s.port p.val).retraining = false → count ≠ (s.port p.val).received + 1 →
    notLater count.toNat (s.port p.val).received.toNat = false →
    runs (.codewordReceive p (.sound count 0 0 false [] false 0 ps)) s fun t =>
      t.port p.val = { s.port p.val with nakSending := true } ∧ t.fab.router = s.fab.router ∧ t.fab.inbox = s.fab.inbox ∧
      { t with regs := s.regs, fab := s.fab } = s

/-- An uncorrectable codeword is rejected and counted; the fifth in a row retrains the port (R295). -/
def codewordRejected : Prop :=
  ∀ (p : Fin 17) (s : State), p.val ≠ 16 → (s.port p.val).state = 5 → (s.port p.val).aligned = true →
    (s.port p.val).retraining = false →
    runs (.codewordReceive p .uncorrectable) s fun t =>
      t.port p.val = { s.port p.val with
        nakSending := true
        failures := if 4 < (s.port p.val).failures + 1 then 0 else (s.port p.val).failures + 1
        retraining := decide (4 < (s.port p.val).failures + 1) } ∧
      t.get (Reg.FAB_PORT_FEC.UNCORRECTABLE p.val) =
        satCount (Reg.FAB_PORT_FEC.UNCORRECTABLE p.val).width (s.get (Reg.FAB_PORT_FEC.UNCORRECTABLE p.val) + 1) ∧
      t.fab.router = s.fab.router ∧ { t with regs := s.regs, fab := s.fab } = s

end Sys2Proof.Claims

/-- Training leaves width 8, a degraded width 4, or the port DOWN; alignment starts the counts and credits and sends
the hello, and an up link that realigns goes on as it was. A lost alignment, a failed retrain or slow training takes
the port down for FLAP_HOLD with LINK_DOWN. Codewords are taken in order only; the twins' traffic goes over the fabric
while their link is lost. (R291, R292, R293, R294, R295, R299, R301, R320) -/
def Obligations.PortsAndCodewords : Prop :=
  Claims.trainedWhole ∧ Claims.trainedHalf ∧ Claims.trainedNot ∧ Claims.aligned ∧ Claims.realigned ∧ Claims.alignmentTimeout ∧
    Claims.trainingTimesOut ∧ Claims.retrainEnds ∧ Claims.flapHoldOver ∧ Claims.twinPath ∧ Claims.linksIdle ∧ Claims.codewordTaken ∧
    Claims.codewordAhead ∧ Claims.codewordRejected

/-! ### The router and what is delivered -/

namespace Sys2Proof.Claims

/-- The route entry of a packet's destination. -/
def entryFor (s : State) (p : Packet) : Nat := (s.rd (0x1810000 + 8 * p.dest.toNat)).toNat

/-- A packet for this module is delivered here (R305, R307). -/
def hopHere : Prop :=
  ∀ (n : Nat) (s : State) (p : Packet), s.fab.router[n]? = some p → s.forwards = true → p.headOk = true →
    bitAt (entryFor s p) 63 = true → bitAt (entryFor s p) 62 = true →
    runs (.routerHop n) s fun t =>
      t.fab = { s.fab with router := s.fab.router.eraseIdx n, inbox := s.fab.inbox ++ [p] } ∧ { t with fab := s.fab } = s

/-- A packet leaves by the minimal port with the most credit, with one hop fewer, its flits taken from that port's credit (R294,
R307). -/
def hopAway : Prop :=
  ∀ (n : Nat) (s : State) (p : Packet) (k : Nat), s.fab.router[n]? = some p → s.forwards = true → p.headOk = true → p.esc = false →
    p.data = [] → bitAt (entryFor s p) 63 = true → bitAt (entryFor s p) 62 = false → p.hops ≠ 0 →
    s.adaptivePort p (entryFor s p) = some k →
    runs (.routerHop n) s fun t =>
      t.fab.router = s.fab.router.eraseIdx n ∧ t.out = .packet k { p with hops := p.hops - 1 } :: s.out ∧
      (t.port k).credits = (s.port k).credits.set p.cls.toNat ((s.port k).credits.getD p.cls.toNat 0 - 1) ∧
      (t.port k).unacked.length = (s.port k).unacked.length + 1 ∧ t.fab.inbox = s.fab.inbox ∧
      { t with regs := s.regs, fab := s.fab, out := s.out } = s

/-- A packet without a route, without hops left, or with a bad header is dropped and counted (R299, R307). -/
def hopDrops : Prop :=
  ∀ (n : Nat) (s : State) (p : Packet) (f : Field), s.fab.router[n]? = some p → s.forwards = true →
    (f = Reg.FAB_DROP.BAD_CRC ∧ p.headOk = false) ∨
      (f = Reg.FAB_DROP.UNROUTABLE ∧ p.headOk = true ∧ bitAt (entryFor s p) 63 = false) ∨
      (f = Reg.FAB_DROP.HOP_EXPIRED ∧ p.headOk = true ∧ bitAt (entryFor s p) 63 = true ∧ bitAt (entryFor s p) 62 = false ∧
        p.hops = 0) →
    runs (.routerHop n) s fun t =>
      t.get f = satCount f.width (s.get f + 1) ∧ t.fab = { s.fab with router := s.fab.router.eraseIdx n } ∧
      regsKept [f.reg] s t ∧ { t with regs := s.regs, fab := s.fab } = s

/-- Before the first quiet sighting, or without a node ID, a module forwards nothing (R303, R310). -/
def hopWaits : Prop :=
  ∀ (n : Nat) (s : State), n < s.fab.router.length → s.forwards = false → runs (.routerHop n) s fun t => t = s

/-- A packet with no port left of its entry is dropped after 1 ms; one that has a port waits on (R308). -/
def heldPacket : Prop :=
  ∀ (n : Nat) (s : State) (p : Packet), s.fab.router[n]? = some p → p.esc = false → bitAt (entryFor s p) 63 = true →
    bitAt (entryFor s p) 62 = false → bitAt (entryFor s p) 52 = false →
    runs (.unroutableHoldTimeout n) s fun t =>
      (entryFor s p % 2 ^ 16 = 0 → t.fab = { s.fab with router := s.fab.router.eraseIdx n } ∧
        t.get Reg.FAB_DROP.UNROUTABLE = satCount Reg.FAB_DROP.UNROUTABLE.width (s.get Reg.FAB_DROP.UNROUTABLE + 1) ∧
        regsKept [Reg.FAB_DROP.UNROUTABLE.reg] s t ∧ { t with regs := s.regs, fab := s.fab } = s) ∧
      (entryFor s p % 2 ^ 16 ≠ 0 → t = s)

/-- A packet of an unknown type is dropped and counted, and nothing else happens (R299). -/
def unknownType : Prop :=
  ∀ (p : Packet) (s : State), s.fab.inbox.contains p = true → p.dataOk = true → s.packetRole p = .own → 14 ≤ p.ptype.toNat →
    runs (.badPacketType p) s fun t =>
      t.get Reg.FAB_DROP.BAD_TYPE = satCount Reg.FAB_DROP.BAD_TYPE.width (s.get Reg.FAB_DROP.BAD_TYPE + 1) ∧
      t.fab = (taken s p).fab ∧ regsKept [Reg.FAB_DROP.BAD_TYPE.reg] s t ∧ { t with regs := s.regs, fab := s.fab } = s

/-- A packet whose data CRC is wrong is dropped and counted, whatever its type (R299). -/
def badData : Prop :=
  ∀ (p : Packet) (s : State), s.fab.inbox.contains p = true → p.dataOk = false →
    (p.ptype.toNat = 0 → runs (.write p) s fun t =>
      t.get Reg.FAB_DROP.BAD_CRC = satCount Reg.FAB_DROP.BAD_CRC.width (s.get Reg.FAB_DROP.BAD_CRC + 1) ∧ t.fab = (taken s p).fab ∧
      regsKept [Reg.FAB_DROP.BAD_CRC.reg] s t ∧ { t with regs := s.regs, fab := s.fab } = s) ∧
    (p.ptype.toNat = 4 → runs (.signal p) s fun t =>
      t.get Reg.FAB_DROP.BAD_CRC = satCount Reg.FAB_DROP.BAD_CRC.width (s.get Reg.FAB_DROP.BAD_CRC + 1) ∧ t.fab = (taken s p).fab ∧
      regsKept [Reg.FAB_DROP.BAD_CRC.reg] s t ∧ { t with regs := s.regs, fab := s.fab } = s)

/-- A pace advisory is posted and kept in KNT_PACE, and changes no knot and no memory (R285). -/
def paceAdvice : Prop :=
  ∀ (p : Packet) (s : State), arrivedHere s p 9 → s.eventMasked 0x0805 = false → s.evt.queue.length < 4096 →
    runs (.pace p) s fun t =>
      t.get Reg.KNT_PACE.RECEIVED = satCount Reg.KNT_PACE.RECEIVED.width (s.get Reg.KNT_PACE.RECEIVED + 1) ∧
      t.get Reg.KNT_PACE.LAST_NODE = p.src.toNat ∧ t.get Reg.KNT_PACE.LAST_FRACTION = p.arg.toNat % 256 ∧
      posted Ev.paceAdvisory [s.role.attempt, p.src.toNat, p.arg.toNat % 256, p.arg.toNat / 256 % 256] s t ∧
      regsKept [Reg.KNT_PACE.RECEIVED.reg] s t ∧ { t with regs := s.regs, evt := s.evt, fab := s.fab } = s

/-- A management message that announces no stop changes nothing (R299). -/
def mgmtOther : Prop :=
  ∀ (src : BitVec 14) (m : MgmtMsg) (s : State), m ≠ .stopping → runs (.mgmt src m) s fun t => t = s

/-- A stop announced by the partner makes it lost, and one announced by any other node does not (R320, R347). -/
def mgmtStopOther : Prop :=
  ∀ (src : BitVec 14) (s : State), s.twin.partnerNode ≠ some src.toNat → runs (.mgmt src .stopping) s fun t => t = s

end Sys2Proof.Claims

/-- A packet for this module is delivered; any other leaves by a minimal port with credit, one hop fewer; without a
route, hops or a good header it is dropped and counted. Before the first quiet sighting nothing is forwarded; a packet
with no port left is dropped after 1 ms. Unknown types and bad data are dropped and counted; a pace advisory is kept
and posted. (R285, R294, R299, R303, R305, R307, R308, R310, R347) -/
def Obligations.RouterAndDelivery : Prop :=
  Claims.hopHere ∧ Claims.hopAway ∧ Claims.hopDrops ∧ Claims.hopWaits ∧ Claims.heldPacket ∧ Claims.unknownType ∧ Claims.badData ∧
    Claims.paceAdvice ∧ Claims.mgmtOther ∧ Claims.mgmtStopOther

/-! ### Remote writes, signals and reads -/

namespace Sys2Proof.Claims

/-- The acknowledgement counts of a source below the 64 that are sent at once. -/
abbrev owesOne (s : State) (src : Nat) : Prop := sparseGet 0 src s.fab.toAck + 1 < 64 ∧ s.role.carried = false

/-- A write lands byte for byte and nowhere else, is owed one acknowledgement, and counts for the knot that announces it (R263,
R300). -/
def remoteWrite : Prop :=
  ∀ (p : Packet) (s : State), arrivedHere s p 0 → p.attempt = s.attemptTag → p.addr.toNat < 2 ^ 39 → p.data ≠ [] →
    s.reachable p.addr.toNat p.data.length = true → owesOne s p.src.toNat → s.fab.waitingSignals = [] → s.fab.applied = [] →
    p.knot ≠ 0xFFF →
    runs (.write p) s fun t =>
      t.readBytes p.addr.toNat p.data.length = p.data ∧ bytesKeptBut p.addr.toNat p.data.length s t ∧ t.knots = s.knots ∧
      sparseGet 0 p.src.toNat t.fab.toAck = sparseGet 0 p.src.toNat s.fab.toAck + 1 ∧
      t.fab.applied = [(p.src.toNat, p.knot.toNat, 1)] ∧ t.fab.inbox = s.fab.inbox.erase p ∧
      { t with mem := s.mem, badLines := s.badLines, fab := s.fab, cache := s.cache } = s

/-- A write to an address that is not mapped stores nothing and is acknowledged all the same (R299, R300). -/
def writeNowhere : Prop :=
  ∀ (p : Packet) (s : State), arrivedHere s p 0 → p.attempt = s.attemptTag → s.reachable p.addr.toNat p.data.length = false →
    owesOne s p.src.toNat → s.fab.waitingSignals = [] →
    runs (.write p) s fun t =>
      bytesKept s t ∧ t.knots = s.knots ∧ sparseGet 0 p.src.toNat t.fab.toAck = sparseGet 0 p.src.toNat s.fab.toAck + 1 ∧
      { t with fab := s.fab } = s

/-- A stale write is dropped, counted and acknowledged (R265). -/
def writeStale : Prop :=
  ∀ (p : Packet) (s : State), arrivedHere s p 0 → p.attempt ≠ s.attemptTag → p.attempt ≠ s.attemptTag + 1 → owesOne s p.src.toNat →
    runs (.write p) s fun t =>
      t.get Reg.KNT_STALE.STALE = satCount Reg.KNT_STALE.STALE.width (s.get Reg.KNT_STALE.STALE + 1) ∧
      sparseGet 0 p.src.toNat t.fab.toAck = sparseGet 0 p.src.toNat s.fab.toAck + 1 ∧ regsKept [Reg.KNT_STALE.STALE.reg] s t ∧
      { t with regs := s.regs, fab := s.fab } = s

/-- A signal whose writes have been applied advances its knot by 1 and consumes them (R263). -/
def remoteSignal : Prop :=
  ∀ (p : Packet) (s : State), arrivedHere s p 4 → p.attempt = s.attemptTag →
    p.arg.toNat ≤ s.appliedWrites p.src.toNat p.knot.toNat → owesOne s p.src.toNat → (s.knot p.knot.toNat).toNat < 2 ^ 64 - 1 →
    runs (.signal p) s fun t =>
      t.knot p.knot.toNat = s.knot p.knot.toNat + 1 ∧ (∀ k, k ≠ p.knot.toNat → t.knot k = s.knot k) ∧
      t.appliedWrites p.src.toNat p.knot.toNat = s.appliedWrites p.src.toNat p.knot.toNat - p.arg.toNat ∧
      sparseGet 0 p.src.toNat t.fab.toAck = sparseGet 0 p.src.toNat s.fab.toAck + 1 ∧
      { t with knots := s.knots, fab := s.fab } = s

/-- A signal ahead of its writes waits, and neither advances nor is acknowledged (R263). -/
def signalWaits : Prop :=
  ∀ (p : Packet) (s : State), arrivedHere s p 4 → p.attempt = s.attemptTag →
    s.appliedWrites p.src.toNat p.knot.toNat < p.arg.toNat →
    runs (.signal p) s fun t =>
      t.fab = { (taken s p).fab with waitingSignals := s.fab.waitingSignals ++ [p] } ∧ { t with fab := s.fab } = s

/-- The write that a waiting signal needs lets it act: its knot advances (R263). -/
def signalFollows : Prop :=
  ∀ (p q : Packet) (s : State), arrivedHere s p 0 → p.attempt = s.attemptTag → p.knot ≠ 0xFFF → s.fab.waitingSignals = [q] →
    q.src = p.src → q.knot = p.knot → q.arg.toNat = s.appliedWrites p.src.toNat p.knot.toNat + 1 →
    sparseGet 0 p.src.toNat s.fab.toAck + 2 < 64 → s.role.carried = false → p.addr.toNat < 2 ^ 39 →
    (s.knot p.knot.toNat).toNat < 2 ^ 64 - 1 →
    runs (.write p) s fun t =>
      t.knot p.knot.toNat = s.knot p.knot.toNat + 1 ∧ t.fab.waitingSignals = [] ∧
      sparseGet 0 p.src.toNat t.fab.toAck = sparseGet 0 p.src.toNat s.fab.toAck + 2

/-- A read request is answered with the bytes it names and its tag, in class 1 (R299, R300). -/
def remoteRead : Prop :=
  ∀ (p : Packet) (s : State), arrivedHere s p 1 → p.addr.toNat < 2 ^ 39 → 1 ≤ p.arg.toNat → p.arg.toNat ≤ 4096 →
    s.reachable p.addr.toNat p.arg.toNat = true → s.twin.paired = false →
    runs (.readReq p) s fun t =>
      t.fab = { (taken s p).fab with router := s.fab.router ++ [s.addressed p.src.toNat { blankPacket 2 1 with
        tag := p.tag
        data := s.readBytes p.addr.toNat p.arg.toNat }] } ∧ { t with fab := s.fab } = s

/-- A read of an address that is not mapped is answered with ARG 1 and no data (R299). -/
def readNowhere : Prop :=
  ∀ (p : Packet) (s : State), arrivedHere s p 1 → s.reachable p.addr.toNat (max 1 (min 4096 p.arg.toNat)) = false →
    s.twin.paired = false →
    runs (.readReq p) s fun t =>
      t.fab = { (taken s p).fab with router := s.fab.router ++ [s.addressed p.src.toNat { blankPacket 2 1 with
        tag := p.tag
        arg := 1 }] } ∧ { t with fab := s.fab } = s

/-- A reply ends the read of its tag; one for a tag that is not out is dropped (R300). -/
def readReply : Prop :=
  ∀ (p : Packet) (s : State), arrivedHere s p 2 → p.arg = 0 → s.fab.reads.length ≤ 1 →
    runs (.readResp p) s fun t =>
      t.fab = { (taken s p).fab with reads := s.fab.reads.filter (fun r => r.tag != p.tag) } ∧ { t with fab := s.fab } = s

/-- An acknowledgement lowers the count of its sender (R300). -/
def acknowledged : Prop :=
  ∀ (p : Packet) (s : State), arrivedHere s p 3 →
    runs (.ack p) s fun t =>
      sparseGet 0 p.src.toNat t.fab.unacked = sparseGet 0 p.src.toNat s.fab.unacked - p.arg.toNat ∧
      (∀ n, n ≠ p.src.toNat → sparseGet 0 n t.fab.unacked = sparseGet 0 n s.fab.unacked) ∧ { t with fab := s.fab } = s

/-- The timer sends what is owed to a source in one ACK, and then nothing is owed (R300). -/
def ackTimer : Prop :=
  ∀ (src : BitVec 14) (s : State), s.twin.paired = false → sparseGet 0 (src.toNat + 16384) s.fab.toAck = 0 →
    runs (.ackSendTimer src) s fun t =>
      sparseGet 0 src.toNat t.fab.toAck = 0 ∧
      (t.fab.router.drop s.fab.router.length).map (fun p => (p.ptype.toNat, p.cls.toNat, p.dest, p.arg.toNat)) =
        (if sparseGet 0 src.toNat s.fab.toAck = 0 then [] else [(3, 1, src, sparseGet 0 src.toNat s.fab.toAck % 2 ^ 32)]) ∧
      t.fab.router.take s.fab.router.length = s.fab.router ∧ { t with fab := s.fab } = s

/-- A write that stays unacknowledged is lost: it is counted and posted, the count is gone, and where nothing else explains it the
step is to be discarded (R300). -/
def ackTimesOut : Prop :=
  ∀ (dest : BitVec 14) (s : State), sparseGet 0 dest.toNat s.fab.unacked ≠ 0 → s.servedBy dest.toNat = false → s.snap = none →
    s.other = none → s.role.quotas = [] → s.twin.paired = false → s.role.passage.isSome = true → s.eventMasked 0x0906 = false →
    s.evt.queue.length < 4096 →
    runs (.ackTimeout dest) s fun t =>
      posted Ev.fabricLoss [dest.toNat] s t ∧ sparseGet 0 dest.toNat t.fab.unacked = 0 ∧ t.role.discardMark = true ∧
      t.get Reg.FAB_LOSS.ACK_TIMEOUTS = satCount Reg.FAB_LOSS.ACK_TIMEOUTS.width (s.get Reg.FAB_LOSS.ACK_TIMEOUTS + 1) ∧
      { t with regs := s.regs, evt := s.evt, fab := s.fab, role := s.role } = s

/-- Without a count there is nothing to time out. -/
def ackNone : Prop :=
  ∀ (dest : BitVec 14) (s : State), sparseGet 0 dest.toNat s.fab.unacked = 0 → runs (.ackTimeout dest) s fun t => t = s

/-- A read without a reply is issued once more under a new tag; one that was issued again already ends (R300). -/
def readAgain : Prop :=
  ∀ (tag : W16) (s : State) (r : PendingRead), s.fab.reads = [r] → r.tag = tag → r.reissued = false → r.twin = false →
    runs (.readTimeout tag) s fun t =>
      t.fab.reads = [{ r with
        tag := s.fab.nextTag
        reissued := true }] ∧ t.fab.nextTag = s.fab.nextTag + 1 ∧
      (t.fab.router.drop s.fab.router.length).map (fun p => (p.ptype.toNat, p.tag, p.dest.toNat, p.addr.toNat, p.arg.toNat)) =
        [(1, s.fab.nextTag, r.dest % 2 ^ 14, r.addr % 2 ^ 52, r.bytes % 2 ^ 32)] ∧
      t.get Reg.FAB_LOSS.READ_REISSUES = satCount Reg.FAB_LOSS.READ_REISSUES.width (s.get Reg.FAB_LOSS.READ_REISSUES + 1) ∧
      { t with regs := s.regs, fab := s.fab } = s

/-- A tag that is not out is not timed. -/
def readNone : Prop :=
  ∀ (tag : W16) (s : State), s.fab.reads.all (fun r => r.tag != tag) = true → runs (.readTimeout tag) s fun t => t = s

end Sys2Proof.Claims

/-- A remote write lands byte for byte, nowhere else, and counts for its knot; a signal advances its knot once its
writes have been applied and waits until then. Reads are answered with the bytes or with ARG 1; replies and
acknowledgements end what they answer. A lost write is posted and marks the step for discard; a read is issued once
more. (R263, R265, R299, R300) -/
def Obligations.RemoteMemory : Prop :=
  Claims.remoteWrite ∧ Claims.writeNowhere ∧ Claims.writeStale ∧ Claims.remoteSignal ∧ Claims.signalWaits ∧ Claims.signalFollows ∧
    Claims.remoteRead ∧ Claims.readNowhere ∧ Claims.readReply ∧ Claims.acknowledged ∧ Claims.ackTimer ∧ Claims.ackTimesOut ∧
    Claims.ackNone ∧ Claims.readAgain ∧ Claims.readNone

/-! ### Sighting, routes and time -/

namespace Sys2Proof.Claims

/-- A hello from another module brings a port UP with its UID; the module's record changes and floods (R301, R302). -/
def helloUp : Prop :=
  ∀ (p : Fin 17) (uid : W64) (far : Fin 17) (variant : W16) (s : State), p.val ≠ 16 → (s.port p.val).state = 4 → uid ≠ 0 →
    uid ≠ s.part.uid →
    runs (.sight p (.hello uid far variant)) s fun t =>
      (t.port p.val).state = 5 ∧ t.rd (Reg.FAB_PORT_PEER.UID p.val).reg = uid ∧
      t.get Reg.FAB_STATUS.PORTS_UP / 2 ^ p.val % 2 = 1 ∧ t.get Reg.FAB_STATUS.SIGHTING = 1 ∧ t.fab.quiet = false ∧
      t.fab.seq = s.fab.seq + 1 ∧ (∀ k, k ≠ p.val → t.port k = s.port k) ∧ storesKept s t ∧ t.evt = s.evt ∧ t.role = s.role

/-- The module's own hello is a loopback: the port stays DOWN (R301). -/
def helloLoop : Prop :=
  ∀ (p : Fin 17) (far : Fin 17) (variant : W16) (s : State), p.val ≠ 16 → (s.port p.val).state = 4 → s.part.uid ≠ 0 →
    runs (.sight p (.hello s.part.uid far variant)) s fun t =>
      (t.port p.val).state = 1 ∧ (t.port p.val).loopback = true ∧ (t.port p.val).aligned = false ∧ t.fab.seq = s.fab.seq ∧
      (∀ k, k ≠ p.val → t.port k = s.port k) ∧ storesKept s t ∧ t.evt = s.evt

/-- A record that is new or later is stored and sent on by the other up ports; an older one is not (R302). -/
def recordNew : Prop :=
  ∀ (p : Fin 17) (r : SightRecord) (s : State), p.val ≠ 16 → (s.port p.val).state = 5 → r.uid ≠ s.part.uid → r.uid ≠ 0 →
    (s.fab.database.find? (fun e => e.record.uid == r.uid)).all (fun e => laterSeq r.seq e.record.seq) = true →
    runs (.sight p (.record r)) s fun t =>
      t.fab.database = s.fab.database.filter (fun d => d.record.uid != r.uid) ++ [⟨r, false⟩] ∧ t.fab.quiet = false ∧
      t.get Reg.FAB_STATUS.SIGHTING = 1 ∧
      t.out = ((s.portsUp.filter (fun k => k != p.val)).reverse.map (fun k => Out.sight k (.record r))) ++ s.out ∧
      { t with regs := s.regs, fab := s.fab, out := s.out } = s

/-- An older record, or one by a port that is not up, changes nothing (R302). -/
def recordOld : Prop :=
  ∀ (p : Fin 17) (r : SightRecord) (s : State), (s.port p.val).state ≠ 5 ∨
      (s.fab.database.find? (fun e => e.record.uid == r.uid)).any (fun e => !laterSeq r.seq e.record.seq && r.seq != e.record.seq) = true →
    runs (.sight p (.record r)) s fun t => t = s

/-- Every second the module's record goes out by every up port (R302). -/
def recordSent : Prop :=
  ∀ (s : State), s.fab.database.any (fun e => e.record.uid == s.part.uid) = true →
    runs .sightingRecordSend s fun t =>
      t.out = (s.portsUp.reverse.map (fun k => Out.sight k (.record s.ownRecord))) ++ s.out ∧ { t with out := s.out } = s

/-- A module whose record has not come for 5 s departs; the time root goes on unless it was that module (R302, R311). -/
def moduleDeparts : Prop :=
  ∀ (uid : W64) (s : State), uid ≠ s.part.uid → s.fab.database.any (fun e => e.record.uid == uid && !e.departed) = true →
    s.fab.timeRoot ≠ some uid →
    runs (.sightingDeparture uid) s fun t =>
      t.fab = { s.fab with
        database := s.fab.database.map (fun e => if e.record.uid == uid then { e with departed := true } else e), quiet := false } ∧
      t.get Reg.FAB_STATUS.SIGHTING = 1 ∧ { t with regs := s.regs, fab := s.fab } = s

/-- A UID without a record, or the module's own, does not depart. -/
def departsIdle : Prop :=
  ∀ (uid : W64) (s : State), s.fab.database.all (fun e => e.record.uid != uid) = true →
    runs (.sightingDeparture uid) s fun t => t = s

/-- Sighting turns quiet once: SIGHTING reads 2, SIGHTING_DONE is posted and packets may be forwarded from then on (R303, R310). -/
def sightingQuiet : Prop :=
  ∀ (s : State), s.fab.database.any (fun e => e.record.uid == s.part.uid) = true → s.fab.quiet = false → s.fab.rebuilding = false →
    s.dev ≠ .off → s.peersKnown = true → s.evt.queue.length < 4000 → s.eventMasked 0x0909 = false →
    (s.assignIds.find? (fun x => x.1 == s.part.uid)).map Prod.snd = some (s.get Reg.FAB_NODE.NODE_ID) →
    s.flag Reg.FAB_NODE.VALID = true →
    runs .sightingQuiet s fun t =>
      t.fab.quiet = true ∧ t.fab.everQuiet = true ∧ t.get Reg.FAB_STATUS.SIGHTING = 2 ∧
      t.get Reg.FAB_NODE.NODE_ID = s.get Reg.FAB_NODE.NODE_ID ∧ s.assignIds.all t.fab.reserved.contains = true ∧
      t.evt.queue.any (fun r => r.code == 0x0909) = true ∧ storesKept s t ∧ t.role = s.role ∧ t.dev = s.dev

/-- Sighting that is quiet, or with a UID unknown, stays as it is (R303). -/
def quietIdle : Prop :=
  ∀ (s : State), s.fab.database.any (fun e => e.record.uid == s.part.uid) = true →
    s.fab.quiet = true ∨ s.peersKnown = false → runs .sightingQuiet s fun t => t = s

/-- Binnacle's tables go live: GENERATION rises, ROUTES_VALID is 1, and ROUTES_UPDATED is posted (R306). -/
def routesComputed : Prop :=
  ∀ (s : State), s.hostRouting = false → s.fab.quiet = true → s.flag Reg.FAB_NODE.VALID = true → s.eventMasked 0x090B = false →
    s.evt.queue.length < 4096 →
    runs .routeCompute s fun t =>
      t.get Reg.FAB_ROUTE_CTL.GENERATION = (s.get Reg.FAB_ROUTE_CTL.GENERATION + 1) % 2 ^ 32 ∧
      t.flag Reg.FAB_STATUS.ROUTES_VALID = true ∧ posted Ev.routesUpdated [] s t ∧
      { t with regs := s.regs, evt := s.evt } = s

/-- In host-assisted routing Binnacle computes nothing (R309). -/
def routesLeft : Prop :=
  ∀ (s : State), s.hostRouting = true ∨ s.fab.quiet = false ∨ s.flag Reg.FAB_NODE.VALID = false →
    runs .routeCompute s fun t => t = s

/-- A host's commit swaps the tables: the shadow's entries are active and the generation rises (R309). -/
def tablesCommitted : Prop :=
  ∀ (n : Fin 16384) (s : State), s.served = true → (s.tableRegs true).find? (fun x => s.badEntry x.2) = none →
    (s.regs.map Prod.fst).Pairwise (· < ·) →
    runs .fabRouteCommit s fun t =>
      t.rd (0x1810000 + 8 * n.val) = s.rd (0x1840000 + 8 * n.val) ∧ t.rd (0x1840000 + 8 * n.val) = s.rd (0x1810000 + 8 * n.val) ∧
      t.get Reg.FAB_ROUTE_CTL.GENERATION = (s.get Reg.FAB_ROUTE_CTL.GENERATION + 1) % 2 ^ 32 ∧ onlyRegs s t

/-- A commit with a bad entry is refused with its node ID and changes no table (R309). -/
def commitRefused : Prop :=
  ∀ (x : Nat × W64) (s : State), s.served = true → (s.tableRegs true).find? (fun x => s.badEntry x.2) = some x →
    s.eventMasked 0x0905 = false → s.evt.queue.length < 4096 →
    runs .fabRouteCommit s fun t => posted Ev.routeRejected [(x.1 - 0x1840000) / 8] s t ∧ t.regs = s.regs ∧ onlyEvents s t

/-- A copy makes the shadow table the active one's image, and leaves the active one (R326). -/
def tableCopied : Prop :=
  ∀ (n : Fin 16384) (s : State), s.served = true → (s.regs.map Prod.fst).Pairwise (· < ·) →
    runs .fabRouteCopy s fun t =>
      t.rd (0x1840000 + 8 * n.val) = s.rd (0x1810000 + 8 * n.val) ∧ t.rd (0x1810000 + 8 * n.val) = s.rd (0x1810000 + 8 * n.val) ∧
      onlyRegs s t

/-- Before READY the host has no BAR0, and neither acts. -/
def routesUnserved : Prop :=
  ∀ (s : State), s.served = false → (runs .fabRouteCommit s fun t => t = s) ∧ (runs .fabRouteCopy s fun t => t = s)

/-- A TIME exchange gives ((T2 − T1) − (T4 − T3)) / 2; a lag of more than 1,000 ns before a passage runs steps DTIME once, and any
other offset beyond 2 ns is slewed (R312). -/
def timeTaken : Prop :=
  ∀ (x : TimeStamps) (s : State), s.fab.timeParent.isSome = true → s.dev ≠ .off →
    runs (.time x) s fun t =>
      let off := exchangeOffset x
      t.flag Reg.FAB_TIME.ALIGNED = decide (off.natAbs ≤ 20) ∧ t.get Reg.FAB_TIME.OFFSET = (off % 2 ^ 32).toNat ∧
      (1000 < off ∧ s.fab.stepped = false ∧ (s.dev = .boot ∨ s.dev = .selftest ∨ s.dev = .ready) →
        t.dtime = s.dtime + off.toNat ∧ t.fab.slewing = false ∧ t.fab.stepped = true) ∧
      (¬ (1000 < off ∧ s.fab.stepped = false ∧ (s.dev = .boot ∨ s.dev = .selftest ∨ s.dev = .ready)) →
        t.dtime = s.dtime ∧ t.fab.offset = off ∧ t.fab.slewing = decide (2 < off.natAbs)) ∧
      storesKept s t ∧ t.role = s.role ∧ t.dev = s.dev

/-- The root itself takes no time from others (R311). -/
def timeRoot : Prop :=
  ∀ (x : TimeStamps) (s : State), s.fab.timeParent = none →
    (runs (.time x) s fun t => t = s) ∧ (runs .timeExchange s fun t => t = s)

/-- An exchange begins with what the port's local copy of DTIME reads, at most 6 ns behind the hub's, sent to the time parent (R48, R312).
The lag within these bounds is a free value (log 108). -/
def timeAsked : Prop :=
  ∀ (p : Nat) (s : State), s.fab.timeParent = some p → (s.port p).state = 5 →
    runs .timeExchange s fun t =>
      t = { s with out := .time p (localTime (1024 + p) s.dtime) :: s.out } ∧
      s.dtime ≤ localTime (1024 + p) s.dtime + 6 ∧ localTime (1024 + p) s.dtime ≤ s.dtime

/-- A cycle of a slew: DTIME gains 1 on a lag and loses 1 on a lead, and never runs back (R312). -/
def slewStep : Prop :=
  ∀ (s : State), s.fab.slewing = true → s.dev ≠ .off → s.fab.offset ≠ 0 →
    runs .dtimeSlew s fun t =>
      t.dtime = (if 0 < s.fab.offset then s.dtime + 2 else s.dtime) ∧
      t.fab.offset = (if 0 < s.fab.offset then s.fab.offset - 1 else s.fab.offset + 1) ∧
      t.fab.slewing = decide (2 < t.fab.offset.natAbs) ∧ { t with dtime := s.dtime, fab := s.fab } = s

/-- Without an offset to slew, DTIME counts only by its clock. -/
def slewIdle : Prop :=
  ∀ (s : State), s.fab.slewing = false → runs .dtimeSlew s fun t => t = s

end Sys2Proof.Claims

/-- A hello brings a port up, a new or later record is stored and flooded, an old one is not; sighting turns quiet
once and node IDs are assigned. Binnacle or the host makes tables live with a new generation, and a bad entry refuses
the commit. A TIME exchange steps a lagging DTIME before a passage runs and otherwise slews it, and it never runs
back. (R301, R302, R303, R306, R309, R310, R311, R312, R326) -/
def Obligations.SightingRoutesAndTime : Prop :=
  Claims.helloUp ∧ Claims.helloLoop ∧ Claims.recordNew ∧ Claims.recordOld ∧ Claims.recordSent ∧ Claims.moduleDeparts ∧
    Claims.departsIdle ∧ Claims.sightingQuiet ∧ Claims.quietIdle ∧ Claims.routesComputed ∧ Claims.routesLeft ∧
    Claims.tablesCommitted ∧ Claims.commitRefused ∧ Claims.tableCopied ∧ Claims.routesUnserved ∧ Claims.timeTaken ∧
    Claims.timeRoot ∧ Claims.timeAsked ∧ Claims.slewStep ∧ Claims.slewIdle

/-! ### The twin link -/

namespace Sys2Proof.Claims

/-- A matching hello is greeted, and this module challenges the partner with a nonce of 48 bytes, its keys being there (Table 9-7
steps 2 to 4, R461). -/
def twinGreets : Prop :=
  ∀ (uid : W64) (variant fw : W16) (s : State), (s.port 16).state = 5 → s.flag Reg.TWN_CFG.ENABLE = true → uid ≠ 0 →
    uid ≠ s.part.uid → s.twin.paired = false → variant.toNat = s.part.variant.code → fw.toNat = s.get Reg.CAP_VERSION.FW_MAJOR →
    s.sec.attestKey.isSome = true → s.sec.challenge = [] → s.twin.partnerAuth = false → s.twin.asked = none → s.twin.state ≤ 3 →
    runs (.twin (.hello uid variant fw none true)) s fun t =>
      t.twin = { s.twin with
        state := 3
        partnerUid := uid
        greeted := true } ∧
      t.sec.challenge.length = 48 ∧ t.out = .twin false (.challenge t.sec.challenge) :: s.out ∧ t.evt = s.evt ∧
      t.sec = { s.sec with challenge := t.sec.challenge, drbg := s.sec.drbg + 1 } ∧
      { t with regs := s.regs, twin := s.twin, out := s.out, sec := s.sec, fresh := s.fresh } = s

/-- A part of another variant, other firmware, or a partner not enabled is refused with its cause, and the link is held DOWN (Table
9-7, R314). -/
def twinRefuses : Prop :=
  ∀ (uid : W64) (variant fw : W16) (enabled : Bool) (cause : Nat) (s : State), (s.port 16).state = 5 →
    s.flag Reg.TWN_CFG.ENABLE = true → uid ≠ 0 → uid ≠ s.part.uid → s.twin.paired = false → s.twin.state ≤ 3 →
    cause = (if enabled = false then 5 else if variant.toNat ≠ s.part.variant.code then 1 else 3) →
    (enabled = true → variant.toNat = s.part.variant.code → fw.toNat ≠ s.get Reg.CAP_VERSION.FW_MAJOR) →
    s.eventMasked 0x0907 = false → s.evt.queue.length < 4096 →
    runs (.twin (.hello uid variant fw none enabled)) s fun t =>
      t.get Reg.TWN_STATUS.FAIL_CAUSE = cause ∧ posted Ev.twinPairFailed [cause] s t ∧ t.twin.state = 10 ∧
      t.twin.greeted = false ∧ (t.port 16).state = 1 ∧ (t.port 16).loopback = true ∧ storesKept s t ∧ t.role = s.role

/-- The pair is made: PAIRED, a role by the lower UID, and TWIN_PAIRED (Table 9-7 steps 5 and 6). -/
abbrev nowPaired (s t : State) : Prop :=
  t.twin.paired = true ∧ t.twin.state = 4 ∧ t.get Reg.TWN_STATUS.STATE = 4 ∧ t.flag Reg.TWN_STATUS.PATH = false ∧
    t.get Reg.TWN_STATUS.ROLE = (if s.part.uid.toNat < s.twin.partnerUid.toNat then 0 else 1) ∧
    t.rd Reg.TWN_PARTNER_UID.UID.reg = s.twin.partnerUid ∧ posted Ev.twinPaired [] s t

/-- The partner's challenge is answered with the DeviceID chain and a signature over its nonce and both UIDs; the partner having proved
itself, the pair is made (R461). -/
def twinAnswers : Prop :=
  ∀ (nonce : List Byte) (s : State), nonce.length = 48 → s.twin.greeted = true → s.twin.authSent = false →
    s.twin.partnerAuth = true → s.sec.attestKey.isSome = true → s.twin.paired = false → s.twin.state ≤ 3 → s.isArmed = false →
    s.eventMasked 0x090D = false → s.evt.queue.length < 4096 →
    runs (.twin (.challenge nonce)) s fun t =>
      nowPaired s t ∧ storesKept s t ∧ t.role = s.role ∧ t.sec = s.sec ∧
      t.out.head? = some (.twin false (.answer s.part.certificate
        (ecdsaSign s.part.deviceKey (twinProof nonce s.part.uid s.twin.partnerUid))))

/-- The partner's answer is accepted when its chain verifies to the root, the DeviceID certificate carries the UID of the hello and the
signature verifies; the pair is made when this module has answered too. Any other answer is refused with cause 2 (R461). -/
def twinPairs : Prop :=
  ∀ (chain sig : List Byte) (s : State), s.twin.greeted = true → s.twin.authSent = true → s.twin.asked = none →
    s.twin.partnerAuth = false → s.sec.challenge ≠ [] → s.sec.attestKey.isSome = true → s.twin.paired = false → s.twin.state ≤ 3 →
    s.isArmed = false → s.eventMasked 0x090D = false → s.eventMasked 0x0907 = false → s.evt.queue.length < 4096 →
    runs (.twin (.answer chain sig)) s fun t =>
      (if Config.chainVerifies chain = true ∧ Config.chainUid chain = s.twin.partnerUid ∧
          ecdsaVerify (Config.chainKey chain) (twinProof s.sec.challenge s.twin.partnerUid s.part.uid) sig = true then nowPaired s t
        else t.get Reg.TWN_STATUS.FAIL_CAUSE = 2 ∧ posted Ev.twinPairFailed [2] s t ∧ t.twin.state = 10 ∧ t.twin.paired = false) ∧
      t.sec = { s.sec with challenge := [] } ∧ storesKept s t ∧ t.role = s.role

/-- Without a pair nothing but a hello or an answer is heard, nor either of those out of turn (R313, R314). -/
def twinUnpaired : Prop :=
  ∀ (m : TwinMsg) (s : State), s.twin.paired = false → s.twin.greeted = false → s.flag Reg.TWN_CFG.ENABLE = false →
    runs (.twin m) s fun t => t = s

/-- A heartbeat of an armed partner keeps its MIRROR_VALID as it is there (R318, R320). -/
def twinHeard : Prop :=
  ∀ (valid : Bool) (s : State), s.twin.paired = true → s.twin.state = 4 → s.role.carried = false →
    runs (.twin (.heartbeat valid true)) s fun t => t = { s with twin := { s.twin with partnerValid := valid } }

/-- A gradient tile of the partner's step record is kept for the mirror computation (R316). -/
def recordKept : Prop :=
  ∀ (step : W64) (tensor : W16) (tile : W32) (bs : List Byte) (s : State), s.twin.paired = true → s.twin.state = 5 ∨ s.twin.state = 6 →
    s.role.carried = false → s.twin.records = [] →
    runs (.twin (.recordTile step tensor tile bs)) s fun t =>
      t = { s with twin := { s.twin with records := [⟨step.toNat, [(tensor.toNat, tile.toNat, bs)], [], none, none⟩] } }

/-- Every 100 µs a heartbeat goes to the paired partner by the path in use (R320). -/
def heartbeatSent : Prop :=
  ∀ (s : State), s.twin.paired = true → s.twin.greeted = false →
    runs .twinHeartbeat s fun t => t = { s with
      out := .twin (s.flag Reg.TWN_STATUS.PATH) (.heartbeat (s.flag Reg.TWN_STATUS.MIRROR_VALID) s.isArmed) :: s.out }

/-- Without a partner no heartbeat goes out. -/
def heartbeatNone : Prop :=
  ∀ (s : State), s.twin.paired = false → s.twin.greeted = false → runs .twinHeartbeat s fun t => t = s

/-- What the loss of a partner without a step to settle leaves: SOLO, the partner's node kept, and TWIN_LOST posted. -/
abbrev wentSolo (s t : State) : Prop :=
  t.twin.state = 7 ∧ t.get Reg.TWN_STATUS.STATE = 7 ∧ t.twin.paired = false ∧ t.twin.lostNode = s.twin.partnerNode ∧
    t.twin.lostPending = false ∧ t.evt.queue.any (fun r => r.code == 0x0908) = true ∧ storesKept s t ∧ t.role.step = s.role.step

/-- Silence for 1 ms, or the announcement of a stop, loses the partner (R320, R321, R347). -/
def partnerLost : Prop :=
  ∀ (src : BitVec 14) (s : State), s.twin.paired = true → 4 ≤ s.twin.state → s.twin.state ≤ 6 → s.twin.partnerNode = some src.toNat →
    s.role.inStep = false → s.role.carried = false → s.role.quotas = [] → s.other = none → s.restore = none → s.twin.records = [] →
    s.get Reg.TWN_CFG.POLICY = 0 → s.eventMasked 0x0908 = false → s.evt.queue.length < 4096 →
    (runs .twinSilence s fun t => wentSolo s t) ∧ (runs (.mgmt src .stopping) s fun t => wentSolo s t) ∧
    (runs (.twin .stopping) s fun t => wentSolo s t)

/-- A module without a partner hears no silence (R320). -/
def silenceIdle : Prop :=
  ∀ (s : State), s.twin.paired = false → s.twin.state ≠ 9 → runs .twinSilence s fun t => t = s

/-- An acknowledgement of the closing part or of a whole record is kept for the commit (R316, R317). -/
def mirrorAcks : Prop :=
  ∀ (whole : Bool) (step : W64) (s : State), runs (.mirrorAck whole step) s fun t =>
    t = { s with twin := if whole then { s.twin with ackedRecord := some step.toNat }
      else { s.twin with ackedClosing := some step.toNat } }

/-- A mirror computation brings the mirror to the record's step and counts it; the module's own memory, knots and passage are not
touched (R316, R318). -/
def mirrorComputes : Prop :=
  ∀ (s : State) (r : TwinRecord) (st : MirrorState) (digest : W32) (c : Nat × Nat × Bool × List Nat),
    s.flag Reg.TWN_STATUS.MIRROR_VALID = true → s.nextRecord = some r → r.closing = some c → r.commit = some (st, digest) →
    c.2.2.1 = true → digest = 0 ∨ s.twin.state = 7 → s.twin.lostPending = false →
    runs .mirrorComputation s fun t =>
      t.get Reg.TWN_MIRROR.STEP = r.step % 2 ^ 64 ∧ t.twin.computed = some r.step ∧ t.twin.state = s.twin.state ∧
      t.twin.mirror.map (fun x => (x.1, x.2.1)) = s.twin.mirror.map (fun x => (x.1, x.2.1)) ∧
      t.get Reg.TWN_COUNT.RECORDS = satCount Reg.TWN_COUNT.RECORDS.width (s.get Reg.TWN_COUNT.RECORDS + 1) ∧
      t.flag Reg.TWN_STATUS.MIRROR_VALID = true ∧ { t with regs := s.regs, twin := s.twin } = s

/-- A digest that differs from the partner's: the mirror has diverged and has to be seeded again (R318). -/
def mirrorDiverges : Prop :=
  ∀ (s : State) (r : TwinRecord) (st : MirrorState) (digest : W32) (c : Nat × Nat × Bool × List Nat),
    s.flag Reg.TWN_STATUS.MIRROR_VALID = true → s.nextRecord = some r → r.closing = some c → r.commit = some (st, digest) →
    c.2.2.1 = true → digest ≠ 0 → s.twin.state = 6 → s.twin.lostPending = false → s.eventMasked 0x090F = false →
    s.evt.queue.length < 4096 →
    runs .mirrorComputation s fun t =>
      posted Ev.mirrorDiverged [] s t ∧ t.flag Reg.TWN_STATUS.MIRROR_VALID = false ∧ t.twin.state = 5 ∧ t.twin.mirror = [] ∧
      t.get Reg.TWN_COUNT.DIVERGED = satCount Reg.TWN_COUNT.DIVERGED.width (s.get Reg.TWN_COUNT.DIVERGED + 1) ∧
      { t with regs := s.regs, twin := s.twin, evt := s.evt } = s

/-- With a mirror that is not valid, or no record whole, nothing is computed (R316). -/
def mirrorIdle : Prop :=
  ∀ (s : State), s.flag Reg.TWN_STATUS.MIRROR_VALID = false ∨ s.nextRecord = none → s.twin.lostPending = false →
    runs .mirrorComputation s fun t => t = s

/-- A seed that is complete makes the mirror valid at its commit, and records up to it are freed (R319). -/
def seedCompletes : Prop :=
  ∀ (s : State) (n : Nat), s.twin.state = 5 → s.twin.seedStep = some n →
    runs .seedComplete s fun t =>
      t.twin = { s.twin with
        state := 6
        seedStep := none
        computed := some n
        records := s.twin.records.filter (fun r => decide (n < r.step)) } ∧
      t.flag Reg.TWN_STATUS.MIRROR_VALID = true ∧ t.get Reg.TWN_STATUS.STATE = 6 ∧ t.get Reg.TWN_MIRROR.STEP = n % 2 ^ 64 ∧
      { t with regs := s.regs, twin := s.twin } = s

/-- Without a seed under way there is nothing to complete. -/
def seedIdle : Prop :=
  ∀ (s : State), s.twin.seedStep = none ∨ s.twin.state ≠ 5 → runs .seedComplete s fun t => t = s

/-- A handover that ends at the survivor: the alias is gone, the mirror stays valid for the replacement, and TWIN_HANDOVER_DONE is
posted (Table 9-10, R323). -/
def handoverGiven : Prop :=
  ∀ (s : State), s.twin.state = 9 → s.role.carried = false → s.dev = .running → s.other = none → s.eventMasked 0x0910 = false →
    s.evt.queue.length < 4096 →
    runs (.handoverShipmentDone true) s fun t =>
      t.twin.state = 6 ∧ t.flag Reg.TWN_STATUS.MIRROR_VALID = true ∧ t.flag Reg.FAB_NODE.ALIAS_VALID = false ∧
      t.twin.lostNode = none ∧ t.twin.seedDue = true ∧ t.evt.queue.any (fun r => r.code == 0x0910) = true ∧
      t.role = s.role ∧ storesKept s t ∧ t.dev = .running

/-- At the replacement it takes the lost role: ARMED with the passage, the lost node ID, and the step after the mirror's (Table
9-10, R323). -/
def handoverTaken : Prop :=
  ∀ (s : State) (st : MirrorState) (s1 : State), s.twin.state = 9 → s.dev = .ready → s.role.passage = none →
    s.twin.partnerState = some st → s.placePartner s.partnerPassage false = some s1 → s1.dev = .ready →
    st.step.toNat < 2 ^ 64 - 1 →
    runs (.handoverShipmentDone true) s fun t =>
      t.dev = .armed ∧ t.role.passage = some s.partnerPassage ∧ t.role.step = st.step.toNat + 1 ∧
      t.role.attempt = st.attempt.toNat ∧ t.get Reg.CAP_RUN.LOADED = 1 ∧
      t.get Reg.FAB_NODE.NODE_ID = s.twin.lostNode.getD 0 % 16384 ∧ t.flag Reg.FAB_NODE.VALID = true ∧ t.twin.state = 5 ∧
      t.mem = s1.mem ∧ t.knots = s1.knots

/-- A shipment that fails puts the survivor back where it was, unpaired (Table 9-12). -/
def handoverFails : Prop :=
  ∀ (s : State), s.twin.state = 9 → s.eventMasked 0x0907 = false → s.evt.queue.length < 4096 →
    runs (.handoverShipmentDone false) s fun t =>
      t.twin.state = s.twin.handoverPrior ∧ t.twin.paired = false ∧ posted Ev.twinPairFailed [0] s t ∧ t.role = s.role ∧
      storesKept s t ∧ t.dev = s.dev

/-- Outside a handover its end means nothing. -/
def handoverIdle : Prop :=
  ∀ (ok : Bool) (s : State), s.twin.state ≠ 9 → runs (.handoverShipmentDone ok) s fun t => t = s

/-- The presence pin released: the link shows no partner, and one refused may be attached again (R314, R472). -/
def presenceGone : Prop :=
  ∀ (s : State), (s.port 16).state ≤ 1 → s.twin.state ≤ 3 ∨ s.twin.state = 10 →
    runs .twPresentRelease s fun t =>
      t.twin = { s.twin with
        state := 0
        present := false } ∧ t.port 16 = { s.port 16 with loopback := false } ∧ t.get Reg.TWN_STATUS.STATE = 0 ∧
      { t with regs := s.regs, twin := s.twin, fab := s.fab } = s

end Sys2Proof.Claims

/-- A matching hello is greeted and answered, a wrong one refused with its cause; a good answer pairs. Heartbeats go
out while paired; silence, or the announcement of a stop, puts the module in SOLO with TWIN_LOST. A handover ends with
the role at the replacement and a valid mirror at the survivor, or fails back. The presence pin's release shows no
partner. (R313, R314, R320, R321, R323, R347, R472) -/
def Obligations.TwinPairingAndLoss : Prop :=
  Claims.twinGreets ∧ Claims.twinRefuses ∧ Claims.twinAnswers ∧ Claims.twinPairs ∧ Claims.twinUnpaired ∧ Claims.heartbeatSent ∧ Claims.heartbeatNone ∧
    Claims.partnerLost ∧ Claims.silenceIdle ∧ Claims.handoverGiven ∧ Claims.handoverTaken ∧ Claims.handoverFails ∧
    Claims.handoverIdle ∧ Claims.presenceGone

/-- A step record's tiles and acknowledgements are kept; a computation brings the mirror to the record's step, counts
it, and leaves the module's own memory, knots and passage; a digest that differs drops the mirror and posts
MIRROR_DIVERGED; a complete seed makes it valid at its commit. (R316, R317, R318, R319, R320) -/
def Obligations.Mirror : Prop :=
  Claims.twinHeard ∧ Claims.recordKept ∧ Claims.mirrorAcks ∧ Claims.mirrorComputes ∧ Claims.mirrorDiverges ∧ Claims.mirrorIdle ∧
    Claims.seedCompletes ∧ Claims.seedIdle

/-! ### The carried role, the step's invariant and the number formats -/

namespace Sys2Proof.Claims

/-- What is said of every command that names a role, at any operands. -/
def everyRoleForm (P : (RoleSel → Instr) → Prop)
    (unit : UnitAddr) (msg : W64) (core : Fin 256) (leg : BitVec 20) (dma : Fin 2) (g : Bool) (tile : W32) (slot : Fin 16)
    (remote : List Byte) (tensor : W16) (collective : BitVec 12) (group : W16) (shipment : List (Addr × List Byte)) : Prop :=
  P (fun r => .stepStart r) ∧ P (fun r => .assignmentDone r) ∧ P (fun r => .tokenMessage r unit msg) ∧
    P (fun r => .creditMessage r unit msg) ∧ P (fun r => .stagingGrant r unit msg) ∧
    P (fun r => .verdictTokenRelease r unit msg) ∧ P (fun r => .forwardProduct r core) ∧
    P (fun r => .gEngineTileChoice r core) ∧ P (fun r => .vProgram r core) ∧ P (fun r => .vComposite r core) ∧
    P (fun r => .rowChunkCombine r leg) ∧ P (fun r => .copy r leg dma) ∧ P (fun r => .transposedCopy r leg dma) ∧
    P (fun r => .reBlockedCopy r leg dma) ∧ P (fun r => .partialFold r leg) ∧ P (fun r => .tileIssueEnd r core g) ∧
    P (fun r => .chunkResultArrival r leg tile) ∧ P (fun r => .tileConvert r leg tile) ∧ P (fun r => .tileCommit r leg tile) ∧
    P (fun r => .legFinish r leg) ∧ P (fun r => .pilotRequest r leg slot) ∧ P (fun r => .pilotReply r leg slot tile remote) ∧
    P (fun r => .soundingsPartial r tensor tile) ∧ P (fun r => .sightCheck r tensor tile) ∧
    P (fun r => .tileRepeat r tensor tile) ∧ P (fun r => .updatePass1 r leg tile) ∧ P (fun r => .updatePass2 r leg tile) ∧
    P (fun r => .paramEntryReread r) ∧ P (fun r => .contributionLeg r leg tile) ∧
    P (fun r => .reductionSpill r collective tile) ∧ P (fun r => .rendezvous r leg) ∧
    P (fun r => .rendezvousArrivalsComplete r collective) ∧ P (fun r => .collectiveStalled r collective) ∧
    P (fun r => .offloadShip r group) ∧ P (fun r => .offloadConfirm r group) ∧ P (fun r => .offloadFetch r group) ∧
    P (fun r => .offloadFetchDone r group shipment) ∧ P (fun r => .settlementComplete r)

/-- For a role that is carried, a command does what it does for the module's own role with the two roles exchanged (R322, log 53). -/
def carriedRuns : Prop :=
  ∀ (unit : UnitAddr) (msg : W64) (core : Fin 256) (leg : BitVec 20) (dma : Fin 2) (g : Bool) (tile : W32) (slot : Fin 16)
    (remote : List Byte) (tensor : W16) (collective : BitVec 12) (group : W16) (shipment : List (Addr × List Byte))
    (s : State), s.other.isSome = true →
    everyRoleForm (fun f => runs (f .own) s.swapRoles fun t => runs (f .carried) s fun u => u = t.swapRoles)
      unit msg core leg dma g tile slot remote tensor collective group shipment

/-- Without a role carried there is nothing for such a command to do. -/
def carriedAbsent : Prop :=
  ∀ (unit : UnitAddr) (msg : W64) (core : Fin 256) (leg : BitVec 20) (dma : Fin 2) (g : Bool) (tile : W32) (slot : Fin 16)
    (remote : List Byte) (tensor : W16) (collective : BitVec 12) (group : W16) (shipment : List (Addr × List Byte))
    (s : State), s.other = none →
    everyRoleForm (fun f => runs (f .carried) s fun t => t = s)
      unit msg core leg dma g tile slot remote tensor collective group shipment

/-- What every step keeps: memory and knots in canonical form, and the event queue within its 4,096 records (R257, R424, logs 3, 9). -/
abbrev Sound (s : State) : Prop :=
  Memory.wf s.mem = true ∧ sparseWf (fun _ => (0 : W64)) s.knots = true ∧ s.evt.queue.length ≤ 4096

/-- A step keeps the invariant, takes one command from the queue and leaves the part the part it is (R3). -/
def stepKeeps : Prop :=
  ∀ (s t : State), Sound s → step s = .next t →
    Sound t ∧ t.pending = s.pending.tail ∧ t.part.variant = s.part.variant ∧ t.part.uid = s.part.uid

/-- A command never brings a knot down, unless it is one that enters BOOT, where every knot reads 0 (R257). -/
def knotsRise : Prop :=
  ∀ (c : Instr) (s t : State), exec c s = .next t →
    (∀ k, (s.knot k).toNat ≤ (t.knot k).toNat) ∨ (t.dev = .boot ∧ ∀ k, t.knot k = 0)

/-- A tick of the clock changes no knot. -/
def tickKeepsKnots : Prop :=
  ∀ (s : State), s.tick.knots = s.knots

/-- Each of the 4,096 knots shows at its register, 64 bits wide. -/
def knotsShown : Prop :=
  ∀ (k : Fin 4096) (s : State), s.view (0x01408000 + 8 * k.val) = s.knot k.val

/-- A format code with the sign bit set has the negated magnitude of the code without it; all zeros of the sign bit alone is poison. -/
def signedTable (half : Nat) (mags : List Rat) (f : Fmt) : Prop :=
  ∀ c < half, decodeNum f c = .fin false (mags.getD c 0) ∧
    decodeNum f (half + c) = if c = 0 then .poison else .fin true (mags.getD c 0)

/-- Table 2-2: the sixteen code points of EQ4 (R57). -/
def eq4Codes : Prop :=
  (List.range 16).map (decodeNum .eq4) =
    [.fin false 0, .fin false (1 / 2), .fin false 1, .fin false (3 / 2), .fin false 2, .fin false 3, .fin false 4, .fin false 6,
      .poison, .fin true (1 / 2), .fin true 1, .fin true (3 / 2), .fin true 2, .fin true 3, .fin true 4, .fin true 6]

/-- Tables 2-3 and 2-4: the codes of EQ6a and EQ6b (R58). -/
def eq6Codes : Prop :=
  signedTable 32 [0, 1 / 16, 1 / 8, 3 / 16, 1 / 4, 5 / 16, 3 / 8, 7 / 16, 1 / 2, 5 / 8, 3 / 4, 7 / 8, 1, 5 / 4, 3 / 2, 7 / 4,
    2, 5 / 2, 3, 7 / 2, 4, 5, 6, 7, 8, 10, 12, 14, 16, 20, 24, 28] .eq6a ∧
  signedTable 32 [0, 1 / 8, 1 / 4, 3 / 8, 1 / 2, 5 / 8, 3 / 4, 7 / 8, 1, 9 / 8, 5 / 4, 11 / 8, 3 / 2, 13 / 8, 7 / 4, 15 / 8,
    2, 9 / 4, 5 / 2, 11 / 4, 3, 13 / 4, 7 / 2, 15 / 4, 4, 9 / 2, 5, 11 / 2, 6, 13 / 2, 7, 15 / 2] .eq6b

/-- The codes of EQ8a: f × 2^-9 for e = 0, (8 + f) × 2^(e − 10) above; 0x80 is poison, every other code finite, at most 480 (R59). -/
def eq8aCodes : Prop :=
  (∀ sign < 2, ∀ e < 16, ∀ f < 8, decodeNum .eq8a (128 * sign + 8 * e + f) =
    if e = 0 ∧ f = 0 ∧ sign = 1 then .poison
    else .fin (decide (sign = 1)) (if e = 0 then (f : Rat) / 512 else (8 + f : Rat) * 2 ^ e / 1024)) ∧
  decodeNum .eq8a 0x7F = .fin false 480 ∧ Fmt.largest .eq8a = 480

/-- The codes of EQ8b: both zeros, f × 2^-16 for e = 0, (4 + f) × 2^(e − 17) to e = 30, infinities, and the NaNs, which count as
poison, signalling at f = 1 (R60). -/
def eq8bCodes : Prop :=
  (∀ sign < 2, ∀ e < 31, ∀ f < 4, decodeNum .eq8b (128 * sign + 4 * e + f) =
    .fin (decide (sign = 1)) (if e = 0 then (f : Rat) / 65536 else (4 + f : Rat) * 2 ^ e / 131072)) ∧
  (∀ sign < 2, decodeNum .eq8b (128 * sign + 0x7C) = .inf (decide (sign = 1)) ∧
    decodeNum .eq8b (128 * sign + 0x7D) = .snan ∧ decodeNum .eq8b (128 * sign + 0x7E) = .poison ∧
    decodeNum .eq8b (128 * sign + 0x7F) = .poison) ∧
  decodeNum .eq8b 0x7B = .fin false 57344 ∧ decodeNum .eq8b 0xFB = .fin true 57344 ∧ Fmt.largest .eq8b = 57344 ∧
  Fmt.canonicalNan .eq8b = 0x7E ∧ Num.isNan .snan = true ∧ Num.isNan .poison = true

/-- The codes of EQS8: 0x00 an all-zero block, f × 2^-17 to 0x07, (8 + f) × 2^(e − 18) to 0xFE, 0xFF a poisoned block (R61). -/
def eqs8Codes : Prop :=
  (∀ e < 32, ∀ f < 8, 8 * e + f ≠ 0 → 8 * e + f ≠ 255 → scaleValue (8 * e + f) =
    if e = 0 then (f : Rat) / 131072 else (8 + f : Rat) * 2 ^ e / 262144) ∧
  scaleValue 8 = 1 / 16384 ∧ scaleValue 0xFE = 114688 ∧
  ∀ (code : Nat) (S : Rat), elementValue .eq4 code (some 0) 0 S = .fin false 0 ∧ elementValue .eq4 code (some 0xFF) 0 S = .poison

end Sys2Proof.Claims

/-- Each of the 38 commands that name a role answers a next state for the carried role too: that of the same command
for the own role with the two roles exchanged before and after; where no role is carried, the state as it was. That a
carried role is worked as the own one is the model's reading (log 53). (R322) -/
def Obligations.CarriedRoleForms : Prop :=
  Claims.carriedRuns ∧ Claims.carriedAbsent

/-- Every step from a state whose memory and knots are in canonical form and whose event queue holds at most 4,096
records answers a state that has all three, has taken exactly the front command from the queue, and has left the
part's variant and UID. (R3, R257, R424) -/
def Obligations.EveryStepKeepsTheInvariant : Prop :=
  Claims.stepKeeps

/-- The state after reset has its memory and knots in canonical form and an event queue within its bound. That memory
lists nothing at reset is the model's choice (log 9). (R21, R257, R424) -/
def Obligations.ResetMeetsTheInvariant : Prop :=
  Claims.Sound State.reset

/-- A knot reads 0 on entry to BOOT, and no command brings a knot down while the device stays out of BOOT, nor does a
tick; each of the 4,096 knots shows at its register, 64 bits wide. What an advance that would wrap leaves is a free
value no lower than before (log 2). (R257; "Its value never decreases, and nothing resets it while the device stays
out of BOOT.") -/
def Obligations.KnotsNeverDecrease : Prop :=
  Claims.knotsRise ∧ Claims.tickKeepsKnots ∧ Claims.knotsShown ∧ ∀ k, State.reset.knot k = 0

/-- Every code of EQ4, EQ6a, EQ6b, EQ8a and EQ8b decodes to its table's or formula's value, poison, infinity or NaN;
every EQS8 code to its scale, 0x00 to an all-zero block and 0xFF to a poisoned one. (R57, R58, R59, R60, R61; "EQ4 has
the sixteen code points of Table 2-2. It has no infinity and no negative zero.") -/
def Obligations.CodePoints : Prop :=
  Claims.eq4Codes ∧ Claims.eq6Codes ∧ Claims.eq8aCodes ∧ Claims.eq8bCodes ∧ Claims.eqs8Codes
end

