-- ==== Sys2Proof/Laws/Sparse.lean ====
section
/-! SUPPORT. Laws of the sparse stores: a read after a write to the same key gives the value written, a write leaves
every other key alone, and every operation keeps the canonical form. -/

namespace Sys2Proof.Machine

variable {α : Type}

theorem sparseGet_drop_other (d : α) {k j : Nat} (h : j ≠ k) (m : List (Nat × α)) :
    sparseGet d j (sparseDrop k m) = sparseGet d j m := by
  induction m with
  | nil => rfl
  | cons c m ih =>
    obtain ⟨a, x⟩ := c
    unfold sparseDrop at ih ⊢
    by_cases ha : a = k
    · subst ha
      have hj : ¬a = j := fun e => h e.symm
      simp [sparseGet, hj, ih]
    · simp [sparseGet, ha, ih]

theorem sparseGet_drop_same (d : α) (k : Nat) (m : List (Nat × α)) : sparseGet d k (sparseDrop k m) = d := by
  induction m with
  | nil => rfl
  | cons c m ih =>
    obtain ⟨a, x⟩ := c
    unfold sparseDrop at ih ⊢
    by_cases ha : a = k <;> simp [sparseGet, ha, ih]

/-- A read after a write to the same key. -/
@[simp] theorem sparseGet_put_same [DecidableEq α] (d : α) (k : Nat) (v : α) (m : List (Nat × α)) :
    sparseGet d k (sparsePut d k v m) = v := by
  induction m with
  | nil => by_cases h : v = d <;> simp [sparsePut, sparseGet, h]
  | cons c m ih =>
    obtain ⟨a, x⟩ := c
    unfold sparsePut
    split
    · split
      · next hv => rw [sparseGet_drop_same, hv]
      · simp [sparseGet]
    · split
      · split
        · next hv => rw [sparseGet_drop_same, hv]
        · simp [sparseGet]
      · next h => simp [sparseGet, Ne.symm h, ih]

/-- A write leaves every other key alone. -/
theorem sparseGet_put_other [DecidableEq α] (d : α) {k j : Nat} (h : j ≠ k) (v : α) (e : α) (m : List (Nat × α)) :
    sparseGet e j (sparsePut d k v m) = sparseGet e j m := by
  have hk : ¬k = j := fun e => h e.symm
  induction m with
  | nil => by_cases hv : v = d <;> simp [sparsePut, sparseGet, hv, hk]
  | cons c m ih =>
    obtain ⟨a, x⟩ := c
    unfold sparsePut
    split
    · split
      · exact sparseGet_drop_other e h _
      · simp [sparseGet, hk]
    · split
      · next hka =>
        subst hka
        split
        · rw [sparseGet_drop_other e h]; simp [sparseGet, hk]
        · simp [sparseGet, hk]
      · simp [sparseGet, ih]

theorem sparseRising_mono {n k : Nat} (h : n ≤ k) (m : List (Nat × α)) (hm : sparseRising k m = true) :
    sparseRising n m = true := by
  cases m with
  | nil => rfl
  | cons c m => simp only [sparseRising, Bool.and_eq_true, decide_eq_true_eq] at hm ⊢; exact ⟨by omega, hm.2⟩

theorem sparseRising_filter (p : Nat × α → Bool) (n : Nat) (m : List (Nat × α)) (hm : sparseRising n m = true) :
    sparseRising n (m.filter p) = true := by
  induction m generalizing n with
  | nil => rfl
  | cons c m ih =>
    obtain ⟨a, x⟩ := c
    simp only [sparseRising, Bool.and_eq_true, decide_eq_true_eq] at hm
    rw [List.filter_cons]
    split
    · simp only [sparseRising, Bool.and_eq_true, decide_eq_true_eq]; exact ⟨hm.1, ih a hm.2⟩
    · exact ih n (sparseRising_mono (Nat.le_of_lt hm.1) m hm.2)

theorem sparseRising_put [DecidableEq α] (d : α) (k : Nat) (v : α) (n : Nat) (h : n < k) (m : List (Nat × α))
    (hm : sparseRising n m = true) : sparseRising n (sparsePut d k v m) = true := by
  induction m generalizing n with
  | nil => by_cases hv : v = d <;> simp [sparsePut, sparseRising, hv, h]
  | cons c m ih =>
    obtain ⟨a, x⟩ := c
    have hm' := hm
    simp only [sparseRising, Bool.and_eq_true, decide_eq_true_eq] at hm
    unfold sparsePut
    split
    · next hka =>
      split
      · exact sparseRising_filter _ n _ hm'
      · simp [sparseRising, h, hka, hm.2]
    · split
      · next hka =>
        subst hka
        split
        · exact sparseRising_filter _ n _ (sparseRising_mono (Nat.le_of_lt hm.1) m hm.2)
        · simp [sparseRising, h, hm.2]
      · simp only [sparseRising, Bool.and_eq_true, decide_eq_true_eq]
        exact ⟨hm.1, ih a (by omega) hm.2⟩

/-- Filtering keeps the canonical form. -/
theorem sparseWf_filter [DecidableEq α] (f : Nat → α) (p : Nat × α → Bool) (m : List (Nat × α))
    (hm : sparseWf f m = true) : sparseWf f (m.filter p) = true := by
  induction m with
  | nil => rfl
  | cons c m ih =>
    obtain ⟨a, x⟩ := c
    simp only [sparseWf, Bool.and_eq_true, decide_eq_true_eq] at hm
    rw [List.filter_cons]
    split
    · simp only [sparseWf, Bool.and_eq_true, decide_eq_true_eq]
      exact ⟨⟨hm.1.1, sparseRising_filter p a m hm.1.2⟩, ih hm.2⟩
    · exact ih hm.2

/-- A write keeps the canonical form. -/
theorem sparseWf_put [DecidableEq α] (f : Nat → α) (k : Nat) (v : α) (m : List (Nat × α))
    (hm : sparseWf f m = true) : sparseWf f (sparsePut (f k) k v m) = true := by
  induction m with
  | nil => by_cases hv : v = f k <;> simp [sparsePut, sparseWf, sparseRising, hv]
  | cons c m ih =>
    obtain ⟨a, x⟩ := c
    have hm' := hm
    simp only [sparseWf, Bool.and_eq_true, decide_eq_true_eq] at hm
    unfold sparsePut
    split
    · next hka =>
      split
      · exact sparseWf_filter f _ _ hm'
      · next hv =>
        simp only [sparseWf, sparseRising, Bool.and_eq_true, decide_eq_true_eq]
        exact ⟨⟨hv, hka, hm.1.2⟩, hm⟩
    · split
      · next hka =>
        subst hka
        split
        · exact sparseWf_filter f _ _ hm.2
        · next hv =>
          simp only [sparseWf, Bool.and_eq_true, decide_eq_true_eq]
          exact ⟨⟨hv, hm.1.2⟩, hm.2⟩
      · simp only [sparseWf, Bool.and_eq_true, decide_eq_true_eq]
        exact ⟨⟨hm.1.1, sparseRising_put (f k) k v a (by omega) m hm.1.2⟩, ih hm.2⟩

end Sys2Proof.Machine
end

