-- ==== Sys2Proof/Laws/Registers.lean ====
section
/-! SUPPORT. Laws of register values and of the register file: a field reads what was last set in it, and setting a
field leaves every other field, of the same register or of another, as it was (R16). -/

namespace Sys2Proof.Machine

/-- Two fields share no bit. -/
def Field.apart (f g : Field) : Bool := decide (f.reg ≠ g.reg) || decide (f.hi < g.lo) || decide (g.hi < f.lo)

/-- A field lies within its register. -/
def Field.sound (f : Field) : Bool := decide (f.lo ≤ f.hi) && decide (f.hi < 64)

theorem fieldMask_getLsbD (hi lo i : Nat) (hh : hi < 64) (hl : lo ≤ hi) :
    (fieldMask hi lo).getLsbD i = (decide (lo ≤ i) && decide (i ≤ hi)) := by
  unfold fieldMask
  rw [BitVec.getLsbD_ofNat, ← Nat.shiftLeft_eq, Nat.testBit_shiftLeft, Nat.testBit_two_pow_sub_one]
  by_cases h1 : lo ≤ i <;> by_cases h2 : i ≤ hi <;> simp [h1, h2] <;> omega

theorem extractBits_testBit (w : W64) (hi lo i : Nat) :
    (extractBits w hi lo).testBit i = (decide (i < hi + 1 - lo) && w.getLsbD (i + lo)) := by
  unfold extractBits
  rw [Nat.testBit_mod_two_pow, ← Nat.shiftRight_eq_div_pow, Nat.testBit_shiftRight, BitVec.getLsbD,
    Nat.add_comm lo i]

theorem insertBits_getLsbD (w : W64) (hi lo v i : Nat) (hh : hi < 64) (hl : lo ≤ hi) :
    (insertBits w hi lo v).getLsbD i =
      if lo ≤ i ∧ i ≤ hi then v.testBit (i - lo) else w.getLsbD i := by
  unfold insertBits
  rw [BitVec.getLsbD_or, BitVec.getLsbD_and, BitVec.getLsbD_not, fieldMask_getLsbD hi lo i hh hl, BitVec.getLsbD_ofNat,
    ← Nat.shiftLeft_eq, Nat.testBit_shiftLeft, Nat.testBit_mod_two_pow]
  by_cases h1 : lo ≤ i <;> by_cases h2 : i ≤ hi <;> by_cases h3 : i < 64
  all_goals (simp [h1, h2, h3] <;> try omega)
  exact BitVec.getLsbD_of_ge w i (by omega)

theorem extract_insert_same (w : W64) (hi lo v : Nat) (hh : hi < 64) (hl : lo ≤ hi) :
    extractBits (insertBits w hi lo v) hi lo = v % 2 ^ (hi + 1 - lo) := by
  apply Nat.eq_of_testBit_eq
  intro i
  rw [extractBits_testBit, insertBits_getLsbD w hi lo v _ hh hl, Nat.testBit_mod_two_pow]
  by_cases h : i < hi + 1 - lo
  · have h2 : lo ≤ i + lo ∧ i + lo ≤ hi := by omega
    simp [h, h2]
  · simp [h]

theorem extract_insert_apart (w : W64) (hi lo hi' lo' v : Nat) (hh : hi < 64) (hl : lo ≤ hi)
    (ha : hi < lo' ∨ hi' < lo) : extractBits (insertBits w hi lo v) hi' lo' = extractBits w hi' lo' := by
  apply Nat.eq_of_testBit_eq
  intro i
  rw [extractBits_testBit, extractBits_testBit, insertBits_getLsbD w hi lo v _ hh hl]
  by_cases h : i < hi' + 1 - lo'
  · have h2 : ¬(lo ≤ i + lo' ∧ i + lo' ≤ hi) := by omega
    rw [if_neg h2]
  · simp [h]

/-! ### The register file -/

@[simp] theorem State.rd_wr_same (s : State) (k : Nat) (v : W64) : (s.wr k v).rd k = v := by
  simp [State.rd, State.wr]

theorem State.rd_wr_other (s : State) (k j : Nat) (v : W64) (h : j ≠ k) : (s.wr k v).rd j = s.rd j := by
  simp [State.rd, State.wr, sparseGet_put_other _ h]

/-- A field reads what was set in it, as far as it is wide. -/
theorem State.get_set_same (s : State) (f : Field) (v : Nat) (hf : f.sound = true) :
    (s.set f v).get f = v % 2 ^ f.width := by
  simp only [Field.sound, Bool.and_eq_true, decide_eq_true_eq] at hf
  simp [State.get, State.set, Field.width, extract_insert_same _ _ _ _ hf.2 hf.1]

/-- Setting a field leaves every field apart from it as it was. -/
theorem State.get_set_apart (s : State) (f g : Field) (v : Nat) (hf : f.sound = true) (h : f.apart g = true) :
    (s.set f v).get g = s.get g := by
  simp only [Field.sound, Field.apart, Bool.or_eq_true, Bool.and_eq_true, decide_eq_true_eq] at hf h
  unfold State.get State.set
  by_cases hr : g.reg = f.reg
  · rw [hr, State.rd_wr_same, extract_insert_apart _ _ _ _ _ _ hf.2 hf.1 (by omega)]
  · rw [State.rd_wr_other _ _ _ _ hr]

/-- Setting a field leaves every other register as it was. -/
theorem State.rd_set_other (s : State) (f : Field) (v j : Nat) (h : j ≠ f.reg) : (s.set f v).rd j = s.rd j :=
  State.rd_wr_other s f.reg j _ h

/-- A one-bit field reads the flag set in it. -/
theorem State.flag_setFlag_same (s : State) (f : Field) (b : Bool) (hf : f.sound = true) :
    (s.setFlag f b).flag f = b := by
  have hp : 1 < 2 ^ f.width := Nat.one_lt_two_pow (by
    simp only [Field.sound, Bool.and_eq_true, decide_eq_true_eq] at hf; unfold Field.width; omega)
  unfold State.flag State.setFlag
  rw [State.get_set_same _ _ _ hf]
  cases b <;> simp [Nat.mod_eq_of_lt hp]

theorem State.flag_set_apart (s : State) (f g : Field) (v : Nat) (hf : f.sound = true) (h : f.apart g = true) :
    (s.set f v).flag g = s.flag g := by unfold State.flag; rw [State.get_set_apart s f g v hf h]

/-- A field never holds more than its width. -/
theorem State.get_lt (s : State) (f : Field) : s.get f < 2 ^ f.width := Nat.mod_lt _ (Nat.two_pow_pos _)

end Sys2Proof.Machine
end

