-- ==== Sys2Proof/Laws/State.lean ====
section
/-! SUPPORT. What each shared operation of Ops leaves alone: one equation that says it whole, and one simp lemma for each
field of State. -/

namespace Sys2Proof.Machine

variable (s : State)

/-! ### State.wr -/

/-- Nothing but regs changes. -/
theorem State.wr_frame (k : Nat) (v : W64) :
    { s.wr k v with regs := s.regs } = s := by
  rfl

@[simp] theorem State.wr_pending (k : Nat) (v : W64) : (s.wr k v).pending = s.pending := rfl
@[simp] theorem State.wr_part (k : Nat) (v : W64) : (s.wr k v).part = s.part := rfl
@[simp] theorem State.wr_dev (k : Nat) (v : W64) : (s.wr k v).dev = s.dev := rfl
@[simp] theorem State.wr_dtime (k : Nat) (v : W64) : (s.wr k v).dtime = s.dtime := rfl
@[simp] theorem State.wr_knots (k : Nat) (v : W64) : (s.wr k v).knots = s.knots := rfl
@[simp] theorem State.wr_mem (k : Nat) (v : W64) : (s.wr k v).mem = s.mem := rfl
@[simp] theorem State.wr_badLines (k : Nat) (v : W64) : (s.wr k v).badLines = s.badLines := rfl
@[simp] theorem State.wr_cache (k : Nat) (v : W64) : (s.wr k v).cache = s.cache := rfl
@[simp] theorem State.wr_flights (k : Nat) (v : W64) : (s.wr k v).flights = s.flights := rfl
@[simp] theorem State.wr_fresh (k : Nat) (v : W64) : (s.wr k v).fresh = s.fresh := rfl
@[simp] theorem State.wr_out (k : Nat) (v : W64) : (s.wr k v).out = s.out := rfl
@[simp] theorem State.wr_hostShadow (k : Nat) (v : W64) : (s.wr k v).hostShadow = s.hostShadow := rfl
@[simp] theorem State.wr_binnacleShadow (k : Nat) (v : W64) : (s.wr k v).binnacleShadow = s.binnacleShadow := rfl
@[simp] theorem State.wr_evt (k : Nat) (v : W64) : (s.wr k v).evt = s.evt := rfl
@[simp] theorem State.wr_mbx (k : Nat) (v : W64) : (s.wr k v).mbx = s.mbx := rfl
@[simp] theorem State.wr_rotation (k : Nat) (v : W64) : (s.wr k v).rotation = s.rotation := rfl
@[simp] theorem State.wr_pcie (k : Nat) (v : W64) : (s.wr k v).pcie = s.pcie := rfl
@[simp] theorem State.wr_mram (k : Nat) (v : W64) : (s.wr k v).mram = s.mram := rfl
@[simp] theorem State.wr_mramJob (k : Nat) (v : W64) : (s.wr k v).mramJob = s.mramJob := rfl
@[simp] theorem State.wr_hold (k : Nat) (v : W64) : (s.wr k v).hold = s.hold := rfl
@[simp] theorem State.wr_boot (k : Nat) (v : W64) : (s.wr k v).boot = s.boot := rfl
@[simp] theorem State.wr_i3c (k : Nat) (v : W64) : (s.wr k v).i3c = s.i3c := rfl
@[simp] theorem State.wr_pwr (k : Nat) (v : W64) : (s.wr k v).pwr = s.pwr := rfl
@[simp] theorem State.wr_helm (k : Nat) (v : W64) : (s.wr k v).helm = s.helm := rfl
@[simp] theorem State.wr_rel (k : Nat) (v : W64) : (s.wr k v).rel = s.rel := rfl
@[simp] theorem State.wr_bist (k : Nat) (v : W64) : (s.wr k v).bist = s.bist := rfl
@[simp] theorem State.wr_sec (k : Nat) (v : W64) : (s.wr k v).sec = s.sec := rfl
@[simp] theorem State.wr_tap (k : Nat) (v : W64) : (s.wr k v).tap = s.tap := rfl
@[simp] theorem State.wr_frw (k : Nat) (v : W64) : (s.wr k v).frw = s.frw := rfl
@[simp] theorem State.wr_role (k : Nat) (v : W64) : (s.wr k v).role = s.role := rfl
@[simp] theorem State.wr_other (k : Nat) (v : W64) : (s.wr k v).other = s.other := rfl
@[simp] theorem State.wr_chart (k : Nat) (v : W64) : (s.wr k v).chart = s.chart := rfl
@[simp] theorem State.wr_load (k : Nat) (v : W64) : (s.wr k v).load = s.load := rfl
@[simp] theorem State.wr_oldHistory (k : Nat) (v : W64) : (s.wr k v).oldHistory = s.oldHistory := rfl
@[simp] theorem State.wr_snap (k : Nat) (v : W64) : (s.wr k v).snap = s.snap := rfl
@[simp] theorem State.wr_restore (k : Nat) (v : W64) : (s.wr k v).restore = s.restore := rfl
@[simp] theorem State.wr_fab (k : Nat) (v : W64) : (s.wr k v).fab = s.fab := rfl
@[simp] theorem State.wr_twin (k : Nat) (v : W64) : (s.wr k v).twin = s.twin := rfl

/-! ### State.set -/

/-- Nothing but regs changes. -/
theorem State.set_frame (f : Field) (v : Nat) :
    { s.set f v with regs := s.regs } = s := by
  rfl

@[simp] theorem State.set_pending (f : Field) (v : Nat) : (s.set f v).pending = s.pending := rfl
@[simp] theorem State.set_part (f : Field) (v : Nat) : (s.set f v).part = s.part := rfl
@[simp] theorem State.set_dev (f : Field) (v : Nat) : (s.set f v).dev = s.dev := rfl
@[simp] theorem State.set_dtime (f : Field) (v : Nat) : (s.set f v).dtime = s.dtime := rfl
@[simp] theorem State.set_knots (f : Field) (v : Nat) : (s.set f v).knots = s.knots := rfl
@[simp] theorem State.set_mem (f : Field) (v : Nat) : (s.set f v).mem = s.mem := rfl
@[simp] theorem State.set_badLines (f : Field) (v : Nat) : (s.set f v).badLines = s.badLines := rfl
@[simp] theorem State.set_cache (f : Field) (v : Nat) : (s.set f v).cache = s.cache := rfl
@[simp] theorem State.set_flights (f : Field) (v : Nat) : (s.set f v).flights = s.flights := rfl
@[simp] theorem State.set_fresh (f : Field) (v : Nat) : (s.set f v).fresh = s.fresh := rfl
@[simp] theorem State.set_out (f : Field) (v : Nat) : (s.set f v).out = s.out := rfl
@[simp] theorem State.set_hostShadow (f : Field) (v : Nat) : (s.set f v).hostShadow = s.hostShadow := rfl
@[simp] theorem State.set_binnacleShadow (f : Field) (v : Nat) : (s.set f v).binnacleShadow = s.binnacleShadow := rfl
@[simp] theorem State.set_evt (f : Field) (v : Nat) : (s.set f v).evt = s.evt := rfl
@[simp] theorem State.set_mbx (f : Field) (v : Nat) : (s.set f v).mbx = s.mbx := rfl
@[simp] theorem State.set_rotation (f : Field) (v : Nat) : (s.set f v).rotation = s.rotation := rfl
@[simp] theorem State.set_pcie (f : Field) (v : Nat) : (s.set f v).pcie = s.pcie := rfl
@[simp] theorem State.set_mram (f : Field) (v : Nat) : (s.set f v).mram = s.mram := rfl
@[simp] theorem State.set_mramJob (f : Field) (v : Nat) : (s.set f v).mramJob = s.mramJob := rfl
@[simp] theorem State.set_hold (f : Field) (v : Nat) : (s.set f v).hold = s.hold := rfl
@[simp] theorem State.set_boot (f : Field) (v : Nat) : (s.set f v).boot = s.boot := rfl
@[simp] theorem State.set_i3c (f : Field) (v : Nat) : (s.set f v).i3c = s.i3c := rfl
@[simp] theorem State.set_pwr (f : Field) (v : Nat) : (s.set f v).pwr = s.pwr := rfl
@[simp] theorem State.set_helm (f : Field) (v : Nat) : (s.set f v).helm = s.helm := rfl
@[simp] theorem State.set_rel (f : Field) (v : Nat) : (s.set f v).rel = s.rel := rfl
@[simp] theorem State.set_bist (f : Field) (v : Nat) : (s.set f v).bist = s.bist := rfl
@[simp] theorem State.set_sec (f : Field) (v : Nat) : (s.set f v).sec = s.sec := rfl
@[simp] theorem State.set_tap (f : Field) (v : Nat) : (s.set f v).tap = s.tap := rfl
@[simp] theorem State.set_frw (f : Field) (v : Nat) : (s.set f v).frw = s.frw := rfl
@[simp] theorem State.set_role (f : Field) (v : Nat) : (s.set f v).role = s.role := rfl
@[simp] theorem State.set_other (f : Field) (v : Nat) : (s.set f v).other = s.other := rfl
@[simp] theorem State.set_chart (f : Field) (v : Nat) : (s.set f v).chart = s.chart := rfl
@[simp] theorem State.set_load (f : Field) (v : Nat) : (s.set f v).load = s.load := rfl
@[simp] theorem State.set_oldHistory (f : Field) (v : Nat) : (s.set f v).oldHistory = s.oldHistory := rfl
@[simp] theorem State.set_snap (f : Field) (v : Nat) : (s.set f v).snap = s.snap := rfl
@[simp] theorem State.set_restore (f : Field) (v : Nat) : (s.set f v).restore = s.restore := rfl
@[simp] theorem State.set_fab (f : Field) (v : Nat) : (s.set f v).fab = s.fab := rfl
@[simp] theorem State.set_twin (f : Field) (v : Nat) : (s.set f v).twin = s.twin := rfl

/-! ### State.setFlag -/

/-- Nothing but regs changes. -/
theorem State.setFlag_frame (f : Field) (b : Bool) :
    { s.setFlag f b with regs := s.regs } = s := by
  rfl

@[simp] theorem State.setFlag_pending (f : Field) (b : Bool) : (s.setFlag f b).pending = s.pending := rfl
@[simp] theorem State.setFlag_part (f : Field) (b : Bool) : (s.setFlag f b).part = s.part := rfl
@[simp] theorem State.setFlag_dev (f : Field) (b : Bool) : (s.setFlag f b).dev = s.dev := rfl
@[simp] theorem State.setFlag_dtime (f : Field) (b : Bool) : (s.setFlag f b).dtime = s.dtime := rfl
@[simp] theorem State.setFlag_knots (f : Field) (b : Bool) : (s.setFlag f b).knots = s.knots := rfl
@[simp] theorem State.setFlag_mem (f : Field) (b : Bool) : (s.setFlag f b).mem = s.mem := rfl
@[simp] theorem State.setFlag_badLines (f : Field) (b : Bool) : (s.setFlag f b).badLines = s.badLines := rfl
@[simp] theorem State.setFlag_cache (f : Field) (b : Bool) : (s.setFlag f b).cache = s.cache := rfl
@[simp] theorem State.setFlag_flights (f : Field) (b : Bool) : (s.setFlag f b).flights = s.flights := rfl
@[simp] theorem State.setFlag_fresh (f : Field) (b : Bool) : (s.setFlag f b).fresh = s.fresh := rfl
@[simp] theorem State.setFlag_out (f : Field) (b : Bool) : (s.setFlag f b).out = s.out := rfl
@[simp] theorem State.setFlag_hostShadow (f : Field) (b : Bool) : (s.setFlag f b).hostShadow = s.hostShadow := rfl
@[simp] theorem State.setFlag_binnacleShadow (f : Field) (b : Bool) : (s.setFlag f b).binnacleShadow = s.binnacleShadow := rfl
@[simp] theorem State.setFlag_evt (f : Field) (b : Bool) : (s.setFlag f b).evt = s.evt := rfl
@[simp] theorem State.setFlag_mbx (f : Field) (b : Bool) : (s.setFlag f b).mbx = s.mbx := rfl
@[simp] theorem State.setFlag_rotation (f : Field) (b : Bool) : (s.setFlag f b).rotation = s.rotation := rfl
@[simp] theorem State.setFlag_pcie (f : Field) (b : Bool) : (s.setFlag f b).pcie = s.pcie := rfl
@[simp] theorem State.setFlag_mram (f : Field) (b : Bool) : (s.setFlag f b).mram = s.mram := rfl
@[simp] theorem State.setFlag_mramJob (f : Field) (b : Bool) : (s.setFlag f b).mramJob = s.mramJob := rfl
@[simp] theorem State.setFlag_hold (f : Field) (b : Bool) : (s.setFlag f b).hold = s.hold := rfl
@[simp] theorem State.setFlag_boot (f : Field) (b : Bool) : (s.setFlag f b).boot = s.boot := rfl
@[simp] theorem State.setFlag_i3c (f : Field) (b : Bool) : (s.setFlag f b).i3c = s.i3c := rfl
@[simp] theorem State.setFlag_pwr (f : Field) (b : Bool) : (s.setFlag f b).pwr = s.pwr := rfl
@[simp] theorem State.setFlag_helm (f : Field) (b : Bool) : (s.setFlag f b).helm = s.helm := rfl
@[simp] theorem State.setFlag_rel (f : Field) (b : Bool) : (s.setFlag f b).rel = s.rel := rfl
@[simp] theorem State.setFlag_bist (f : Field) (b : Bool) : (s.setFlag f b).bist = s.bist := rfl
@[simp] theorem State.setFlag_sec (f : Field) (b : Bool) : (s.setFlag f b).sec = s.sec := rfl
@[simp] theorem State.setFlag_tap (f : Field) (b : Bool) : (s.setFlag f b).tap = s.tap := rfl
@[simp] theorem State.setFlag_frw (f : Field) (b : Bool) : (s.setFlag f b).frw = s.frw := rfl
@[simp] theorem State.setFlag_role (f : Field) (b : Bool) : (s.setFlag f b).role = s.role := rfl
@[simp] theorem State.setFlag_other (f : Field) (b : Bool) : (s.setFlag f b).other = s.other := rfl
@[simp] theorem State.setFlag_chart (f : Field) (b : Bool) : (s.setFlag f b).chart = s.chart := rfl
@[simp] theorem State.setFlag_load (f : Field) (b : Bool) : (s.setFlag f b).load = s.load := rfl
@[simp] theorem State.setFlag_oldHistory (f : Field) (b : Bool) : (s.setFlag f b).oldHistory = s.oldHistory := rfl
@[simp] theorem State.setFlag_snap (f : Field) (b : Bool) : (s.setFlag f b).snap = s.snap := rfl
@[simp] theorem State.setFlag_restore (f : Field) (b : Bool) : (s.setFlag f b).restore = s.restore := rfl
@[simp] theorem State.setFlag_fab (f : Field) (b : Bool) : (s.setFlag f b).fab = s.fab := rfl
@[simp] theorem State.setFlag_twin (f : Field) (b : Bool) : (s.setFlag f b).twin = s.twin := rfl

/-! ### State.bump -/

/-- Nothing but regs changes. -/
theorem State.bump_frame (f : Field) (n : Nat) :
    { s.bump f n with regs := s.regs } = s := by
  rfl

@[simp] theorem State.bump_pending (f : Field) (n : Nat) : (s.bump f n).pending = s.pending := rfl
@[simp] theorem State.bump_part (f : Field) (n : Nat) : (s.bump f n).part = s.part := rfl
@[simp] theorem State.bump_dev (f : Field) (n : Nat) : (s.bump f n).dev = s.dev := rfl
@[simp] theorem State.bump_dtime (f : Field) (n : Nat) : (s.bump f n).dtime = s.dtime := rfl
@[simp] theorem State.bump_knots (f : Field) (n : Nat) : (s.bump f n).knots = s.knots := rfl
@[simp] theorem State.bump_mem (f : Field) (n : Nat) : (s.bump f n).mem = s.mem := rfl
@[simp] theorem State.bump_badLines (f : Field) (n : Nat) : (s.bump f n).badLines = s.badLines := rfl
@[simp] theorem State.bump_cache (f : Field) (n : Nat) : (s.bump f n).cache = s.cache := rfl
@[simp] theorem State.bump_flights (f : Field) (n : Nat) : (s.bump f n).flights = s.flights := rfl
@[simp] theorem State.bump_fresh (f : Field) (n : Nat) : (s.bump f n).fresh = s.fresh := rfl
@[simp] theorem State.bump_out (f : Field) (n : Nat) : (s.bump f n).out = s.out := rfl
@[simp] theorem State.bump_hostShadow (f : Field) (n : Nat) : (s.bump f n).hostShadow = s.hostShadow := rfl
@[simp] theorem State.bump_binnacleShadow (f : Field) (n : Nat) : (s.bump f n).binnacleShadow = s.binnacleShadow := rfl
@[simp] theorem State.bump_evt (f : Field) (n : Nat) : (s.bump f n).evt = s.evt := rfl
@[simp] theorem State.bump_mbx (f : Field) (n : Nat) : (s.bump f n).mbx = s.mbx := rfl
@[simp] theorem State.bump_rotation (f : Field) (n : Nat) : (s.bump f n).rotation = s.rotation := rfl
@[simp] theorem State.bump_pcie (f : Field) (n : Nat) : (s.bump f n).pcie = s.pcie := rfl
@[simp] theorem State.bump_mram (f : Field) (n : Nat) : (s.bump f n).mram = s.mram := rfl
@[simp] theorem State.bump_mramJob (f : Field) (n : Nat) : (s.bump f n).mramJob = s.mramJob := rfl
@[simp] theorem State.bump_hold (f : Field) (n : Nat) : (s.bump f n).hold = s.hold := rfl
@[simp] theorem State.bump_boot (f : Field) (n : Nat) : (s.bump f n).boot = s.boot := rfl
@[simp] theorem State.bump_i3c (f : Field) (n : Nat) : (s.bump f n).i3c = s.i3c := rfl
@[simp] theorem State.bump_pwr (f : Field) (n : Nat) : (s.bump f n).pwr = s.pwr := rfl
@[simp] theorem State.bump_helm (f : Field) (n : Nat) : (s.bump f n).helm = s.helm := rfl
@[simp] theorem State.bump_rel (f : Field) (n : Nat) : (s.bump f n).rel = s.rel := rfl
@[simp] theorem State.bump_bist (f : Field) (n : Nat) : (s.bump f n).bist = s.bist := rfl
@[simp] theorem State.bump_sec (f : Field) (n : Nat) : (s.bump f n).sec = s.sec := rfl
@[simp] theorem State.bump_tap (f : Field) (n : Nat) : (s.bump f n).tap = s.tap := rfl
@[simp] theorem State.bump_frw (f : Field) (n : Nat) : (s.bump f n).frw = s.frw := rfl
@[simp] theorem State.bump_role (f : Field) (n : Nat) : (s.bump f n).role = s.role := rfl
@[simp] theorem State.bump_other (f : Field) (n : Nat) : (s.bump f n).other = s.other := rfl
@[simp] theorem State.bump_chart (f : Field) (n : Nat) : (s.bump f n).chart = s.chart := rfl
@[simp] theorem State.bump_load (f : Field) (n : Nat) : (s.bump f n).load = s.load := rfl
@[simp] theorem State.bump_oldHistory (f : Field) (n : Nat) : (s.bump f n).oldHistory = s.oldHistory := rfl
@[simp] theorem State.bump_snap (f : Field) (n : Nat) : (s.bump f n).snap = s.snap := rfl
@[simp] theorem State.bump_restore (f : Field) (n : Nat) : (s.bump f n).restore = s.restore := rfl
@[simp] theorem State.bump_fab (f : Field) (n : Nat) : (s.bump f n).fab = s.fab := rfl
@[simp] theorem State.bump_twin (f : Field) (n : Nat) : (s.bump f n).twin = s.twin := rfl

/-! ### State.emit -/

/-- Nothing but out changes. -/
theorem State.emit_frame (o : Out) :
    { s.emit o with out := s.out } = s := by
  rfl

@[simp] theorem State.emit_pending (o : Out) : (s.emit o).pending = s.pending := rfl
@[simp] theorem State.emit_part (o : Out) : (s.emit o).part = s.part := rfl
@[simp] theorem State.emit_dev (o : Out) : (s.emit o).dev = s.dev := rfl
@[simp] theorem State.emit_dtime (o : Out) : (s.emit o).dtime = s.dtime := rfl
@[simp] theorem State.emit_regs (o : Out) : (s.emit o).regs = s.regs := rfl
@[simp] theorem State.emit_knots (o : Out) : (s.emit o).knots = s.knots := rfl
@[simp] theorem State.emit_mem (o : Out) : (s.emit o).mem = s.mem := rfl
@[simp] theorem State.emit_badLines (o : Out) : (s.emit o).badLines = s.badLines := rfl
@[simp] theorem State.emit_cache (o : Out) : (s.emit o).cache = s.cache := rfl
@[simp] theorem State.emit_flights (o : Out) : (s.emit o).flights = s.flights := rfl
@[simp] theorem State.emit_fresh (o : Out) : (s.emit o).fresh = s.fresh := rfl
@[simp] theorem State.emit_hostShadow (o : Out) : (s.emit o).hostShadow = s.hostShadow := rfl
@[simp] theorem State.emit_binnacleShadow (o : Out) : (s.emit o).binnacleShadow = s.binnacleShadow := rfl
@[simp] theorem State.emit_evt (o : Out) : (s.emit o).evt = s.evt := rfl
@[simp] theorem State.emit_mbx (o : Out) : (s.emit o).mbx = s.mbx := rfl
@[simp] theorem State.emit_rotation (o : Out) : (s.emit o).rotation = s.rotation := rfl
@[simp] theorem State.emit_pcie (o : Out) : (s.emit o).pcie = s.pcie := rfl
@[simp] theorem State.emit_mram (o : Out) : (s.emit o).mram = s.mram := rfl
@[simp] theorem State.emit_mramJob (o : Out) : (s.emit o).mramJob = s.mramJob := rfl
@[simp] theorem State.emit_hold (o : Out) : (s.emit o).hold = s.hold := rfl
@[simp] theorem State.emit_boot (o : Out) : (s.emit o).boot = s.boot := rfl
@[simp] theorem State.emit_i3c (o : Out) : (s.emit o).i3c = s.i3c := rfl
@[simp] theorem State.emit_pwr (o : Out) : (s.emit o).pwr = s.pwr := rfl
@[simp] theorem State.emit_helm (o : Out) : (s.emit o).helm = s.helm := rfl
@[simp] theorem State.emit_rel (o : Out) : (s.emit o).rel = s.rel := rfl
@[simp] theorem State.emit_bist (o : Out) : (s.emit o).bist = s.bist := rfl
@[simp] theorem State.emit_sec (o : Out) : (s.emit o).sec = s.sec := rfl
@[simp] theorem State.emit_tap (o : Out) : (s.emit o).tap = s.tap := rfl
@[simp] theorem State.emit_frw (o : Out) : (s.emit o).frw = s.frw := rfl
@[simp] theorem State.emit_role (o : Out) : (s.emit o).role = s.role := rfl
@[simp] theorem State.emit_other (o : Out) : (s.emit o).other = s.other := rfl
@[simp] theorem State.emit_chart (o : Out) : (s.emit o).chart = s.chart := rfl
@[simp] theorem State.emit_load (o : Out) : (s.emit o).load = s.load := rfl
@[simp] theorem State.emit_oldHistory (o : Out) : (s.emit o).oldHistory = s.oldHistory := rfl
@[simp] theorem State.emit_snap (o : Out) : (s.emit o).snap = s.snap := rfl
@[simp] theorem State.emit_restore (o : Out) : (s.emit o).restore = s.restore := rfl
@[simp] theorem State.emit_fab (o : Out) : (s.emit o).fab = s.fab := rfl
@[simp] theorem State.emit_twin (o : Out) : (s.emit o).twin = s.twin := rfl

/-! ### State.freeWord -/

/-- Nothing but fresh changes. -/
theorem State.freeWord_frame :
    { s.freeWord.2 with fresh := s.fresh } = s := by
  rfl

@[simp] theorem State.freeWord_pending : (s.freeWord.2).pending = s.pending := rfl
@[simp] theorem State.freeWord_part : (s.freeWord.2).part = s.part := rfl
@[simp] theorem State.freeWord_dev : (s.freeWord.2).dev = s.dev := rfl
@[simp] theorem State.freeWord_dtime : (s.freeWord.2).dtime = s.dtime := rfl
@[simp] theorem State.freeWord_regs : (s.freeWord.2).regs = s.regs := rfl
@[simp] theorem State.freeWord_knots : (s.freeWord.2).knots = s.knots := rfl
@[simp] theorem State.freeWord_mem : (s.freeWord.2).mem = s.mem := rfl
@[simp] theorem State.freeWord_badLines : (s.freeWord.2).badLines = s.badLines := rfl
@[simp] theorem State.freeWord_cache : (s.freeWord.2).cache = s.cache := rfl
@[simp] theorem State.freeWord_flights : (s.freeWord.2).flights = s.flights := rfl
@[simp] theorem State.freeWord_out : (s.freeWord.2).out = s.out := rfl
@[simp] theorem State.freeWord_hostShadow : (s.freeWord.2).hostShadow = s.hostShadow := rfl
@[simp] theorem State.freeWord_binnacleShadow : (s.freeWord.2).binnacleShadow = s.binnacleShadow := rfl
@[simp] theorem State.freeWord_evt : (s.freeWord.2).evt = s.evt := rfl
@[simp] theorem State.freeWord_mbx : (s.freeWord.2).mbx = s.mbx := rfl
@[simp] theorem State.freeWord_rotation : (s.freeWord.2).rotation = s.rotation := rfl
@[simp] theorem State.freeWord_pcie : (s.freeWord.2).pcie = s.pcie := rfl
@[simp] theorem State.freeWord_mram : (s.freeWord.2).mram = s.mram := rfl
@[simp] theorem State.freeWord_mramJob : (s.freeWord.2).mramJob = s.mramJob := rfl
@[simp] theorem State.freeWord_hold : (s.freeWord.2).hold = s.hold := rfl
@[simp] theorem State.freeWord_boot : (s.freeWord.2).boot = s.boot := rfl
@[simp] theorem State.freeWord_i3c : (s.freeWord.2).i3c = s.i3c := rfl
@[simp] theorem State.freeWord_pwr : (s.freeWord.2).pwr = s.pwr := rfl
@[simp] theorem State.freeWord_helm : (s.freeWord.2).helm = s.helm := rfl
@[simp] theorem State.freeWord_rel : (s.freeWord.2).rel = s.rel := rfl
@[simp] theorem State.freeWord_bist : (s.freeWord.2).bist = s.bist := rfl
@[simp] theorem State.freeWord_sec : (s.freeWord.2).sec = s.sec := rfl
@[simp] theorem State.freeWord_tap : (s.freeWord.2).tap = s.tap := rfl
@[simp] theorem State.freeWord_frw : (s.freeWord.2).frw = s.frw := rfl
@[simp] theorem State.freeWord_role : (s.freeWord.2).role = s.role := rfl
@[simp] theorem State.freeWord_other : (s.freeWord.2).other = s.other := rfl
@[simp] theorem State.freeWord_chart : (s.freeWord.2).chart = s.chart := rfl
@[simp] theorem State.freeWord_load : (s.freeWord.2).load = s.load := rfl
@[simp] theorem State.freeWord_oldHistory : (s.freeWord.2).oldHistory = s.oldHistory := rfl
@[simp] theorem State.freeWord_snap : (s.freeWord.2).snap = s.snap := rfl
@[simp] theorem State.freeWord_restore : (s.freeWord.2).restore = s.restore := rfl
@[simp] theorem State.freeWord_fab : (s.freeWord.2).fab = s.fab := rfl
@[simp] theorem State.freeWord_twin : (s.freeWord.2).twin = s.twin := rfl

/-! ### State.freeBytes -/

/-- Nothing but fresh changes. -/
theorem State.freeBytes_frame (n : Nat) :
    { (s.freeBytes n).2 with fresh := s.fresh } = s := by
  rfl

@[simp] theorem State.freeBytes_pending (n : Nat) : ((s.freeBytes n).2).pending = s.pending := rfl
@[simp] theorem State.freeBytes_part (n : Nat) : ((s.freeBytes n).2).part = s.part := rfl
@[simp] theorem State.freeBytes_dev (n : Nat) : ((s.freeBytes n).2).dev = s.dev := rfl
@[simp] theorem State.freeBytes_dtime (n : Nat) : ((s.freeBytes n).2).dtime = s.dtime := rfl
@[simp] theorem State.freeBytes_regs (n : Nat) : ((s.freeBytes n).2).regs = s.regs := rfl
@[simp] theorem State.freeBytes_knots (n : Nat) : ((s.freeBytes n).2).knots = s.knots := rfl
@[simp] theorem State.freeBytes_mem (n : Nat) : ((s.freeBytes n).2).mem = s.mem := rfl
@[simp] theorem State.freeBytes_badLines (n : Nat) : ((s.freeBytes n).2).badLines = s.badLines := rfl
@[simp] theorem State.freeBytes_cache (n : Nat) : ((s.freeBytes n).2).cache = s.cache := rfl
@[simp] theorem State.freeBytes_flights (n : Nat) : ((s.freeBytes n).2).flights = s.flights := rfl
@[simp] theorem State.freeBytes_out (n : Nat) : ((s.freeBytes n).2).out = s.out := rfl
@[simp] theorem State.freeBytes_hostShadow (n : Nat) : ((s.freeBytes n).2).hostShadow = s.hostShadow := rfl
@[simp] theorem State.freeBytes_binnacleShadow (n : Nat) : ((s.freeBytes n).2).binnacleShadow = s.binnacleShadow := rfl
@[simp] theorem State.freeBytes_evt (n : Nat) : ((s.freeBytes n).2).evt = s.evt := rfl
@[simp] theorem State.freeBytes_mbx (n : Nat) : ((s.freeBytes n).2).mbx = s.mbx := rfl
@[simp] theorem State.freeBytes_rotation (n : Nat) : ((s.freeBytes n).2).rotation = s.rotation := rfl
@[simp] theorem State.freeBytes_pcie (n : Nat) : ((s.freeBytes n).2).pcie = s.pcie := rfl
@[simp] theorem State.freeBytes_mram (n : Nat) : ((s.freeBytes n).2).mram = s.mram := rfl
@[simp] theorem State.freeBytes_mramJob (n : Nat) : ((s.freeBytes n).2).mramJob = s.mramJob := rfl
@[simp] theorem State.freeBytes_hold (n : Nat) : ((s.freeBytes n).2).hold = s.hold := rfl
@[simp] theorem State.freeBytes_boot (n : Nat) : ((s.freeBytes n).2).boot = s.boot := rfl
@[simp] theorem State.freeBytes_i3c (n : Nat) : ((s.freeBytes n).2).i3c = s.i3c := rfl
@[simp] theorem State.freeBytes_pwr (n : Nat) : ((s.freeBytes n).2).pwr = s.pwr := rfl
@[simp] theorem State.freeBytes_helm (n : Nat) : ((s.freeBytes n).2).helm = s.helm := rfl
@[simp] theorem State.freeBytes_rel (n : Nat) : ((s.freeBytes n).2).rel = s.rel := rfl
@[simp] theorem State.freeBytes_bist (n : Nat) : ((s.freeBytes n).2).bist = s.bist := rfl
@[simp] theorem State.freeBytes_sec (n : Nat) : ((s.freeBytes n).2).sec = s.sec := rfl
@[simp] theorem State.freeBytes_tap (n : Nat) : ((s.freeBytes n).2).tap = s.tap := rfl
@[simp] theorem State.freeBytes_frw (n : Nat) : ((s.freeBytes n).2).frw = s.frw := rfl
@[simp] theorem State.freeBytes_role (n : Nat) : ((s.freeBytes n).2).role = s.role := rfl
@[simp] theorem State.freeBytes_other (n : Nat) : ((s.freeBytes n).2).other = s.other := rfl
@[simp] theorem State.freeBytes_chart (n : Nat) : ((s.freeBytes n).2).chart = s.chart := rfl
@[simp] theorem State.freeBytes_load (n : Nat) : ((s.freeBytes n).2).load = s.load := rfl
@[simp] theorem State.freeBytes_oldHistory (n : Nat) : ((s.freeBytes n).2).oldHistory = s.oldHistory := rfl
@[simp] theorem State.freeBytes_snap (n : Nat) : ((s.freeBytes n).2).snap = s.snap := rfl
@[simp] theorem State.freeBytes_restore (n : Nat) : ((s.freeBytes n).2).restore = s.restore := rfl
@[simp] theorem State.freeBytes_fab (n : Nat) : ((s.freeBytes n).2).fab = s.fab := rfl
@[simp] theorem State.freeBytes_twin (n : Nat) : ((s.freeBytes n).2).twin = s.twin := rfl

/-! ### State.writeByte -/

/-- Nothing but mem changes. -/
theorem State.writeByte_frame (a : Nat) (b : Byte) :
    { s.writeByte a b with mem := s.mem } = s := by
  rfl

@[simp] theorem State.writeByte_pending (a : Nat) (b : Byte) : (s.writeByte a b).pending = s.pending := rfl
@[simp] theorem State.writeByte_part (a : Nat) (b : Byte) : (s.writeByte a b).part = s.part := rfl
@[simp] theorem State.writeByte_dev (a : Nat) (b : Byte) : (s.writeByte a b).dev = s.dev := rfl
@[simp] theorem State.writeByte_dtime (a : Nat) (b : Byte) : (s.writeByte a b).dtime = s.dtime := rfl
@[simp] theorem State.writeByte_regs (a : Nat) (b : Byte) : (s.writeByte a b).regs = s.regs := rfl
@[simp] theorem State.writeByte_knots (a : Nat) (b : Byte) : (s.writeByte a b).knots = s.knots := rfl
@[simp] theorem State.writeByte_badLines (a : Nat) (b : Byte) : (s.writeByte a b).badLines = s.badLines := rfl
@[simp] theorem State.writeByte_cache (a : Nat) (b : Byte) : (s.writeByte a b).cache = s.cache := rfl
@[simp] theorem State.writeByte_flights (a : Nat) (b : Byte) : (s.writeByte a b).flights = s.flights := rfl
@[simp] theorem State.writeByte_fresh (a : Nat) (b : Byte) : (s.writeByte a b).fresh = s.fresh := rfl
@[simp] theorem State.writeByte_out (a : Nat) (b : Byte) : (s.writeByte a b).out = s.out := rfl
@[simp] theorem State.writeByte_hostShadow (a : Nat) (b : Byte) : (s.writeByte a b).hostShadow = s.hostShadow := rfl
@[simp] theorem State.writeByte_binnacleShadow (a : Nat) (b : Byte) : (s.writeByte a b).binnacleShadow = s.binnacleShadow := rfl
@[simp] theorem State.writeByte_evt (a : Nat) (b : Byte) : (s.writeByte a b).evt = s.evt := rfl
@[simp] theorem State.writeByte_mbx (a : Nat) (b : Byte) : (s.writeByte a b).mbx = s.mbx := rfl
@[simp] theorem State.writeByte_rotation (a : Nat) (b : Byte) : (s.writeByte a b).rotation = s.rotation := rfl
@[simp] theorem State.writeByte_pcie (a : Nat) (b : Byte) : (s.writeByte a b).pcie = s.pcie := rfl
@[simp] theorem State.writeByte_mram (a : Nat) (b : Byte) : (s.writeByte a b).mram = s.mram := rfl
@[simp] theorem State.writeByte_mramJob (a : Nat) (b : Byte) : (s.writeByte a b).mramJob = s.mramJob := rfl
@[simp] theorem State.writeByte_hold (a : Nat) (b : Byte) : (s.writeByte a b).hold = s.hold := rfl
@[simp] theorem State.writeByte_boot (a : Nat) (b : Byte) : (s.writeByte a b).boot = s.boot := rfl
@[simp] theorem State.writeByte_i3c (a : Nat) (b : Byte) : (s.writeByte a b).i3c = s.i3c := rfl
@[simp] theorem State.writeByte_pwr (a : Nat) (b : Byte) : (s.writeByte a b).pwr = s.pwr := rfl
@[simp] theorem State.writeByte_helm (a : Nat) (b : Byte) : (s.writeByte a b).helm = s.helm := rfl
@[simp] theorem State.writeByte_rel (a : Nat) (b : Byte) : (s.writeByte a b).rel = s.rel := rfl
@[simp] theorem State.writeByte_bist (a : Nat) (b : Byte) : (s.writeByte a b).bist = s.bist := rfl
@[simp] theorem State.writeByte_sec (a : Nat) (b : Byte) : (s.writeByte a b).sec = s.sec := rfl
@[simp] theorem State.writeByte_tap (a : Nat) (b : Byte) : (s.writeByte a b).tap = s.tap := rfl
@[simp] theorem State.writeByte_frw (a : Nat) (b : Byte) : (s.writeByte a b).frw = s.frw := rfl
@[simp] theorem State.writeByte_role (a : Nat) (b : Byte) : (s.writeByte a b).role = s.role := rfl
@[simp] theorem State.writeByte_other (a : Nat) (b : Byte) : (s.writeByte a b).other = s.other := rfl
@[simp] theorem State.writeByte_chart (a : Nat) (b : Byte) : (s.writeByte a b).chart = s.chart := rfl
@[simp] theorem State.writeByte_load (a : Nat) (b : Byte) : (s.writeByte a b).load = s.load := rfl
@[simp] theorem State.writeByte_oldHistory (a : Nat) (b : Byte) : (s.writeByte a b).oldHistory = s.oldHistory := rfl
@[simp] theorem State.writeByte_snap (a : Nat) (b : Byte) : (s.writeByte a b).snap = s.snap := rfl
@[simp] theorem State.writeByte_restore (a : Nat) (b : Byte) : (s.writeByte a b).restore = s.restore := rfl
@[simp] theorem State.writeByte_fab (a : Nat) (b : Byte) : (s.writeByte a b).fab = s.fab := rfl
@[simp] theorem State.writeByte_twin (a : Nat) (b : Byte) : (s.writeByte a b).twin = s.twin := rfl

/-! ### State.loseStack -/

/-- Nothing but mem, badLines, cache changes. -/
theorem State.loseStack_frame (n : Nat) :
    { s.loseStack n with mem := s.mem, badLines := s.badLines, cache := s.cache } = s := by
  rfl

@[simp] theorem State.loseStack_pending (n : Nat) : (s.loseStack n).pending = s.pending := rfl
@[simp] theorem State.loseStack_part (n : Nat) : (s.loseStack n).part = s.part := rfl
@[simp] theorem State.loseStack_dev (n : Nat) : (s.loseStack n).dev = s.dev := rfl
@[simp] theorem State.loseStack_dtime (n : Nat) : (s.loseStack n).dtime = s.dtime := rfl
@[simp] theorem State.loseStack_regs (n : Nat) : (s.loseStack n).regs = s.regs := rfl
@[simp] theorem State.loseStack_knots (n : Nat) : (s.loseStack n).knots = s.knots := rfl
@[simp] theorem State.loseStack_flights (n : Nat) : (s.loseStack n).flights = s.flights := rfl
@[simp] theorem State.loseStack_fresh (n : Nat) : (s.loseStack n).fresh = s.fresh := rfl
@[simp] theorem State.loseStack_out (n : Nat) : (s.loseStack n).out = s.out := rfl
@[simp] theorem State.loseStack_hostShadow (n : Nat) : (s.loseStack n).hostShadow = s.hostShadow := rfl
@[simp] theorem State.loseStack_binnacleShadow (n : Nat) : (s.loseStack n).binnacleShadow = s.binnacleShadow := rfl
@[simp] theorem State.loseStack_evt (n : Nat) : (s.loseStack n).evt = s.evt := rfl
@[simp] theorem State.loseStack_mbx (n : Nat) : (s.loseStack n).mbx = s.mbx := rfl
@[simp] theorem State.loseStack_rotation (n : Nat) : (s.loseStack n).rotation = s.rotation := rfl
@[simp] theorem State.loseStack_pcie (n : Nat) : (s.loseStack n).pcie = s.pcie := rfl
@[simp] theorem State.loseStack_mram (n : Nat) : (s.loseStack n).mram = s.mram := rfl
@[simp] theorem State.loseStack_mramJob (n : Nat) : (s.loseStack n).mramJob = s.mramJob := rfl
@[simp] theorem State.loseStack_hold (n : Nat) : (s.loseStack n).hold = s.hold := rfl
@[simp] theorem State.loseStack_boot (n : Nat) : (s.loseStack n).boot = s.boot := rfl
@[simp] theorem State.loseStack_i3c (n : Nat) : (s.loseStack n).i3c = s.i3c := rfl
@[simp] theorem State.loseStack_pwr (n : Nat) : (s.loseStack n).pwr = s.pwr := rfl
@[simp] theorem State.loseStack_helm (n : Nat) : (s.loseStack n).helm = s.helm := rfl
@[simp] theorem State.loseStack_rel (n : Nat) : (s.loseStack n).rel = s.rel := rfl
@[simp] theorem State.loseStack_bist (n : Nat) : (s.loseStack n).bist = s.bist := rfl
@[simp] theorem State.loseStack_sec (n : Nat) : (s.loseStack n).sec = s.sec := rfl
@[simp] theorem State.loseStack_tap (n : Nat) : (s.loseStack n).tap = s.tap := rfl
@[simp] theorem State.loseStack_frw (n : Nat) : (s.loseStack n).frw = s.frw := rfl
@[simp] theorem State.loseStack_role (n : Nat) : (s.loseStack n).role = s.role := rfl
@[simp] theorem State.loseStack_other (n : Nat) : (s.loseStack n).other = s.other := rfl
@[simp] theorem State.loseStack_chart (n : Nat) : (s.loseStack n).chart = s.chart := rfl
@[simp] theorem State.loseStack_load (n : Nat) : (s.loseStack n).load = s.load := rfl
@[simp] theorem State.loseStack_oldHistory (n : Nat) : (s.loseStack n).oldHistory = s.oldHistory := rfl
@[simp] theorem State.loseStack_snap (n : Nat) : (s.loseStack n).snap = s.snap := rfl
@[simp] theorem State.loseStack_restore (n : Nat) : (s.loseStack n).restore = s.restore := rfl
@[simp] theorem State.loseStack_fab (n : Nat) : (s.loseStack n).fab = s.fab := rfl
@[simp] theorem State.loseStack_twin (n : Nat) : (s.loseStack n).twin = s.twin := rfl

/-! ### State.loseHbm -/

/-- Nothing but mem, badLines, cache changes. -/
theorem State.loseHbm_frame :
    { s.loseHbm with mem := s.mem, badLines := s.badLines, cache := s.cache } = s := by
  rfl

@[simp] theorem State.loseHbm_pending : (s.loseHbm).pending = s.pending := rfl
@[simp] theorem State.loseHbm_part : (s.loseHbm).part = s.part := rfl
@[simp] theorem State.loseHbm_dev : (s.loseHbm).dev = s.dev := rfl
@[simp] theorem State.loseHbm_dtime : (s.loseHbm).dtime = s.dtime := rfl
@[simp] theorem State.loseHbm_regs : (s.loseHbm).regs = s.regs := rfl
@[simp] theorem State.loseHbm_knots : (s.loseHbm).knots = s.knots := rfl
@[simp] theorem State.loseHbm_flights : (s.loseHbm).flights = s.flights := rfl
@[simp] theorem State.loseHbm_fresh : (s.loseHbm).fresh = s.fresh := rfl
@[simp] theorem State.loseHbm_out : (s.loseHbm).out = s.out := rfl
@[simp] theorem State.loseHbm_hostShadow : (s.loseHbm).hostShadow = s.hostShadow := rfl
@[simp] theorem State.loseHbm_binnacleShadow : (s.loseHbm).binnacleShadow = s.binnacleShadow := rfl
@[simp] theorem State.loseHbm_evt : (s.loseHbm).evt = s.evt := rfl
@[simp] theorem State.loseHbm_mbx : (s.loseHbm).mbx = s.mbx := rfl
@[simp] theorem State.loseHbm_rotation : (s.loseHbm).rotation = s.rotation := rfl
@[simp] theorem State.loseHbm_pcie : (s.loseHbm).pcie = s.pcie := rfl
@[simp] theorem State.loseHbm_mram : (s.loseHbm).mram = s.mram := rfl
@[simp] theorem State.loseHbm_mramJob : (s.loseHbm).mramJob = s.mramJob := rfl
@[simp] theorem State.loseHbm_hold : (s.loseHbm).hold = s.hold := rfl
@[simp] theorem State.loseHbm_boot : (s.loseHbm).boot = s.boot := rfl
@[simp] theorem State.loseHbm_i3c : (s.loseHbm).i3c = s.i3c := rfl
@[simp] theorem State.loseHbm_pwr : (s.loseHbm).pwr = s.pwr := rfl
@[simp] theorem State.loseHbm_helm : (s.loseHbm).helm = s.helm := rfl
@[simp] theorem State.loseHbm_rel : (s.loseHbm).rel = s.rel := rfl
@[simp] theorem State.loseHbm_bist : (s.loseHbm).bist = s.bist := rfl
@[simp] theorem State.loseHbm_sec : (s.loseHbm).sec = s.sec := rfl
@[simp] theorem State.loseHbm_tap : (s.loseHbm).tap = s.tap := rfl
@[simp] theorem State.loseHbm_frw : (s.loseHbm).frw = s.frw := rfl
@[simp] theorem State.loseHbm_role : (s.loseHbm).role = s.role := rfl
@[simp] theorem State.loseHbm_other : (s.loseHbm).other = s.other := rfl
@[simp] theorem State.loseHbm_chart : (s.loseHbm).chart = s.chart := rfl
@[simp] theorem State.loseHbm_load : (s.loseHbm).load = s.load := rfl
@[simp] theorem State.loseHbm_oldHistory : (s.loseHbm).oldHistory = s.oldHistory := rfl
@[simp] theorem State.loseHbm_snap : (s.loseHbm).snap = s.snap := rfl
@[simp] theorem State.loseHbm_restore : (s.loseHbm).restore = s.restore := rfl
@[simp] theorem State.loseHbm_fab : (s.loseHbm).fab = s.fab := rfl
@[simp] theorem State.loseHbm_twin : (s.loseHbm).twin = s.twin := rfl

/-! ### State.assertFaultPin -/

/-- Nothing but hold, out changes. -/
theorem State.assertFaultPin_frame :
    { s.assertFaultPin with hold := s.hold, out := s.out } = s := by
  rfl

@[simp] theorem State.assertFaultPin_pending : (s.assertFaultPin).pending = s.pending := rfl
@[simp] theorem State.assertFaultPin_part : (s.assertFaultPin).part = s.part := rfl
@[simp] theorem State.assertFaultPin_dev : (s.assertFaultPin).dev = s.dev := rfl
@[simp] theorem State.assertFaultPin_dtime : (s.assertFaultPin).dtime = s.dtime := rfl
@[simp] theorem State.assertFaultPin_regs : (s.assertFaultPin).regs = s.regs := rfl
@[simp] theorem State.assertFaultPin_knots : (s.assertFaultPin).knots = s.knots := rfl
@[simp] theorem State.assertFaultPin_mem : (s.assertFaultPin).mem = s.mem := rfl
@[simp] theorem State.assertFaultPin_badLines : (s.assertFaultPin).badLines = s.badLines := rfl
@[simp] theorem State.assertFaultPin_cache : (s.assertFaultPin).cache = s.cache := rfl
@[simp] theorem State.assertFaultPin_flights : (s.assertFaultPin).flights = s.flights := rfl
@[simp] theorem State.assertFaultPin_fresh : (s.assertFaultPin).fresh = s.fresh := rfl
@[simp] theorem State.assertFaultPin_hostShadow : (s.assertFaultPin).hostShadow = s.hostShadow := rfl
@[simp] theorem State.assertFaultPin_binnacleShadow : (s.assertFaultPin).binnacleShadow = s.binnacleShadow := rfl
@[simp] theorem State.assertFaultPin_evt : (s.assertFaultPin).evt = s.evt := rfl
@[simp] theorem State.assertFaultPin_mbx : (s.assertFaultPin).mbx = s.mbx := rfl
@[simp] theorem State.assertFaultPin_rotation : (s.assertFaultPin).rotation = s.rotation := rfl
@[simp] theorem State.assertFaultPin_pcie : (s.assertFaultPin).pcie = s.pcie := rfl
@[simp] theorem State.assertFaultPin_mram : (s.assertFaultPin).mram = s.mram := rfl
@[simp] theorem State.assertFaultPin_mramJob : (s.assertFaultPin).mramJob = s.mramJob := rfl
@[simp] theorem State.assertFaultPin_boot : (s.assertFaultPin).boot = s.boot := rfl
@[simp] theorem State.assertFaultPin_i3c : (s.assertFaultPin).i3c = s.i3c := rfl
@[simp] theorem State.assertFaultPin_pwr : (s.assertFaultPin).pwr = s.pwr := rfl
@[simp] theorem State.assertFaultPin_helm : (s.assertFaultPin).helm = s.helm := rfl
@[simp] theorem State.assertFaultPin_rel : (s.assertFaultPin).rel = s.rel := rfl
@[simp] theorem State.assertFaultPin_bist : (s.assertFaultPin).bist = s.bist := rfl
@[simp] theorem State.assertFaultPin_sec : (s.assertFaultPin).sec = s.sec := rfl
@[simp] theorem State.assertFaultPin_tap : (s.assertFaultPin).tap = s.tap := rfl
@[simp] theorem State.assertFaultPin_frw : (s.assertFaultPin).frw = s.frw := rfl
@[simp] theorem State.assertFaultPin_role : (s.assertFaultPin).role = s.role := rfl
@[simp] theorem State.assertFaultPin_other : (s.assertFaultPin).other = s.other := rfl
@[simp] theorem State.assertFaultPin_chart : (s.assertFaultPin).chart = s.chart := rfl
@[simp] theorem State.assertFaultPin_load : (s.assertFaultPin).load = s.load := rfl
@[simp] theorem State.assertFaultPin_oldHistory : (s.assertFaultPin).oldHistory = s.oldHistory := rfl
@[simp] theorem State.assertFaultPin_snap : (s.assertFaultPin).snap = s.snap := rfl
@[simp] theorem State.assertFaultPin_restore : (s.assertFaultPin).restore = s.restore := rfl
@[simp] theorem State.assertFaultPin_fab : (s.assertFaultPin).fab = s.fab := rfl
@[simp] theorem State.assertFaultPin_twin : (s.assertFaultPin).twin = s.twin := rfl

/-! ### State.writeBytes -/

/-- Nothing but mem changes. -/
theorem State.writeBytes_frame (a : Nat) (bs : List Byte) :
    { s.writeBytes a bs with mem := s.mem } = s := by
  induction bs generalizing s a with
  | nil => rfl
  | cons b bs ih =>
    exact congrArg (fun t : State => { t with mem := s.mem }) (ih (s.writeByte a b) (a + 1))

@[simp] theorem State.writeBytes_pending (a : Nat) (bs : List Byte) : (s.writeBytes a bs).pending = s.pending := (congrArg State.pending (State.writeBytes_frame s a bs) :)
@[simp] theorem State.writeBytes_part (a : Nat) (bs : List Byte) : (s.writeBytes a bs).part = s.part := (congrArg State.part (State.writeBytes_frame s a bs) :)
@[simp] theorem State.writeBytes_dev (a : Nat) (bs : List Byte) : (s.writeBytes a bs).dev = s.dev := (congrArg State.dev (State.writeBytes_frame s a bs) :)
@[simp] theorem State.writeBytes_dtime (a : Nat) (bs : List Byte) : (s.writeBytes a bs).dtime = s.dtime := (congrArg State.dtime (State.writeBytes_frame s a bs) :)
@[simp] theorem State.writeBytes_regs (a : Nat) (bs : List Byte) : (s.writeBytes a bs).regs = s.regs := (congrArg State.regs (State.writeBytes_frame s a bs) :)
@[simp] theorem State.writeBytes_knots (a : Nat) (bs : List Byte) : (s.writeBytes a bs).knots = s.knots := (congrArg State.knots (State.writeBytes_frame s a bs) :)
@[simp] theorem State.writeBytes_badLines (a : Nat) (bs : List Byte) : (s.writeBytes a bs).badLines = s.badLines := (congrArg State.badLines (State.writeBytes_frame s a bs) :)
@[simp] theorem State.writeBytes_cache (a : Nat) (bs : List Byte) : (s.writeBytes a bs).cache = s.cache := (congrArg State.cache (State.writeBytes_frame s a bs) :)
@[simp] theorem State.writeBytes_flights (a : Nat) (bs : List Byte) : (s.writeBytes a bs).flights = s.flights := (congrArg State.flights (State.writeBytes_frame s a bs) :)
@[simp] theorem State.writeBytes_fresh (a : Nat) (bs : List Byte) : (s.writeBytes a bs).fresh = s.fresh := (congrArg State.fresh (State.writeBytes_frame s a bs) :)
@[simp] theorem State.writeBytes_out (a : Nat) (bs : List Byte) : (s.writeBytes a bs).out = s.out := (congrArg State.out (State.writeBytes_frame s a bs) :)
@[simp] theorem State.writeBytes_hostShadow (a : Nat) (bs : List Byte) : (s.writeBytes a bs).hostShadow = s.hostShadow := (congrArg State.hostShadow (State.writeBytes_frame s a bs) :)
@[simp] theorem State.writeBytes_binnacleShadow (a : Nat) (bs : List Byte) : (s.writeBytes a bs).binnacleShadow = s.binnacleShadow := (congrArg State.binnacleShadow (State.writeBytes_frame s a bs) :)
@[simp] theorem State.writeBytes_evt (a : Nat) (bs : List Byte) : (s.writeBytes a bs).evt = s.evt := (congrArg State.evt (State.writeBytes_frame s a bs) :)
@[simp] theorem State.writeBytes_mbx (a : Nat) (bs : List Byte) : (s.writeBytes a bs).mbx = s.mbx := (congrArg State.mbx (State.writeBytes_frame s a bs) :)
@[simp] theorem State.writeBytes_rotation (a : Nat) (bs : List Byte) : (s.writeBytes a bs).rotation = s.rotation := (congrArg State.rotation (State.writeBytes_frame s a bs) :)
@[simp] theorem State.writeBytes_pcie (a : Nat) (bs : List Byte) : (s.writeBytes a bs).pcie = s.pcie := (congrArg State.pcie (State.writeBytes_frame s a bs) :)
@[simp] theorem State.writeBytes_mram (a : Nat) (bs : List Byte) : (s.writeBytes a bs).mram = s.mram := (congrArg State.mram (State.writeBytes_frame s a bs) :)
@[simp] theorem State.writeBytes_mramJob (a : Nat) (bs : List Byte) : (s.writeBytes a bs).mramJob = s.mramJob := (congrArg State.mramJob (State.writeBytes_frame s a bs) :)
@[simp] theorem State.writeBytes_hold (a : Nat) (bs : List Byte) : (s.writeBytes a bs).hold = s.hold := (congrArg State.hold (State.writeBytes_frame s a bs) :)
@[simp] theorem State.writeBytes_boot (a : Nat) (bs : List Byte) : (s.writeBytes a bs).boot = s.boot := (congrArg State.boot (State.writeBytes_frame s a bs) :)
@[simp] theorem State.writeBytes_i3c (a : Nat) (bs : List Byte) : (s.writeBytes a bs).i3c = s.i3c := (congrArg State.i3c (State.writeBytes_frame s a bs) :)
@[simp] theorem State.writeBytes_pwr (a : Nat) (bs : List Byte) : (s.writeBytes a bs).pwr = s.pwr := (congrArg State.pwr (State.writeBytes_frame s a bs) :)
@[simp] theorem State.writeBytes_helm (a : Nat) (bs : List Byte) : (s.writeBytes a bs).helm = s.helm := (congrArg State.helm (State.writeBytes_frame s a bs) :)
@[simp] theorem State.writeBytes_rel (a : Nat) (bs : List Byte) : (s.writeBytes a bs).rel = s.rel := (congrArg State.rel (State.writeBytes_frame s a bs) :)
@[simp] theorem State.writeBytes_bist (a : Nat) (bs : List Byte) : (s.writeBytes a bs).bist = s.bist := (congrArg State.bist (State.writeBytes_frame s a bs) :)
@[simp] theorem State.writeBytes_sec (a : Nat) (bs : List Byte) : (s.writeBytes a bs).sec = s.sec := (congrArg State.sec (State.writeBytes_frame s a bs) :)
@[simp] theorem State.writeBytes_tap (a : Nat) (bs : List Byte) : (s.writeBytes a bs).tap = s.tap := (congrArg State.tap (State.writeBytes_frame s a bs) :)
@[simp] theorem State.writeBytes_frw (a : Nat) (bs : List Byte) : (s.writeBytes a bs).frw = s.frw := (congrArg State.frw (State.writeBytes_frame s a bs) :)
@[simp] theorem State.writeBytes_role (a : Nat) (bs : List Byte) : (s.writeBytes a bs).role = s.role := (congrArg State.role (State.writeBytes_frame s a bs) :)
@[simp] theorem State.writeBytes_other (a : Nat) (bs : List Byte) : (s.writeBytes a bs).other = s.other := (congrArg State.other (State.writeBytes_frame s a bs) :)
@[simp] theorem State.writeBytes_chart (a : Nat) (bs : List Byte) : (s.writeBytes a bs).chart = s.chart := (congrArg State.chart (State.writeBytes_frame s a bs) :)
@[simp] theorem State.writeBytes_load (a : Nat) (bs : List Byte) : (s.writeBytes a bs).load = s.load := (congrArg State.load (State.writeBytes_frame s a bs) :)
@[simp] theorem State.writeBytes_oldHistory (a : Nat) (bs : List Byte) : (s.writeBytes a bs).oldHistory = s.oldHistory := (congrArg State.oldHistory (State.writeBytes_frame s a bs) :)
@[simp] theorem State.writeBytes_snap (a : Nat) (bs : List Byte) : (s.writeBytes a bs).snap = s.snap := (congrArg State.snap (State.writeBytes_frame s a bs) :)
@[simp] theorem State.writeBytes_restore (a : Nat) (bs : List Byte) : (s.writeBytes a bs).restore = s.restore := (congrArg State.restore (State.writeBytes_frame s a bs) :)
@[simp] theorem State.writeBytes_fab (a : Nat) (bs : List Byte) : (s.writeBytes a bs).fab = s.fab := (congrArg State.fab (State.writeBytes_frame s a bs) :)
@[simp] theorem State.writeBytes_twin (a : Nat) (bs : List Byte) : (s.writeBytes a bs).twin = s.twin := (congrArg State.twin (State.writeBytes_frame s a bs) :)

/-! ### State.touchCache -/

/-- Nothing but cache changes. -/
theorem State.touchCache_frame (a n : Nat) (write bypass : Bool) :
    { s.touchCache a n write bypass with cache := s.cache } = s := by
  unfold State.touchCache
  split
  · rfl
  · generalize List.range ((a + n - 1) / 256 - a / 256 + 1) = xs
    induction xs generalizing s with
    | nil => rfl
    | cons x xs ih =>
      exact (congrArg (fun t : State => { t with cache := s.cache }) (ih _)).trans rfl

@[simp] theorem State.touchCache_pending (a n : Nat) (write bypass : Bool) : (s.touchCache a n write bypass).pending = s.pending := (congrArg State.pending (State.touchCache_frame s a n write bypass) :)
@[simp] theorem State.touchCache_part (a n : Nat) (write bypass : Bool) : (s.touchCache a n write bypass).part = s.part := (congrArg State.part (State.touchCache_frame s a n write bypass) :)
@[simp] theorem State.touchCache_dev (a n : Nat) (write bypass : Bool) : (s.touchCache a n write bypass).dev = s.dev := (congrArg State.dev (State.touchCache_frame s a n write bypass) :)
@[simp] theorem State.touchCache_dtime (a n : Nat) (write bypass : Bool) : (s.touchCache a n write bypass).dtime = s.dtime := (congrArg State.dtime (State.touchCache_frame s a n write bypass) :)
@[simp] theorem State.touchCache_regs (a n : Nat) (write bypass : Bool) : (s.touchCache a n write bypass).regs = s.regs := (congrArg State.regs (State.touchCache_frame s a n write bypass) :)
@[simp] theorem State.touchCache_knots (a n : Nat) (write bypass : Bool) : (s.touchCache a n write bypass).knots = s.knots := (congrArg State.knots (State.touchCache_frame s a n write bypass) :)
@[simp] theorem State.touchCache_mem (a n : Nat) (write bypass : Bool) : (s.touchCache a n write bypass).mem = s.mem := (congrArg State.mem (State.touchCache_frame s a n write bypass) :)
@[simp] theorem State.touchCache_badLines (a n : Nat) (write bypass : Bool) : (s.touchCache a n write bypass).badLines = s.badLines := (congrArg State.badLines (State.touchCache_frame s a n write bypass) :)
@[simp] theorem State.touchCache_flights (a n : Nat) (write bypass : Bool) : (s.touchCache a n write bypass).flights = s.flights := (congrArg State.flights (State.touchCache_frame s a n write bypass) :)
@[simp] theorem State.touchCache_fresh (a n : Nat) (write bypass : Bool) : (s.touchCache a n write bypass).fresh = s.fresh := (congrArg State.fresh (State.touchCache_frame s a n write bypass) :)
@[simp] theorem State.touchCache_out (a n : Nat) (write bypass : Bool) : (s.touchCache a n write bypass).out = s.out := (congrArg State.out (State.touchCache_frame s a n write bypass) :)
@[simp] theorem State.touchCache_hostShadow (a n : Nat) (write bypass : Bool) : (s.touchCache a n write bypass).hostShadow = s.hostShadow := (congrArg State.hostShadow (State.touchCache_frame s a n write bypass) :)
@[simp] theorem State.touchCache_binnacleShadow (a n : Nat) (write bypass : Bool) : (s.touchCache a n write bypass).binnacleShadow = s.binnacleShadow := (congrArg State.binnacleShadow (State.touchCache_frame s a n write bypass) :)
@[simp] theorem State.touchCache_evt (a n : Nat) (write bypass : Bool) : (s.touchCache a n write bypass).evt = s.evt := (congrArg State.evt (State.touchCache_frame s a n write bypass) :)
@[simp] theorem State.touchCache_mbx (a n : Nat) (write bypass : Bool) : (s.touchCache a n write bypass).mbx = s.mbx := (congrArg State.mbx (State.touchCache_frame s a n write bypass) :)
@[simp] theorem State.touchCache_rotation (a n : Nat) (write bypass : Bool) : (s.touchCache a n write bypass).rotation = s.rotation := (congrArg State.rotation (State.touchCache_frame s a n write bypass) :)
@[simp] theorem State.touchCache_pcie (a n : Nat) (write bypass : Bool) : (s.touchCache a n write bypass).pcie = s.pcie := (congrArg State.pcie (State.touchCache_frame s a n write bypass) :)
@[simp] theorem State.touchCache_mram (a n : Nat) (write bypass : Bool) : (s.touchCache a n write bypass).mram = s.mram := (congrArg State.mram (State.touchCache_frame s a n write bypass) :)
@[simp] theorem State.touchCache_mramJob (a n : Nat) (write bypass : Bool) : (s.touchCache a n write bypass).mramJob = s.mramJob := (congrArg State.mramJob (State.touchCache_frame s a n write bypass) :)
@[simp] theorem State.touchCache_hold (a n : Nat) (write bypass : Bool) : (s.touchCache a n write bypass).hold = s.hold := (congrArg State.hold (State.touchCache_frame s a n write bypass) :)
@[simp] theorem State.touchCache_boot (a n : Nat) (write bypass : Bool) : (s.touchCache a n write bypass).boot = s.boot := (congrArg State.boot (State.touchCache_frame s a n write bypass) :)
@[simp] theorem State.touchCache_i3c (a n : Nat) (write bypass : Bool) : (s.touchCache a n write bypass).i3c = s.i3c := (congrArg State.i3c (State.touchCache_frame s a n write bypass) :)
@[simp] theorem State.touchCache_pwr (a n : Nat) (write bypass : Bool) : (s.touchCache a n write bypass).pwr = s.pwr := (congrArg State.pwr (State.touchCache_frame s a n write bypass) :)
@[simp] theorem State.touchCache_helm (a n : Nat) (write bypass : Bool) : (s.touchCache a n write bypass).helm = s.helm := (congrArg State.helm (State.touchCache_frame s a n write bypass) :)
@[simp] theorem State.touchCache_rel (a n : Nat) (write bypass : Bool) : (s.touchCache a n write bypass).rel = s.rel := (congrArg State.rel (State.touchCache_frame s a n write bypass) :)
@[simp] theorem State.touchCache_bist (a n : Nat) (write bypass : Bool) : (s.touchCache a n write bypass).bist = s.bist := (congrArg State.bist (State.touchCache_frame s a n write bypass) :)
@[simp] theorem State.touchCache_sec (a n : Nat) (write bypass : Bool) : (s.touchCache a n write bypass).sec = s.sec := (congrArg State.sec (State.touchCache_frame s a n write bypass) :)
@[simp] theorem State.touchCache_tap (a n : Nat) (write bypass : Bool) : (s.touchCache a n write bypass).tap = s.tap := (congrArg State.tap (State.touchCache_frame s a n write bypass) :)
@[simp] theorem State.touchCache_frw (a n : Nat) (write bypass : Bool) : (s.touchCache a n write bypass).frw = s.frw := (congrArg State.frw (State.touchCache_frame s a n write bypass) :)
@[simp] theorem State.touchCache_role (a n : Nat) (write bypass : Bool) : (s.touchCache a n write bypass).role = s.role := (congrArg State.role (State.touchCache_frame s a n write bypass) :)
@[simp] theorem State.touchCache_other (a n : Nat) (write bypass : Bool) : (s.touchCache a n write bypass).other = s.other := (congrArg State.other (State.touchCache_frame s a n write bypass) :)
@[simp] theorem State.touchCache_chart (a n : Nat) (write bypass : Bool) : (s.touchCache a n write bypass).chart = s.chart := (congrArg State.chart (State.touchCache_frame s a n write bypass) :)
@[simp] theorem State.touchCache_load (a n : Nat) (write bypass : Bool) : (s.touchCache a n write bypass).load = s.load := (congrArg State.load (State.touchCache_frame s a n write bypass) :)
@[simp] theorem State.touchCache_oldHistory (a n : Nat) (write bypass : Bool) : (s.touchCache a n write bypass).oldHistory = s.oldHistory := (congrArg State.oldHistory (State.touchCache_frame s a n write bypass) :)
@[simp] theorem State.touchCache_snap (a n : Nat) (write bypass : Bool) : (s.touchCache a n write bypass).snap = s.snap := (congrArg State.snap (State.touchCache_frame s a n write bypass) :)
@[simp] theorem State.touchCache_restore (a n : Nat) (write bypass : Bool) : (s.touchCache a n write bypass).restore = s.restore := (congrArg State.restore (State.touchCache_frame s a n write bypass) :)
@[simp] theorem State.touchCache_fab (a n : Nat) (write bypass : Bool) : (s.touchCache a n write bypass).fab = s.fab := (congrArg State.fab (State.touchCache_frame s a n write bypass) :)
@[simp] theorem State.touchCache_twin (a n : Nat) (write bypass : Bool) : (s.touchCache a n write bypass).twin = s.twin := (congrArg State.twin (State.touchCache_frame s a n write bypass) :)

/-! ### State.store -/

/-- Nothing but mem, badLines, cache changes. -/
theorem State.store_frame (a : Nat) (bs : List Byte) :
    { s.store a bs with mem := s.mem, badLines := s.badLines, cache := s.cache } = s := by
  exact (congrArg (fun t : State => { t with mem := s.mem, badLines := s.badLines, cache := s.cache })
    (State.writeBytes_frame (s.touchCache a bs.length true false) a bs)).trans
      (congrArg (fun t : State => { t with mem := s.mem, badLines := s.badLines })
        (State.touchCache_frame s a bs.length true false))

@[simp] theorem State.store_pending (a : Nat) (bs : List Byte) : (s.store a bs).pending = s.pending := (congrArg State.pending (State.store_frame s a bs) :)
@[simp] theorem State.store_part (a : Nat) (bs : List Byte) : (s.store a bs).part = s.part := (congrArg State.part (State.store_frame s a bs) :)
@[simp] theorem State.store_dev (a : Nat) (bs : List Byte) : (s.store a bs).dev = s.dev := (congrArg State.dev (State.store_frame s a bs) :)
@[simp] theorem State.store_dtime (a : Nat) (bs : List Byte) : (s.store a bs).dtime = s.dtime := (congrArg State.dtime (State.store_frame s a bs) :)
@[simp] theorem State.store_regs (a : Nat) (bs : List Byte) : (s.store a bs).regs = s.regs := (congrArg State.regs (State.store_frame s a bs) :)
@[simp] theorem State.store_knots (a : Nat) (bs : List Byte) : (s.store a bs).knots = s.knots := (congrArg State.knots (State.store_frame s a bs) :)
@[simp] theorem State.store_flights (a : Nat) (bs : List Byte) : (s.store a bs).flights = s.flights := (congrArg State.flights (State.store_frame s a bs) :)
@[simp] theorem State.store_fresh (a : Nat) (bs : List Byte) : (s.store a bs).fresh = s.fresh := (congrArg State.fresh (State.store_frame s a bs) :)
@[simp] theorem State.store_out (a : Nat) (bs : List Byte) : (s.store a bs).out = s.out := (congrArg State.out (State.store_frame s a bs) :)
@[simp] theorem State.store_hostShadow (a : Nat) (bs : List Byte) : (s.store a bs).hostShadow = s.hostShadow := (congrArg State.hostShadow (State.store_frame s a bs) :)
@[simp] theorem State.store_binnacleShadow (a : Nat) (bs : List Byte) : (s.store a bs).binnacleShadow = s.binnacleShadow := (congrArg State.binnacleShadow (State.store_frame s a bs) :)
@[simp] theorem State.store_evt (a : Nat) (bs : List Byte) : (s.store a bs).evt = s.evt := (congrArg State.evt (State.store_frame s a bs) :)
@[simp] theorem State.store_mbx (a : Nat) (bs : List Byte) : (s.store a bs).mbx = s.mbx := (congrArg State.mbx (State.store_frame s a bs) :)
@[simp] theorem State.store_rotation (a : Nat) (bs : List Byte) : (s.store a bs).rotation = s.rotation := (congrArg State.rotation (State.store_frame s a bs) :)
@[simp] theorem State.store_pcie (a : Nat) (bs : List Byte) : (s.store a bs).pcie = s.pcie := (congrArg State.pcie (State.store_frame s a bs) :)
@[simp] theorem State.store_mram (a : Nat) (bs : List Byte) : (s.store a bs).mram = s.mram := (congrArg State.mram (State.store_frame s a bs) :)
@[simp] theorem State.store_mramJob (a : Nat) (bs : List Byte) : (s.store a bs).mramJob = s.mramJob := (congrArg State.mramJob (State.store_frame s a bs) :)
@[simp] theorem State.store_hold (a : Nat) (bs : List Byte) : (s.store a bs).hold = s.hold := (congrArg State.hold (State.store_frame s a bs) :)
@[simp] theorem State.store_boot (a : Nat) (bs : List Byte) : (s.store a bs).boot = s.boot := (congrArg State.boot (State.store_frame s a bs) :)
@[simp] theorem State.store_i3c (a : Nat) (bs : List Byte) : (s.store a bs).i3c = s.i3c := (congrArg State.i3c (State.store_frame s a bs) :)
@[simp] theorem State.store_pwr (a : Nat) (bs : List Byte) : (s.store a bs).pwr = s.pwr := (congrArg State.pwr (State.store_frame s a bs) :)
@[simp] theorem State.store_helm (a : Nat) (bs : List Byte) : (s.store a bs).helm = s.helm := (congrArg State.helm (State.store_frame s a bs) :)
@[simp] theorem State.store_rel (a : Nat) (bs : List Byte) : (s.store a bs).rel = s.rel := (congrArg State.rel (State.store_frame s a bs) :)
@[simp] theorem State.store_bist (a : Nat) (bs : List Byte) : (s.store a bs).bist = s.bist := (congrArg State.bist (State.store_frame s a bs) :)
@[simp] theorem State.store_sec (a : Nat) (bs : List Byte) : (s.store a bs).sec = s.sec := (congrArg State.sec (State.store_frame s a bs) :)
@[simp] theorem State.store_tap (a : Nat) (bs : List Byte) : (s.store a bs).tap = s.tap := (congrArg State.tap (State.store_frame s a bs) :)
@[simp] theorem State.store_frw (a : Nat) (bs : List Byte) : (s.store a bs).frw = s.frw := (congrArg State.frw (State.store_frame s a bs) :)
@[simp] theorem State.store_role (a : Nat) (bs : List Byte) : (s.store a bs).role = s.role := (congrArg State.role (State.store_frame s a bs) :)
@[simp] theorem State.store_other (a : Nat) (bs : List Byte) : (s.store a bs).other = s.other := (congrArg State.other (State.store_frame s a bs) :)
@[simp] theorem State.store_chart (a : Nat) (bs : List Byte) : (s.store a bs).chart = s.chart := (congrArg State.chart (State.store_frame s a bs) :)
@[simp] theorem State.store_load (a : Nat) (bs : List Byte) : (s.store a bs).load = s.load := (congrArg State.load (State.store_frame s a bs) :)
@[simp] theorem State.store_oldHistory (a : Nat) (bs : List Byte) : (s.store a bs).oldHistory = s.oldHistory := (congrArg State.oldHistory (State.store_frame s a bs) :)
@[simp] theorem State.store_snap (a : Nat) (bs : List Byte) : (s.store a bs).snap = s.snap := (congrArg State.snap (State.store_frame s a bs) :)
@[simp] theorem State.store_restore (a : Nat) (bs : List Byte) : (s.store a bs).restore = s.restore := (congrArg State.restore (State.store_frame s a bs) :)
@[simp] theorem State.store_fab (a : Nat) (bs : List Byte) : (s.store a bs).fab = s.fab := (congrArg State.fab (State.store_frame s a bs) :)
@[simp] theorem State.store_twin (a : Nat) (bs : List Byte) : (s.store a bs).twin = s.twin := (congrArg State.twin (State.store_frame s a bs) :)

/-! ### State.markBad -/

/-- Nothing but badLines changes. -/
theorem State.markBad_frame (a : Nat) :
    { s.markBad a with badLines := s.badLines } = s := by
  unfold State.markBad
  dsimp only
  split <;> rfl

@[simp] theorem State.markBad_pending (a : Nat) : (s.markBad a).pending = s.pending := (congrArg State.pending (State.markBad_frame s a) :)
@[simp] theorem State.markBad_part (a : Nat) : (s.markBad a).part = s.part := (congrArg State.part (State.markBad_frame s a) :)
@[simp] theorem State.markBad_dev (a : Nat) : (s.markBad a).dev = s.dev := (congrArg State.dev (State.markBad_frame s a) :)
@[simp] theorem State.markBad_dtime (a : Nat) : (s.markBad a).dtime = s.dtime := (congrArg State.dtime (State.markBad_frame s a) :)
@[simp] theorem State.markBad_regs (a : Nat) : (s.markBad a).regs = s.regs := (congrArg State.regs (State.markBad_frame s a) :)
@[simp] theorem State.markBad_knots (a : Nat) : (s.markBad a).knots = s.knots := (congrArg State.knots (State.markBad_frame s a) :)
@[simp] theorem State.markBad_mem (a : Nat) : (s.markBad a).mem = s.mem := (congrArg State.mem (State.markBad_frame s a) :)
@[simp] theorem State.markBad_cache (a : Nat) : (s.markBad a).cache = s.cache := (congrArg State.cache (State.markBad_frame s a) :)
@[simp] theorem State.markBad_flights (a : Nat) : (s.markBad a).flights = s.flights := (congrArg State.flights (State.markBad_frame s a) :)
@[simp] theorem State.markBad_fresh (a : Nat) : (s.markBad a).fresh = s.fresh := (congrArg State.fresh (State.markBad_frame s a) :)
@[simp] theorem State.markBad_out (a : Nat) : (s.markBad a).out = s.out := (congrArg State.out (State.markBad_frame s a) :)
@[simp] theorem State.markBad_hostShadow (a : Nat) : (s.markBad a).hostShadow = s.hostShadow := (congrArg State.hostShadow (State.markBad_frame s a) :)
@[simp] theorem State.markBad_binnacleShadow (a : Nat) : (s.markBad a).binnacleShadow = s.binnacleShadow := (congrArg State.binnacleShadow (State.markBad_frame s a) :)
@[simp] theorem State.markBad_evt (a : Nat) : (s.markBad a).evt = s.evt := (congrArg State.evt (State.markBad_frame s a) :)
@[simp] theorem State.markBad_mbx (a : Nat) : (s.markBad a).mbx = s.mbx := (congrArg State.mbx (State.markBad_frame s a) :)
@[simp] theorem State.markBad_rotation (a : Nat) : (s.markBad a).rotation = s.rotation := (congrArg State.rotation (State.markBad_frame s a) :)
@[simp] theorem State.markBad_pcie (a : Nat) : (s.markBad a).pcie = s.pcie := (congrArg State.pcie (State.markBad_frame s a) :)
@[simp] theorem State.markBad_mram (a : Nat) : (s.markBad a).mram = s.mram := (congrArg State.mram (State.markBad_frame s a) :)
@[simp] theorem State.markBad_mramJob (a : Nat) : (s.markBad a).mramJob = s.mramJob := (congrArg State.mramJob (State.markBad_frame s a) :)
@[simp] theorem State.markBad_hold (a : Nat) : (s.markBad a).hold = s.hold := (congrArg State.hold (State.markBad_frame s a) :)
@[simp] theorem State.markBad_boot (a : Nat) : (s.markBad a).boot = s.boot := (congrArg State.boot (State.markBad_frame s a) :)
@[simp] theorem State.markBad_i3c (a : Nat) : (s.markBad a).i3c = s.i3c := (congrArg State.i3c (State.markBad_frame s a) :)
@[simp] theorem State.markBad_pwr (a : Nat) : (s.markBad a).pwr = s.pwr := (congrArg State.pwr (State.markBad_frame s a) :)
@[simp] theorem State.markBad_helm (a : Nat) : (s.markBad a).helm = s.helm := (congrArg State.helm (State.markBad_frame s a) :)
@[simp] theorem State.markBad_rel (a : Nat) : (s.markBad a).rel = s.rel := (congrArg State.rel (State.markBad_frame s a) :)
@[simp] theorem State.markBad_bist (a : Nat) : (s.markBad a).bist = s.bist := (congrArg State.bist (State.markBad_frame s a) :)
@[simp] theorem State.markBad_sec (a : Nat) : (s.markBad a).sec = s.sec := (congrArg State.sec (State.markBad_frame s a) :)
@[simp] theorem State.markBad_tap (a : Nat) : (s.markBad a).tap = s.tap := (congrArg State.tap (State.markBad_frame s a) :)
@[simp] theorem State.markBad_frw (a : Nat) : (s.markBad a).frw = s.frw := (congrArg State.frw (State.markBad_frame s a) :)
@[simp] theorem State.markBad_role (a : Nat) : (s.markBad a).role = s.role := (congrArg State.role (State.markBad_frame s a) :)
@[simp] theorem State.markBad_other (a : Nat) : (s.markBad a).other = s.other := (congrArg State.other (State.markBad_frame s a) :)
@[simp] theorem State.markBad_chart (a : Nat) : (s.markBad a).chart = s.chart := (congrArg State.chart (State.markBad_frame s a) :)
@[simp] theorem State.markBad_load (a : Nat) : (s.markBad a).load = s.load := (congrArg State.load (State.markBad_frame s a) :)
@[simp] theorem State.markBad_oldHistory (a : Nat) : (s.markBad a).oldHistory = s.oldHistory := (congrArg State.oldHistory (State.markBad_frame s a) :)
@[simp] theorem State.markBad_snap (a : Nat) : (s.markBad a).snap = s.snap := (congrArg State.snap (State.markBad_frame s a) :)
@[simp] theorem State.markBad_restore (a : Nat) : (s.markBad a).restore = s.restore := (congrArg State.restore (State.markBad_frame s a) :)
@[simp] theorem State.markBad_fab (a : Nat) : (s.markBad a).fab = s.fab := (congrArg State.fab (State.markBad_frame s a) :)
@[simp] theorem State.markBad_twin (a : Nat) : (s.markBad a).twin = s.twin := (congrArg State.twin (State.markBad_frame s a) :)

/-! ### State.raiseAlert -/

/-- Nothing but hold, out changes. -/
theorem State.raiseAlert_frame (b : Nat) :
    { s.raiseAlert b with hold := s.hold, out := s.out } = s := by
  unfold State.raiseAlert
  dsimp only
  split <;> rfl

@[simp] theorem State.raiseAlert_pending (b : Nat) : (s.raiseAlert b).pending = s.pending := (congrArg State.pending (State.raiseAlert_frame s b) :)
@[simp] theorem State.raiseAlert_part (b : Nat) : (s.raiseAlert b).part = s.part := (congrArg State.part (State.raiseAlert_frame s b) :)
@[simp] theorem State.raiseAlert_dev (b : Nat) : (s.raiseAlert b).dev = s.dev := (congrArg State.dev (State.raiseAlert_frame s b) :)
@[simp] theorem State.raiseAlert_dtime (b : Nat) : (s.raiseAlert b).dtime = s.dtime := (congrArg State.dtime (State.raiseAlert_frame s b) :)
@[simp] theorem State.raiseAlert_regs (b : Nat) : (s.raiseAlert b).regs = s.regs := (congrArg State.regs (State.raiseAlert_frame s b) :)
@[simp] theorem State.raiseAlert_knots (b : Nat) : (s.raiseAlert b).knots = s.knots := (congrArg State.knots (State.raiseAlert_frame s b) :)
@[simp] theorem State.raiseAlert_mem (b : Nat) : (s.raiseAlert b).mem = s.mem := (congrArg State.mem (State.raiseAlert_frame s b) :)
@[simp] theorem State.raiseAlert_badLines (b : Nat) : (s.raiseAlert b).badLines = s.badLines := (congrArg State.badLines (State.raiseAlert_frame s b) :)
@[simp] theorem State.raiseAlert_cache (b : Nat) : (s.raiseAlert b).cache = s.cache := (congrArg State.cache (State.raiseAlert_frame s b) :)
@[simp] theorem State.raiseAlert_flights (b : Nat) : (s.raiseAlert b).flights = s.flights := (congrArg State.flights (State.raiseAlert_frame s b) :)
@[simp] theorem State.raiseAlert_fresh (b : Nat) : (s.raiseAlert b).fresh = s.fresh := (congrArg State.fresh (State.raiseAlert_frame s b) :)
@[simp] theorem State.raiseAlert_hostShadow (b : Nat) : (s.raiseAlert b).hostShadow = s.hostShadow := (congrArg State.hostShadow (State.raiseAlert_frame s b) :)
@[simp] theorem State.raiseAlert_binnacleShadow (b : Nat) : (s.raiseAlert b).binnacleShadow = s.binnacleShadow := (congrArg State.binnacleShadow (State.raiseAlert_frame s b) :)
@[simp] theorem State.raiseAlert_evt (b : Nat) : (s.raiseAlert b).evt = s.evt := (congrArg State.evt (State.raiseAlert_frame s b) :)
@[simp] theorem State.raiseAlert_mbx (b : Nat) : (s.raiseAlert b).mbx = s.mbx := (congrArg State.mbx (State.raiseAlert_frame s b) :)
@[simp] theorem State.raiseAlert_rotation (b : Nat) : (s.raiseAlert b).rotation = s.rotation := (congrArg State.rotation (State.raiseAlert_frame s b) :)
@[simp] theorem State.raiseAlert_pcie (b : Nat) : (s.raiseAlert b).pcie = s.pcie := (congrArg State.pcie (State.raiseAlert_frame s b) :)
@[simp] theorem State.raiseAlert_mram (b : Nat) : (s.raiseAlert b).mram = s.mram := (congrArg State.mram (State.raiseAlert_frame s b) :)
@[simp] theorem State.raiseAlert_mramJob (b : Nat) : (s.raiseAlert b).mramJob = s.mramJob := (congrArg State.mramJob (State.raiseAlert_frame s b) :)
@[simp] theorem State.raiseAlert_boot (b : Nat) : (s.raiseAlert b).boot = s.boot := (congrArg State.boot (State.raiseAlert_frame s b) :)
@[simp] theorem State.raiseAlert_i3c (b : Nat) : (s.raiseAlert b).i3c = s.i3c := (congrArg State.i3c (State.raiseAlert_frame s b) :)
@[simp] theorem State.raiseAlert_pwr (b : Nat) : (s.raiseAlert b).pwr = s.pwr := (congrArg State.pwr (State.raiseAlert_frame s b) :)
@[simp] theorem State.raiseAlert_helm (b : Nat) : (s.raiseAlert b).helm = s.helm := (congrArg State.helm (State.raiseAlert_frame s b) :)
@[simp] theorem State.raiseAlert_rel (b : Nat) : (s.raiseAlert b).rel = s.rel := (congrArg State.rel (State.raiseAlert_frame s b) :)
@[simp] theorem State.raiseAlert_bist (b : Nat) : (s.raiseAlert b).bist = s.bist := (congrArg State.bist (State.raiseAlert_frame s b) :)
@[simp] theorem State.raiseAlert_sec (b : Nat) : (s.raiseAlert b).sec = s.sec := (congrArg State.sec (State.raiseAlert_frame s b) :)
@[simp] theorem State.raiseAlert_tap (b : Nat) : (s.raiseAlert b).tap = s.tap := (congrArg State.tap (State.raiseAlert_frame s b) :)
@[simp] theorem State.raiseAlert_frw (b : Nat) : (s.raiseAlert b).frw = s.frw := (congrArg State.frw (State.raiseAlert_frame s b) :)
@[simp] theorem State.raiseAlert_role (b : Nat) : (s.raiseAlert b).role = s.role := (congrArg State.role (State.raiseAlert_frame s b) :)
@[simp] theorem State.raiseAlert_other (b : Nat) : (s.raiseAlert b).other = s.other := (congrArg State.other (State.raiseAlert_frame s b) :)
@[simp] theorem State.raiseAlert_chart (b : Nat) : (s.raiseAlert b).chart = s.chart := (congrArg State.chart (State.raiseAlert_frame s b) :)
@[simp] theorem State.raiseAlert_load (b : Nat) : (s.raiseAlert b).load = s.load := (congrArg State.load (State.raiseAlert_frame s b) :)
@[simp] theorem State.raiseAlert_oldHistory (b : Nat) : (s.raiseAlert b).oldHistory = s.oldHistory := (congrArg State.oldHistory (State.raiseAlert_frame s b) :)
@[simp] theorem State.raiseAlert_snap (b : Nat) : (s.raiseAlert b).snap = s.snap := (congrArg State.snap (State.raiseAlert_frame s b) :)
@[simp] theorem State.raiseAlert_restore (b : Nat) : (s.raiseAlert b).restore = s.restore := (congrArg State.restore (State.raiseAlert_frame s b) :)
@[simp] theorem State.raiseAlert_fab (b : Nat) : (s.raiseAlert b).fab = s.fab := (congrArg State.fab (State.raiseAlert_frame s b) :)
@[simp] theorem State.raiseAlert_twin (b : Nat) : (s.raiseAlert b).twin = s.twin := (congrArg State.twin (State.raiseAlert_frame s b) :)

/-! ### State.clearAlert -/

/-- Nothing but hold, out changes. -/
theorem State.clearAlert_frame (m : BitVec 7) :
    { s.clearAlert m with hold := s.hold, out := s.out } = s := by
  unfold State.clearAlert
  dsimp only
  split <;> rfl

@[simp] theorem State.clearAlert_pending (m : BitVec 7) : (s.clearAlert m).pending = s.pending := (congrArg State.pending (State.clearAlert_frame s m) :)
@[simp] theorem State.clearAlert_part (m : BitVec 7) : (s.clearAlert m).part = s.part := (congrArg State.part (State.clearAlert_frame s m) :)
@[simp] theorem State.clearAlert_dev (m : BitVec 7) : (s.clearAlert m).dev = s.dev := (congrArg State.dev (State.clearAlert_frame s m) :)
@[simp] theorem State.clearAlert_dtime (m : BitVec 7) : (s.clearAlert m).dtime = s.dtime := (congrArg State.dtime (State.clearAlert_frame s m) :)
@[simp] theorem State.clearAlert_regs (m : BitVec 7) : (s.clearAlert m).regs = s.regs := (congrArg State.regs (State.clearAlert_frame s m) :)
@[simp] theorem State.clearAlert_knots (m : BitVec 7) : (s.clearAlert m).knots = s.knots := (congrArg State.knots (State.clearAlert_frame s m) :)
@[simp] theorem State.clearAlert_mem (m : BitVec 7) : (s.clearAlert m).mem = s.mem := (congrArg State.mem (State.clearAlert_frame s m) :)
@[simp] theorem State.clearAlert_badLines (m : BitVec 7) : (s.clearAlert m).badLines = s.badLines := (congrArg State.badLines (State.clearAlert_frame s m) :)
@[simp] theorem State.clearAlert_cache (m : BitVec 7) : (s.clearAlert m).cache = s.cache := (congrArg State.cache (State.clearAlert_frame s m) :)
@[simp] theorem State.clearAlert_flights (m : BitVec 7) : (s.clearAlert m).flights = s.flights := (congrArg State.flights (State.clearAlert_frame s m) :)
@[simp] theorem State.clearAlert_fresh (m : BitVec 7) : (s.clearAlert m).fresh = s.fresh := (congrArg State.fresh (State.clearAlert_frame s m) :)
@[simp] theorem State.clearAlert_hostShadow (m : BitVec 7) : (s.clearAlert m).hostShadow = s.hostShadow := (congrArg State.hostShadow (State.clearAlert_frame s m) :)
@[simp] theorem State.clearAlert_binnacleShadow (m : BitVec 7) : (s.clearAlert m).binnacleShadow = s.binnacleShadow := (congrArg State.binnacleShadow (State.clearAlert_frame s m) :)
@[simp] theorem State.clearAlert_evt (m : BitVec 7) : (s.clearAlert m).evt = s.evt := (congrArg State.evt (State.clearAlert_frame s m) :)
@[simp] theorem State.clearAlert_mbx (m : BitVec 7) : (s.clearAlert m).mbx = s.mbx := (congrArg State.mbx (State.clearAlert_frame s m) :)
@[simp] theorem State.clearAlert_rotation (m : BitVec 7) : (s.clearAlert m).rotation = s.rotation := (congrArg State.rotation (State.clearAlert_frame s m) :)
@[simp] theorem State.clearAlert_pcie (m : BitVec 7) : (s.clearAlert m).pcie = s.pcie := (congrArg State.pcie (State.clearAlert_frame s m) :)
@[simp] theorem State.clearAlert_mram (m : BitVec 7) : (s.clearAlert m).mram = s.mram := (congrArg State.mram (State.clearAlert_frame s m) :)
@[simp] theorem State.clearAlert_mramJob (m : BitVec 7) : (s.clearAlert m).mramJob = s.mramJob := (congrArg State.mramJob (State.clearAlert_frame s m) :)
@[simp] theorem State.clearAlert_boot (m : BitVec 7) : (s.clearAlert m).boot = s.boot := (congrArg State.boot (State.clearAlert_frame s m) :)
@[simp] theorem State.clearAlert_i3c (m : BitVec 7) : (s.clearAlert m).i3c = s.i3c := (congrArg State.i3c (State.clearAlert_frame s m) :)
@[simp] theorem State.clearAlert_pwr (m : BitVec 7) : (s.clearAlert m).pwr = s.pwr := (congrArg State.pwr (State.clearAlert_frame s m) :)
@[simp] theorem State.clearAlert_helm (m : BitVec 7) : (s.clearAlert m).helm = s.helm := (congrArg State.helm (State.clearAlert_frame s m) :)
@[simp] theorem State.clearAlert_rel (m : BitVec 7) : (s.clearAlert m).rel = s.rel := (congrArg State.rel (State.clearAlert_frame s m) :)
@[simp] theorem State.clearAlert_bist (m : BitVec 7) : (s.clearAlert m).bist = s.bist := (congrArg State.bist (State.clearAlert_frame s m) :)
@[simp] theorem State.clearAlert_sec (m : BitVec 7) : (s.clearAlert m).sec = s.sec := (congrArg State.sec (State.clearAlert_frame s m) :)
@[simp] theorem State.clearAlert_tap (m : BitVec 7) : (s.clearAlert m).tap = s.tap := (congrArg State.tap (State.clearAlert_frame s m) :)
@[simp] theorem State.clearAlert_frw (m : BitVec 7) : (s.clearAlert m).frw = s.frw := (congrArg State.frw (State.clearAlert_frame s m) :)
@[simp] theorem State.clearAlert_role (m : BitVec 7) : (s.clearAlert m).role = s.role := (congrArg State.role (State.clearAlert_frame s m) :)
@[simp] theorem State.clearAlert_other (m : BitVec 7) : (s.clearAlert m).other = s.other := (congrArg State.other (State.clearAlert_frame s m) :)
@[simp] theorem State.clearAlert_chart (m : BitVec 7) : (s.clearAlert m).chart = s.chart := (congrArg State.chart (State.clearAlert_frame s m) :)
@[simp] theorem State.clearAlert_load (m : BitVec 7) : (s.clearAlert m).load = s.load := (congrArg State.load (State.clearAlert_frame s m) :)
@[simp] theorem State.clearAlert_oldHistory (m : BitVec 7) : (s.clearAlert m).oldHistory = s.oldHistory := (congrArg State.oldHistory (State.clearAlert_frame s m) :)
@[simp] theorem State.clearAlert_snap (m : BitVec 7) : (s.clearAlert m).snap = s.snap := (congrArg State.snap (State.clearAlert_frame s m) :)
@[simp] theorem State.clearAlert_restore (m : BitVec 7) : (s.clearAlert m).restore = s.restore := (congrArg State.restore (State.clearAlert_frame s m) :)
@[simp] theorem State.clearAlert_fab (m : BitVec 7) : (s.clearAlert m).fab = s.fab := (congrArg State.fab (State.clearAlert_frame s m) :)
@[simp] theorem State.clearAlert_twin (m : BitVec 7) : (s.clearAlert m).twin = s.twin := (congrArg State.twin (State.clearAlert_frame s m) :)

/-! ### State.queueRecord -/

/-- Nothing but regs, evt changes. -/
theorem State.queueRecord_frame (e : EventKind) (args : List W64) :
    { s.queueRecord e args with regs := s.regs, evt := s.evt } = s := by
  unfold State.queueRecord
  dsimp only
  split
  · rfl
  · split <;> rfl

@[simp] theorem State.queueRecord_pending (e : EventKind) (args : List W64) : (s.queueRecord e args).pending = s.pending := (congrArg State.pending (State.queueRecord_frame s e args) :)
@[simp] theorem State.queueRecord_part (e : EventKind) (args : List W64) : (s.queueRecord e args).part = s.part := (congrArg State.part (State.queueRecord_frame s e args) :)
@[simp] theorem State.queueRecord_dev (e : EventKind) (args : List W64) : (s.queueRecord e args).dev = s.dev := (congrArg State.dev (State.queueRecord_frame s e args) :)
@[simp] theorem State.queueRecord_dtime (e : EventKind) (args : List W64) : (s.queueRecord e args).dtime = s.dtime := (congrArg State.dtime (State.queueRecord_frame s e args) :)
@[simp] theorem State.queueRecord_knots (e : EventKind) (args : List W64) : (s.queueRecord e args).knots = s.knots := (congrArg State.knots (State.queueRecord_frame s e args) :)
@[simp] theorem State.queueRecord_mem (e : EventKind) (args : List W64) : (s.queueRecord e args).mem = s.mem := (congrArg State.mem (State.queueRecord_frame s e args) :)
@[simp] theorem State.queueRecord_badLines (e : EventKind) (args : List W64) : (s.queueRecord e args).badLines = s.badLines := (congrArg State.badLines (State.queueRecord_frame s e args) :)
@[simp] theorem State.queueRecord_cache (e : EventKind) (args : List W64) : (s.queueRecord e args).cache = s.cache := (congrArg State.cache (State.queueRecord_frame s e args) :)
@[simp] theorem State.queueRecord_flights (e : EventKind) (args : List W64) : (s.queueRecord e args).flights = s.flights := (congrArg State.flights (State.queueRecord_frame s e args) :)
@[simp] theorem State.queueRecord_fresh (e : EventKind) (args : List W64) : (s.queueRecord e args).fresh = s.fresh := (congrArg State.fresh (State.queueRecord_frame s e args) :)
@[simp] theorem State.queueRecord_out (e : EventKind) (args : List W64) : (s.queueRecord e args).out = s.out := (congrArg State.out (State.queueRecord_frame s e args) :)
@[simp] theorem State.queueRecord_hostShadow (e : EventKind) (args : List W64) : (s.queueRecord e args).hostShadow = s.hostShadow := (congrArg State.hostShadow (State.queueRecord_frame s e args) :)
@[simp] theorem State.queueRecord_binnacleShadow (e : EventKind) (args : List W64) : (s.queueRecord e args).binnacleShadow = s.binnacleShadow := (congrArg State.binnacleShadow (State.queueRecord_frame s e args) :)
@[simp] theorem State.queueRecord_mbx (e : EventKind) (args : List W64) : (s.queueRecord e args).mbx = s.mbx := (congrArg State.mbx (State.queueRecord_frame s e args) :)
@[simp] theorem State.queueRecord_rotation (e : EventKind) (args : List W64) : (s.queueRecord e args).rotation = s.rotation := (congrArg State.rotation (State.queueRecord_frame s e args) :)
@[simp] theorem State.queueRecord_pcie (e : EventKind) (args : List W64) : (s.queueRecord e args).pcie = s.pcie := (congrArg State.pcie (State.queueRecord_frame s e args) :)
@[simp] theorem State.queueRecord_mram (e : EventKind) (args : List W64) : (s.queueRecord e args).mram = s.mram := (congrArg State.mram (State.queueRecord_frame s e args) :)
@[simp] theorem State.queueRecord_mramJob (e : EventKind) (args : List W64) : (s.queueRecord e args).mramJob = s.mramJob := (congrArg State.mramJob (State.queueRecord_frame s e args) :)
@[simp] theorem State.queueRecord_hold (e : EventKind) (args : List W64) : (s.queueRecord e args).hold = s.hold := (congrArg State.hold (State.queueRecord_frame s e args) :)
@[simp] theorem State.queueRecord_boot (e : EventKind) (args : List W64) : (s.queueRecord e args).boot = s.boot := (congrArg State.boot (State.queueRecord_frame s e args) :)
@[simp] theorem State.queueRecord_i3c (e : EventKind) (args : List W64) : (s.queueRecord e args).i3c = s.i3c := (congrArg State.i3c (State.queueRecord_frame s e args) :)
@[simp] theorem State.queueRecord_pwr (e : EventKind) (args : List W64) : (s.queueRecord e args).pwr = s.pwr := (congrArg State.pwr (State.queueRecord_frame s e args) :)
@[simp] theorem State.queueRecord_helm (e : EventKind) (args : List W64) : (s.queueRecord e args).helm = s.helm := (congrArg State.helm (State.queueRecord_frame s e args) :)
@[simp] theorem State.queueRecord_rel (e : EventKind) (args : List W64) : (s.queueRecord e args).rel = s.rel := (congrArg State.rel (State.queueRecord_frame s e args) :)
@[simp] theorem State.queueRecord_bist (e : EventKind) (args : List W64) : (s.queueRecord e args).bist = s.bist := (congrArg State.bist (State.queueRecord_frame s e args) :)
@[simp] theorem State.queueRecord_sec (e : EventKind) (args : List W64) : (s.queueRecord e args).sec = s.sec := (congrArg State.sec (State.queueRecord_frame s e args) :)
@[simp] theorem State.queueRecord_tap (e : EventKind) (args : List W64) : (s.queueRecord e args).tap = s.tap := (congrArg State.tap (State.queueRecord_frame s e args) :)
@[simp] theorem State.queueRecord_frw (e : EventKind) (args : List W64) : (s.queueRecord e args).frw = s.frw := (congrArg State.frw (State.queueRecord_frame s e args) :)
@[simp] theorem State.queueRecord_role (e : EventKind) (args : List W64) : (s.queueRecord e args).role = s.role := (congrArg State.role (State.queueRecord_frame s e args) :)
@[simp] theorem State.queueRecord_other (e : EventKind) (args : List W64) : (s.queueRecord e args).other = s.other := (congrArg State.other (State.queueRecord_frame s e args) :)
@[simp] theorem State.queueRecord_chart (e : EventKind) (args : List W64) : (s.queueRecord e args).chart = s.chart := (congrArg State.chart (State.queueRecord_frame s e args) :)
@[simp] theorem State.queueRecord_load (e : EventKind) (args : List W64) : (s.queueRecord e args).load = s.load := (congrArg State.load (State.queueRecord_frame s e args) :)
@[simp] theorem State.queueRecord_oldHistory (e : EventKind) (args : List W64) : (s.queueRecord e args).oldHistory = s.oldHistory := (congrArg State.oldHistory (State.queueRecord_frame s e args) :)
@[simp] theorem State.queueRecord_snap (e : EventKind) (args : List W64) : (s.queueRecord e args).snap = s.snap := (congrArg State.snap (State.queueRecord_frame s e args) :)
@[simp] theorem State.queueRecord_restore (e : EventKind) (args : List W64) : (s.queueRecord e args).restore = s.restore := (congrArg State.restore (State.queueRecord_frame s e args) :)
@[simp] theorem State.queueRecord_fab (e : EventKind) (args : List W64) : (s.queueRecord e args).fab = s.fab := (congrArg State.fab (State.queueRecord_frame s e args) :)
@[simp] theorem State.queueRecord_twin (e : EventKind) (args : List W64) : (s.queueRecord e args).twin = s.twin := (congrArg State.twin (State.queueRecord_frame s e args) :)

/-! ### State.post -/

/-- An alert changes nothing that posting does not. -/
theorem State.raiseAlert_eq (t : State) (b : Nat) :
    { t.raiseAlert b with regs := s.regs, evt := s.evt, hold := s.hold, out := s.out }
      = { t with regs := s.regs, evt := s.evt, hold := s.hold, out := s.out } := by
  unfold State.raiseAlert
  dsimp only
  split <;> rfl

/-- Nothing but regs, evt, hold, out changes. -/
theorem State.post_frame (e : EventKind) (args : List Nat) :
    { s.post e args with regs := s.regs, evt := s.evt, hold := s.hold, out := s.out } = s := by
  unfold State.post
  split
  · exact congrArg (fun t : State => { t with hold := s.hold, out := s.out }) (State.queueRecord_frame s e _)
  · exact (State.raiseAlert_eq s _ _).trans
      (congrArg (fun t : State => { t with hold := s.hold, out := s.out }) (State.queueRecord_frame s e _))

@[simp] theorem State.post_pending (e : EventKind) (args : List Nat) : (s.post e args).pending = s.pending := by unfold State.post; dsimp only; split <;> simp
@[simp] theorem State.post_part (e : EventKind) (args : List Nat) : (s.post e args).part = s.part := by unfold State.post; dsimp only; split <;> simp
@[simp] theorem State.post_dev (e : EventKind) (args : List Nat) : (s.post e args).dev = s.dev := by unfold State.post; dsimp only; split <;> simp
@[simp] theorem State.post_dtime (e : EventKind) (args : List Nat) : (s.post e args).dtime = s.dtime := by unfold State.post; dsimp only; split <;> simp
@[simp] theorem State.post_knots (e : EventKind) (args : List Nat) : (s.post e args).knots = s.knots := by unfold State.post; dsimp only; split <;> simp
@[simp] theorem State.post_mem (e : EventKind) (args : List Nat) : (s.post e args).mem = s.mem := by unfold State.post; dsimp only; split <;> simp
@[simp] theorem State.post_badLines (e : EventKind) (args : List Nat) : (s.post e args).badLines = s.badLines := by unfold State.post; dsimp only; split <;> simp
@[simp] theorem State.post_cache (e : EventKind) (args : List Nat) : (s.post e args).cache = s.cache := by unfold State.post; dsimp only; split <;> simp
@[simp] theorem State.post_flights (e : EventKind) (args : List Nat) : (s.post e args).flights = s.flights := by unfold State.post; dsimp only; split <;> simp
@[simp] theorem State.post_fresh (e : EventKind) (args : List Nat) : (s.post e args).fresh = s.fresh := by unfold State.post; dsimp only; split <;> simp
@[simp] theorem State.post_hostShadow (e : EventKind) (args : List Nat) : (s.post e args).hostShadow = s.hostShadow := by unfold State.post; dsimp only; split <;> simp
@[simp] theorem State.post_binnacleShadow (e : EventKind) (args : List Nat) : (s.post e args).binnacleShadow = s.binnacleShadow := by unfold State.post; dsimp only; split <;> simp
@[simp] theorem State.post_mbx (e : EventKind) (args : List Nat) : (s.post e args).mbx = s.mbx := by unfold State.post; dsimp only; split <;> simp
@[simp] theorem State.post_rotation (e : EventKind) (args : List Nat) : (s.post e args).rotation = s.rotation := by unfold State.post; dsimp only; split <;> simp
@[simp] theorem State.post_pcie (e : EventKind) (args : List Nat) : (s.post e args).pcie = s.pcie := by unfold State.post; dsimp only; split <;> simp
@[simp] theorem State.post_mram (e : EventKind) (args : List Nat) : (s.post e args).mram = s.mram := by unfold State.post; dsimp only; split <;> simp
@[simp] theorem State.post_mramJob (e : EventKind) (args : List Nat) : (s.post e args).mramJob = s.mramJob := by unfold State.post; dsimp only; split <;> simp
@[simp] theorem State.post_boot (e : EventKind) (args : List Nat) : (s.post e args).boot = s.boot := by unfold State.post; dsimp only; split <;> simp
@[simp] theorem State.post_i3c (e : EventKind) (args : List Nat) : (s.post e args).i3c = s.i3c := by unfold State.post; dsimp only; split <;> simp
@[simp] theorem State.post_pwr (e : EventKind) (args : List Nat) : (s.post e args).pwr = s.pwr := by unfold State.post; dsimp only; split <;> simp
@[simp] theorem State.post_helm (e : EventKind) (args : List Nat) : (s.post e args).helm = s.helm := by unfold State.post; dsimp only; split <;> simp
@[simp] theorem State.post_rel (e : EventKind) (args : List Nat) : (s.post e args).rel = s.rel := by unfold State.post; dsimp only; split <;> simp
@[simp] theorem State.post_bist (e : EventKind) (args : List Nat) : (s.post e args).bist = s.bist := by unfold State.post; dsimp only; split <;> simp
@[simp] theorem State.post_sec (e : EventKind) (args : List Nat) : (s.post e args).sec = s.sec := by unfold State.post; dsimp only; split <;> simp
@[simp] theorem State.post_tap (e : EventKind) (args : List Nat) : (s.post e args).tap = s.tap := by unfold State.post; dsimp only; split <;> simp
@[simp] theorem State.post_frw (e : EventKind) (args : List Nat) : (s.post e args).frw = s.frw := by unfold State.post; dsimp only; split <;> simp
@[simp] theorem State.post_role (e : EventKind) (args : List Nat) : (s.post e args).role = s.role := by unfold State.post; dsimp only; split <;> simp
@[simp] theorem State.post_other (e : EventKind) (args : List Nat) : (s.post e args).other = s.other := by unfold State.post; dsimp only; split <;> simp
@[simp] theorem State.post_chart (e : EventKind) (args : List Nat) : (s.post e args).chart = s.chart := by unfold State.post; dsimp only; split <;> simp
@[simp] theorem State.post_load (e : EventKind) (args : List Nat) : (s.post e args).load = s.load := by unfold State.post; dsimp only; split <;> simp
@[simp] theorem State.post_oldHistory (e : EventKind) (args : List Nat) : (s.post e args).oldHistory = s.oldHistory := by unfold State.post; dsimp only; split <;> simp
@[simp] theorem State.post_snap (e : EventKind) (args : List Nat) : (s.post e args).snap = s.snap := by unfold State.post; dsimp only; split <;> simp
@[simp] theorem State.post_restore (e : EventKind) (args : List Nat) : (s.post e args).restore = s.restore := by unfold State.post; dsimp only; split <;> simp
@[simp] theorem State.post_fab (e : EventKind) (args : List Nat) : (s.post e args).fab = s.fab := by unfold State.post; dsimp only; split <;> simp
@[simp] theorem State.post_twin (e : EventKind) (args : List Nat) : (s.post e args).twin = s.twin := by unfold State.post; dsimp only; split <;> simp

/-! ### State.enter -/

/-- Nothing but dev, regs, evt, hold, out changes. -/
theorem State.enter_frame (d : DevState) (c : Nat) :
    { s.enter d c with dev := s.dev, regs := s.regs, evt := s.evt, hold := s.hold, out := s.out } = s := by
  obtain ⟨P, hP⟩ : ∃ P : State → State, P = fun u => { u with dev := s.dev, regs := s.regs, evt := s.evt, hold := s.hold, out := s.out } :=
    ⟨_, rfl⟩
  have h1 (u : State) (b : Nat) : P (u.raiseAlert b) = P u := by
    rw [hP]; unfold State.raiseAlert; dsimp only; split <;> rfl
  have h2 (u : State) (e : EventKind) (l : List Nat) : P (u.post e l) = P u := by
    rw [hP]
    exact congrArg
      (fun t : State => { t with dev := s.dev, regs := s.regs, evt := s.evt, hold := s.hold, out := s.out })
      (State.post_frame u e l)
  have h3 (u : State) (f : Field) (v : Nat) : P (u.set f v) = P u := by rw [hP]; rfl
  have h4 (u : State) : P u.assertFaultPin = P u := by rw [hP]; rfl
  have h5 (u : State) (o : Out) : P (u.emit o) = P u := by rw [hP]; rfl
  have h6 (u : State) (x : Housekeeping) : P { u with hold := x } = P u := by rw [hP]
  have h7 (x : DevState) : P { s with dev := x } = s := by rw [hP]
  have h : P (s.enter d c) = s := by
    unfold State.enter
    dsimp only
    split <;> split <;> simp only [h1, h2, h3, h4, h5, h6, h7]
  rw [hP] at h
  exact h

@[simp] theorem State.enter_pending (d : DevState) (c : Nat) : (s.enter d c).pending = s.pending := by unfold State.enter; dsimp only; split <;> split <;> simp
@[simp] theorem State.enter_part (d : DevState) (c : Nat) : (s.enter d c).part = s.part := by unfold State.enter; dsimp only; split <;> split <;> simp
@[simp] theorem State.enter_dtime (d : DevState) (c : Nat) : (s.enter d c).dtime = s.dtime := by unfold State.enter; dsimp only; split <;> split <;> simp
@[simp] theorem State.enter_knots (d : DevState) (c : Nat) : (s.enter d c).knots = s.knots := by unfold State.enter; dsimp only; split <;> split <;> simp
@[simp] theorem State.enter_mem (d : DevState) (c : Nat) : (s.enter d c).mem = s.mem := by unfold State.enter; dsimp only; split <;> split <;> simp
@[simp] theorem State.enter_badLines (d : DevState) (c : Nat) : (s.enter d c).badLines = s.badLines := by unfold State.enter; dsimp only; split <;> split <;> simp
@[simp] theorem State.enter_cache (d : DevState) (c : Nat) : (s.enter d c).cache = s.cache := by unfold State.enter; dsimp only; split <;> split <;> simp
@[simp] theorem State.enter_flights (d : DevState) (c : Nat) : (s.enter d c).flights = s.flights := by unfold State.enter; dsimp only; split <;> split <;> simp
@[simp] theorem State.enter_fresh (d : DevState) (c : Nat) : (s.enter d c).fresh = s.fresh := by unfold State.enter; dsimp only; split <;> split <;> simp
@[simp] theorem State.enter_hostShadow (d : DevState) (c : Nat) : (s.enter d c).hostShadow = s.hostShadow := by unfold State.enter; dsimp only; split <;> split <;> simp
@[simp] theorem State.enter_binnacleShadow (d : DevState) (c : Nat) : (s.enter d c).binnacleShadow = s.binnacleShadow := by unfold State.enter; dsimp only; split <;> split <;> simp
@[simp] theorem State.enter_mbx (d : DevState) (c : Nat) : (s.enter d c).mbx = s.mbx := by unfold State.enter; dsimp only; split <;> split <;> simp
@[simp] theorem State.enter_rotation (d : DevState) (c : Nat) : (s.enter d c).rotation = s.rotation := by unfold State.enter; dsimp only; split <;> split <;> simp
@[simp] theorem State.enter_pcie (d : DevState) (c : Nat) : (s.enter d c).pcie = s.pcie := by unfold State.enter; dsimp only; split <;> split <;> simp
@[simp] theorem State.enter_mram (d : DevState) (c : Nat) : (s.enter d c).mram = s.mram := by unfold State.enter; dsimp only; split <;> split <;> simp
@[simp] theorem State.enter_mramJob (d : DevState) (c : Nat) : (s.enter d c).mramJob = s.mramJob := by unfold State.enter; dsimp only; split <;> split <;> simp
@[simp] theorem State.enter_boot (d : DevState) (c : Nat) : (s.enter d c).boot = s.boot := by unfold State.enter; dsimp only; split <;> split <;> simp
@[simp] theorem State.enter_i3c (d : DevState) (c : Nat) : (s.enter d c).i3c = s.i3c := by unfold State.enter; dsimp only; split <;> split <;> simp
@[simp] theorem State.enter_pwr (d : DevState) (c : Nat) : (s.enter d c).pwr = s.pwr := by unfold State.enter; dsimp only; split <;> split <;> simp
@[simp] theorem State.enter_helm (d : DevState) (c : Nat) : (s.enter d c).helm = s.helm := by unfold State.enter; dsimp only; split <;> split <;> simp
@[simp] theorem State.enter_rel (d : DevState) (c : Nat) : (s.enter d c).rel = s.rel := by unfold State.enter; dsimp only; split <;> split <;> simp
@[simp] theorem State.enter_bist (d : DevState) (c : Nat) : (s.enter d c).bist = s.bist := by unfold State.enter; dsimp only; split <;> split <;> simp
@[simp] theorem State.enter_sec (d : DevState) (c : Nat) : (s.enter d c).sec = s.sec := by unfold State.enter; dsimp only; split <;> split <;> simp
@[simp] theorem State.enter_tap (d : DevState) (c : Nat) : (s.enter d c).tap = s.tap := by unfold State.enter; dsimp only; split <;> split <;> simp
@[simp] theorem State.enter_frw (d : DevState) (c : Nat) : (s.enter d c).frw = s.frw := by unfold State.enter; dsimp only; split <;> split <;> simp
@[simp] theorem State.enter_role (d : DevState) (c : Nat) : (s.enter d c).role = s.role := by unfold State.enter; dsimp only; split <;> split <;> simp
@[simp] theorem State.enter_other (d : DevState) (c : Nat) : (s.enter d c).other = s.other := by unfold State.enter; dsimp only; split <;> split <;> simp
@[simp] theorem State.enter_chart (d : DevState) (c : Nat) : (s.enter d c).chart = s.chart := by unfold State.enter; dsimp only; split <;> split <;> simp
@[simp] theorem State.enter_load (d : DevState) (c : Nat) : (s.enter d c).load = s.load := by unfold State.enter; dsimp only; split <;> split <;> simp
@[simp] theorem State.enter_oldHistory (d : DevState) (c : Nat) : (s.enter d c).oldHistory = s.oldHistory := by unfold State.enter; dsimp only; split <;> split <;> simp
@[simp] theorem State.enter_snap (d : DevState) (c : Nat) : (s.enter d c).snap = s.snap := by unfold State.enter; dsimp only; split <;> split <;> simp
@[simp] theorem State.enter_restore (d : DevState) (c : Nat) : (s.enter d c).restore = s.restore := by unfold State.enter; dsimp only; split <;> split <;> simp
@[simp] theorem State.enter_fab (d : DevState) (c : Nat) : (s.enter d c).fab = s.fab := by unfold State.enter; dsimp only; split <;> split <;> simp
@[simp] theorem State.enter_twin (d : DevState) (c : Nat) : (s.enter d c).twin = s.twin := by unfold State.enter; dsimp only; split <;> split <;> simp
/-- The device state that `enter` leaves. -/
@[simp] theorem State.enter_dev (d : DevState) (c : Nat) : (s.enter d c).dev = d := by
  unfold State.enter
  dsimp only
  split <;> split <;> simp [State.assertFaultPin]

end Sys2Proof.Machine
end

