-- ==== Sys2Proof/Laws/Ops.lean ====
section
/-! SUPPORT. What the shared operations do: register reads through them, module memory read after written, the canonical
form of memory, event records and the device state. -/

namespace Sys2Proof.Machine

variable (s : State)

/-! ### Registers seen through operations that do not write them -/

/-- What a register holds depends on the register file and the part alone. -/
theorem State.rd_congr {s t : State} (hr : t.regs = s.regs) (hp : t.part = s.part) (k : Nat) : t.rd k = s.rd k := by
  unfold State.rd; rw [hr, hp]

theorem State.get_congr {s t : State} (hr : t.regs = s.regs) (hp : t.part = s.part) (f : Field) : t.get f = s.get f := by
  unfold State.get; rw [State.rd_congr hr hp]

theorem State.flag_congr {s t : State} (hr : t.regs = s.regs) (hp : t.part = s.part) (f : Field) : t.flag f = s.flag f := by
  unfold State.flag; rw [State.get_congr hr hp]

@[simp] theorem State.rd_emit (o : Out) (k : Nat) : (s.emit o).rd k = s.rd k := rfl
@[simp] theorem State.get_emit (o : Out) (f : Field) : (s.emit o).get f = s.get f := rfl
@[simp] theorem State.flag_emit (o : Out) (f : Field) : (s.emit o).flag f = s.flag f := rfl
@[simp] theorem State.rd_raiseAlert (b k : Nat) : (s.raiseAlert b).rd k = s.rd k := by simp [State.rd]
@[simp] theorem State.get_raiseAlert (b : Nat) (f : Field) : (s.raiseAlert b).get f = s.get f := by simp [State.get]
@[simp] theorem State.flag_raiseAlert (b : Nat) (f : Field) : (s.raiseAlert b).flag f = s.flag f := by simp [State.flag]
@[simp] theorem State.rd_clearAlert (m : BitVec 7) (k : Nat) : (s.clearAlert m).rd k = s.rd k := by simp [State.rd]
@[simp] theorem State.get_clearAlert (m : BitVec 7) (f : Field) : (s.clearAlert m).get f = s.get f := by simp [State.get]
@[simp] theorem State.rd_writeBytes (a : Nat) (bs : List Byte) (k : Nat) : (s.writeBytes a bs).rd k = s.rd k := by
  simp [State.rd]
@[simp] theorem State.rd_store (a : Nat) (bs : List Byte) (k : Nat) : (s.store a bs).rd k = s.rd k := by simp [State.rd]
@[simp] theorem State.get_store (a : Nat) (bs : List Byte) (f : Field) : (s.store a bs).get f = s.get f := by simp [State.get]
@[simp] theorem State.flag_store (a : Nat) (bs : List Byte) (f : Field) : (s.store a bs).flag f = s.flag f := by
  simp [State.flag]
@[simp] theorem State.rd_assertFaultPin (k : Nat) : s.assertFaultPin.rd k = s.rd k := rfl

/-- Only the counts of EVT_STATUS change in the register file when a record is queued. -/
theorem State.rd_queueRecord (e : EventKind) (args : List W64) (k : Nat) (h : k ≠ Reg.EVT_STATUS.MASKED.reg) :
    (s.queueRecord e args).rd k = s.rd k := by
  unfold State.queueRecord
  dsimp only
  split
  · exact State.rd_set_other _ _ _ _ h
  · split
    · rfl
    · refine Eq.trans (State.rd_congr (s := State.bump { s with evt := { s.evt with seq := s.evt.seq + 1 } }
        Reg.EVT_STATUS.LOST 1) rfl rfl k) ?_
      exact State.rd_set_other _ Reg.EVT_STATUS.LOST _ _ h

/-- Posting an event changes no register but EVT_STATUS. -/
theorem State.rd_post (e : EventKind) (args : List Nat) (k : Nat) (h : k ≠ Reg.EVT_STATUS.MASKED.reg) :
    (s.post e args).rd k = s.rd k := by
  unfold State.post
  dsimp only
  split
  · exact State.rd_queueRecord s e _ k h
  · rw [State.rd_raiseAlert]; exact State.rd_queueRecord s e _ k h

theorem State.get_post (e : EventKind) (args : List Nat) (f : Field) (h : f.reg ≠ Reg.EVT_STATUS.MASKED.reg) :
    (s.post e args).get f = s.get f := by unfold State.get; rw [State.rd_post s e args f.reg h]

theorem State.flag_post (e : EventKind) (args : List Nat) (f : Field) (h : f.reg ≠ Reg.EVT_STATUS.MASKED.reg) :
    (s.post e args).flag f = s.flag f := by unfold State.flag; rw [State.get_post s e args f h]

/-! ### Events -/

/-- SEQ counts every posting (R424). -/
@[simp] theorem State.post_seq (e : EventKind) (args : List Nat) : (s.post e args).evt.seq = s.evt.seq + 1 := by
  have hr (t : State) (b : Nat) : (t.raiseAlert b).evt = t.evt := by simp
  unfold State.post
  dsimp only
  split
  · unfold State.queueRecord; dsimp only; split
    · simp
    · split <;> simp
  · rw [hr]; unfold State.queueRecord; dsimp only; split
    · simp
    · split <;> simp

/-- The record that an event posted now carries (Table 13-11). -/
def State.recordOf (e : EventKind) (args : List Nat) : Record :=
  ⟨s.evt.seq + 1, e.code, e.severity.code, e.alert.isSome, BitVec.ofNat 64 s.dtime, s.eventStep, args.map (BitVec.ofNat 64)⟩

/-- An event that is not masked joins the queue while it has room (R426). -/
theorem State.post_queue (e : EventKind) (args : List Nat) (hm : e.severity = .fatal ∨ s.eventMasked e.code = false)
    (hq : s.evt.queue.length < 4096) : (s.post e args).evt.queue = s.evt.queue ++ [s.recordOf e args] := by
  have hr (t : State) (b : Nat) : (t.raiseAlert b).evt = t.evt := by simp
  have hc : ¬(e.severity ≠ .fatal ∧ s.eventMasked e.code = true) := by
    rintro ⟨h1, h2⟩
    cases hm with
    | inl h => exact h1 h
    | inr h => rw [h2] at h; cases h
  have h : (s.queueRecord e (args.map (BitVec.ofNat 64))).evt.queue = s.evt.queue ++ [s.recordOf e args] := by
    unfold State.queueRecord
    dsimp only
    rw [if_neg hc, if_pos hq]
    rfl
  unfold State.post
  dsimp only
  split
  · exact h
  · rw [hr]; exact h

/-- An event without an alert puts nothing out and raises nothing. -/
theorem State.post_quiet (e : EventKind) (args : List Nat) (h : e.alert = none) :
    (s.post e args).out = s.out ∧ (s.post e args).hold = s.hold := by
  unfold State.post
  rw [h]
  exact ⟨by simp, by simp⟩

/-- An event with an alert sets that bit of MG_ALERT and leaves the others. -/
theorem State.post_alert (e : EventKind) (args : List Nat) (a : Alert) (h : e.alert = some a) :
    (s.post e args).hold.alert = s.hold.alert ||| BitVec.ofNat 7 (2 ^ a.bit) := by
  unfold State.post
  rw [h]
  dsimp only
  unfold State.raiseAlert
  dsimp only
  split <;> simp [State.emit]

/-! ### The device state -/

/-- The registers that entering a state leaves: CAP_STATE written, one event posted. -/
theorem State.enter_regs (d : DevState) (c : Nat) :
    (s.enter d c).regs = ((({ s with dev := d }.set Reg.CAP_STATE.PREVIOUS s.dev.code).set Reg.CAP_STATE.CAUSE c).post
      Ev.stateChanged [s.dev.code, d.code, c]).regs := by
  unfold State.enter
  dsimp only
  split <;> split <;> simp

/-- Entering a state writes CAP_STATE and posts one event; every other register stays. -/
theorem State.rd_enter (d : DevState) (c k : Nat) (h1 : k ≠ Reg.CAP_STATE.STATE.reg) (h2 : k ≠ Reg.EVT_STATUS.MASKED.reg) :
    (s.enter d c).rd k = s.rd k := by
  rw [State.rd_congr (State.enter_regs s d c) (by simp) k, State.rd_post _ _ _ _ h2,
    State.rd_set_other _ Reg.CAP_STATE.CAUSE _ _ h1, State.rd_set_other _ Reg.CAP_STATE.PREVIOUS _ _ h1]
  rfl

theorem State.rd_enter_state (d : DevState) (c : Nat) :
    (s.enter d c).rd Reg.CAP_STATE.STATE.reg
      = (({ s with dev := d }.set Reg.CAP_STATE.PREVIOUS s.dev.code).set Reg.CAP_STATE.CAUSE c).rd
          Reg.CAP_STATE.STATE.reg := by
  rw [State.rd_congr (State.enter_regs s d c) (by simp) _]
  exact State.rd_post _ _ _ _ (by decide)

/-- CAUSE is the cause given (R414). -/
theorem State.enter_cause (d : DevState) (c : Nat) : (s.enter d c).get Reg.CAP_STATE.CAUSE = c % 2 ^ 16 := by
  unfold State.get
  rw [show (s.enter d c).rd Reg.CAP_STATE.CAUSE.reg = _ from State.rd_enter_state s d c]
  exact State.get_set_same _ Reg.CAP_STATE.CAUSE c (by decide)

/-- PREVIOUS is the state left (R414). -/
theorem State.enter_previous (d : DevState) (c : Nat) :
    (s.enter d c).get Reg.CAP_STATE.PREVIOUS = s.dev.code := by
  have hc : s.dev.code % 2 ^ Reg.CAP_STATE.PREVIOUS.width = s.dev.code := by cases s.dev <;> rfl
  unfold State.get
  rw [show (s.enter d c).rd Reg.CAP_STATE.PREVIOUS.reg = _ from State.rd_enter_state s d c]
  exact ((State.get_set_apart _ Reg.CAP_STATE.CAUSE Reg.CAP_STATE.PREVIOUS c (by decide) (by decide)).trans
    (State.get_set_same _ Reg.CAP_STATE.PREVIOUS _ (by decide))).trans hc

theorem State.get_enter (d : DevState) (c : Nat) (f : Field) (h1 : f.reg ≠ Reg.CAP_STATE.STATE.reg)
    (h2 : f.reg ≠ Reg.EVT_STATUS.MASKED.reg) : (s.enter d c).get f = s.get f := by
  unfold State.get; rw [State.rd_enter s d c _ h1 h2]

theorem State.flag_enter (d : DevState) (c : Nat) (f : Field) (h1 : f.reg ≠ Reg.CAP_STATE.STATE.reg)
    (h2 : f.reg ≠ Reg.EVT_STATUS.MASKED.reg) : (s.enter d c).flag f = s.flag f := by
  unfold State.flag; rw [State.get_enter s d c f h1 h2]

/-- Entering a state posts one event (R424). -/
@[simp] theorem State.enter_seq (d : DevState) (c : Nat) : (s.enter d c).evt.seq = s.evt.seq + 1 := by
  unfold State.enter
  dsimp only
  split <;> split <;> simp

/-! ### Module memory -/

theorem State.readByte_writeByte_same (a : Nat) (b : Byte) : (s.writeByte a b).readByte a = b := by
  simp [State.readByte, State.writeByte]

theorem State.readByte_writeByte_other (a j : Nat) (b : Byte) (h : j ≠ a) : (s.writeByte a b).readByte j = s.readByte j := by
  simp [State.readByte, State.writeByte, sparseGet_put_other _ h]

/-- Writing bytes leaves every address outside them alone. -/
theorem State.readByte_writeBytes_outside (a : Nat) (bs : List Byte) (j : Nat) (h : j < a ∨ a + bs.length ≤ j) :
    (s.writeBytes a bs).readByte j = s.readByte j := by
  induction bs generalizing s a with
  | nil => rfl
  | cons b bs ih =>
    rw [State.writeBytes, ih]
    · exact State.readByte_writeByte_other s a j b (by simp at h; omega)
    · simp at h; omega

/-- Each byte written is read back. -/
theorem State.readByte_writeBytes_inside (a : Nat) (bs : List Byte) (i : Nat) (h : i < bs.length) :
    (s.writeBytes a bs).readByte (a + i) = bs[i] := by
  induction bs generalizing s a i with
  | nil => simp at h
  | cons b bs ih =>
    rw [State.writeBytes]
    cases i with
    | zero => rw [State.readByte_writeBytes_outside _ _ _ _ (by simp)]; exact State.readByte_writeByte_same s a b
    | succ i =>
      have h' : i < bs.length := by simpa using h
      have := ih (s.writeByte a b) (a + 1) i h'
      simpa [Nat.add_assoc, Nat.add_comm 1 i] using this

/-- What is written depends on the bytes of module memory alone. -/
theorem State.writeBytes_mem {t : State} (a : Nat) (bs : List Byte) (h : t.mem = s.mem) :
    (t.writeBytes a bs).mem = (s.writeBytes a bs).mem := by
  induction bs generalizing s t a with
  | nil => exact h
  | cons b bs ih => exact ih _ _ (by simp [State.writeByte, h])

@[simp] theorem State.readByte_store (a : Nat) (bs : List Byte) (j : Nat) :
    (s.store a bs).readByte j = (s.writeBytes a bs).readByte j :=
  congrArg (fun m => sparseGet 0 j m) (State.writeBytes_mem s a bs (State.touchCache_mem s a bs.length true false))

/-- Bytes read where bytes were just stored are those bytes. -/
theorem State.readBytes_store (a : Nat) (bs : List Byte) : (s.store a bs).readBytes a bs.length = bs := by
  apply List.ext_getElem
  · simp [State.readBytes]
  · intro i h1 h2
    simp only [State.readBytes, List.getElem_map, List.getElem_range, State.readByte_store]
    exact State.readByte_writeBytes_inside s a bs i h2

theorem State.writeByte_wf (a : Nat) (b : Byte) (h : Memory.wf s.mem = true) : Memory.wf (s.writeByte a b).mem = true :=
  sparseWf_put (fun _ => (0 : Byte)) a b s.mem h

theorem State.writeBytes_wf (a : Nat) (bs : List Byte) (h : Memory.wf s.mem = true) :
    Memory.wf (s.writeBytes a bs).mem = true := by
  induction bs generalizing s a with
  | nil => exact h
  | cons b bs ih => exact ih _ _ (State.writeByte_wf s a b h)

theorem State.store_wf (a : Nat) (bs : List Byte) (h : Memory.wf s.mem = true) : Memory.wf (s.store a bs).mem = true :=
  State.writeBytes_wf _ a bs (by rw [State.touchCache_mem]; exact h)

theorem State.loseStack_wf (n : Nat) (h : Memory.wf s.mem = true) : Memory.wf (s.loseStack n).mem = true :=
  sparseWf_filter _ _ _ h

theorem State.loseHbm_wf (h : Memory.wf s.mem = true) : Memory.wf s.loseHbm.mem = true := sparseWf_filter _ _ _ h

theorem State.reset_wf : Memory.wf State.reset.mem = true := rfl

end Sys2Proof.Machine
end

