-- ==== Sys2Proof/Laws/Kept.lean ====
section
/-! SUPPORT. What every operation keeps: the command queue, the part, the canonical form of memory and knots, the bound of the event
queue, and the value of every knot or more. `Kept r t` says it of a state `t` reached from `r`; one lemma per way of building a state
and one per primitive, from which the lemma of every operation follows. -/

namespace Sys2Proof.Machine

/-- `t`, reached from `r`, keeps the queue, the part, the canonical forms and the bound, and no knot has fallen. -/
structure Kept (r t : State) : Prop where
  pending : t.pending = r.pending
  variant : t.part.variant = r.part.variant
  uid : t.part.uid = r.part.uid
  mem : Memory.wf r.mem = true → Memory.wf t.mem = true
  knots : sparseWf (fun _ => (0 : W64)) r.knots = true → sparseWf (fun _ => (0 : W64)) t.knots = true
  queue : r.evt.queue.length ≤ 4096 → t.evt.queue.length ≤ 4096
  rise : ∀ k, (r.knot k).toNat ≤ (t.knot k).toNat

theorem Kept.refl (r : State) : Kept r r where
  pending := rfl
  variant := rfl
  uid := rfl
  mem := id
  knots := id
  queue := id
  rise := fun _ => Nat.le_refl _

theorem Kept.trans {r t u : State} (h : Kept r t) (g : Kept t u) : Kept r u where
  pending := g.pending.trans h.pending
  variant := g.variant.trans h.variant
  uid := g.uid.trans h.uid
  mem := g.mem ∘ h.mem
  knots := g.knots ∘ h.knots
  queue := g.queue ∘ h.queue
  rise := fun k => Nat.le_trans (h.rise k) (g.rise k)

/-- A record update of other fields. -/
theorem Kept.same {r s t : State} (h : Kept r s) (hp : t.pending = s.pending) (hv : t.part = s.part) (hm : t.mem = s.mem)
    (hk : t.knots = s.knots) (hq : t.evt.queue = s.evt.queue) : Kept r t where
  pending := hp.trans h.pending
  variant := (congrArg Part.variant hv).trans h.variant
  uid := (congrArg Part.uid hv).trans h.uid
  mem := hm ▸ h.mem
  knots := hk ▸ h.knots
  queue := hq ▸ h.queue
  rise := fun k => by
    have hs := h.rise k
    unfold State.knot at hs ⊢
    rw [hk]; exact hs

/-- A record update of fields other than the queue, the part, memory and the knots, the event queue as it was. -/
theorem Kept.update {r s : State}
    {dev : DevState} {dtime : Nat} {regs : List (Nat × W64)} {badLines : List Nat} {cache : List (Nat × CacheSet)}
    {flights : List Flight} {fresh : Nat} {out : List Out}
    {hostShadow : Option Shadow} {binnacleShadow : Option Shadow} {evt : EventUnit} {mbx : List (Nat × Mailbox)}
    {rotation : Nat} {pcie : PcieUnit} {mram : Mram} {mramJob : Option MramJob} {hold : Housekeeping} {boot : BootUnit}
    {i3c : I3cUnit} {pwr : PowerUnit} {helm : HelmUnit} {rel : RelUnit} {bist : Option BistRun} {sec : SecUnit} {tap : TapUnit}
    {frw : Option FrwJob} {role : Role} {other : Option Role} {chart : ChartUnit} {load : Option LoadJob}
    {oldHistory : List (Nat × HistSlot)} {snap : Option SnapRun} {restore : Option RestoreRun} {fab : FabUnit} {twin : TwinUnit}
    (h : Kept r s) (hq : evt.queue = s.evt.queue) : Kept r { s with
      dev := dev, dtime := dtime, regs := regs, badLines := badLines, cache := cache, flights := flights, fresh := fresh, out := out,
      hostShadow := hostShadow,
      binnacleShadow := binnacleShadow, evt := evt, mbx := mbx, rotation := rotation, pcie := pcie, mram := mram,
      mramJob := mramJob, hold := hold, boot := boot, i3c := i3c, pwr := pwr, helm := helm, rel := rel, bist := bist,
      sec := sec, tap := tap, frw := frw, role := role, other := other, chart := chart, load := load, oldHistory := oldHistory,
      snap := snap, restore := restore, fab := fab, twin := twin } :=
  Kept.same h rfl rfl rfl rfl hq

theorem Kept.ite {r a b : State} {c : Prop} [Decidable c] (ha : Kept r a) (hb : Kept r b) : Kept r (if c then a else b) := by
  split
  · exact ha
  · exact hb

theorem Kept.foldl {α : Type} {r s : State} {f : State → α → State} (xs : List α) (h : Kept r s)
    (hf : ∀ t x, Kept r t → Kept r (f t x)) : Kept r (xs.foldl f s) := by
  induction xs generalizing s with
  | nil => exact h
  | cons x xs ih => exact ih (hf s x h)

/-- A fold that carries a value beside the state. -/
theorem Kept.foldlPair {α β : Type} {r : State} {f : β × State → α → β × State} (xs : List α) {p : β × State} (h : Kept r p.2)
    (hf : ∀ q x, Kept r q.2 → Kept r (f q x).2) : Kept r (xs.foldl f p).2 := by
  induction xs generalizing p with
  | nil => exact h
  | cons x xs ih => exact ih (hf p x h)

theorem Kept.foldlPair' {α β : Type} {r : State} {f : State × β → α → State × β} (xs : List α) {p : State × β} (h : Kept r p.1)
    (hf : ∀ q x, Kept r q.1 → Kept r (f q x).1) : Kept r (xs.foldl f p).1 := by
  induction xs generalizing p with
  | nil => exact h
  | cons x xs ih => exact ih (hf p x h)

/-- What an attempt keeps when it succeeds. -/
structure KeptIf (r : State) (o : Option State) : Prop where
  of : ∀ t, o = some t → Kept r t

theorem Kept.ofSome {r t : State} {o : Option State} (h : o = some t) (ho : KeptIf r o) : Kept r t := ho.of t h

theorem KeptIf.some {r s : State} (h : Kept r s) : KeptIf r (some s) := ⟨fun _ e => Option.some.inj e ▸ h⟩

theorem KeptIf.none {r : State} : KeptIf r none := ⟨fun _ e => nomatch e⟩

theorem KeptIf.ite {r : State} {a b : Option State} {c : Prop} [Decidable c] (ha : KeptIf r a) (hb : KeptIf r b) :
    KeptIf r (if c then a else b) := by
  split
  · exact ha
  · exact hb

theorem KeptIf.bind {r : State} {o : Option State} {f : State → Option State} (h : KeptIf r o)
    (hf : ∀ t, Kept r t → KeptIf r (f t)) : KeptIf r (o.bind f) := by
  cases o with
  | none => exact KeptIf.none
  | some t => exact hf t (h.of t rfl)

theorem KeptIf.bindValue {α : Type} {r : State} {o : Option α} {f : α → Option State} (hf : ∀ x, KeptIf r (f x)) :
    KeptIf r (o.bind f) := by
  cases o with
  | none => exact KeptIf.none
  | some x => exact hf x

theorem KeptIf.map {r : State} {o : Option State} {f : State → State} (h : KeptIf r o) (hf : ∀ t, Kept r t → Kept r (f t)) :
    KeptIf r (o.map f) := by
  cases o with
  | none => exact KeptIf.none
  | some t => exact KeptIf.some (hf t (h.of t rfl))

theorem KeptIf.mapValue {α : Type} {r : State} {o : Option α} {f : α → State} (hf : ∀ x, Kept r (f x)) : KeptIf r (o.map f) := by
  cases o with
  | none => exact KeptIf.none
  | some x => exact KeptIf.some (hf x)

/-- A fold that may fail. -/
theorem KeptIf.foldl {α : Type} {r : State} {f : Option State → α → Option State} (xs : List α) {p : Option State}
    (h : KeptIf r p) (hf : ∀ q x, KeptIf r q → KeptIf r (f q x)) : KeptIf r (xs.foldl f p) := by
  induction xs generalizing p with
  | nil => exact h
  | cons x xs ih => exact ih (hf p x h)

/-- The state that an attempt answers, or the one given where it fails. -/
theorem Kept.getD {r s : State} {o : Option State} (ho : KeptIf r o) (h : Kept r s) : Kept r (o.getD s) := by
  cases o with
  | none => exact h
  | some t => exact ho.of t rfl

/-! ### The primitives -/

theorem State.writeByte_kept {r s : State} (h : Kept r s) (a : Nat) (b : Byte) : Kept r (s.writeByte a b) :=
  { h with mem := fun hr => State.writeByte_wf s a b (h.mem hr) }

theorem State.writeBytes_kept {r s : State} (h : Kept r s) (a : Nat) (bs : List Byte) : Kept r (s.writeBytes a bs) := by
  induction bs generalizing s a with
  | nil => exact h
  | cons b bs ih => exact ih (State.writeByte_kept h a b) _

theorem State.loseStack_kept {r s : State} (h : Kept r s) (n : Nat) : Kept r (s.loseStack n) :=
  { h with mem := fun hr => State.loseStack_wf s n (h.mem hr) }

theorem State.loseHbm_kept {r s : State} (h : Kept r s) : Kept r s.loseHbm :=
  { h with mem := fun hr => State.loseHbm_wf s (h.mem hr) }

theorem State.freeWord_kept {r s : State} (h : Kept r s) : Kept r s.freeWord.2 := Kept.same h rfl rfl rfl rfl rfl

theorem State.queueRecord_kept {r s : State} (h : Kept r s) (e : EventKind) (args : List W64) : Kept r (s.queueRecord e args) := by
  unfold State.queueRecord
  dsimp only
  split
  · exact Kept.same h rfl rfl rfl rfl rfl
  · split
    · exact { h with queue := fun _ => by simp only [List.length_append, List.length_cons, List.length_nil]; omega }
    · exact Kept.same h rfl rfl rfl rfl rfl

theorem State.knot_put {s : State} (k : Nat) (v : W64) (hv : (s.knot k).toNat ≤ v.toNat) (j : Nat) :
    (s.knot j).toNat ≤ (sparseGet 0 j (sparsePut 0 k v s.knots)).toNat := by
  by_cases hj : j = k
  · subst hj; rw [sparseGet_put_same]; exact hv
  · rw [sparseGet_put_other 0 hj]; exact Nat.le_refl _

theorem State.advance_kept {r s : State} (h : Kept r s) (k n : Nat) : Kept r (s.advance k n) := by
  unfold State.advance
  split
  · rename_i hlt
    refine { h with knots := fun hr => sparseWf_put (fun _ => 0) _ _ _ (h.knots hr), rise := fun j => ?_ }
    refine Nat.le_trans (h.rise j) (State.knot_put k _ ?_ j)
    rw [BitVec.toNat_add, BitVec.toNat_ofNat]
    have : n < 2 ^ 64 := by omega
    rw [Nat.mod_eq_of_lt this, Nat.mod_eq_of_lt hlt]
    omega
  · refine { h with knots := fun hr => sparseWf_put (fun _ => 0) _ _ _ (h.knots hr), rise := fun j => ?_ }
    refine Nat.le_trans (h.rise j) (State.knot_put k _ ?_ j)
    have h1 := (s.knot k).isLt
    have h2 := s.freeWord.1.isLt
    rw [BitVec.toNat_ofNat, Nat.mod_eq_of_lt (by omega)]
    omega

end Sys2Proof.Machine
end

