-- ==== Sys2Proof/Tests/Slice0.lean ====
section
/-! SUPPORT. The model's own tests: the well-formedness smoke test, the spec's worked examples, and for each statement with hypotheses
a witness that meets them. -/

namespace Sys2Proof.Tests

open Sys2Proof.Machine Sys2Proof.Claims

/-- The machine's state. -/
abbrev State := Machine.State

/-! ### Well-formedness: one ill-formed command for each check -/

/-- A packet with a type and nothing else. -/
def packetOf (t : BitVec 4) : Packet where
  ptype := t
  cls := 0
  esc := false
  dest := 0
  src := 0
  hops := 0
  knot := 0
  addr := 0
  attempt := 0
  tag := 0
  arg := 0
  aux := 0
  ext0 := 0
  ext1 := 0
  data := []
  headOk := true
  dataOk := true

/-- A command of mailbox 0 with one argument. -/
def cmdOf (a0 : W64) : Cmd where
  mbx := 0
  tag := 0x2A
  rsv := 0
  a0 := a0
  a1 := 0
  a2 := 0
  a3 := 0
  a4 := 0
  a5 := 0
  a6 := 0
  data := []
  fault := false

theorem test_wf_aligned_read : (Instr.regReadUnaligned .host .bar0 0x28 .w64).wf = false := by decide
theorem test_wf_unaligned_read : (Instr.regReadUnaligned .host .bar0 0x2C .w64).wf = true := by decide
theorem test_wf_enable : (Instr.mbxEnable 0 0).wf = false := by decide
theorem test_wf_disable : (Instr.mbxDisable 0 0x8000000000000000).wf = false := by decide
theorem test_wf_ring : (Instr.evtRingEnable 6).wf = false := by decide
theorem test_wf_bar4_empty : (Instr.bar4Read 0 0).wf = false := by decide
theorem test_wf_bar4_end : (Instr.bar4Write 0x7FFFFFFFFF [1, 2] false).wf = false := by decide
theorem test_wf_retire : (Instr.unitRetire (cmdOf 0x100000000)).wf = false := by decide
theorem test_wf_removal : (Instr.unitRetireRemoval (cmdOf 0)).wf = false := by decide
theorem test_wf_bus_read : (Instr.mgRegisterRead 0 0).wf = false := by decide
theorem test_wf_bist : (Instr.bistBatchComplete 0 [1, 1] [] false).wf = false := by decide
theorem test_wf_write : (Instr.write (packetOf 1)).wf = false := by decide
theorem test_wf_read_req : (Instr.readReq (packetOf 0)).wf = false := by decide
theorem test_wf_read_resp : (Instr.readResp (packetOf 3)).wf = false := by decide
theorem test_wf_ack : (Instr.ack (packetOf 2)).wf = false := by decide
theorem test_wf_signal : (Instr.signal (packetOf 5)).wf = false := by decide
theorem test_wf_arrive : (Instr.rdvArrive (packetOf 6)).wf = false := by decide
theorem test_wf_release : (Instr.rdvRelease (packetOf 5)).wf = false := by decide
theorem test_wf_partial : (Instr.redPartial (packetOf 8)).wf = false := by decide
theorem test_wf_result : (Instr.redResult (packetOf 7)).wf = false := by decide
theorem test_wf_pace : (Instr.pace (packetOf 14)).wf = false := by decide
theorem test_wf_bad_type : (Instr.badPacketType (packetOf 13)).wf = false := by decide

/-! ### Small states -/

/-- A command of mailbox 0 without arguments. -/
def c0 : Cmd where
  mbx := 0
  tag := 0x2A
  rsv := 0
  a0 := 0
  a1 := 0
  a2 := 0
  a3 := 0
  a4 := 0
  a5 := 0
  a6 := 0
  data := []
  fault := false

/-- READY, with nothing loaded and the PCIe link up. -/
def atReady : State :=
  ((({ State.reset with
    dev := .ready
    pcie := ⟨false, true, false, true, 9⟩ }).set Reg.CAP_PCIE.GEN 7).set Reg.CAP_PCIE.WIDTH 16).set Reg.CAP_PCIE.BUS_MASTER 1

/-- An FP32 tensor of one tile, with nothing attached. -/
def tensor0 : Tensor where
  id := 0
  format := 0
  kind := 3
  carry := false
  outMode := 0
  rnd := 0
  block := 0
  zp := false
  rowBlocks := false
  alt6 := false
  alt8 := false
  ceiling := 0
  drift := 0
  driftGradient := false
  outliers := false
  master := false
  pinned := false
  offloadOk := false
  isLocal := false
  shape := 2
  init := 0
  rows := 1
  cols := 1
  coarse := 0x3F800000
  group := 0
  partner := 0xFFFF
  scalesId := 0xFFFF
  zpId := 0xFFFF
  outIndexId := 0xFFFF
  outSideId := 0xFFFF
  pinTier := 0
  pinAddr := 0
  source := 0

/-- A watched tensor. -/
def tensor3 : Tensor := { tensor0 with id := 3, drift := 1 }

/-- The high half of a weight. -/
def tensor4 : Tensor := { tensor0 with id := 4, kind := 0, format := 1 }

/-- A copy leg of one tile. -/
def leg0 : Leg where
  kind := 6
  orientA := false
  orientB := false
  y := 3
  a := 0
  b := 0xFFFF
  streamCount := 0
  firstTile := 0
  tileCount := 1
  kStart := 0
  kLen := 0
  chunk := 0
  chunkCount := 0
  useIndex := 0
  op := 0
  firstStream := 0
  param0 := 0
  param1 := 0
  rowChunk := 0
  waitEn := false
  waitKnot := 0
  waitStep := 0
  signalEn := false
  signalKnot := 0

/-- A small passage. -/
def p0 : Passage where
  id := 1
  seed := 0
  sndBase := 0x8000
  sndStride := 4096
  sndDepth := 1
  paramBase := 0
  paramDepth := 1
  normCollective := 0xFFFF
  carryHistory := false
  fPages := 4
  dxPages := 4
  dwPages := 4
  patternLen := 1
  pattern := 0
  seqLen := 1
  tensors := [tensor0, tensor3, tensor4]
  legs := [leg0]
  streams := []
  programs := []
  collectives := []
  offload := []
  hostmap := []
  image := []

/-- The Chart entries of the small passage's tensors. -/
def entries0 : List (Nat × ChartEntry) :=
  [(0, { tensor0.newEntry 0 1 1 0x2000 0 with state := 2 }), (1, { tensor3.newEntry 0 1 1 0x6000 1 with state := 2 }),
   (2, { tensor4.newEntry 0 1 1 0xA000 2 with state := 2 })]

/-- The small passage loaded, in a device state. -/
def atState (d : DevState) : State :=
  { atReady with
    dev := d
    role := { Role.empty with passage := some p0 }
    chart := { ChartUnit.empty with entries := entries0, markBytes := 2 } }.set Reg.CAP_RUN.LOADED 1

/-- The small passage RUNNING in step `n`. -/
def inStepAt (n : Nat) : State :=
  { atState .running with
    role := { Role.empty with
      passage := some p0
      step := n
      inStep := true
      stepsLeft := 2 } }

/-- A snapshot of nothing to host memory, marked. -/
def snap0 : SnapRun where
  tensors := []
  boundary := 7
  node := none
  dest := 0x100000
  slots := 8
  reserve := []
  reserveAddr := 0
  marked := true
  passageId := 1
  crcs := []
  trailer := false
  waiting := 0

/-- ARMED with a host map. -/
def hostMapped : State :=
  ({ atState .armed with boot := { (atState .armed).boot with numbering := [0] } }).set Reg.CAP_DUTY_MODE.PLACEMENT 1 |>.set Reg.CAP_UNITS.N_CORES 1


/-- A passage image of one tensor and two Rendezvous legs, laid out by Tables 7-1 to 7-4 and 8-2. -/
def wholeImage : List Byte :=
  leBytes 48 0x1000000100000000000000008000AB4AD10800000240000000000000000900000000000012340100010047505153
    ++ leBytes 48 0x1040404010000000000FFFF00000000000000000000000000
    ++ leBytes 48 0x1400000000200000100000000010000000000000000000000000000000000000000000000000000000000000000
    ++ leBytes 48 0x1C00000000200000000000000000000000000000000
    ++ leBytes 48 0x0
    ++ leBytes 48 0xFFFFFFFFFFFFFFFF3F8000000000FFFF0000000100000001000003000001000000000000000000000000000000000000
    ++ leBytes 48 0x1B0FFFFFFFFFFFF000000000000000000000000000000000000000000000000000000000000000000
    ++ leBytes 48 0x0
    ++ leBytes 48 0x100000000000000000000000000000001B0FFFFFFFFFFFF00
    ++ leBytes 48 0x4000008000000FFFF000100000000000000000000000000000000
    ++ leBytes 48 0x4000004002000FFFF00010000000000000000000000000000000000000000000000000000000000000000
    ++ leBytes 48 0x0

/-- A PASSAGE_LOAD of that image about to end, on node 0 of a fabric. -/
def loadingWhole : State :=
  { atReady with
    load := some ⟨wholeImage, [], [], false⟩
    mbx := [(0, { Mailbox.idle with running := some ⟨0x0101, 5⟩ })] }.set Reg.FAB_NODE.VALID 1

/-- The passage of that image. -/
def wholePassage : Passage := parsePassage wholeImage (loadingWhole.memberList ⟨wholeImage, [], [], false⟩)

/-- Where it is placed. -/
def placedWhole : State × List (Nat × Nat) :=
  match ({ loadingWhole with load := none } : State).place wholePassage none with
  | .ok x => x
  | .error _ => (State.reset, [])

/-- A survivor in SOLO with a valid mirror, ready to carry its lost twin, node 5. -/
def carrying : State :=
  ((({ inStepAt 7 with twin := { TwinUnit.reset with
    state := 7
    lostNode := some 5
    partnerState := some ⟨0, 0, 0, [], [], 0⟩ } }).set Reg.TWN_STATUS.CARRY_READY 1).set Reg.TWN_STATUS.MIRROR_VALID 1)

/-- Where the partner's passage is homed. -/
def carriedPlace : State := (carrying.placePartner carrying.partnerPassage true).getD State.reset

/-- A survivor in SOLO, HELD, paired with a replacement. -/
def handingOver : State :=
  { atState .held with twin := { TwinUnit.reset with
    state := 7
    paired := true
    lostNode := some 5 } }.set Reg.TWN_STATUS.MIRROR_VALID 1

/-- Mailbox 1 with a completion held and room in its ring. -/
def holding : State :=
  { atReady with mbx := [(1, { Mailbox.idle with held := [⟨0, 3, 0, 5, []⟩] })] }.set (Reg.MBX_CFG.CQ_LOG2 1) 1

/-- Mailbox 1 with a command in its ring. -/
def fetching : State :=
  (((atReady.set (Reg.MBX_CFG.ENABLE 1) 1).set (Reg.MBX_CFG.SQ_LOG2 1) 1).set (Reg.MBX_SQ_TAIL.TAIL 1) 1)

/-- The event ring running at its least depth. -/
def ringing : State :=
  ((atReady.set Reg.EVT_RING_CFG.ENABLE 1).set Reg.EVT_RING_CFG.LOG2_DEPTH 6).set (Reg.MSIX_CTRL.MASK 0) 0

/-- A signal kept for unconsumed records while INT_EN is 0. -/
def signalOwed : State := { ringing with evt := { EventUnit.reset with owed := true } }.set Reg.EVT_RING_TAIL.TAIL 1

/-- An orderly stop that has just been detected. -/
def stopping : StopRun where
  cause := 0
  vin := 0
  vbank := 0
  dtime := 0
  announced := false
  regionsOff := false
  recorded := false
  hubOff := false
  tripped := false

/-- A module whose settings block has been written 100,000 times. -/
def wornOut : State :=
  { atReady with mram := { Mram.factory with settings := { Mram.factory.settings with writes := 100000 } } }

/-- SAFE with a reading of 90 °C. -/
def hot : State := ({ atReady with dev := .safe }.set (Reg.HELM_SENSOR.VALID 0) 1).set (Reg.HELM_SENSOR.TEMP 0) 720

/-- READY with a nominal input and fresh coolant data. -/
def bistReady : State :=
  { atReady with helm := { HelmUnit.reset with
    readings := [⟨240, 300, 3000⟩]
    readAt := some 0 } }.set Reg.HELM_IN_STATUS.VIN 7200

/-- A public key x ‖ y: the generator, of scalar 1. -/
def keyBytes : List Byte := beBytes 96 0xaa87ca22be8b05378eb1c71ef320ad746e1d3b628ba79b9859f741e082542a385502f25dbf55296c3a545e3872760ab73617de4a96262c6f5d9e98bf9292dc29f8f41dbd289a147ce9da3113b5f0b8c00a60b1ce1d7e819d7a431d7c90ea0e5f

/-- A debug token for the nonce 0, 1, …, 47, signed with scalar 1. -/
def unlockToken : List Byte := beBytes 192 0xaa87ca22be8b05378eb1c71ef320ad746e1d3b628ba79b9859f741e082542a385502f25dbf55296c3a545e3872760ab73617de4a96262c6f5d9e98bf9292dc29f8f41dbd289a147ce9da3113b5f0b8c00a60b1ce1d7e819d7a431d7c90ea0e5f7ae9e1db1160794c70c1ef071be5191f6c66240f4608fbe8a44ecd36c3ed5db97500f2e4d84e3fb45850fd6f4303302bd7423f1887a50a020138e293b1199a829337ce8ae59d2209d20793f645c15f8684cf2cd98dffb7c70c7ea28b60370e75

/-- The header of an image signed with scalar 1: root slot 2, SVN 3, version 5.7, its commit flag set. -/
def signedHead : List Byte := beBytes 288 0x515746470100010004000000030002000500070000000000000000000000000000000000000000000000000000000000dbc66f63cd26af667f9c93b35f3e073ce610410c11f68d3649dfdb47db7959f649c0a84093104d18fba7f54f07f7b465aa87ca22be8b05378eb1c71ef320ad746e1d3b628ba79b9859f741e082542a385502f25dbf55296c3a545e3872760ab73617de4a96262c6f5d9e98bf9292dc29f8f41dbd289a147ce9da3113b5f0b8c00a60b1ce1d7e819d7a431d7c90ea0e5f7ae9e1db1160794c70c1ef071be5191f6c66240f4608fbe8a44ecd36c3ed5db97500f2e4d84e3fb45850fd6f4303302bcb4b328de124f0e44709904f3596b2035442b0d3ae4a38ecc47ffdfebb7cf4efde3172a984b58e09a066efa288820e66

/-- A signed image. -/
def signedImage : List Byte := signedHead ++ List.replicate 224 0 ++ [0x51, 0x4E, 0x46, 0x21]


/-- Three root keys fused, of which slot 2 signs. -/
def updatable : State := { atReady with part := { atReady.part with rootHashes := [[], [], sha384 keyBytes] } }

/-- READY with nothing loaded, the debug key fused and a nonce issued. -/
def unlockable : State :=
  { atReady with
    part := { atReady.part with debugKeyHash := sha384 keyBytes }
    sec := { atReady.sec with
      debugNonce := (List.range 48).map (BitVec.ofNat 8)
      attestKey := some 1 } }

/-- The SPDM responder up, with a chain of three bytes. -/
def spdmUp : State :=
  { atReady with
    boot := { atReady.boot with fwStarted := true }
    part := { atReady.part with certificate := [1, 2] }
    sec := { atReady.sec with
      attestKey := some 1
      issued := [3] } }

/-- A coolant stop whose flow has come back. -/
def coolantBack : State :=
  { atReady with helm := { HelmUnit.reset with
    lowFlows := 2
    readings := [⟨240, 300, 3000⟩, ⟨240, 300, 3000⟩, ⟨240, 300, 3000⟩, ⟨240, 300, 3000⟩] } }.set Reg.HELM_THERMAL.COOLANT_STOP 1

/-- READY in host-assisted placement with core 0 in a region that regulates and a copy of four BF16 elements described. -/
def frwSet : State :=
  (((((({ atReady with boot := { atReady.boot with numbering := [0] } }.set Reg.CAP_DUTY_MODE.PLACEMENT 1).set
    Reg.CAP_UNITS.N_CORES 1).set (Reg.HELM_RGN_STATUS.STATE 0) 3).set Reg.FRW_OP.A_FMT 2).set Reg.FRW_OP.Y_FMT 2).set
    Reg.FRW_M.EXTENT 2).set Reg.FRW_N.EXTENT 2 |>.set Reg.FRW_A_LO.ADDR_LO 0x1000 |>.set Reg.FRW_Y_LO.ADDR_LO 0x2000

/-- OFF with the input gone. -/
def off : State :=
  { State.reset with
    dev := .off
    boot := { BootUnit.reset with busUp := false }
    pwr := { PowerUnit.reset with
      inputSwitch := false
      stageA := false
      charger := false } }

/-- OFF with the 6 V bus in regulation. -/
def busUp : State := { State.reset with
  dev := .off
  boot := { BootUnit.reset with busUp := true } }

/-- BOOT with a signed image in slot A and its root key fused. -/
def booting : State :=
  { State.reset with
    part := updatable.part
    mram := { Mram.factory with slotA := signedImage } }.set (Reg.HELM_RGN_STATUS.STATE 36) 3

/-- BOOT with firmware running. -/
def booted : State :=
  { booting with boot := { BootUnit.reset with fwStarted := true } }.set (Reg.HELM_RGN_STATUS.STATE 39) 3

/-- BOOT with the settings loaded and one region of clusters that are usable. -/
def settled : State := { booted with boot := { booted.boot with settingsLoaded := true } }

/-- BOOT with the cores numbered and the sequence at its end. -/
def awaiting : State := { settled with boot := { settled.boot with
  numbered := true
  awaitBank := true
  numbering := [0] } }

/-- A BIST of one die's logic and both memories under way. -/
def testing : State := { atReady with
  dev := .selftest
  bist := some ⟨false, 0x701, [0], true, true⟩ }

/-- A BIST with only HBM4E left. -/
def testingHbm : State := { atReady with
  dev := .selftest
  boot := { atReady.boot with numbering := [0] }
  bist := some ⟨true, 0x701, [], false, true⟩ }

/-- READY with the input at 72 V and the loops running. -/
def nominal : State := { atReady with
  pcie := { atReady.pcie with wasReady := true }
  helm := { HelmUnit.reset with loopsRunning := true } }.set Reg.HELM_IN_STATUS.VIN 7200

/-- An orderly stop at a stage. -/
def stopAt (announced off recorded hub : Bool) : State :=
  { atReady with pwr := { PowerUnit.reset with stop := some { stopping with
    cause := 2
    vin := 4700
    vbank := 4900
    dtime := 77
    announced := announced
    regionsOff := off
    recorded := recorded
    hubOff := hub } } }

/-- READY with a region in a state. -/
def regionIn (r st : Nat) : State := nominal.set (Reg.HELM_RGN_STATUS.STATE r) st

/-- READY with the loops running, cluster 0 regulating at 560 mV and the tables read. -/
def pacing : State :=
  (((((nominal.set (Reg.HELM_RGN_STATUS.STATE 0) 3).set (Reg.HELM_RGN_STATUS.SETPOINT 0) 560).set
    Reg.HELM_OP_STATUS.TOP_USABLE 16).set Reg.HELM_CAP.HOST_CAP_W 1000).set Reg.HELM_CAP_STATUS.EFFECTIVE_W 1000).set
    Reg.HELM_CAP_STATUS.BUBBLE 10

/-- READY since BOOT, with two logical cores and flags raised. -/
def flagged : State :=
  ((nominal.set Reg.CAP_UNITS.N_CORES 2).wr (Reg.NUM_FLAGS.INVALID 8).reg 31).set (Reg.NUM_FF_LOC.VALID 8) 1

/-- A BF16 operand of one F tile. -/
def tensorA : Tensor := { tensor0 with id := 10, format := 1, shape := 0 }

/-- Another operand. -/
def tensorB : Tensor := { tensorA with id := 11 }

/-- An FP32 result of one F tile. -/
def tensorY : Tensor := { tensor0 with id := 12, shape := 0 }

/-- A watched result. -/
def tensorW : Tensor := { tensorY with drift := 2 }

/-- A product of one tile. -/
def product : Leg := { leg0 with kind := 0, y := 12, a := 10, b := 11, kLen := 1, chunkCount := 1 }

/-- An inbound stream of tensor 10. -/
def stream0 : Stream where
  tensor := 10
  firstTile := 0
  outbound := false
  role := 0
  slot := 0
  transpose := false
  bypass := false
  hold := false
  chunkIn := false
  tileCount := 1
  ringTiles := 2
  ringKib := 0
  tileStep := 1

/-- A leg that has not begun, on logical core 0. -/
def legRun0 : LegRun where
  core := some 0
  position := 0
  started := 0
  redo := []
  committed := []
  finished := false
  signalled := false
  streams := []

/-- A whole tile of a result in the accumulator buffer of core 0. -/
def acc0 : AccTile where
  leg := 0
  tensor := 12
  tile := 0
  core := 0
  region := 0
  rung := 0
  issuing := false
  chunks := [(0, [0])]
  value := some [0]
  folded := 0
  repeated := false

/-- RUNNING in step 7 on core 0 with tensors and legs of its own. -/
def workOn (ts : List Tensor) (ls : List Leg) (ss : List Stream) (f : Role → Role) : State :=
  let s := inStepAt 7
  { s with
    boot := { s.boot with numbering := [0] }
    chart := { ChartUnit.empty with
      markBytes := 8
      entries := ts.zipIdx.map (fun x => (x.2, { x.1.newEntry 0 1 1 (0x2000 + 0x8000 * x.2) x.2 with state := 2 })) }
    role := f { s.role with
      passage := some { p0 with
        tensors := ts
        legs := ls
        streams := ss }
      legs := ls.zipIdx.map (fun x => (x.2, legRun0)) } }

/-- The product's tensors and leg at work. -/
def multiplying (f : Role → Role) : State := workOn [tensorA, tensorB, tensorY] [product] [] f

/-- A converted tile that waits for its commit. -/
def out0 : OutTile := ⟨0, 12, 0, 0, [⟨12, 0, 0, [1, 2, 3, 4]⟩]⟩

/-- A weight tensor whose entry is to be replicated in cluster 0. -/
def replicated : State :=
  { atState .running with chart := { ChartUnit.empty with
    entries := [(0, { tensor4.newEntry 0 1 1 0x2000 0 with
      state := 2
      replicas := 1 })] } }


/-- A gradient's stream with its one tile landed and its token held. -/
def gradientRun : StreamRun := { StreamRun.start 2 with
  asked := 1
  posted := 1
  tokens := 1
  landed := [⟨0, 0, [0, 0, 0, 64], []⟩] }

/-- The update of one FP32 gradient of one element by an empty program. -/
def updating (f : Role → Role) : State :=
  let s := workOn [{ tensorY with shape := 2 }] [{ product with kind := 5, streamCount := 1 }]
    [{ stream0 with tensor := 12 }] (fun r => f { r with legs := [(0, { legRun0 with streams := [gradientRun] })] })
  { s with role := { s.role with passage := s.role.passage.map (fun p => { p with programs := [⟨0, []⟩] }) } }

/-- Its leg. -/
def updateLeg : Leg := { product with kind := 5, streamCount := 1 }

/-- How far it has run. -/
def updateRun0 : LegRun := { legRun0 with streams := [gradientRun] }

/-- The gradient has been closed and the parameter entry found stale. -/
def staleUpdate : UpdateRun := { UpdateRun.empty with
  combined := true
  stalePosted := true }


/-- A reduction over nodes 0, 1 and 2 seen from position 2, of the one tile of tensor 12, whose home position is 0. -/
def ring0 : Collective where
  kind := 1
  gradientClose := false
  stepClose := false
  wire := 0
  knotBase := 40
  headroom := 0
  tensor := 12
  members := [0, 1, 2]
  selfPos := 2
  stallUs := 0
  firstTile := 0
  tileCount := 1

/-- The leg that contributes to it. -/
def contributionLeg0 : Leg := { product with kind := 10, y := 0xFFFF, op := 0 }

/-- A one-tile tensor in FP32. -/
def tensorR : Tensor := { tensorY with shape := 2 }

/-- Work on a passage with collectives, as node 2 of a fabric. -/
def together (cs : List Collective) (ls : List Leg) (f : Role → Role) : State :=
  let s : State := workOn [tensorA, tensorB, tensorY] ls [] f
  (s.mapRole (fun r => { r with passage := r.passage.map (fun p => { p with collectives := cs }) })).set Reg.FAB_NODE.NODE_ID 2

/-- Its passage. -/
def passageOf (cs : List Collective) (ls : List Leg) : Passage :=
  { p0 with
    tensors := [tensorA, tensorB, tensorY]
    legs := ls
    collectives := cs }

/-- A packet has been delivered here. -/
def delivered (p : Packet) (s : State) : State := { s with fab := { s.fab with inbox := [p] } }

/-- Segment `n` of the tile's partial or result in FP32 from the position before. -/
def redPacket (ptype n : Nat) : Packet :=
  { blankPacket ptype 2 with
    src := 1
    dest := 2
    tag := 2
    addr := BitVec.ofNat 52 n
    data := List.replicate 4096 0 }

/-- The three first segments have come. -/
def segments0 (ptype : Nat) : CollRun :=
  { CollRun.empty with segments := (List.range 3).map (fun n => (0, ptype == 8, n, redPacket ptype n)) }

/-- A partial that waits. -/
def waiting0 : RedEntry where
  tile := 0
  values := [1, 2]
  scaled := false
  rescaled := false
  wide := false
  checks := 0
  abs := 0
  contribs := 2
  spilled := false

/-- A Rendezvous of nodes 0, 1 and 2 seen from position 1 of node 2's list: a child of position 0. -/
def meet0 : Collective where
  kind := 0
  gradientClose := false
  stepClose := false
  wire := 0
  knotBase := 40
  headroom := 0
  tensor := 0xFFFF
  members := [0, 2, 1]
  selfPos := 1
  stallUs := 10
  firstTile := 0
  tileCount := 0

/-- The leg of a Rendezvous. -/
def meetLeg : Leg := { product with kind := 11, y := 0xFFFF, a := 0xFFFF, b := 0xFFFF, kLen := 0, op := 0 }

/-- A STEP_CLOSE of this module alone. -/
def closeAlone : Collective := { meet0 with
  stepClose := true
  members := [2]
  selfPos := 0 }

/-- The payload of a member without flags. -/
def quiet : Payload := ⟨false, false, false, 0, 0, 0⟩

/-- The member has arrived and waits. -/
def arrived0 (v : Payload) : CollRun := { CollRun.empty with
  arrived := true
  own := some v }


/-- An activation of group 0 that may be off-loaded. -/
def tensorG : Tensor := { tensor0 with id := 20, kind := 4, offloadOk := true }

/-- A passage with one such group on a tier, its entry in a state. -/
def away (tier state : Nat) (f : Role → Role) : State :=
  let s := workOn [tensorG] [] [] (fun r => f { r with
    groups := [(0, tier)]
    quotas := [⟨tier, 5, 1, 64⟩] })
  { s with chart := { s.chart with entries := s.chart.entries.map (fun x => (x.1, { x.2 with state := state })) } }


/-- READY with the hub powered, sighting once quiet, node ID 2, and port `p` as given. -/
def fabricOn (p : Nat) (q : Port) : State :=
  let s : State := ((((atReady.set (Reg.HELM_RGN_STATUS.STATE 38) 3).set (Reg.HELM_RGN_STATUS.STATE 39) 3).set
    Reg.FAB_NODE.NODE_ID 2).set Reg.FAB_NODE.VALID 1)
  { s with fab := { s.fab with
    everQuiet := true
    ports := [(p, q)] } }

/-- A port that is UP with all its credit. -/
def upPort : Port := { Port.down with
  state := 5
  aligned := true
  credits := vcStorage }

/-- A codeword numbered 1 with one packet. -/
def word1 (ps : List Packet) : Codeword := .sound 1 2 0 false [] false ps.length ps

/-- A packet for node 7. -/
def toSeven : Packet := { blankPacket 0 0 with
  dest := 7
  hops := 9 }

/-- The fabric with port 0 up and a route. -/
def routed (entry : Nat) (ps : List Packet) : State :=
  let s : State := (fabricOn 0 upPort).wr (0x1810000 + 8 * 7) (BitVec.ofNat 64 entry)
  { s with fab := { s.fab with router := ps } }


/-- A write of one byte from node 5 that knot 9 announces. -/
def write1 : Packet := { blankPacket 0 0 with
  src := 5
  dest := 2
  knot := 9
  addr := 0x3000
  data := [0xAB] }

/-- The signal that announces one write. -/
def signal1 : Packet := { blankPacket 4 3 with
  src := 5
  dest := 2
  knot := 9
  arg := 1 }

/-- A read request of 16 bytes. -/
def read1 : Packet := { blankPacket 1 0 with
  src := 5
  dest := 2
  addr := 0x3000
  tag := 77
  arg := 16 }

/-- A read that awaits its reply. -/
def reading : State :=
  let s := fabricOn 0 upPort
  { s with fab := { s.fab with
    nextTag := 78
    reads := [{ tag := 77, twin := false, dest := 5, addr := 0x3000, bytes := 16, reissued := false, target := none }] } }

/-- A record of a module with node ID 1, beside port 0. -/
def record1 : SightRecord where
  uid := 0x99
  seq := 1
  variant := 0
  handover := false
  aka := none
  pinned := false
  nodeId := some 1
  twinUid := 0
  peers := []

/-- Sighting with that record known. -/
def sighted : State :=
  let s := fabricOn 0 upPort
  { s with fab := { s.fab with database := [⟨record1, false⟩] } }

/-- A shadow table with an entry for node 7. -/
def shadowed (entry : Nat) : State := (fabricOn 0 upPort).wr (0x1840000 + 8 * 7) (BitVec.ofNat 64 entry)

/-- Paired twins whose link is up. -/
def pairedTwin (state : Nat) : State :=
  let s := fabricOn 16 upPort
  { s with twin := { s.twin with
    state := state
    paired := true
    partnerNode := some 5
    partnerUid := 0x77 } }


/-- The link up and the attestation key there. -/
def greetingTwin : State :=
  let s := fabricOn 16 upPort
  { s.set Reg.TWN_CFG.ENABLE 1 with
    twin := { s.twin with state := 3 }
    sec := { s.sec with attestKey := some 1 } }

/-- The partner's state record at its commit of step 4. -/
def partnerState0 : MirrorState where
  step := 4
  attempt := 1
  level := 0
  rungs := []
  history := []
  updCfg := 0

/-- A whole record of step 4 whose pass 2 is skipped, with a digest. -/
def mirroring (digest : W32) : State :=
  let s := pairedTwin 6
  ({ s with twin := { s.twin with
    partnerState := some partnerState0
    records := [⟨4, [], [], some (0x3F800000, 0, true, []), some (partnerState0, digest)⟩] } }.set
      Reg.TWN_STATUS.MIRROR_VALID 1).set Reg.TWN_MIRROR.STEP 3

/-- A handover under way at the survivor. -/
def handing : State :=
  { inStepAt 3 with twin := { TwinUnit.reset with
    state := 9
    paired := true
    lostNode := some 5
    handoverPrior := 7
    partnerState := some partnerState0 } }

/-- A handover under way at the replacement. -/
def replacing : State :=
  { atReady with twin := { TwinUnit.reset with
    state := 9
    paired := true
    lostNode := some 5
    partnerState := some partnerState0 } }

/-- Where the replacement homes the passage. -/
def replacedPlace : State := (replacing.placePartner replacing.partnerPassage false).getD State.reset

/-- A control message that has come to a unit of the module's own role. -/
def flight0 (u : UnitAddr) (m : W64) : Flight := ⟨.own, .navigator, u, .control, m, []⟩

/-- The same with that message waiting. -/
def flying (u : UnitAddr) (m : W64) (s : State) : State := { s with flights := [flight0 u m] }

/-- A finished weight-gradient tile of core 0 waits for the staging buffer. -/
def draining : State := together [ring0] [product, contributionLeg0] (fun r => { r with acc := [acc0] })

/-! ### The spec's worked examples -/

/-- Table 2-11 and the probe after it: seed 0x2B17, step 1,200, tensor 0x31, tile 261, element 2,620. -/
theorem test_generator : srWords 0x2B17 0x4B0 0x31 0x105 0xA3C = (0x006F2067, 0x126F0F89) := by decide +kernel
theorem test_generator_reset :
    State.reset.rd Reg.NUM_SR_RESULT.X.reg = (srWords 0 0 0 0 0).2 ++ (srWords 0 0 0 0 0).1 := by decide +kernel

/-- The gradient element into EQ8a: block scale 0x3D, 0x3A by the draw of 111, 0x3B to nearest, INEXACT. -/
theorem test_block_scale : chooseScale .eq8a [.fin false 3] = 0x3D := by decide +kernel
theorem test_round_sr : (convertNum .eq8a .sr .ieee 111 (scaleValue 0x3D) (.fin false (18530317 / 2 ^ 31))).1 = 0x3A := by decide +kernel
theorem test_round_nearest :
    (convertNum .eq8a .rne .ieee 0 (scaleValue 0x3D) (.fin false (18530317 / 2 ^ 31))).1 = 0x3B ∧
    (convertNum .eq8a .rne .ieee 0 (scaleValue 0x3D) (.fin false (18530317 / 2 ^ 31))).2.inexact = true := by decide +kernel

/-- An element of the scale-product example, with the block scale. -/
def scaled (code scale : Nat) : Elem := ⟨.eq4, code, some scale, 0, 1, none, none⟩

/-- The scale product far outside FP32: a run of 9, promoted exactly to 0x44_87C0_0000, and 0x7F7F_FFFF under SAT. -/
theorem test_run : runSum true [(scaled 7 0xFE, scaled 5 0xF8), (scaled 0xB 0xFE, scaled 6 0xF8), (scaled 1 0xFE, scaled 0xF 0xF8)] =
    (.fin false 9, Flags.none) := by decide +kernel
theorem test_promotion : (let y := promote (.fin false 9) (scaleValue 0xFE * scaleValue 0xF8 * 2 ^ 110)
    (ex40Code y.1, y.2)) = (0x4487C00000, Flags.none) := by decide +kernel
theorem test_saturation : (convertNum .fp32 .rne .sat 0 1 (.fin false (63 * 2 ^ 140))).1 = 0x7F7FFFFF := by decide +kernel

/-- An INT8 element with its zero point. -/
def counted (code : Nat) (zero : Int) : Elem := ⟨.int8, code, none, zero, 1, none, none⟩

/-- The zero-point example: the corrected sum 320, promoted to 40. -/
theorem test_zero_points :
    (let run := List.replicate 16 (counted 5 3, counted 0xFC (-2)) ++ List.replicate 16 (counted 5 3, counted 10 (-2))
    corrected (runSum false run).1 (runCorr run)) = .fin false 320 ∧ (promote (.fin false 320) (1 / 8)).1 = .fin false 40 := by decide +kernel

/-- The fold of a weight gradient: 1 + 2^-28 keeps 1, and 1 + 2^-27 is exact. -/
theorem test_fold : (addEx40 (.fin false 1) (.fin false (1 / 2 ^ 28))).1 = .fin false 1 ∧
    (addEx40 (.fin false 1) (.fin false (1 / 2 ^ 27))).1 = .fin false (1 + 1 / 2 ^ 27) := by decide +kernel

/-- The layer that drifts: h goes from 0.75 to 0.7578125 and n from 40 to 41. -/
theorem test_history : nextHistory ⟨2, 1, 1, 0x3FE8000000000000, 40⟩ 0x3FEA000000000000 3 = ⟨2, 1, 1, 0x3FE8400000000000, 41⟩ := by
  decide +kernel

/-- The Chart entry of tensor 0x0242 reads the four words of its table. -/
theorem test_chart_entry : ({ ChartEntry.free with
      tensor := 0x242, first := 3840, tiles := 1920, format := 4, mixed := true, kind := 5, units := 128, heat := 16, state := 2
      tier := 1, addr := 0x231C000000, markBase := 0x124F80 } : ChartEntry).words =
    [0x024200000F00077F, 0x4250008010200000, 0x200000231C000000, 0x00124F8000000000] := by decide +kernel

/-- The curtailed module: the coolant bytes with their CRC, and 135 bubbles for 550 W over the cap. -/
theorem test_coolant : (nominal.coolantReading ([0x04, 0x01, 0x72, 0x01, 0xD0, 0x07, 0x3C] ++
    [crc8 [0x04, 0x01, 0x72, 0x01, 0xD0, 0x07, 0x3C]])).isSome = true := by decide +kernel
theorem test_bubble : nextBubble 0 4 false 14500000 9000000 0 10500000 = 135 := by decide +kernel

/-- A module with some cores unusable at the numbering. -/
def unusable (us : List Nat) : State := { State.reset with rel := { State.reset.rel with retired := us.map (unitCode 1) } }

/-- The numbering with d0.c0.k2 unusable, and with k8 too: the cluster gives eight cores without k2, then seven. -/
theorem test_numbering : (unusable [2]).clusterCores 0 = [0, 1, 3, 4, 5, 6, 7, 8] ∧
    (unusable [2, 8]).clusterCores 0 = [0, 1, 3, 4, 5, 6, 7] := by decide +kernel

/-! ### Witnesses: a state and operands that meet the hypotheses of each clause of a statement -/

section

set_option Elab.async false
set_option maxRecDepth 20000
set_option linter.unusedVariables false

theorem witness_IdleStepIsOneTick :
    (∃ (s : State),
      s.pending = []) ∧
    (∃ (s : State),
      s.pending = []) ∧
    (∃ (s : State),
      s.pending = []) ∧
    (∃ (fs : List Flight) (f : Flight),
      moveFlight fs f ≠ fs) :=
  ⟨⟨nominal, by decide +kernel⟩,
    ⟨{ nominal with dev := .off }, by decide +kernel⟩,
    ⟨{ nominal with flights := [⟨.own, .navigator, ⟨0, .f⟩, .control, 77, [.crossbar, .spine 0]⟩] }, by decide +kernel⟩,
    ⟨[⟨.own, .navigator, ⟨0, .f⟩, .control, 77, [.crossbar, .bridge 4 0]⟩], ⟨.own, .navigator, ⟨0, .f⟩, .control, 77, [.crossbar, .bridge 4 0]⟩, by decide +kernel⟩⟩

theorem witness_RegisterReads :
    (∃ (who : Requester) (reg : BitVec 29) (s : State),
      s.arrives who = true ∧
      s.readServed who (8 * reg.toNat) = true) ∧
    (∃ (who : Requester) (reg : BitVec 29) (s : State),
      s.arrives who = true ∧
      s.readServed who (8 * reg.toNat) = true) ∧
    (∃ (who : Requester) (reg : BitVec 29) (s : State) (x : Shadow),
      s.arrives who = true ∧
      s.shadow who = some x ∧
      x.key = 8 * reg.toNat) ∧
    (∃ (who : Requester) (reg : BitVec 29) (s : State),
      s.arrives who = true ∧
      s.readServed who (8 * reg.toNat) = true ∧
      ((∀ x, s.shadow who = some x → x.key ≠ 8 * reg.toNat))) ∧
    (∃ (who : Requester) (reg : BitVec 29) (s : State),
      s.arrives who = true ∧
      s.readServed who (8 * reg.toNat) = true) ∧
    (∃ (who : Requester) (win : Window) (off : W32) (width : Width) (s : State),
      s.arrives who = true ∧
      width.bytes < 4) ∧
    (∃ (who : Requester) (win : Window) (off : W32) (width : Width) (s : State),
      s.arrives who = true ∧
      width.bytes < 4) ∧
    (∃ (who : Requester) (off : W32) (width : Width) (s : State),
      s.arrives who = true ∧
      4 ≤ width.bytes ∧
      off.toNat % width.bytes ≠ 0 ∧
      s.readServed who off.toNat = true) ∧
    (∃ (who : Requester) (off : W32) (width : Width) (s : State),
      s.arrives who = true ∧
      4 ≤ width.bytes ∧
      off.toNat % width.bytes ≠ 0 ∧
      s.readServed who off.toNat = true) ∧
    (∃ (who : Requester) (reg : BitVec 29) (s : State),
      s.arrives who = true) :=
  ⟨⟨.host, 0, atReady, by decide +kernel⟩,
    ⟨.binnacle, 0x80, atReady, by decide +kernel⟩,
    ⟨.host, 0x80000, { atReady with hostShadow := some ⟨0x400000, 7⟩ }, ⟨0x400000, 7⟩, by decide +kernel⟩,
    ⟨.host, 0x80000, atReady, by decide +kernel⟩,
    ⟨.binnacle, 0x80000, atReady, by decide +kernel⟩,
    ⟨.host, .bar0, 0x400001, .w16, atReady, by decide +kernel⟩,
    ⟨.host, .bar2, 3, .w8, atReady, by decide +kernel⟩,
    ⟨.host, 0x400001, .w32, atReady, by decide +kernel⟩,
    ⟨.host, 0x40000C, .w64, atReady, by decide +kernel⟩,
    ⟨.host, 3, atReady, by decide +kernel⟩⟩

theorem witness_RegisterWrites :
    (∃ (who : Requester) (off : W32) (value : W64) (s : State) (d : RegDesc) (i : Nat),
      s.arrives who = true ∧
      s.writeServed who off.toNat = true ∧
      off.toNat % 8 = 0 ∧
      s.regAbsent off.toNat = false ∧
      findReg off.toNat regTable = some (d, i) ∧
      d.base ∉ actingRegisters ∧
      off.toNat ∉ actingRegisters) ∧
    (∃ (who : Requester) (off : W32) (value : W64) (s : State) (d : RegDesc) (i : Nat),
      s.arrives who = true ∧
      s.writeServed who off.toNat = true ∧
      off.toNat % 4 = 0 ∧
      s.regAbsent (off.toNat / 8 * 8) = false ∧
      findReg (off.toNat / 8 * 8) regTable = some (d, i) ∧
      d.base ∉ actingRegisters ∧
      off.toNat / 8 * 8 ∉ actingRegisters) ∧
    (∃ (who : Requester) (off : W32) (width : Width) (value : W64) (s : State),
      s.arrives who = true ∧
      s.writeServed who off.toNat = true ∧
      s.regAbsent (off.toNat / 8 * 8) = false ∧
      ((width.bytes < 4 ∨ off.toNat % width.bytes ≠ 0))) ∧
    (∃ (who : Requester) (off : W32) (width : Width) (value : W64) (s : State),
      s.arrives who = true ∧
      s.writeServed who off.toNat = true ∧
      s.regAbsent (off.toNat / 8 * 8) = false ∧
      ((width.bytes < 4 ∨ off.toNat % width.bytes ≠ 0))) ∧
    (∃ (who : Requester) (win : Window) (off : W32) (width : Width) (value : W64) (s : State),
      s.arrives who = true) :=
  ⟨⟨.host, 0x400000, 0x7000, atReady, ⟨0x400000, 0x8, 1, [⟨63, 0, .rw, .const 0⟩]⟩, 0, by decide +kernel⟩,
    ⟨.host, 0x400004, 0x7000, atReady, ⟨0x400000, 0x8, 1, [⟨63, 0, .rw, .const 0⟩]⟩, 0, by decide +kernel⟩,
    ⟨.host, 0x400002, .w16, 1, atReady, by decide +kernel⟩,
    ⟨.host, 0x400004, .w64, 1, atReady, by decide +kernel⟩,
    ⟨.host, .bar2, 0, .w64, 1, atReady, by decide +kernel⟩⟩

theorem witness_MailboxRegisters :
    (∃ (m : Fin 64) (cfg : W64) (s : State),
      s.hostWrites (mailboxAt m) = true ∧
      s.flag (Reg.MBX_CFG.ENABLE m.val) = false ∧
      1 ≤ extractBits cfg 7 0 ∧
      extractBits cfg 7 0 ≤ 12 ∧
      1 ≤ extractBits cfg 15 8 ∧
      extractBits cfg 15 8 ≤ 12) ∧
    (∃ (m : Fin 64) (cfg : W64) (s : State),
      s.hostWrites (mailboxAt m) = true ∧
      s.flag (Reg.MBX_CFG.ENABLE m.val) = false ∧
      1 ≤ extractBits cfg 7 0 ∧
      extractBits cfg 7 0 ≤ 12 ∧
      1 ≤ extractBits cfg 15 8 ∧
      extractBits cfg 15 8 ≤ 12) ∧
    (∃ (m : Fin 64) (cfg : W64) (s : State),
      s.hostWrites (mailboxAt m) = true ∧
      s.flag (Reg.MBX_CFG.ENABLE m.val) = false ∧
      s.flag (Reg.MBX_STATUS.ERROR m.val) = false ∧
      ((12 < extractBits cfg 7 0 ∨ extractBits cfg 7 0 = 0 ∨ 12 < extractBits cfg 15 8 ∨ extractBits cfg 15 8 = 0))) ∧
    (∃ (m : Fin 64) (cfg : W64) (s : State),
      s.hostWrites (mailboxAt m) = true ∧
      s.flag (Reg.MBX_CFG.ENABLE m.val) = false ∧
      s.flag (Reg.MBX_STATUS.ERROR m.val) = false ∧
      ((12 < extractBits cfg 7 0 ∨ extractBits cfg 7 0 = 0 ∨ 12 < extractBits cfg 15 8 ∨ extractBits cfg 15 8 = 0))) ∧
    (∃ (m : Fin 64) (cfg : W64) (s : State),
      s.hostWrites (mailboxAt m) = true) ∧
    (∃ (m : Fin 64) (tail : BitVec 12) (s : State),
      s.hostWrites (mailboxAt m) = true ∧
      tail.toNat < s.sqDepth m.val) ∧
    (∃ (m : Fin 64) (tail : BitVec 12) (s : State),
      s.hostWrites (mailboxAt m) = true ∧
      s.sqDepth m.val ≤ tail.toNat) ∧
    (∃ (m : Fin 64) (head : BitVec 12) (s : State),
      s.hostWrites (mailboxAt m) = true ∧
      s.flag (Reg.MBX_STATUS.ERROR m.val) = false) ∧
    (∃ (m : Fin 64) (head : BitVec 12) (s : State),
      s.hostWrites (mailboxAt m) = true ∧
      s.flag (Reg.MBX_STATUS.ERROR m.val) = false) ∧
    (∃ (m : Fin 64) (s : State),
      s.hostWrites (mailboxAt m) = true) :=
  ⟨⟨1, 0x8000000000000101, atReady, by decide +kernel⟩,
    ⟨63, 0x8000000000000C0C, atReady, by decide +kernel⟩,
    ⟨1, 0x800000000000010D, atReady, by decide +kernel⟩,
    ⟨1, 0x8000000000000001, atReady, by decide +kernel⟩,
    ⟨1, 0, atReady, by decide +kernel⟩,
    ⟨1, 0xFFF, (atReady.set (Reg.MBX_CFG.SQ_LOG2 1) 12), by decide +kernel⟩,
    ⟨1, 2, (atReady.set (Reg.MBX_CFG.SQ_LOG2 1) 1), by decide +kernel⟩,
    ⟨1, 1, (atReady.set (Reg.MBX_CFG.CQ_LOG2 1) 1), by decide +kernel⟩,
    ⟨1, 2, (atReady.set (Reg.MBX_CFG.CQ_LOG2 1) 1), by decide +kernel⟩,
    ⟨1, (atReady.set (Reg.MBX_STATUS.ERROR 1) 1), by decide +kernel⟩⟩

theorem witness_CompletionsAndFetches :
    (∃ (m : Fin 64) (s : State) (c : Completion) (cs : List Completion),
      (s.mailbox m.val).held = c :: cs ∧
      s.cqFree m.val = true ∧
      s.trafficOk = true ∧
      s.flag (Reg.MBX_CFG.INT_EN m.val) = false ∧
      s.get (Reg.MBX_CQ_TAIL.TAIL m.val) < s.cqDepth m.val ∧
      s.cqDepth m.val ≤ 4096) ∧
    (∃ (m : Fin 64) (failed : Bool) (s : State),
      ((s.cqFree m.val = false ∨ s.trafficOk = false))) ∧
    (∃ (m : Fin 64) (s : State) (c : Completion) (cs : List Completion),
      (s.mailbox m.val).held = c :: cs ∧
      s.cqFree m.val = true ∧
      s.trafficOk = true ∧
      s.flag (Reg.MBX_STATUS.ERROR m.val) = false) ∧
    (∃ (f : Fetch) (m : Nat) (s : State),
      s.dev ≠ .off ∧
      s.pwr.stop = none ∧
      s.nextMailbox = some m ∧
      f.ringFailed = false ∧
      extractBits f.w0 15 0 = 1 ∧
      extractBits f.w0 63 32 = 0 ∧
      f.a0 = 0 ∧
      f.a1 = 0 ∧
      f.a2 = 0 ∧
      f.a3 = 0 ∧
      f.a4 = 0 ∧
      f.a5 = 0 ∧
      f.a6 = 0 ∧
      s.sqDepth m ≤ 4096) ∧
    (∃ (f : Fetch) (m : Nat) (s : State),
      s.dev ≠ .off ∧
      s.nextMailbox = some m ∧
      f.ringFailed = false) ∧
    (∃ (f : Fetch) (m : Nat) (s : State),
      s.dev ≠ .off ∧
      s.nextMailbox = some m ∧
      m < 64 ∧
      f.ringFailed = true) ∧
    (∃ (m : Fin 64) (s : State) (r : Running) (settings : List Nat) (records : List RepairRecord) (vtable : List (List (BitVec 10))),
      s.dev ≠ .off ∧
      (s.mailbox m.val).running = some r ∧
      r.opcode = 0x0004 ∧
      s.mramJob = some (.store [0] settings records vtable)) :=
  ⟨⟨1, holding, ⟨0, 3, 0, 5, []⟩, [], by decide +kernel⟩,
    ⟨1, false, State.reset, by decide +kernel⟩,
    ⟨1, holding, ⟨0, 3, 0, 5, []⟩, [], by decide +kernel⟩,
    ⟨⟨0x50001, 0, 0, 0, 0, 0, 0, 0, false, [], false⟩, 1, fetching, by decide +kernel⟩,
    ⟨⟨0x50002, 0, 0, 0, 0, 0, 0, 0, false, [], false⟩, 1, fetching, by decide +kernel⟩,
    ⟨⟨0x50001, 0, 0, 0, 0, 0, 0, 0, true, [], false⟩, 1, fetching, by decide +kernel⟩,
    ⟨1, { atReady with mbx := [(1, { Mailbox.idle with running := some ⟨4, 9⟩ })], mramJob := some (.store [0] [] [] []) }, ⟨4, 9⟩, [], [], [], by decide +kernel⟩⟩

theorem witness_EventRingAndVectors :
    (∃ (cfg : W64) (s : State),
      s.hostWrites 0x400008 = true ∧
      s.flag Reg.EVT_RING_CFG.ENABLE = false ∧
      6 ≤ extractBits cfg 4 0 ∧
      extractBits cfg 4 0 ≤ 16 ∧
      cfg.getLsbD 62 = s.flag Reg.EVT_RING_CFG.INT_EN) ∧
    (∃ (cfg : W64) (s : State),
      s.hostWrites 0x400008 = true ∧
      s.flag Reg.EVT_RING_CFG.ENABLE = false ∧
      6 ≤ extractBits cfg 4 0 ∧
      extractBits cfg 4 0 ≤ 16 ∧
      cfg.getLsbD 62 = s.flag Reg.EVT_RING_CFG.INT_EN) ∧
    (∃ (cfg : W64) (s : State),
      s.hostWrites 0x400008 = true ∧
      s.flag Reg.EVT_RING_CFG.ENABLE = false ∧
      ((extractBits cfg 4 0 < 6 ∨ 16 < extractBits cfg 4 0)) ∧
      cfg.getLsbD 62 = false) ∧
    (∃ (cfg : W64) (s : State),
      s.hostWrites 0x400008 = true ∧
      s.flag Reg.EVT_RING_CFG.ENABLE = false ∧
      ((extractBits cfg 4 0 < 6 ∨ 16 < extractBits cfg 4 0)) ∧
      cfg.getLsbD 62 = false) ∧
    (∃ (head : W16) (s : State),
      s.hostWrites 0x400010 = true) ∧
    (∃ (s : State),
      s.hostWrites 0x400008 = true ∧
      s.flag Reg.EVT_RING_CFG.INT_EN = false ∧
      s.flag Reg.EVT_RING_CFG.ENABLE = true ∧
      s.evt.owed = true ∧
      s.evt.holdoff = false ∧
      s.get Reg.EVT_RING_HEAD.HEAD ≠ s.get Reg.EVT_RING_TAIL.TAIL ∧
      s.flag (Reg.MSIX_CTRL.MASK (s.get Reg.EVT_RING_CFG.VECTOR)) = false) ∧
    (∃ (s : State),
      s.hostWrites 0x400008 = true ∧
      s.evt.owed = false ∧
      s.flag Reg.EVT_RING_CFG.ENABLE = true) ∧
    (∃ (s : State) (r : Record) (rs : List Record),
      s.evt.queue = r :: rs ∧
      s.ringRuns = true ∧
      (s.get Reg.EVT_RING_TAIL.TAIL + 1) % s.ringDepth ≠ s.get Reg.EVT_RING_HEAD.HEAD ∧
      s.ringDepth ≤ 65536 ∧
      s.flag Reg.EVT_RING_CFG.INT_EN = false ∧
      s.evt.lostSince = 0) ∧
    (∃ (failed : Bool) (s : State),
      ((s.ringRuns = false ∨ (s.get Reg.EVT_RING_TAIL.TAIL + 1) % s.ringDepth = s.get Reg.EVT_RING_HEAD.HEAD))) ∧
    (∃ (s : State),
      s.evt.owed = true ∧
      s.flag Reg.EVT_RING_CFG.INT_EN = true ∧
      s.trafficOk = true ∧
      s.flag (Reg.MSIX_CTRL.MASK (s.get Reg.EVT_RING_CFG.VECTOR)) = false) ∧
    (∃ (v : Fin 2048) (s : State),
      s.hostWrites 0x300000 = true) :=
  ⟨⟨0x8000000000000006, atReady, by decide +kernel⟩,
    ⟨0x8000000000000010, atReady, by decide +kernel⟩,
    ⟨0x8000000000000005, atReady, by decide +kernel⟩,
    ⟨0x8000000000000011, atReady, by decide +kernel⟩,
    ⟨5, (atReady.set Reg.EVT_RING_CFG.LOG2_DEPTH 6), by decide +kernel⟩,
    ⟨signalOwed, by decide +kernel⟩,
    ⟨(atReady.set Reg.EVT_RING_CFG.ENABLE 1), by decide +kernel⟩,
    ⟨{ ringing with evt := { EventUnit.reset with queue := [⟨1, 0x0C01, 0, false, 5, 0, []⟩] } }, ⟨1, 0x0C01, 0, false, 5, 0, []⟩, [], by decide +kernel⟩,
    ⟨false, State.reset, by decide +kernel⟩,
    ⟨({ ringing with evt := { EventUnit.reset with owed := true } }.set Reg.EVT_RING_CFG.INT_EN 1), by decide +kernel⟩,
    ⟨2047, (atReady.set (Reg.MSIX_CTRL.MASK 2047) 1), by decide +kernel⟩⟩

theorem witness_Bar4AndStopWindow :
    (∃ (off : BitVec 39) (len : Nat) (s : State),
      s.inBar4 off.toNat len = true ∧
      ((s.bar4Open = false ∨ s.badTouched (s.bar4Address off.toNat) len = []))) ∧
    (∃ (off : BitVec 39) (len : Nat) (s : State),
      s.inBar4 off.toNat len = true ∧
      ((s.bar4Open = false ∨ s.badTouched (s.bar4Address off.toNat) len = []))) ∧
    (∃ (off : BitVec 39) (len : Nat) (s : State),
      s.inBar4 off.toNat len = true ∧
      s.bar4Open = true ∧
      s.badTouched (s.bar4Address off.toNat) len ≠ []) ∧
    (∃ (off : BitVec 39) (bytes : List Byte) (s : State),
      s.inBar4 off.toNat bytes.length = true ∧
      s.bar4Open = true) ∧
    (∃ (off : BitVec 39) (bytes : List Byte) (s : State),
      s.inBar4 off.toNat bytes.length = true ∧
      s.bar4Open = true) ∧
    (∃ (off : BitVec 39) (bytes : List Byte) (s : State),
      s.inBar4 off.toNat bytes.length = true) ∧
    (∃ (off : BitVec 39) (bytes : List Byte) (s : State),
      s.inBar4 off.toNat bytes.length = true) ∧
    (∃ (s : State),
      s.hostWrites 0x400 = true ∧
      (s.rd (Reg.CAP_STOP_REC.WORD 0).reg).getLsbD 63 = true) :=
  ⟨⟨0x1000, 16, atReady, by decide +kernel⟩,
    ⟨0, 4, { atReady with dev := .boot }, by decide +kernel⟩,
    ⟨0x1000, 16, { atReady with badLines := [0x1000] }, by decide +kernel⟩,
    ⟨0x1000, [1, 2, 3], atReady, by decide +kernel⟩,
    ⟨0x7FFFFFFFFC, [1, 2, 3], { atReady with part := { Part.reset with variant := .xt480s } }, by decide +kernel⟩,
    ⟨0x1000, [1], { atReady with dev := .boot }, by decide +kernel⟩,
    ⟨0x1000, [1], atReady, by decide +kernel⟩,
    ⟨(atReady.wr (Reg.CAP_STOP_REC.WORD 0).reg 0x8000000000000000), by decide +kernel⟩⟩

theorem witness_PciePort_1 :
    (∃ (s : State),
      s.pcie.perst = false) ∧
    (∃ (gen width : Fin 3) (s : State),
      s.pcie.training = true ∧
      s.pcie.perst = false ∧
      s.regulating 39 = true ∧
      s.dev ≠ .off) ∧
    (∃ (s : State),
      s.linkUp = true ∧
      s.pcie.wasReady = true) ∧
    (∃ (s : State),
      s.linkUp = true) ∧
    (∃ (enable : Bool) (s : State),
      s.linkUp = true) ∧
    (∃ (enable : Bool) (s : State),
      s.linkUp = true) ∧
    (∃ (s : State) (x : SnapRun),
      s.dev ≠ .off ∧
      s.snap = some x ∧
      x.node = none) ∧
    (∃ (s : State) (x : SnapRun),
      s.dev ≠ .off ∧
      s.snap = some x ∧
      x.node = none) ∧
    (∃ (offload : Bool) (s : State),
      ((s.dev = .off ∨ s.trafficOk = true))) ∧
    (∃ (offload : Bool) (s : State),
      ((s.dev = .off ∨ s.trafficOk = true))) ∧
    (∃ (s : State) (m : Fin 64),
      s.dev ≠ .off) ∧
    (∃ (s : State) (m : Fin 64) (r : Running),
      s.dev ≠ .off ∧
      (s.mailbox m.val).running = some r ∧
      ((r.opcode = 0x0005 ∨ r.opcode = 0x0101))) :=
  ⟨⟨atReady, by decide +kernel⟩,
    ⟨2, 2, ({ atReady with pcie := ⟨false, true, true, true, 9⟩ }.set (Reg.HELM_RGN_STATUS.STATE 39) 3), by decide +kernel⟩,
    ⟨atReady, by decide +kernel⟩,
    ⟨atReady, by decide +kernel⟩,
    ⟨false, atReady, by decide +kernel⟩,
    ⟨true, atReady, by decide +kernel⟩,
    ⟨{ atReady with snap := some snap0 }, snap0, by decide +kernel⟩,
    ⟨({ atReady with snap := some snap0 }.set Reg.CAP_PCIE.BUS_MASTER 0), snap0, by decide +kernel⟩,
    ⟨true, atReady, by decide +kernel⟩,
    ⟨false, { State.reset with dev := .off }, by decide +kernel⟩,
    ⟨(((atReady.set (Reg.MBX_CFG.ENABLE 1) 1)).set Reg.EVT_RING_CFG.ENABLE 1), 1, by decide +kernel⟩,
    ⟨{ atReady with mbx := [(1, { Mailbox.idle with running := some ⟨0x0101, 9⟩ })] }, 1, ⟨0x0101, 9⟩, by decide +kernel⟩⟩

theorem witness_PciePort_2 :
    ∃ (s : State) (m : Fin 64) (r : Running),
      s.dev ≠ .off ∧
      (s.mailbox m.val).running = some r ∧
      ((r.opcode = 0x0005 ∨ r.opcode = 0x0101)) :=
  ⟨{ atReady with mbx := [(1, { Mailbox.idle with running := some ⟨5, 9⟩ })], mramJob := some (.update true []) }, 1, ⟨5, 9⟩, by decide +kernel⟩

theorem witness_RefusedCommandsLeaveNothing :
    (∃ (c : Cmd) (s : State),
      judged c s ∧
      c.rsv ≠ 0) ∧
    (∃ (c : Cmd) (s : State),
      judged c s ∧
      c.rsv ≠ 0) ∧
    (∃ (c : Cmd) (s : State),
      judged c s ∧
      c.rsv ≠ 0) ∧
    (∃ (c : Cmd) (s : State),
      judged c s ∧
      bare c ∧
      c.mbx ≠ 0) ∧
    (∃ (c : Cmd) (s : State),
      judged c s ∧
      bare c ∧
      c.mbx ≠ 0) ∧
    (∃ (c : Cmd) (s : State),
      s.dev ≠ .off ∧
      (s.mailbox c.mbx.val).running = none ∧
      s.pwr.stop.isSome = true) ∧
    (∃ (c : Cmd) (s : State),
      ((s.dev = .off ∨ (s.mailbox c.mbx.val).running ≠ none))) ∧
    (∃ (c : Cmd) (s : State),
      ((s.dev = .off ∨ (s.mailbox c.mbx.val).running ≠ none))) :=
  ⟨⟨{ c0 with rsv := 1 }, atReady, by decide +kernel⟩,
    ⟨{ c0 with rsv := 1, mbx := 1 }, atReady, by decide +kernel⟩,
    ⟨{ c0 with rsv := 1, mbx := 1 }, atReady, by decide +kernel⟩,
    ⟨{ c0 with mbx := 1 }, atReady, by decide +kernel⟩,
    ⟨{ c0 with mbx := 63 }, atReady, by decide +kernel⟩,
    ⟨c0, { atReady with pwr := { PowerUnit.reset with stop := some stopping } }, by decide +kernel⟩,
    ⟨c0, { State.reset with dev := .off }, by decide +kernel⟩,
    ⟨c0, { atReady with mbx := [(0, { Mailbox.idle with running := some ⟨4, 9⟩ })] }, by decide +kernel⟩⟩

theorem witness_PlainCommands :
    (∃ (c : Cmd) (s : State),
      judged c s ∧
      bare c) ∧
    (∃ (c : Cmd) (s : State),
      judged c s ∧
      bare c) ∧
    (∃ (c : Cmd) (s : State),
      judged c s ∧
      bareTail c ∧
      c.a0.toNat ≤ 7 ∧
      c.a1.getLsbD 63 = true ∧
      c.a1 &&& 0x7FF8000000000000 = 0 ∧
      c.fault = false) ∧
    (∃ (c : Cmd) (s : State),
      judged c s ∧
      bareTail c ∧
      c.a0.toNat ≤ 7 ∧
      c.a1.toNat + 64 ≤ 2 ^ 36 * s.part.variant.stacks ∧
      s.part.variant.stacks ≤ 8 ∧
      (s.measure c.a0.toNat).value.length = 48 ∧
      c.fault = false) ∧
    (∃ (c : Cmd) (s : State),
      judged c s ∧
      bare c ∧
      c.mbx = 0 ∧
      s.legalLate = true ∧
      s.mramJob = none ∧
      s.wornBlocks = []) ∧
    (∃ (c : Cmd) (s : State),
      judged c s ∧
      bare c ∧
      c.mbx = 0 ∧
      s.legalLate = true ∧
      s.mramJob = none ∧
      s.wornBlocks ≠ []) ∧
    (∃ (c : Cmd) (s : State),
      judged c s ∧
      bareTail c ∧
      c.mbx = 0 ∧
      c.a0.getLsbD 63 = true ∧
      c.a0 &&& 0x7FF8000000000000 = 0 ∧
      0 < c.a1.toNat ∧
      c.a1.toNat ≤ 3145728 ∧
      c.fault = false ∧
      ((s.dev = .faulted ∨ s.dev = .ready ∧ s.loaded = false)) ∧
      s.mramJob = none ∧
      s.part.imageOk (sliceBytes c.data 0 c.a1.toNat) = true) ∧
    (∃ (c : Cmd) (s : State),
      judged c s ∧
      bareTail c ∧
      c.mbx = 0 ∧
      c.a0.getLsbD 63 = true ∧
      c.a0 &&& 0x7FF8000000000000 = 0 ∧
      0 < c.a1.toNat ∧
      c.a1.toNat ≤ 3145728 ∧
      c.fault = false ∧
      ((s.dev = .faulted ∨ s.dev = .ready ∧ s.loaded = false)) ∧
      s.mramJob = none ∧
      s.part.imageOk (sliceBytes c.data 0 c.a1.toNat) = false) ∧
    (∃ (c : Cmd) (s : State),
      judged c s ∧
      bareTail c ∧
      c.mbx = 0 ∧
      c.a0.getLsbD 63 = true ∧
      c.a0 &&& 0x7FF8000000000000 = 0 ∧
      0 < c.a1.toNat ∧
      c.a1.toNat ≤ 3145728 ∧
      c.fault = false ∧
      ((s.dev = .faulted ∨ s.dev = .ready ∧ s.loaded = false)) ∧
      s.mramJob = none ∧
      s.part.imageOk (sliceBytes c.data 0 c.a1.toNat) = false) :=
  ⟨⟨c0, atReady, by decide +kernel⟩,
    ⟨{ c0 with mbx := 63 }, atReady, by decide +kernel⟩,
    ⟨{ c0 with a0 := 7, a1 := 0x8000000000001000 }, atReady, by decide +kernel⟩,
    ⟨{ c0 with a0 := 0, a1 := 0x1000 }, atReady, by decide +kernel⟩,
    ⟨c0, atReady, by decide +kernel⟩,
    ⟨c0, wornOut, by decide +kernel⟩,
    ⟨{ c0 with a0 := 0x8000000000001000, a1 := 516, data := signedImage }, updatable, by decide +kernel⟩,
    ⟨{ c0 with a0 := 0x8000000000001000, a1 := 3 }, atReady, by decide +kernel⟩,
    ⟨{ c0 with a0 := 0x8000000000001000, a1 := 3 }, { atReady with dev := .faulted }, by decide +kernel⟩⟩

theorem witness_DeviceCommands :
    (∃ (c : Cmd) (s : State),
      judged c s ∧
      bare c ∧
      c.mbx = 0 ∧
      s.dev ≠ .boot) ∧
    (∃ (c : Cmd) (s : State),
      judged c s ∧
      bare c ∧
      c.mbx = 0 ∧
      s.dev = .safe ∧
      s.tooHot = false) ∧
    (∃ (c : Cmd) (s : State),
      judged c s ∧
      bare c ∧
      c.mbx = 0 ∧
      s.dev = .safe ∧
      s.tooHot = true) ∧
    (∃ (c : Cmd) (s : State),
      judged c s ∧
      bareRest c ∧
      c.mbx = 0 ∧
      s.dev = .ready ∧
      s.loaded = false ∧
      s.frw = none ∧
      c.a0 = 0x200 ∧
      s.bistCondition = 0) ∧
    (∃ (c : Cmd) (s : State),
      judged c s ∧
      bareRest c ∧
      c.mbx = 0 ∧
      s.dev = .ready ∧
      s.loaded = false ∧
      s.frw = none ∧
      c.a0 = 0x200 ∧
      s.bistCondition ≠ 0 ∧
      s.rel.stackPending = []) ∧
    (∃ (c : Cmd) (s : State) (core : Nat),
      judged c s ∧
      bareRest c ∧
      c.mbx = 0 ∧
      core < 288 ∧
      c.a0 = BitVec.ofNat 64 (unitCode 1 core) ∧
      s.part.variant.unitPresent (unitCode 1 core) = some true ∧
      s.legalLate = true ∧
      s.mramJob = none ∧
      s.isRetired (unitCode 1 core) = false ∧
      ((∃ p, p < 288 ∧ p ≠ core ∧ s.coreUsable p = true))) ∧
    (∃ (c : Cmd) (s : State) (u : W32),
      judged c s ∧
      bareRest c ∧
      c.mbx = 0 ∧
      c.a0 = 0x100000000 + u.setWidth 64 ∧
      s.part.variant.unitPresent u.toNat = some true ∧
      unitType u.toNat ≠ 9 ∧
      unitType u.toNat ≠ 10 ∧
      s.legalLate = true ∧
      s.mramJob = none) :=
  ⟨⟨c0, atReady, by decide +kernel⟩,
    ⟨c0, { atReady with dev := .safe }, by decide +kernel⟩,
    ⟨c0, hot, by decide +kernel⟩,
    ⟨{ c0 with a0 := 0x200 }, bistReady, by decide +kernel⟩,
    ⟨{ c0 with a0 := 0x200 }, atReady, by decide +kernel⟩,
    ⟨{ c0 with a0 := 0x10000000 }, atReady, 0, by decide +kernel⟩,
    ⟨{ c0 with a0 := 0x110000005 }, atReady, 0x10000005, by decide +kernel⟩⟩

theorem witness_PassageLoadAndUnload :
    (∃ (c : Cmd) (s : State),
      adminJudged c s ∧
      c.rsv = 0 ∧
      c.a2.toNat ≤ 1 ∧
      c.a3 = 0 ∧
      c.a4 = 0 ∧
      c.a5 = 0 ∧
      c.a6 = 0 ∧
      c.a0 &&& ~~~(addressMask c.a0) = 0 ∧
      s.addressAbsent c.a0 c.a1.toNat = false ∧
      badAddress c.a0 c.a1.toNat = false ∧
      c.fault = false ∧
      s.dev = .ready ∧
      s.loaded = false ∧
      s.load = none ∧
      s.frw = none) ∧
    (∃ (c : Cmd) (s : State),
      adminJudged c s ∧
      c.rsv = 0 ∧
      c.a2.toNat ≤ 1 ∧
      c.a3 = 0 ∧
      c.a4 = 0 ∧
      c.a5 = 0 ∧
      c.a6 = 0 ∧
      c.a0 &&& ~~~(addressMask c.a0) = 0 ∧
      s.addressAbsent c.a0 c.a1.toNat = false ∧
      s.dev = .ready ∧
      s.loaded = true) ∧
    (∃ (m : Fin 64) (s : State) (r : Running) (j : LoadJob) (e : LoadError),
      s.dev = .ready ∧
      (s.mailbox m.val).running = some r ∧
      r.opcode = 0x0101 ∧
      s.load = some j ∧
      s.checkLoad (parsePassage j.image (s.memberList j)) = some e ∧
      e.code < 256 ∧
      e.sect < 256 ∧
      e.index < 2 ^ 32) ∧
    (∃ (m : Fin 64) (s : State) (r : Running) (j : LoadJob) (p : Passage) (s1 : State) (plan : List (Nat × Nat)),
      s.dev = .ready ∧
      (s.mailbox m.val).running = some r ∧
      r.opcode = 0x0101 ∧
      s.load = some j ∧
      s.flag Reg.CAP_DUTY_MODE.PLACEMENT = false ∧
      parsePassage j.image (s.memberList j) = p ∧
      s.checkLoad p = none ∧
      (({ s with load := none } : State).place p none).toOption = some (s1, plan)) ∧
    (∃ (c : Cmd) (s : State),
      adminJudged c s ∧
      bare c ∧
      s.dev = .ready ∧
      s.loaded = true ∧
      s.snap = none ∧
      s.other = none ∧
      s.role.carried = false) ∧
    (∃ (c : Cmd) (s : State) (x : SnapRun),
      adminJudged c s ∧
      bare c ∧
      s.dev = .ready ∧
      s.loaded = true ∧
      s.snap = some x ∧
      s.other = none ∧
      s.role.carried = false) :=
  ⟨⟨{ c0 with a0 := 0x8000000000001000, a1 := 3, data := [1, 2, 3] }, atReady, by decide +kernel⟩,
    ⟨{ c0 with a0 := 0x8000000000001000, a1 := 3, data := [1, 2, 3] }, atState .ready, by decide +kernel⟩,
    ⟨0, { atReady with load := some ⟨[], [], [], false⟩, mbx := [(0, { Mailbox.idle with running := some ⟨0x0101, 5⟩ })] }, ⟨0x0101, 5⟩, ⟨[], [], [], false⟩, ⟨1, 0, 0⟩, by decide +kernel⟩,
    ⟨0, loadingWhole, ⟨0x0101, 5⟩, ⟨wholeImage, [], [], false⟩, wholePassage, placedWhole.1, placedWhole.2, by decide +kernel⟩,
    ⟨c0, atState .ready, by decide +kernel⟩,
    ⟨c0, { atState .ready with snap := some snap0 }, snap0, by decide +kernel⟩⟩

theorem witness_RunningAPassage :
    (∃ (c : Cmd) (s : State) (p : Passage),
      adminJudged c s ∧
      bareRest c ∧
      s.dev = .ready ∧
      s.loaded = true ∧
      s.restore = none ∧
      s.passage = some p ∧
      s.role.carried = false ∧
      s.other = none ∧
      s.twin.paired = false ∧
      s.fab.early = [] ∧
      s.fab.waitingSignals = []) ∧
    (∃ (c : Cmd) (s : State),
      adminJudged c s ∧
      bareRest c ∧
      s.dev = .ready ∧
      s.loaded = true ∧
      s.restore.isSome = true) ∧
    (∃ (c : Cmd) (s : State),
      adminJudged c s ∧
      bareRest c ∧
      s.dev = .armed) ∧
    (∃ (c : Cmd) (s : State),
      adminJudged c s ∧
      bareRest c ∧
      s.dev = .armed) ∧
    (∃ (c : Cmd) (s : State),
      adminJudged c s ∧
      bare c ∧
      ((s.dev = .running ∨ s.dev = .held))) ∧
    (∃ (c : Cmd) (s : State),
      adminJudged c s ∧
      bare c ∧
      s.dev = .running ∧
      s.waitsStalled = false) ∧
    (∃ (c : Cmd) (s : State),
      adminJudged c s ∧
      bare c ∧
      s.dev = .running ∧
      s.waitsStalled = true) ∧
    (∃ (c : Cmd) (s : State),
      adminJudged c s ∧
      bare c ∧
      s.dev = .held) ∧
    (∃ (c : Cmd) (s : State),
      adminJudged c s ∧
      bare c ∧
      ((s.dev = .running ∨ s.dev = .held)) ∧
      s.pass2Begun = false) ∧
    (∃ (c : Cmd) (s : State),
      adminJudged c s ∧
      bare c ∧
      s.dev = .running ∧
      s.pass2Begun = true) ∧
    (∃ (c : Cmd) (s : State),
      adminJudged c s ∧
      bare c ∧
      ((s.dev = .armed ∨ s.dev = .held)) ∧
      s.other = none ∧
      s.role.carried = false ∧
      s.restore = none ∧
      s.role.update.committed = false ∧
      s.lostKinds = [] ∧
      s.fab.early = [] ∧
      s.twin.detachPending = false) :=
  ⟨⟨{ c0 with a0 := 7 }, atState .ready, p0, by decide +kernel⟩,
    ⟨{ c0 with a0 := 7 }, { atState .ready with restore := some ⟨[], 0, [], true⟩ }, by decide +kernel⟩,
    ⟨{ c0 with a0 := 0 }, atState .armed, by decide +kernel⟩,
    ⟨{ c0 with a0 := 0xFFFFFFFFFFFFFFFF }, atState .armed, by decide +kernel⟩,
    ⟨c0, atState .held, by decide +kernel⟩,
    ⟨c0, atState .running, by decide +kernel⟩,
    ⟨c0, { atState .running with role := { (atState .running).role with colls := [(0, { CollRun.empty with arrived := true, stalled := true })] } }, by decide +kernel⟩,
    ⟨c0, atState .held, by decide +kernel⟩,
    ⟨c0, atState .running, by decide +kernel⟩,
    ⟨c0, { atState .running with role := { (atState .running).role with inStep := true, closed := true, update := { UpdateRun.empty with committed := true } } }, by decide +kernel⟩,
    ⟨c0, atState .held, by decide +kernel⟩⟩

theorem witness_PassageSettings :
    (∃ (c : Cmd) (i : Nat) (s : State),
      adminJudged c s ∧
      bareTail c ∧
      i < 7 ∧
      c.a0 = BitVec.ofNat 64 (2 ^ i) ∧
      c.a1.toNat < 128 ∧
      s.romOnly = false ∧
      s.maySwitch i = true ∧
      ((i = 0 → s.frw = none ∧ s.load = none))) ∧
    (∃ (c : Cmd) (i : Nat) (s : State),
      adminJudged c s ∧
      bareTail c ∧
      i < 7 ∧
      c.a0 = BitVec.ofNat 64 (2 ^ i) ∧
      c.a1.toNat < 128 ∧
      s.romOnly = false ∧
      s.maySwitch i = true ∧
      ((i = 0 → s.frw = none ∧ s.load = none))) ∧
    (∃ (c : Cmd) (i : Nat) (s : State),
      adminJudged c s ∧
      bareTail c ∧
      i < 7 ∧
      c.a0 = BitVec.ofNat 64 (2 ^ i) ∧
      c.a1.toNat < 128 ∧
      s.romOnly = false ∧
      s.maySwitch i = true ∧
      ((i = 0 → s.frw = none ∧ s.load = none))) ∧
    (∃ (c : Cmd) (i : Nat) (s : State),
      adminJudged c s ∧
      bareTail c ∧
      c.a0.toNat < 128 ∧
      c.a1.toNat < 128 ∧
      i < 7 ∧
      c.a0.getLsbD i = true ∧
      s.maySwitch i = false) ∧
    (∃ (c : Cmd) (s : State) (p : Passage) (hm : List Nat),
      judged c s ∧
      c.rsv = 0 ∧
      c.a2 = 0 ∧
      c.a3 = 0 ∧
      c.a4 = 0 ∧
      c.a5 = 0 ∧
      c.a6 = 0 ∧
      c.a0 &&& ~~~(addressMask c.a0) = 0 ∧
      s.addressAbsent c.a0 (8 * c.a1.toNat) = false ∧
      badAddress c.a0 (8 * c.a1.toNat) = false ∧
      c.fault = false ∧
      ((s.dev = .armed ∨ s.dev = .held)) ∧
      s.flag Reg.CAP_DUTY_MODE.PLACEMENT = true ∧
      s.passage = some p ∧
      c.a1.toNat = p.legs.length ∧
      s.mapNamesAbsent (s.argumentBytes c c.a0 (8 * c.a1.toNat)) = false ∧
      s.parseHostmap (s.argumentBytes c c.a0 (8 * c.a1.toNat)) p.legs.length = some hm) ∧
    (∃ (c : Cmd) (s : State),
      judged c s ∧
      c.rsv = 0 ∧
      c.a2.toNat ≤ 1 ∧
      c.a3 = 0 ∧
      c.a4 = 0 ∧
      c.a5 = 0 ∧
      c.a6 = 0 ∧
      ((s.dev = .running ∨ s.dev = .held)) ∧
      s.role.inStep = true ∧
      s.role.step = c.a0.toNat ∧
      s.role.carried = false ∧
      s.other = none ∧
      s.role.update.hostClip = none ∧
      s.role.update.combined = false) ∧
    (∃ (c : Cmd) (s : State) (id rung : Nat),
      judged c s ∧
      bareRest c ∧
      id < 65536 ∧
      rung < 4 ∧
      c.a0 = BitVec.ofNat 64 (65536 * rung + id) ∧
      s.passageAt = true ∧
      (s.tensor? id).isSome = true) ∧
    (∃ (c : Cmd) (s : State) (w : Tensor),
      judged c s ∧
      bareRest c ∧
      s.passageAt = true ∧
      s.watched c.a0.toNat = some w) ∧
    (∃ (c : Cmd) (s : State),
      adminJudged c s ∧
      c.rsv = 0 ∧
      c.a3 = 0 ∧
      c.a4 = 0 ∧
      c.a5 = 0 ∧
      c.a6 = 0 ∧
      c.a2.toNat ≤ 255 ∧
      ((s.readyLoaded = true ∨ s.dev = .armed ∨ s.dev = .held)) ∧
      (s.watched c.a0.toNat).isSome = true) :=
  ⟨⟨{ c0 with a0 := 4, a1 := 4 }, 2, atState .ready, by decide +kernel⟩,
    ⟨{ c0 with a0 := 2, a1 := 2 }, 1, atState .ready, by decide +kernel⟩,
    ⟨{ c0 with a0 := 64, a1 := 64 }, 6, atState .held, by decide +kernel⟩,
    ⟨{ c0 with a0 := 5, a1 := 5 }, 0, atState .running, by decide +kernel⟩,
    ⟨{ c0 with a0 := 0x8000000000001000, a1 := 1, data := [0, 0, 0, 0, 0, 0, 0, 0] }, hostMapped, p0, [0], by decide +kernel⟩,
    ⟨{ c0 with a0 := 7, a1 := 0x3FF0000000000000, a2 := 1 }, inStepAt 7, by decide +kernel⟩,
    ⟨{ c0 with a0 := 0x20003 }, atState .ready, 3, 2, by decide +kernel⟩,
    ⟨{ c0 with a0 := 3 }, atState .ready, tensor3, by decide +kernel⟩,
    ⟨{ c0 with a0 := 3, a1 := 9, a2 := 255 }, atState .ready, by decide +kernel⟩⟩

theorem witness_Snapshots :
    (∃ (c : Cmd) (s : State) (ids : List Nat) (a : Nat),
      judged c s ∧
      c.rsv = 0 ∧
      c.a5 = 0 ∧
      c.a6 = 0 ∧
      c.a0 &&& ~~~(addressMask c.a0) = 0 ∧
      c.a3 &&& ~~~(snapMask c.a3) = 0 ∧
      s.addressAbsent c.a0 (2 * c.a1.toNat) = false ∧
      c.fault = false ∧
      ((s.dev = .armed ∨ s.dev = .running ∨ s.dev = .held)) ∧
      s.snap = none ∧
      0 < c.a1.toNat ∧
      c.a1.toNat ≤ 65536 ∧
      badAddress c.a0 (2 * c.a1.toNat) = false ∧
      snapIds (s.argumentBytes c c.a0 (2 * c.a1.toNat)) = ids ∧
      ((∀ i ∈ ids, ((s.tensor? i).map Tensor.kind) = some 0 ∧ ((s.tensor? i).map Tensor.format) = some 1)) ∧
      s.role.step ≤ c.a2.toNat ∧
      8 ≤ c.a4.toNat ∧
      c.a4.toNat ≤ 2 ^ 26 ∧
      s.fitAny (8192 * c.a4.toNat) = some a) ∧
    (∃ (c : Cmd) (s : State),
      judged c s ∧
      bare c ∧
      s.legalLate = true) ∧
    (∃ (c : Cmd) (s : State),
      judged c s ∧
      bare c ∧
      s.legalLate = true) ∧
    (∃ (s : State) (x : SnapRun) (id k : Nat) (bs : List Byte) (rest : List (Nat × Nat × List Byte)),
      s.snap = some x ∧
      x.marked = true ∧
      x.node = none ∧
      s.trafficOk = true ∧
      x.reserve = (id, k, bs) :: rest) ∧
    (∃ (s : State) (x : SnapRun) (id k : Nat),
      s.snap = some x ∧
      x.marked = true ∧
      x.node = none ∧
      s.trafficOk = true ∧
      x.reserve = [] ∧
      (s.pendingTiles x).head? = some (id, k)) ∧
    (∃ (s : State) (x : SnapRun),
      s.snap = some x) ∧
    (∃ (s : State) (x : SnapRun),
      s.snap = some x ∧
      x.trailer = true ∧
      x.node = none ∧
      s.trafficOk = true) :=
  ⟨⟨{ c0 with a0 := 0x8000000000001000, a1 := 1, a2 := 9, a3 := 0x100000, a4 := 8, data := [4, 0] }, atState .armed, [4], 0xC000, by decide +kernel⟩,
    ⟨c0, { atState .held with snap := some snap0 }, by decide +kernel⟩,
    ⟨c0, atState .held, by decide +kernel⟩,
    ⟨{ inStepAt 7 with snap := some { snap0 with reserve := [(4, 0, [1, 2])] } }, { snap0 with reserve := [(4, 0, [1, 2])] }, 4, 0, [1, 2], [], by decide +kernel⟩,
    ⟨{ inStepAt 7 with snap := some { snap0 with tensors := [4] }, mem := [(1, 4)] }, { snap0 with tensors := [4] }, 4, 0, by decide +kernel⟩,
    ⟨{ inStepAt 7 with snap := some { snap0 with waiting := 2 } }, { snap0 with waiting := 2 }, by decide +kernel⟩,
    ⟨{ inStepAt 7 with snap := some { snap0 with trailer := true } }, { snap0 with trailer := true }, by decide +kernel⟩⟩

theorem witness_RestoresAndNodeIds :
    (∃ (c : Cmd) (s : State) (x : RestoreRun),
      adminJudged c s ∧
      bare c ∧
      ((s.dev = .held ∨ s.dev = .ready)) ∧
      s.get Reg.CAP_RECOVERY.RESTORE = 3 ∧
      s.restore = some x) ∧
    (∃ (c : Cmd) (s : State),
      adminJudged c s ∧
      bare c ∧
      s.get Reg.CAP_RECOVERY.RESTORE ≠ 3) ∧
    (∃ (s : State) (x : RestoreRun) (i : Nat) (a : Addr) (bs : List Byte),
      s.restore = some x ∧
      s.get Reg.CAP_RECOVERY.RESTORE = 2 ∧
      x.disarm = false ∧
      i ∈ x.entries ∧
      (s.entry i).tier ≤ 1 ∧
      (s.entry i).addr ≤ a.toNat ∧
      a.toNat + bs.length ≤ (s.entry i).addr + (s.entry i).bytes) ∧
    (∃ (c : Cmd) (s : State),
      adminJudged c s ∧
      bareRest c ∧
      s.legalLate = true ∧
      s.reservedFor c.a0.toNat ≠ []) ∧
    (∃ (c : Cmd) (s : State),
      adminJudged c s ∧
      bareRest c ∧
      s.legalLate = true ∧
      s.reservedFor c.a0.toNat = []) :=
  ⟨⟨c0, ({ atState .held with restore := some ⟨[0], 4096, [], false⟩ }.set Reg.CAP_RECOVERY.RESTORE 3), ⟨[0], 4096, [], false⟩, by decide +kernel⟩,
    ⟨c0, atState .held, by decide +kernel⟩,
    ⟨({ atState .held with restore := some ⟨[0], 4096, [], false⟩ }.set Reg.CAP_RECOVERY.RESTORE 2), ⟨[0], 4096, [], false⟩, 0, 0x2000, [1, 2, 3], by decide +kernel⟩,
    ⟨{ c0 with a0 := 5 }, { atState .ready with fab := { (atState .ready).fab with reserved := [(77, 5)] } }, by decide +kernel⟩,
    ⟨{ c0 with a0 := 5 }, atState .ready, by decide +kernel⟩⟩

theorem witness_TwinCommands :
    (∃ (c : Cmd) (s : State),
      adminJudged c s ∧
      bare c ∧
      s.dev = .ready ∧
      s.twin.state ≠ 7) ∧
    (∃ (c : Cmd) (s : State),
      adminJudged c s ∧
      bare c ∧
      s.dev = .ready ∧
      s.twin.state ≠ 7) ∧
    (∃ (c : Cmd) (s : State),
      adminJudged c s ∧
      bare c ∧
      s.dev = .ready ∧
      ((s.twin.state = 8 ∨ s.twin.state = 9)) ∧
      s.part.variant.hasTwin = true) ∧
    (∃ (c : Cmd) (s : State),
      adminJudged c s ∧
      bare c ∧
      s.dev = .ready ∧
      ((s.twin.state = 8 ∨ s.twin.state = 9)) ∧
      s.part.variant.hasTwin = true) ∧
    (∃ (c : Cmd) (s : State) (st : MirrorState) (s1 : State),
      adminJudged c s ∧
      bare c ∧
      s.part.variant.hasTwin = true ∧
      s.dev = .running ∧
      s.twin.state = 7 ∧
      s.flag Reg.TWN_STATUS.CARRY_READY = true ∧
      s.flag Reg.TWN_STATUS.MIRROR_VALID = true ∧
      s.twin.lostPending = false ∧
      s.role.carried = false ∧
      s.twin.partnerState = some st ∧
      s.placePartner s.partnerPassage true = some s1) ∧
    (∃ (c : Cmd) (s : State),
      adminJudged c s ∧
      bare c ∧
      s.part.variant.hasTwin = true ∧
      s.dev = .held ∧
      s.twin.state = 7 ∧
      s.flag Reg.TWN_STATUS.MIRROR_VALID = true ∧
      s.twin.paired = true ∧
      s.twin.partnerArmed = false ∧
      s.twin.lostPending = false) ∧
    (∃ (c : Cmd) (s : State),
      adminJudged c s ∧
      bare c ∧
      s.part.variant.hasTwin = true ∧
      s.passageAt = true ∧
      s.twin.state = 7 ∧
      s.get Reg.CAP_STATE.CAUSE ≠ eventCause Ev.twinLost) ∧
    (∃ (c : Cmd) (s : State),
      adminJudged c s ∧
      bare c ∧
      s.part.variant.hasTwin = true ∧
      ((s.passageAt = true ∨ s.dev = .ready)) ∧
      s.twin.state ≠ 8 ∧
      s.twin.state ≠ 9 ∧
      s.awayOnTwin = false) ∧
    (∃ (c : Cmd) (s : State),
      adminJudged c s ∧
      bare c ∧
      s.part.variant.hasTwin = true ∧
      ((s.passageAt = true ∨ s.dev = .ready)) ∧
      s.twin.state ≠ 8 ∧
      s.twin.state ≠ 9 ∧
      s.awayOnTwin = false) :=
  ⟨⟨c0, atState .ready, by decide +kernel⟩,
    ⟨c0, { atState .ready with part := { Part.reset with variant := .xt480s } }, by decide +kernel⟩,
    ⟨c0, { atState .ready with twin := { TwinUnit.reset with state := 8 } }, by decide +kernel⟩,
    ⟨c0, { atState .ready with twin := { TwinUnit.reset with state := 9 } }, by decide +kernel⟩,
    ⟨c0, carrying, MirrorState.mk 0 0 0 [] [] 0, carriedPlace, by decide +kernel⟩,
    ⟨c0, handingOver, by decide +kernel⟩,
    ⟨c0, { atState .held with twin := { TwinUnit.reset with state := 7, mirror := [(1, 0, 0, [])], lostNode := some 3 } }, by decide +kernel⟩,
    ⟨c0, atState .ready, by decide +kernel⟩,
    ⟨c0, inStepAt 7, by decide +kernel⟩⟩

theorem witness_Attestation :
    (∃ (code : Byte) (s : State),
      s.spdmServed = true) ∧
    (∃ (off len : W16) (signed : Bool) (index : Byte) (transcript : List Byte) (s : State),
      s.spdmServed = false) ∧
    (∃ (off len : W16) (s : State),
      s.spdmServed = true) ∧
    (∃ (off len : W16) (s : State),
      s.spdmServed = true) ∧
    (∃ (transcript : List Byte) (s : State) (k : Nat),
      s.spdmServed = true ∧
      s.sec.attestKey = some k) ∧
    (∃ (transcript : List Byte) (s : State),
      s.spdmServed = true ∧
      s.sec.attestKey = none) ∧
    (∃ (transcript : List Byte) (s : State),
      s.spdmServed = true ∧
      s.sec.attestKey = none) ∧
    (∃ (index : Byte) (transcript : List Byte) (s : State),
      s.spdmServed = true) ∧
    (∃ (index : Byte) (transcript : List Byte) (s : State),
      s.spdmServed = true) ∧
    (∃ (transcript : List Byte) (s : State) (k : Nat),
      s.spdmServed = true ∧
      s.sec.attestKey = some k) :=
  ⟨⟨0x63, spdmUp, by decide +kernel⟩,
    ⟨0, 1, true, 255, [], State.reset, by decide +kernel⟩,
    ⟨1, 2, spdmUp, by decide +kernel⟩,
    ⟨4, 2, spdmUp, by decide +kernel⟩,
    ⟨[1, 2], spdmUp, 1, by decide +kernel⟩,
    ⟨[1, 2], { spdmUp with dev := .selftest, sec := { spdmUp.sec with attestKey := none } }, by decide +kernel⟩,
    ⟨[], { spdmUp with sec := { spdmUp.sec with attestKey := none } }, by decide +kernel⟩,
    ⟨3, [], spdmUp, by decide +kernel⟩,
    ⟨6, [], spdmUp, by decide +kernel⟩,
    ⟨[7], spdmUp, 1, by decide +kernel⟩⟩

theorem witness_TestPort :
    (∃ (s : State),
      s.flag Reg.SEC_STATUS.DEBUG_UNLOCKED = false) ∧
    (∃ (s : State),
      s.flag Reg.SEC_STATUS.DEBUG_UNLOCKED = true) ∧
    (∃ (s : State),
      s.dev ≠ .off) ∧
    (∃ (token : List Byte) (s : State),
      ((s.dev = .faulted ∨ s.dev = .ready ∧ s.loaded = false)) ∧
      s.tokenOk token = true ∧
      s.sec.measures.length = 8) ∧
    (∃ (token : List Byte) (s : State),
      ((s.tokenOk token = false ∨ (s.dev ≠ .faulted ∧ ¬(s.dev = .ready ∧ s.loaded = false))))) ∧
    (∃ (token : List Byte) (s : State),
      ((s.tokenOk token = false ∨ (s.dev ≠ .faulted ∧ ¬(s.dev = .ready ∧ s.loaded = false))))) :=
  ⟨⟨atReady, by decide +kernel⟩,
    ⟨(atReady.set Reg.SEC_STATUS.DEBUG_UNLOCKED 1), by decide +kernel⟩,
    ⟨atReady, by decide +kernel⟩,
    ⟨unlockToken, unlockable, by decide +kernel⟩,
    ⟨[], unlockable, by decide +kernel⟩,
    ⟨unlockToken, { unlockable with dev := .running }, by decide +kernel⟩⟩

theorem witness_CoolantReadings :
    (∃ (inlet outlet flow : W16) (seq : Byte) (s : State),
      s.dev ≠ .off ∧
      inlet.toNat ≤ 800 ∧
      outlet.toNat ≤ 800 ∧
      flow.toNat ≤ 10000 ∧
      inlet.toNat ≤ outlet.toNat + 16 ∧
      s.helm.lastSeq ≠ some seq ∧
      25 * s.ratedFlow ≤ 100 * flow.toNat ∧
      s.get Reg.HELM_COOLANT_CFG.OUTLET_SLOPE = 0) ∧
    (∃ (inlet outlet flow : W16) (seq : Byte) (s : State),
      s.dev ≠ .off ∧
      inlet.toNat ≤ 800 ∧
      outlet.toNat ≤ 800 ∧
      flow.toNat ≤ 10000 ∧
      inlet.toNat ≤ outlet.toNat + 16 ∧
      s.helm.lastSeq ≠ some seq ∧
      25 * s.ratedFlow ≤ 100 * flow.toNat ∧
      s.get Reg.HELM_COOLANT_CFG.OUTLET_SLOPE = 0) ∧
    (∃ (index : Byte) (bs : List Byte) (s : State),
      s.dev ≠ .off ∧
      (((index.toNat = 0x10 ∧ bs.length = 8 ∧ s.coolantReading bs = none) ∨ (index.toNat < 0x18 ∧ 0x10 < index.toNat + bs.length ∧ ¬(index.toNat = 0x10 ∧ bs.length = 8))))) ∧
    (∃ (index : Byte) (bs : List Byte) (s : State),
      s.dev ≠ .off ∧
      (((index.toNat = 0x10 ∧ bs.length = 8 ∧ s.coolantReading bs = none) ∨ (index.toNat < 0x18 ∧ 0x10 < index.toNat + bs.length ∧ ¬(index.toNat = 0x10 ∧ bs.length = 8))))) ∧
    (∃ (inlet outlet flow : W16) (seq : Byte) (s : State),
      s.dev ≠ .off ∧
      inlet.toNat ≤ 800 ∧
      outlet.toNat ≤ 800 ∧
      inlet.toNat ≤ outlet.toNat + 16 ∧
      s.helm.lastSeq ≠ some seq ∧
      100 * flow.toNat < 25 * s.ratedFlow ∧
      1 ≤ s.helm.lowFlows ∧
      s.flag Reg.HELM_THERMAL.COOLANT_STOP = false) ∧
    (∃ (s : State) (r : Coolant) (rs : List Coolant),
      s.helm.readings = r :: rs ∧
      s.flag Reg.HELM_THERMAL.COOLANT_STOP = true) ∧
    (∃ (s : State),
      s.dev ≠ .off ∧
      s.flag Reg.HELM_THERMAL.DATA_LOST = false) ∧
    (∃ (s : State),
      s.flag Reg.HELM_THERMAL.DATA_LOST = true) :=
  ⟨⟨240, 300, 3000, 1, (atReady.set Reg.HELM_COOLANT_CFG.OUTLET_SLOPE 0), by decide +kernel⟩,
    ⟨800, 800, 10000, 255, ((atReady.set Reg.HELM_THERMAL.DATA_LOST 1).set Reg.HELM_COOLANT_CFG.OUTLET_SLOPE 0), by decide +kernel⟩,
    ⟨0x10, [0, 0, 0, 0, 0, 0, 0, 1], atReady, by decide +kernel⟩,
    ⟨0x14, [0, 0, 0, 0], atReady, by decide +kernel⟩,
    ⟨240, 300, 299, 9, { atReady with helm := { HelmUnit.reset with lowFlows := 1 } }, by decide +kernel⟩,
    ⟨coolantBack, ⟨240, 300, 3000⟩, [⟨240, 300, 3000⟩, ⟨240, 300, 3000⟩, ⟨240, 300, 3000⟩], by decide +kernel⟩,
    ⟨{ atReady with helm := { HelmUnit.reset with loopsRunning := true } }, by decide +kernel⟩,
    ⟨(atReady.set Reg.HELM_THERMAL.DATA_LOST 1), by decide +kernel⟩⟩

theorem witness_ManagementBusAndBudget :
    (∃ (static dyn : BitVec 7) (s : State),
      s.dev ≠ .off) ∧
    (∃ (static dyn : BitVec 7) (s : State),
      s.dev ≠ .off) ∧
    (∃ (index : Byte) (len : Nat) (s : State),
      s.dev ≠ .off) ∧
    (∃ (index : Byte) (len : Nat) (s : State),
      s.dev ≠ .off) ∧
    (∃ (index : Byte) (len : Nat) (s : State),
      s.dev ≠ .off) ∧
    (∃ (mask : W32) (s : State),
      s.dev ≠ .off) ∧
    (∃ (mask : W32) (s : State),
      s.dev ≠ .off) ∧
    (∃ (watts : W16) (b3 b4 : Byte) (s : State),
      s.dev ≠ .off) ∧
    (∃ (watts : W16) (b3 b4 : Byte) (s : State),
      s.dev ≠ .off) ∧
    (∃ (frame : List Byte) (s : State),
      s.dev ≠ .off ∧
      frameOk frame = false) ∧
    (∃ (frame : List Byte) (s : State),
      s.dev ≠ .off ∧
      frameOk frame = false) ∧
    (∃ (s : State),
      s.dev ≠ .off ∧
      s.flag Reg.HELM_LIMITS.BUDGET_STALE = false) :=
  ⟨⟨0x20, 9, atReady, by decide +kernel⟩,
    ⟨0x21, 9, atReady, by decide +kernel⟩,
    ⟨0x18, 3, (atReady.set Reg.MG_INPUTS.BAD_FRAMES 3), by decide +kernel⟩,
    ⟨0x18, 4, (atReady.set Reg.MG_INPUTS.BAD_FRAMES 3), by decide +kernel⟩,
    ⟨0x08, 4, { atReady with hold := { atReady.hold with alert := 0x7F } }, by decide +kernel⟩,
    ⟨0x20, { atReady with hold := { atReady.hold with alert := 0x21 } }, by decide +kernel⟩,
    ⟨0x21, { atReady with hold := { atReady.hold with alert := 0x21 } }, by decide +kernel⟩,
    ⟨1500, 0, 0, atReady, by decide +kernel⟩,
    ⟨0xFFFF, 1, 2, { atReady with helm := { HelmUnit.reset with loopsRunning := true } }, by decide +kernel⟩,
    ⟨[], atReady, by decide +kernel⟩,
    ⟨[0xD5, 0, 0, 0, 0, 1], atReady, by decide +kernel⟩,
    ⟨atReady, by decide +kernel⟩⟩

theorem witness_ForerunnerWindow :
    (∃ (value : W32) (s : State),
      s.dev ≠ .off ∧
      value.getLsbD 0 = true ∧
      s.frw = none) ∧
    (∃ (value : W32) (s : State),
      s.dev ≠ .off ∧
      value.getLsbD 0 = true ∧
      s.frw = none) ∧
    (∃ (value : W32) (s : State),
      s.dev ≠ .off ∧
      s.frw.isSome = true) ∧
    (∃ (s : State),
      s.dev ≠ .off ∧
      s.frw = none ∧
      ((s.flag Reg.CAP_DUTY_MODE.PLACEMENT = false ∨ s.dev ≠ .ready ∨ s.loaded = true))) ∧
    (∃ (s : State),
      s.dev ≠ .off ∧
      s.frw = none ∧
      ((s.flag Reg.CAP_DUTY_MODE.PLACEMENT = false ∨ s.dev ≠ .ready ∨ s.loaded = true))) ∧
    (∃ (s : State),
      s.dev ≠ .off ∧
      s.frw = none ∧
      ((s.flag Reg.CAP_DUTY_MODE.PLACEMENT = false ∨ s.dev ≠ .ready ∨ s.loaded = true))) ∧
    (∃ (s : State) (j : FrwJob),
      s.frw = some j ∧
      s.frwBroken j = false) ∧
    (∃ (s : State) (j : FrwJob),
      s.frw = some j ∧
      s.frwBroken j = true) :=
  ⟨⟨1, frwSet, by decide +kernel⟩,
    ⟨1, atReady, by decide +kernel⟩,
    ⟨1, { frwSet with frw := some frwSet.frwDescriptor }, by decide +kernel⟩,
    ⟨atReady, by decide +kernel⟩,
    ⟨(atState .armed), by decide +kernel⟩,
    ⟨((atState .ready).set Reg.CAP_DUTY_MODE.PLACEMENT 1), by decide +kernel⟩,
    ⟨{ frwSet with frw := some frwSet.frwDescriptor }, frwSet.frwDescriptor, by decide +kernel⟩,
    ⟨{ frwSet with frw := some { frwSet.frwDescriptor with failed := true } }, { frwSet.frwDescriptor with failed := true }, by decide +kernel⟩⟩

theorem witness_PowerUpAndEntry :
    (∃ (s : State),
      s.dev = .off ∧
      s.hold.cellsGone = false ∧
      s.pwr.stop = none) ∧
    (∃ (s : State),
      ((s.dev ≠ .off ∨ s.hold.cellsGone = true))) ∧
    (∃ (s : State),
      s.dev = .off ∧
      s.pwr.stageA = true ∧
      s.hold.dark.all (fun d => d.1 != 36) = true) ∧
    (∃ (slot : BitVec 4) (s : State),
      s.dev = .off ∧
      s.boot.busUp = true ∧
      s.hold.dark.all (fun d => d.1 != 36) = true ∧
      s.mram.stop.faultNote = none) ∧
    (∃ (slot : BitVec 4) (s : State),
      ((s.dev ≠ .off ∨ s.boot.busUp = false))) ∧
    (∃ (slot : BitVec 4) (s : State),
      ((s.dev ≠ .off ∨ s.boot.busUp = false))) ∧
    (∃ (s : State),
      s.dev ≠ .off ∧
      s.dev ≠ .safe ∧
      s.pwr.stop = none ∧
      s.pcie.wasReady = false ∧
      s.flag Reg.HELM_IN_STATUS.HOLDUP_READY = false) ∧
    (∃ (s : State),
      s.dev = .off ∧
      s.pwr.stop = none) ∧
    (∃ (vbank : W16) (s : State),
      s.dev ≠ .off) :=
  ⟨⟨off, by decide +kernel⟩,
    ⟨{ off with hold := { Housekeeping.reset with cellsGone := true } }, by decide +kernel⟩,
    ⟨{ off with pwr := { off.pwr with stageA := true } }, by decide +kernel⟩,
    ⟨5, busUp, by decide +kernel⟩,
    ⟨5, atReady, by decide +kernel⟩,
    ⟨5, off, by decide +kernel⟩,
    ⟨booted, by decide +kernel⟩,
    ⟨{ off with hold := { Housekeeping.reset with alert := 3, dark := [(40, 1)], cellsGone := true } }, by decide +kernel⟩,
    ⟨4800, booted, by decide +kernel⟩⟩

theorem witness_FirmwareAndTables :
    (∃ (s : State),
      s.dev = .boot ∧
      s.boot.fwStarted = false ∧
      s.sec.measures.length = 8 ∧
      s.part.imageOk (s.mram.slot s.mram.pointer) = true ∧
      [37, 38, 39].all (fun r => s.regionState r != 5) = true) ∧
    (∃ (s : State),
      s.dev = .boot ∧
      s.boot.fwStarted = false ∧
      s.part.imageOk (s.mram.slot s.mram.pointer) = false ∧
      s.part.imageOk (s.mram.slot (!s.mram.pointer)) = true ∧
      [37, 38, 39].all (fun r => s.regionState r != 5) = true) ∧
    (∃ (s : State),
      s.dev = .boot ∧
      s.boot.fwStarted = false ∧
      s.part.imageOk (s.mram.slot true) = false ∧
      s.part.imageOk (s.mram.slot false) = false ∧
      [37, 38, 39].all (fun r => s.regionState r != 5) = true) ∧
    (∃ (s : State) (d p : Nat),
      s.dev = .boot ∧
      s.boot.fwStarted = true ∧
      s.regionState 39 = 3 ∧
      d < s.part.variant.dies ∧
      p < 23 ∧
      s.part.vfSound d = true) ∧
    (∃ (s : State) (d p : Nat),
      s.dev = .boot ∧
      s.boot.fwStarted = true ∧
      s.regionState 39 = 3 ∧
      d < s.part.variant.dies ∧
      p < 23 ∧
      s.part.vfSound d = true) ∧
    (∃ (s : State) (d : Nat),
      s.dev = .boot ∧
      s.boot.fwStarted = true ∧
      d < s.part.variant.dies ∧
      (s.part.fusedEntry (32 * d)).parityOk = false ∧
      s.mram.vtable.content = none) :=
  ⟨⟨booting, by decide +kernel⟩,
    ⟨{ booting with mram := { booting.mram with slotA := [], slotB := signedImage } }, by decide +kernel⟩,
    ⟨State.reset, by decide +kernel⟩,
    ⟨booted, 0, 0, by decide +kernel⟩,
    ⟨booted, 3, 22, by decide +kernel⟩,
    ⟨{ booted with part := { booted.part with fusedVf := [[⟨450, false⟩]] } }, 0, by decide +kernel⟩⟩

theorem witness_TrainingToReady_1 :
    (∃ (bridge : Fin 8) (s : State),
      s.dev = .boot ∧
      s.boot.fwStarted = true ∧
      s.part.variant.bridgeFitted bridge.val = true) ∧
    (∃ (bridge : Fin 8) (s : State),
      s.dev = .boot ∧
      s.boot.fwStarted = true ∧
      s.part.variant.bridgeFitted bridge.val = true) ∧
    (∃ (bridge : Fin 8) (s : State),
      s.dev = .boot ∧
      s.boot.fwStarted = true ∧
      s.part.variant.bridgeFitted bridge.val = true) ∧
    (∃ (stack : Fin 8) (s : State),
      s.dev = .boot ∧
      s.boot.fwStarted = true ∧
      s.stackInUse stack.val = true) ∧
    (∃ (stack : Fin 8) (s : State) (n : Nat),
      s.dev = .boot ∧
      s.boot.fwStarted = true ∧
      s.stackInUse stack.val = true ∧
      sparseGet 0 stack.val s.boot.stackTries = n) ∧
    (∃ (stack : Fin 8) (s : State) (n : Nat),
      s.dev = .boot ∧
      s.boot.fwStarted = true ∧
      s.stackInUse stack.val = true ∧
      sparseGet 0 stack.val s.boot.stackTries = n) ∧
    (∃ (s s0 : State),
      s.dev = .boot ∧
      s.boot.fwStarted = true ∧
      s.boot.settingsLoaded = false ∧
      s.mram.settings.content = some s0.settingsNow ∧
      s.loadSettings.flag Reg.CAP_SETTINGS.STARTUP_BIST = false ∧
      s.boot.afterFault = false ∧
      s.boot.bistSelected = false ∧
      s.sec.measures.length = 8) ∧
    (∃ (s : State),
      s.dev = .boot ∧
      s.boot.fwStarted = true ∧
      s.boot.settingsLoaded = false ∧
      s.boot.afterFault = false ∧
      s.boot.bistSelected = false ∧
      s.mram.settings.content = none ∧
      s.mram.repairs.content = none ∧
      s.mram.vtable.content = none) ∧
    (∃ (s : State),
      s.dev = .boot ∧
      s.boot.fwStarted = true ∧
      s.boot.settingsLoaded = false ∧
      s.boot.afterFault = true ∧
      s.loadSettings.bistCondition = 0) ∧
    (∃ (s : State) (c : Nat),
      s.dev = .boot ∧
      s.boot.settingsLoaded = true ∧
      s.boot.numbered = false ∧
      (List.range 32).flatMap s.clusterCores ≠ [] ∧
      c ∈ s.clusters) ∧
    (∃ (s : State) (c : Nat),
      s.dev = .boot ∧
      s.boot.settingsLoaded = true ∧
      s.boot.numbered = false ∧
      (List.range 32).flatMap s.clusterCores ≠ [] ∧
      c ∈ s.clusters) ∧
    (∃ (s : State),
      s.dev = .boot ∧
      s.boot.settingsLoaded = true ∧
      s.boot.numbered = false ∧
      (List.range 32).flatMap s.clusterCores = []) :=
  ⟨⟨0, booted, by decide +kernel⟩,
    ⟨7, booted, by decide +kernel⟩,
    ⟨5, { booted with part := { booted.part with variant := .xt720m } }, by decide +kernel⟩,
    ⟨0, { booted with mem := [(5, 7), (0x1000000000, 9)], badLines := [0] }, by decide +kernel⟩,
    ⟨0, booted, 0, by decide +kernel⟩,
    ⟨7, { booted with boot := { booted.boot with stackTries := [(7, 2)] } }, 2, by decide +kernel⟩,
    ⟨{ booted with mram := { booted.mram with settings := ⟨⟨0, false, []⟩, ⟨4, true, (atReady.set Reg.HELM_CAP.HOST_CAP_W 1500).settingsNow⟩, 1⟩ } }, atReady.set Reg.HELM_CAP.HOST_CAP_W 1500, by decide +kernel⟩,
    ⟨booted, by decide +kernel⟩,
    ⟨{ { booted with boot := { booted.boot with afterFault := true } } with helm := bistReady.helm }.set Reg.HELM_IN_STATUS.VIN 7200, by decide +kernel⟩,
    ⟨settled, 0, by decide +kernel⟩,
    ⟨settled, 31, by decide +kernel⟩,
    ⟨settled.set Reg.CAP_BOOT.DIE_UNUSED 15, by decide +kernel⟩⟩

theorem witness_TrainingToReady_2 :
    (∃ (s : State),
      s.dev = .boot ∧
      s.boot.numbered = true ∧
      s.flag Reg.HELM_IN_STATUS.HOLDUP_READY = true ∧
      s.boot.failedSlot = none ∧
      s.boot.commitSvn = false ∧
      s.rel.stackPending = []) ∧
    (∃ (s : State),
      s.dev = .boot ∧
      s.boot.numbered = true ∧
      s.flag Reg.HELM_IN_STATUS.HOLDUP_READY = true ∧
      s.boot.failedSlot = none ∧
      s.boot.commitSvn = true ∧
      s.part.svnMin < s.boot.imageSvn ∧
      s.rel.stackPending = []) ∧
    (∃ (s : State),
      s.dev = .boot ∧
      s.boot.numbered = true ∧
      s.flag Reg.HELM_IN_STATUS.HOLDUP_READY = false ∧
      s.boot.failedSlot = none ∧
      s.boot.commitSvn = false ∧
      s.rel.stackPending = []) :=
  ⟨⟨awaiting.set Reg.HELM_IN_STATUS.HOLDUP_READY 1, by decide +kernel⟩,
    ⟨{ awaiting with boot := { awaiting.boot with commitSvn := true, imageSvn := 3, imageRevoke := 2 } }.set Reg.HELM_IN_STATUS.HOLDUP_READY 1, by decide +kernel⟩,
    ⟨awaiting, by decide +kernel⟩⟩

theorem witness_BistSteps :
    (∃ (die : Fin 4) (s : State) (b : BistRun),
      s.bist = some b ∧
      b.logic.head? = some die.val ∧
      s.dev = .selftest ∧
      b.sram = true) ∧
    (∃ (die : Fin 4) (k : Fin 72) (s : State) (b : BistRun),
      s.bist = some b ∧
      b.logic.head? = some die.val ∧
      s.dev = .selftest ∧
      b.sram = true ∧
      die.val < s.part.variant.dies ∧
      s.isRetired (unitCode 1 (72 * die.val + k.val)) = false ∧
      s.role.passage = none ∧
      s.other = none ∧
      s.frw = none) ∧
    (∃ (s : State) (b : BistRun),
      s.bist = some b ∧
      b.logic = [] ∧
      b.sram = true ∧
      b.hbm = true ∧
      s.dev = .selftest) ∧
    (∃ (s : State) (b : BistRun),
      s.bist = some b ∧
      b.startup = true ∧
      b.logic = [] ∧
      b.sram = false ∧
      b.hbm = true ∧
      s.dev = .selftest ∧
      b.selection / 256 % 2 = 0) ∧
    (∃ (condition : Fin 9) (s : State) (b : BistRun),
      s.bist = some b ∧
      b.startup = false ∧
      s.dev = .selftest ∧
      s.rel.stackPending = []) ∧
    (∃ (die : Fin 4) (condition : Fin 9) (hbm : Bool) (s : State),
      s.bist = none) ∧
    (∃ (addr : W64) (s : State),
      s.dev ≠ .off ∧
      s.pwr.stop = none) :=
  ⟨⟨0, testing, ⟨false, 0x701, [0], true, true⟩, by decide +kernel⟩,
    ⟨0, 5, testing, ⟨false, 0x701, [0], true, true⟩, by decide +kernel⟩,
    ⟨{ testing with bist := some ⟨false, 0x701, [], true, true⟩ }, ⟨false, 0x701, [], true, true⟩, by decide +kernel⟩,
    ⟨{ testingHbm with bist := some ⟨true, 0x600, [], false, true⟩ }, ⟨true, 0x600, [], false, true⟩, by decide +kernel⟩,
    ⟨4, testing, ⟨false, 0x701, [0], true, true⟩, by decide +kernel⟩,
    ⟨0, 1, true, atReady, by decide +kernel⟩,
    ⟨0x40, atReady, by decide +kernel⟩⟩

theorem witness_InputThresholds_1 :
    (∃ (vin : W16) (s : State),
      s.thresholdsAct = true ∧
      s.flag Reg.HELM_IN_STATUS.UNDER_56 = false) ∧
    (∃ (vin : W16) (s : State),
      s.thresholdsAct = true ∧
      s.flag Reg.HELM_IN_STATUS.UNDER_56 = false) ∧
    (∃ (s : State),
      s.flag Reg.HELM_IN_STATUS.UNDER_56 = true ∧
      s.pwr.stop = none) ∧
    (∃ (vin vbank : W16) (s : State),
      s.thresholdsAct = true ∧
      s.flag Reg.HELM_IN_STATUS.UNDER_56 = true) ∧
    (∃ (vin vbank : W16) (s : State),
      s.thresholdsAct = true) ∧
    (∃ (vin vbank : W16) (s : State),
      s.thresholdsAct = true) ∧
    (∃ (vin : W16) (s : State),
      s.thresholdsAct = true ∧
      s.flag Reg.HELM_IN_STATUS.INPUT_HIGH = false) ∧
    (∃ (vin vbank : W16) (s : State),
      s.thresholdsAct = false) ∧
    (∃ (vin vbank : W16) (s : State),
      s.thresholdsAct = false) ∧
    (∃ (cell : Fin 4) (vin vbank : W16) (s : State),
      s.dev ≠ .off ∧
      s.pwr.stop = none ∧
      s.snap = none ∧
      s.get Reg.HELM_STAGEA.CELLS_OK / 2 ^ cell.val % 2 = 1) ∧
    (∃ (cell : Fin 4) (vin vbank : W16) (s : State),
      s.dev ≠ .off ∧
      s.pwr.stop = none ∧
      s.snap = none ∧
      s.get Reg.HELM_STAGEA.CELLS_OK / 2 ^ cell.val % 2 = 1) ∧
    (∃ (cells : BitVec 4) (vin vbank : W16) (s : State),
      s.dev ≠ .off ∧
      s.pwr.stop = none) :=
  ⟨⟨5500, nominal, by decide +kernel⟩,
    ⟨5500, { nominal with helm := HelmUnit.reset }, by decide +kernel⟩,
    ⟨nominal.set Reg.HELM_IN_STATUS.UNDER_56 1, by decide +kernel⟩,
    ⟨5500, 4900, nominal.set Reg.HELM_IN_STATUS.UNDER_56 1, by decide +kernel⟩,
    ⟨4700, 4900, nominal, by decide +kernel⟩,
    ⟨8500, 4900, { inStepAt 3 with pcie := { atReady.pcie with wasReady := true } }, by decide +kernel⟩,
    ⟨8100, nominal, by decide +kernel⟩,
    ⟨4700, 4900, stopAt false false false false, by decide +kernel⟩,
    ⟨4700, 4900, booted, by decide +kernel⟩,
    ⟨2, 7200, 4900, nominal, by decide +kernel⟩,
    ⟨0, 7200, 4900, nominal.set Reg.HELM_STAGEA.CELLS_OK 1, by decide +kernel⟩,
    ⟨3, 7200, 4900, nominal, by decide +kernel⟩⟩

theorem witness_InputThresholds_2 :
    ∃ (cells : BitVec 4) (vin vbank : W16) (s : State),
      s.dev ≠ .off ∧
      s.pwr.stop = none :=
  ⟨15, 7200, 4900, nominal, by decide +kernel⟩

theorem witness_OrderlyStop :
    (∃ (s : State) (x : StopRun),
      s.pwr.stop = some x ∧
      x.announced = false) ∧
    (∃ (s : State) (x : StopRun) (a r : Nat),
      s.pwr.stop = some x ∧
      x.announced = true ∧
      x.regionsOff = false) ∧
    (∃ (s : State) (x : StopRun),
      s.pwr.stop = some x ∧
      x.regionsOff = true ∧
      x.recorded = false) ∧
    (∃ (s : State) (x : StopRun),
      s.pwr.stop = some x ∧
      x.recorded = true ∧
      x.hubOff = false) ∧
    (∃ (s : State) (x : StopRun),
      s.pwr.stop = some x ∧
      x.hubOff = true) ∧
    (∃ (s : State),
      s.pwr.stop = none) :=
  ⟨⟨stopAt false false false false, { stopping with cause := 2, vin := 4700, vbank := 4900, dtime := 77 }, by decide +kernel⟩,
    ⟨{ stopAt true false false false with mem := [(0, 1), (0x5000000000, 3)] }, { stopping with cause := 2, vin := 4700, vbank := 4900, dtime := 77, announced := true }, 0x5000000000, 47, by decide +kernel⟩,
    ⟨stopAt true true false false, { stopping with cause := 2, vin := 4700, vbank := 4900, dtime := 77, announced := true, regionsOff := true }, by decide +kernel⟩,
    ⟨stopAt true true true false, { stopping with cause := 2, vin := 4700, vbank := 4900, dtime := 77, announced := true, regionsOff := true, recorded := true }, by decide +kernel⟩,
    ⟨stopAt true true true true, { stopping with cause := 2, vin := 4700, vbank := 4900, dtime := 77, announced := true, regionsOff := true, recorded := true, hubOff := true }, by decide +kernel⟩,
    ⟨nominal, by decide +kernel⟩⟩

theorem witness_RegionFaults :
    (∃ (region : Fin 48) (phase : Fin 8) (cause : PhaseCause) (s : State),
      s.part.variant.hasRegion region.val = true ∧
      s.get (Reg.HELM_RGN_STATUS.PHASES_OK region.val) / 2 ^ phase.val % 2 = 1 ∧
      s.phasesHealthy region.val = s.part.variant.phasesFitted region.val) ∧
    (∃ (region : Fin 48) (phase : Fin 8) (cause : PhaseCause) (s : State),
      s.part.variant.hasRegion region.val = true ∧
      s.get (Reg.HELM_RGN_STATUS.PHASES_OK region.val) / 2 ^ phase.val % 2 = 1 ∧
      s.phasesHealthy region.val = s.part.variant.phasesFitted region.val) ∧
    (∃ (region : Fin 48) (phase : Fin 8) (cause : PhaseCause) (s : State),
      region.val < 32 ∧
      s.part.variant.hasRegion region.val = true ∧
      s.regionState region.val ≠ 5 ∧
      s.get (Reg.HELM_RGN_STATUS.PHASES_OK region.val) / 2 ^ phase.val % 2 = 1 ∧
      s.phasesHealthy region.val + 1 = s.part.variant.phasesFitted region.val) ∧
    (∃ (region : Fin 48) (s : State),
      s.regionState region.val = 3 ∧
      (s.region region.val).lastOvercurrent = none) ∧
    (∃ (region : Fin 48) (s : State) (last : Nat),
      s.regionState region.val = 3 ∧
      (s.region region.val).lastOvercurrent = some last ∧
      s.dtime < last + 1000000000) ∧
    (∃ (region : Fin 48) (s : State),
      s.regionState region.val = 4) ∧
    (∃ (region : Fin 48) (s : State),
      (s.region region.val).restoring = true) ∧
    (∃ (region : Fin 48) (s : State),
      region.val < 32 ∧
      s.part.variant.hasRegion region.val = true ∧
      s.regionState region.val = 4) ∧
    (∃ (region : Fin 48) (s : State),
      region.val < 32 ∧
      s.regulating region.val = true ∧
      (s.region region.val).skipping = false) ∧
    (∃ (region : Fin 48) (s : State),
      s.regionState region.val = 5) :=
  ⟨⟨5, 2, .imbalance, nominal, by decide +kernel⟩,
    ⟨36, 1, .switchFault, nominal, by decide +kernel⟩,
    ⟨5, 2, .imbalance, (nominal.set (Reg.HELM_RGN_STATUS.PHASES_OK 5) 31), by decide +kernel⟩,
    ⟨3, regionIn 3 3, by decide +kernel⟩,
    ⟨3, { regionIn 3 3 with pwr := { PowerUnit.reset with regions := [(3, { Region.idle with lastOvercurrent := some 0 })] } }, 0, by decide +kernel⟩,
    ⟨3, regionIn 3 4, by decide +kernel⟩,
    ⟨3, { nominal with pwr := { PowerUnit.reset with regions := [(3, { Region.idle with restoring := true, restored := 15 })] } }, by decide +kernel⟩,
    ⟨3, regionIn 3 4, by decide +kernel⟩,
    ⟨0, regionIn 0 3, by decide +kernel⟩,
    ⟨9, regionIn 9 5, by decide +kernel⟩⟩

theorem witness_RegionEnabling :
    (∃ (region : Fin 48) (s : State),
      s.part.variant.hasRegion region.val = true ∧
      s.dev ≠ .off ∧
      s.regionState region.val = 0 ∧
      s.get Reg.CAP_BOOT.DIE_UNUSED = 0 ∧
      s.enableDue region.val = true) ∧
    (∃ (region : Fin 48) (s : State),
      s.part.variant.hasRegion region.val = true ∧
      s.dev ≠ .off ∧
      s.regionState region.val = 0 ∧
      s.get Reg.CAP_BOOT.DIE_UNUSED = 0 ∧
      s.enableDue region.val = true) ∧
    (∃ (region : Fin 48) (s : State),
      s.regionState region.val = 1 ∧
      s.lowerEnabling region.val = false) ∧
    (∃ (region : Fin 48) (s : State),
      s.regionState region.val = 2 ∧
      region.val ≠ 38) ∧
    (∃ (region : Fin 48) (s : State),
      s.regionState region.val = 2 ∧
      region.val ≠ 38) ∧
    (∃ (region : Fin 48) (s : State),
      s.regionState region.val = 2 ∧
      region.val ≠ 38) ∧
    (∃ (region : Fin 48) (mv : W16) (lag : Fin 7) (s : State),
      s.regulating region.val = true ∧
      (s.region region.val).captured = false) ∧
    (∃ (region : Fin 48) (s : State),
      s.served = true ∧
      s.part.variant.hasRegion region.val = true) :=
  ⟨⟨9, { nominal with boot := { nominal.boot with fwStarted := true } }, by decide +kernel⟩,
    ⟨9, (let s := regionIn 8 2; { s with boot := { s.boot with fwStarted := true } }), by decide +kernel⟩,
    ⟨9, regionIn 9 1, by decide +kernel⟩,
    ⟨9, regionIn 9 2, by decide +kernel⟩,
    ⟨9, { regionIn 9 2 with pwr := { PowerUnit.reset with regions := [(9, { Region.idle with softStep := 63 })] } }, by decide +kernel⟩,
    ⟨9, (regionIn 9 2).set (Reg.HELM_RGN_STATUS.STATE 8) 4, by decide +kernel⟩,
    ⟨0, 700, 3, regionIn 0 3, by decide +kernel⟩,
    ⟨0, { nominal with pcie := { nominal.pcie with wasReady := true } }, by decide +kernel⟩⟩

theorem witness_CapAndFastLoop :
    (∃ (value : W64) (s : State),
      s.served = true) ∧
    (∃ (vin iin vbank : W16) (s : State) (c : Nat),
      s.dev ≠ .off ∧
      s.helm.loopsRunning = true ∧
      s.floorHold = false ∧
      iin.toNat ≤ 3800 ∧
      c ∈ s.clusters) ∧
    (∃ (vin iin vbank : W16) (s : State) (c : Nat),
      s.dev ≠ .off ∧
      s.helm.loopsRunning = true ∧
      s.floorHold = false ∧
      iin.toNat ≤ 3800 ∧
      c ∈ s.clusters) ∧
    (∃ (vin iin vbank : W16) (s : State) (c : Nat),
      s.dev ≠ .off ∧
      s.helm.loopsRunning = true ∧
      s.floorHold = false ∧
      iin.toNat ≤ 3800 ∧
      c ∈ s.clusters) ∧
    (∃ (vin iin vbank : W16) (s : State),
      s.dev ≠ .off ∧
      s.helm.loopsRunning = true ∧
      s.floorHold = true) ∧
    (∃ (core : Fin 288) (c : CoreSample) (s : State),
      s.helm.loopsRunning = true ∧
      s.part.variant.hasRegion (coreCluster core.val) = true ∧
      0 < c.fTotal + 2 * c.gTotal ∧
      s.flag Reg.HELM_CTRL_CFG.FILLER_EN = true ∧
      s.regulating (coreCluster core.val) = true ∧
      s.regionState (coreCluster core.val) = 3 ∧
      s.dev = .ready) :=
  ⟨⟨0x103E8, pacing, by decide +kernel⟩,
    ⟨7200, 2000, 4800, pacing, 0, by decide +kernel⟩,
    ⟨7200, 100, 4800, pacing, 31, by decide +kernel⟩,
    ⟨5000, 1980, 4800, pacing, 7, by decide +kernel⟩,
    ⟨7200, 100, 4800, pacing.set Reg.HELM_IN_STATUS.UNDER_56 1, by decide +kernel⟩,
    ⟨0, ⟨100, 50, 0, 50, 25, 0, 0⟩, pacing.set Reg.HELM_CTRL_CFG.FILLER_EN 1, by decide +kernel⟩⟩

theorem witness_SlowLoopAndReckoning :
    (∃ (x : SlowSample) (s : State),
      s.helm.loopsRunning = true ∧
      s.role.inStep = false) ∧
    (∃ (x : SlowSample) (s : State),
      s.helm.loopsRunning = true ∧
      s.role.inStep = false) ∧
    (∃ (cluster : Fin 32) (s : State),
      s.regulating cluster.val = true) ∧
    (∃ (cluster : Fin 32) (s : State),
      s.regulating cluster.val = true) ∧
    (∃ (x : ReckonSample) (s : State),
      s.helm.loopsRunning = true) ∧
    (∃ (core : Fin 288) (c : CoreSample) (x : SlowSample) (r : ReckonSample) (s : State),
      s.helm.loopsRunning = false) :=
  ⟨⟨⟨[⟨100000, 20000, 50000, 0⟩], 3, 700⟩, pacing, by decide +kernel⟩,
    ⟨⟨[], 3, 700⟩, (pacing.set Reg.HELM_CTRL_CFG.FIXED_FREQ 1).set Reg.HELM_CTRL_CFG.FIXED_INDEX 9, by decide +kernel⟩,
    ⟨0, { pacing with helm := { pacing.helm with target := [(0, 4)] } }, by decide +kernel⟩,
    ⟨0, { pacing with helm := { pacing.helm with target := [(0, 22)] } }, by decide +kernel⟩,
    ⟨⟨1500, [⟨.mx8, 0, 1000⟩]⟩, pacing, by decide +kernel⟩,
    ⟨0, ⟨100, 50, 0, 50, 25, 0, 0⟩, ⟨[], 3, 700⟩, ⟨1500, []⟩, booted, by decide +kernel⟩⟩

theorem witness_SensorsAndTrip :
    (∃ (sensor : Fin 144) (temp : Int) (s : State),
      s.part.variant.hasSensor sensor.val = true ∧
      s.dev ≠ .off) ∧
    (∃ (sensor : Fin 144) (temp : Int) (s : State),
      s.part.variant.hasSensor sensor.val = true ∧
      s.dev ≠ .off) ∧
    (∃ (sensor : Fin 144) (temp : Int) (s : State),
      s.part.variant.hasSensor sensor.val = true ∧
      s.dev ≠ .off) ∧
    (∃ (sensor : Fin 144) (s : State),
      s.part.variant.hasSensor sensor.val = true ∧
      s.dev ≠ .off) ∧
    (∃ (sensor : Fin 144) (mate : Nat) (s : State),
      s.part.variant.hasSensor sensor.val = true ∧
      s.dev ≠ .off ∧
      sensorMate sensor.val = some mate ∧
      s.flag (Reg.HELM_SENSOR.SUSPECT sensor.val) = false ∧
      s.pairDiffers sensor.val = true) ∧
    (∃ (sensor : Fin 144) (mate : Nat) (s : State),
      s.part.variant.hasSensor sensor.val = true ∧
      s.dev ≠ .off ∧
      sensorMate sensor.val = some mate ∧
      s.flag (Reg.HELM_SENSOR.SUSPECT sensor.val) = false ∧
      s.pairDiffers sensor.val = true) ∧
    (∃ (sensor : Fin 144) (mate : Nat) (s : State),
      s.served = true ∧
      s.part.variant.hasSensor sensor.val = true ∧
      sensorMate sensor.val = some mate) ∧
    (∃ (sensor : Fin 144) (temp : Int) (s : State) (a r : Nat),
      s.part.variant.hasSensor sensor.val = true ∧
      s.dev ≠ .off ∧
      s.dev ≠ .safe ∧
      880 ≤ temp ∧
      temp ≤ 1200 ∧
      s.snap = none ∧
      s.frw = none) ∧
    (∃ (sensor : Fin 144) (temp : Int) (s : State) (a r : Nat),
      s.part.variant.hasSensor sensor.val = true ∧
      s.dev ≠ .off ∧
      s.dev ≠ .safe ∧
      880 ≤ temp ∧
      temp ≤ 1200 ∧
      s.snap = none ∧
      s.frw = none) ∧
    (∃ (sensor : Fin 144) (temp : Int) (s : State),
      ((temp < 880 ∨ 1200 < temp ∨ s.dev = .off))) ∧
    (∃ (sensor : Fin 144) (temp : Int) (s : State),
      ((temp < 880 ∨ 1200 < temp ∨ s.dev = .off))) :=
  ⟨⟨3, 640, nominal, by decide +kernel⟩,
    ⟨143, 1201, nominal, by decide +kernel⟩,
    ⟨0, (-161), nominal, by decide +kernel⟩,
    ⟨3, { nominal with helm := { nominal.helm with lastTemp := [(3, 640)] } }, by decide +kernel⟩,
    ⟨3, 2, nominal.set (Reg.HELM_SENSOR.TEMP 3) 480, by decide +kernel⟩,
    ⟨130, 131, nominal.set (Reg.HELM_SENSOR.TEMP 131) 480, by decide +kernel⟩,
    ⟨3, 2, (nominal.set (Reg.HELM_SENSOR.SUSPECT 2) 1).set (Reg.HELM_SENSOR.SUSPECT 3) 1, by decide +kernel⟩,
    ⟨3, 880, inStepAt 2, 0, 0, by decide +kernel⟩,
    ⟨128, 1200, { nominal with mem := [(9, 9)] }, 9, 47, by decide +kernel⟩,
    ⟨3, 879, nominal, by decide +kernel⟩,
    ⟨3, 1201, nominal, by decide +kernel⟩⟩

theorem witness_RegistersThatAct :
    (∃ (unit : Fin 2048) (s : State),
      s.served = true) ∧
    (∃ (unit : Fin 2048) (s : State),
      s.served = true) ∧
    (∃ (flags : BitVec 5) (s : State) (i : Nat),
      s.served = true ∧
      i ∈ s.numUnits) ∧
    (∃ (probe : Probe) (value : W64) (s : State),
      s.served = true) ∧
    (∃ (probe : Probe) (value : W64) (s : State),
      s.served = true) ∧
    (∃ (tensor : W16) (s : State),
      s.served = true) ∧
    (∃ (index : BitVec 19) (s : State),
      s.served = true) ∧
    (∃ (k : BitVec 12) (amount : W32) (s : State) (j : Nat),
      s.served = true) ∧
    (∃ (k : BitVec 12) (amount : W32) (s : State) (j : Nat),
      s.served = true) ∧
    (∃ (s : State),
      s.served = true) :=
  ⟨⟨8, flagged, by decide +kernel⟩,
    ⟨16, flagged, by decide +kernel⟩,
    ⟨0b01010, flagged, 8, by decide +kernel⟩,
    ⟨.seed, 0x2B17, flagged, by decide +kernel⟩,
    ⟨.index, 0x00310A3C00000105, flagged, by decide +kernel⟩,
    ⟨7, { inStepAt 1 with other := some Role.empty }, by decide +kernel⟩,
    ⟨1, { atState .armed with pcie := nominal.pcie }, by decide +kernel⟩,
    ⟨5, 3, { nominal with knots := [(5, 4)] }, 6, by decide +kernel⟩,
    ⟨4095, 1, { nominal with knots := [(4095, 0xFFFFFFFFFFFFFFFF)] }, 0, by decide +kernel⟩,
    ⟨(nominal.set Reg.KNT_INTEGRITY.VALID 1).set Reg.KNT_INTEGRITY_HOP.FAILURES 3, by decide +kernel⟩⟩

theorem witness_StepStart :
    (∃ (s : State) (p : Passage),
      s.role.passage = some p ∧
      s.mayStart = true ∧
      s.chart.relocateMarks = false) ∧
    (∃ (s : State) (p : Passage),
      s.role.passage = some p ∧
      s.mayStart = true ∧
      s.chart.relocateMarks = false) ∧
    (∃ (s : State),
      s.mayStart = false) ∧
    (∃ (s : State),
      s.mayStart = false) ∧
    (∃ (s : State),
      s.role.inStep = true) ∧
    (∃ (entry : BitVec 19) (c : Fin 32) (s : State),
      (s.dev = .running ∨ s.dev = .draining) ∧
      (s.entry entry.toNat).replicas / 2 ^ c.val % 2 = 1 ∧
      s.chart.landedReplicas.contains (entry.toNat, c.val) = false ∧
      (s.entry entry.toNat).tier = 1) :=
  ⟨⟨atState .running, p0, by decide +kernel⟩,
    ⟨atState .draining, p0, by decide +kernel⟩,
    ⟨inStepAt 3, by decide +kernel⟩,
    ⟨atState .armed, by decide +kernel⟩,
    ⟨(inStepAt 3).set Reg.CHT_STATUS.ASSIGNING 1, by decide +kernel⟩,
    ⟨0, 0, replicated, by decide +kernel⟩⟩

theorem witness_ControlMessages :
    (∃ (unit : UnitAddr) (m : W64) (s : State) (f : Flight) (x : Nat × Leg × LegRun),
      s.working = true ∧
      msgType m = 0 ∧
      msgUnit m = false ∧
      nextFlight s.flights s.sel unit m = some f ∧
      s.namedLeg unit m = some x) ∧
    (∃ (unit : UnitAddr) (m : W64) (s : State),
      nextFlight s.flights s.sel unit m = none) ∧
    (∃ (unit : UnitAddr) (m : W64) (s : State) (f : Flight) (q : UnitQueue),
      s.working = true ∧
      msgType m = 1 ∧
      msgUnit m = true ∧
      nextFlight s.flights s.sel unit m = some f ∧
      queueOf (msgSlot m) = some q ∧
      q ≠ .staging) ∧
    (∃ (unit : UnitAddr) (m : W64) (s : State) (f : Flight) (q : UnitQueue),
      s.working = true ∧
      msgType m = 1 ∧
      msgUnit m = true ∧
      nextFlight s.flights s.sel unit m = some f ∧
      queueOf (msgSlot m) = some q ∧
      q ≠ .staging) ∧
    (∃ (unit : UnitAddr) (m : W64) (s : State),
      s.working = true ∧
      msgType m = 2 ∧
      msgUnit m = true ∧
      msgSlot m = 3 ∧
      s.nextGrant (s.dieOf unit.core.val) = some unit.core.val) ∧
    (∃ (unit : UnitAddr) (m : W64) (s : State),
      s.working = true ∧
      msgType m = 2 ∧
      msgUnit m = true ∧
      msgSlot m = 3 ∧
      s.nextGrant (s.dieOf unit.core.val) = some unit.core.val) ∧
    (∃ (unit : UnitAddr) (m : W64) (s : State) (f : Flight) (x : Nat × Leg × LegRun),
      s.working = true ∧
      msgType m = 3 ∧
      msgUnit m = false ∧
      nextFlight s.flights s.sel unit m = some f ∧
      msgCount m = 1 ∧
      (s.unitLegs unit.core.val unit.engine).find? (fun x => decide (x.2.2.position % 32768 = msgPosition m)) = some x ∧
      s.streamsOf x.2.1 = [] ∧
      ((∀ h ∈ s.role.heldTokens, h.tensor = x.2.1.y → h.tile = msgSeq m → h.drift = false ∧ h.sight = false)) ∧
      (s.role.heldTokens.any (fun h => h.tensor == x.2.1.y && h.tile == msgSeq m)) = true ∧
      s.uncommitted x.2.1.y (msgSeq m) = false) ∧
    (∃ (unit : UnitAddr) (m : W64) (s : State),
      (s.working = false ∨ 4 ≤ msgType m)) ∧
    (∃ (unit : UnitAddr) (m : W64) (s : State),
      (s.working = false ∨ 4 ≤ msgType m)) :=
  ⟨⟨⟨0, .dma⟩, legMessage 0 0 0 3 0, flying ⟨0, .dma⟩ (legMessage 0 0 0 3 0) (workOn [tensorA, { tensor0 with id := 3, shape := 0 }] [{ leg0 with a := 10 }] [stream0] (fun r => { r with legs := [(0, { legRun0 with streams := [StreamRun.start 2] })] })), flight0 ⟨0, .dma⟩ (legMessage 0 0 0 3 0), (0, { leg0 with a := 10 }, { legRun0 with streams := [StreamRun.start 2] }), by decide +kernel⟩,
    ⟨⟨0, .f⟩, legMessage 0 0 0 1 0, inStepAt 3, by decide +kernel⟩,
    ⟨⟨0, .f⟩, unitMessage 1 .f 2 0, flying ⟨0, .f⟩ (unitMessage 1 .f 2 0) ((inStepAt 3).setCredit 0 .f 1), flight0 ⟨0, .f⟩ (unitMessage 1 .f 2 0), .f, by decide +kernel⟩,
    ⟨⟨0, .g⟩, unitMessage 1 .dw 200 0, flying ⟨0, .g⟩ (unitMessage 1 .dw 200 0) ((inStepAt 3).setCredit 0 .dw 0), flight0 ⟨0, .g⟩ (unitMessage 1 .dw 200 0), .dw, by decide +kernel⟩,
    ⟨⟨0, .g⟩, unitMessage 2 .staging 3 0, draining, by decide +kernel⟩,
    ⟨⟨0, .g⟩, unitMessage 2 .staging 3 0, draining.set (Reg.NUM_STG_LEVEL.CURRENT 0) 64, by decide +kernel⟩,
    ⟨⟨0, .f⟩, legMessage 3 0 0 1 0, flying ⟨0, .f⟩ (legMessage 3 0 0 1 0) (multiplying (fun r => { r with heldTokens := [⟨12, 0, false, false⟩] })), flight0 ⟨0, .f⟩ (legMessage 3 0 0 1 0), (0, product, legRun0), by decide +kernel⟩,
    ⟨⟨0, .f⟩, legMessage 0 0 0 1 0, atState .held, by decide +kernel⟩,
    ⟨⟨0, .f⟩, legMessage 7 0 0 1 0, inStepAt 3, by decide +kernel⟩⟩

theorem witness_MatrixEngines :
    (∃ (core : Fin 256) (s : State) (i : Nat) (l : Leg) (r : LegRun),
      s.working = true ∧
      s.issuing core.val false = false ∧
      s.skipsIssue core.val = false ∧
      s.nextLeg core.val .f (fun l => l.kind == 0) = some (i, l, r) ∧
      s.canStart core.val i l r = true) ∧
    (∃ (core : Fin 256) (s : State),
      s.working = true ∧
      s.issuing core.val false = false ∧
      s.skipsIssue core.val = false ∧
      s.nextLeg core.val .f (fun l => l.kind == 0) = none) ∧
    (∃ (core : Fin 256) (s : State) (i : Nat) (l : Leg) (r : LegRun),
      s.working = true ∧
      s.issuing core.val true = false ∧
      s.skipsIssue core.val = false ∧
      s.wanted core.val = false ∧
      s.gStream core.val false = some (i, l, r) ∧
      s.canStart core.val i l r = true) ∧
    (∃ (core : Fin 256) (s : State) (a : AccTile) (l : Leg) (r : LegRun) (codes : List Nat),
      s.working = true ∧
      s.role.acc = [a] ∧
      a.core = core.val ∧
      a.issuing = true ∧
      a.region = 0 ∧
      a.value = none ∧
      a.chunks = [(0, codes)] ∧
      s.legAt a.leg = some (l, r) ∧
      l.chunk = 0 ∧
      l.chunkCount ≤ 1 ∧
      l.useIndex = 0) ∧
    (∃ (core : Fin 256) (s : State) (a : AccTile) (l : Leg) (r : LegRun) (codes : List Nat),
      s.working = true ∧
      s.role.acc = [a] ∧
      a.core = core.val ∧
      a.issuing = true ∧
      a.region = 0 ∧
      a.chunks = [(l.chunk, codes)] ∧
      s.legAt a.leg = some (l, r) ∧
      l.chunk ≠ 0) ∧
    (∃ (leg : BitVec 20) (tile : W32) (s : State) (c : Carriage) (p : Passage) (l : Leg) (r : LegRun) (o : Nat) (lo : Leg),
      s.working = true ∧
      s.role.carriage.find? (fun c => c.leg == leg.toNat && c.tile == tile.toNat) = some c ∧
      s.role.passage = some p ∧
      s.legAt leg.toNat = some (l, r) ∧
      p.chunkOwner l = some (o, lo) ∧
      s.role.carriage.find? (fun x => s.carriageWay p x == s.carriageWay p c) = some c ∧
      s.role.acc.find? (fun a => a.leg == o && a.tile == tile.toNat) = none) ∧
    (∃ (leg : BitVec 20) (s : State) (l : Leg) (r : LegRun) (p : Passage) (a : AccTile) (parts : List Carriage) (core : Nat),
      s.working = true ∧
      s.legAt leg.toNat = some (l, r) ∧
      l.kind = 9 ∧
      r.core = some core ∧
      s.skipsIssue core = false ∧
      s.role.passage = some p ∧
      s.chosen leg.toNat (fun j m _ => m.kind == 9 && (s.foldParts j).isSome) = true ∧
      s.foldParts leg.toNat = some (a, parts) ∧
      s.role.acc = [a]) :=
  ⟨⟨0, multiplying id, 0, product, legRun0, by decide +kernel⟩,
    ⟨0, inStepAt 3, by decide +kernel⟩,
    ⟨0, workOn [tensorA, tensorB, { tensorY with shape := 1 }] [{ product with kind := 1 }] [] id, 0, { product with kind := 1 }, legRun0, by decide +kernel⟩,
    ⟨0, multiplying (fun r => { r with legs := [(0, { legRun0 with started := 1 })], acc := [{ acc0 with issuing := true, value := none }] }), { acc0 with issuing := true, value := none }, product, { legRun0 with started := 1 }, [0], by decide +kernel⟩,
    ⟨0, workOn [tensorA, tensorB, tensorY] [{ product with chunkCount := 2 }, { product with chunk := 1, chunkCount := 2 }] [] (fun r => { r with acc := [{ acc0 with leg := 1, issuing := true, value := none, chunks := [(1, [5])] }] }), { acc0 with leg := 1, issuing := true, value := none, chunks := [(1, [5])] }, { product with chunk := 1, chunkCount := 2 }, legRun0, [5], by decide +kernel⟩,
    ⟨1, 0, workOn [tensorA, tensorB, tensorY] [{ product with chunkCount := 2 }, { product with chunk := 1, chunkCount := 2 }] [] (fun r => { r with carriage := [⟨1, 12, 0, 1, [5]⟩] }), ⟨1, 12, 0, 1, [5]⟩, { p0 with tensors := [tensorA, tensorB, tensorY], legs := [{ product with chunkCount := 2 }, { product with chunk := 1, chunkCount := 2 }] }, { product with chunk := 1, chunkCount := 2 }, legRun0, 0, { product with chunkCount := 2 }, by decide +kernel⟩,
    ⟨2, workOn [tensorA, tensorB, tensorY] [{ product with kind := 2 }, { product with kind := 2, useIndex := 1 }, { product with kind := 9 }] [] (fun r => { r with acc := [acc0], partials := [⟨1, 12, 0, 1, [0]⟩] }), { product with kind := 9 }, legRun0, { p0 with tensors := [tensorA, tensorB, tensorY], legs := [{ product with kind := 2 }, { product with kind := 2, useIndex := 1 }, { product with kind := 9 }] }, acc0, [⟨1, 12, 0, 1, [0]⟩], 0, by decide +kernel⟩⟩

theorem witness_ConvertAndCommit :
    (∃ (leg : BitVec 20) (tile : W32) (s : State) (l : Leg) (r : LegRun) (p : Passage) (y : Tensor) (a : AccTile),
      s.working = true ∧
      s.legAt leg.toNat = some (l, r) ∧
      l.kind < 3 ∧
      s.role.passage = some p ∧
      s.tensor? l.y = some y ∧
      s.role.acc = [a] ∧
      s.finalEntry p l.y tile.toNat = some a ∧
      (p.owner l.y tile.toNat).map Prod.fst = some leg.toNat ∧
      p.reducedTile l.y tile.toNat = false ∧
      s.uncommitted y.id tile.toNat = false ∧
      s.role.ready.contains (y.id, tile.toNat) = false ∧
      s.role.heldTokens = [] ∧
      s.role.sightJudged = [] ∧
      s.outFree leg.toNat l y.id = true ∧
      0 < s.credit a.core .soundings ∧
      s.sightActive = false) ∧
    (∃ (leg : BitVec 20) (tile : W32) (s : State) (l : Leg) (r : LegRun) (o : OutTile) (w : TileWrite) (i : Nat) (e : ChartEntry) (a : Nat),
      s.working = true ∧
      s.legAt leg.toNat = some (l, r) ∧
      l.kind ≠ 5 ∧
      s.role.outTiles = [o] ∧
      o.leg = leg.toNat ∧
      o.tile = tile.toNat ∧
      o.writes = [w] ∧
      w.tensor = o.tensor ∧
      w.tile = o.tile ∧
      s.home o.tensor o.tile = some (i, e, a) ∧
      e.tier = 1 ∧
      e.state ≠ 4 ∧
      s.needsCopy o.tensor o.tile = false ∧
      s.role.heldTokens = [] ∧
      s.snap = none ∧
      (s.role.passage.map (fun p => p.reducedTile o.tensor o.tile)) = some false ∧
      l.signalEn = false ∧
      ((s.get Reg.CHT_MARK_REGION.BASE + e.markOf o.tile / 2 < a + w.offset ∨ a + w.offset + w.bytes.length ≤ s.get Reg.CHT_MARK_REGION.BASE + e.markOf o.tile / 2))) ∧
    (∃ (leg : BitVec 20) (s : State) (l : Leg) (r : LegRun),
      s.working = true ∧
      s.legAt leg.toNat = some (l, r) ∧
      s.legActive leg.toNat = true ∧
      s.legDone leg.toNat = true ∧
      s.legNode l = none ∧
      s.role.held = [] ∧
      s.chart.keptHomes = [] ∧
      (s.streamsOf l).all (fun st => !st.chunkIn) = true ∧
      (s.knot l.signalKnot).toNat < 2 ^ 64 - 1) ∧
    (∃ (leg : BitVec 20) (s : State) (l : Leg) (r : LegRun),
      s.working = true ∧
      s.legAt leg.toNat = some (l, r) ∧
      s.legActive leg.toNat = true ∧
      s.legDone leg.toNat = true ∧
      s.legNode l = none ∧
      s.role.held = [] ∧
      s.chart.keptHomes = [] ∧
      (s.streamsOf l).all (fun st => !st.chunkIn) = true ∧
      (s.knot l.signalKnot).toNat < 2 ^ 64 - 1) :=
  ⟨⟨0, 0, multiplying (fun r => { r with sightSteps := 1000000, legs := [(0, { legRun0 with started := 1 })], acc := [acc0] }), product, { legRun0 with started := 1 }, { p0 with tensors := [tensorA, tensorB, tensorY], legs := [product] }, tensorY, acc0, by decide +kernel⟩,
    ⟨0, 0, multiplying (fun r => { r with legs := [(0, { legRun0 with started := 1 })], outTiles := [out0] }), product, { legRun0 with started := 1 }, out0, ⟨12, 0, 0, [1, 2, 3, 4]⟩, 2, { tensorY.newEntry 0 1 1 0x12000 2 with state := 2 }, 0x12000, by decide +kernel⟩,
    ⟨0, multiplying (fun r => { r with legs := [(0, { legRun0 with started := 1 })], ready := [(12, 0)], held := [] }), product, { legRun0 with started := 1 }, by decide +kernel⟩,
    ⟨0, workOn [tensorA, tensorB, tensorY] [{ product with signalEn := true, signalKnot := 5 }] [] (fun r => { r with legs := [(0, { legRun0 with started := 1 })], ready := [(12, 0)] }), { product with signalEn := true, signalKnot := 5 }, { legRun0 with started := 1 }, by decide +kernel⟩⟩

theorem witness_PilotsCopiesAndVector :
    (∃ (leg : BitVec 20) (slot : Fin 16) (s : State) (l : Leg) (r : LegRun) (st : Stream) (q : StreamRun) (i : Nat) (e : ChartEntry),
      s.working = true ∧
      s.halted (32 + s.dieOf (r.core.getD 0)) = false ∧
      s.legActive leg.toNat = true ∧
      s.waitMet l = true ∧
      s.piloted leg.toNat = true ∧
      s.follows leg.toNat l st = true ∧
      streamAt s leg.toNat slot.val l r st q ∧
      st.outbound = false ∧
      st.chunkIn = false ∧
      q.asked < st.tileCount ∧
      0 < q.credits ∧
      s.entryOf st.tensor (st.tileAt q.asked) = some (i, e) ∧
      e.state = 2 ∧
      e.tier = 1 ∧
      s.tileFinal leg.toNat st.tensor (st.tileAt q.asked) = true) ∧
    (∃ (leg : BitVec 20) (slot : Fin 16) (tile : W32) (remote : List Byte) (s : State) (l : Leg) (r : LegRun) (st : Stream) (q : StreamRun) (i : Nat) (e : ChartEntry) (a : Nat),
      s.working = true ∧
      streamAt s leg.toNat slot.val l r st q ∧
      st.tileAt q.posted = tile.toNat ∧
      q.asked = q.posted + 1 ∧
      q.landed = [] ∧
      ((List.range q.posted).map st.tileAt).contains tile.toNat = false ∧
      q.posted < st.tileCount ∧
      ((∀ n, n < st.tileCount → st.tileAt n = tile.toNat → n = q.posted)) ∧
      s.home st.tensor tile.toNat = some (i, e, a) ∧
      e.tier = 1 ∧
      q.sources = [] ∧
      s.halted (40 + addrStack a) = false) ∧
    (∃ (leg : BitVec 20) (dma : Fin 2) (s : State) (l : Leg) (r : LegRun) (a y : Tensor) (n : Nat),
      s.working = true ∧
      s.legAt leg.toNat = some (l, r) ∧
      l.kind = 6 ∧
      s.tensor? l.a = some a ∧
      s.tensor? l.y = some y ∧
      y.shape ≠ 3 ∧
      s.chosen leg.toNat s.copyReady = true ∧
      s.moveRung leg.toNat l (l.turns a y) a y (l.nextTile r) = some n ∧
      s.streamsOf l = []) ∧
    (∃ (leg : BitVec 20) (dma : Fin 2) (s : State) (l : Leg) (r : LegRun) (a y : Tensor) (n : Nat),
      s.working = true ∧
      s.legAt leg.toNat = some (l, r) ∧
      l.kind = 7 ∧
      s.tensor? l.a = some a ∧
      s.tensor? l.y = some y ∧
      y.shape ≠ 3 ∧
      s.chosen leg.toNat s.copyReady = true ∧
      s.moveRung leg.toNat l (l.turns a y) a y (l.nextTile r) = some n ∧
      s.streamsOf l = []) ∧
    (∃ (leg : BitVec 20) (dma : Fin 2) (s : State) (l : Leg) (r : LegRun) (a y : Tensor),
      s.working = true ∧
      s.legAt leg.toNat = some (l, r) ∧
      l.kind = 8 ∧
      s.tensor? l.a = some a ∧
      s.tensor? l.y = some y ∧
      y.shape ≠ 3 ∧
      s.chosen leg.toNat s.copyReady = true ∧
      s.streamsOf l = []) ∧
    (∃ (core : Fin 256) (s : State) (i : Nat) (l : Leg) (r : LegRun) (p : Passage) (g : Program),
      s.working = true ∧
      s.skipsIssue core.val = false ∧
      s.readyLeg core.val .v (fun i l _ => l.kind == 3 && s.outputsFree core.val i l (s.outputsOf l).length) = some (i, l, r) ∧
      s.role.passage = some p ∧
      p.programs[l.op]? = some g) ∧
    (∃ (core : Fin 256) (s : State) (i : Nat) (l : Leg) (r : LegRun) (y : Tensor),
      s.working = true ∧
      s.skipsIssue core.val = false ∧
      s.readyLeg core.val .v (fun i l _ => l.kind == 4 && s.outputsFree core.val i l 1) = some (i, l, r) ∧
      s.role.passage.isSome = true ∧
      s.outputsOf l = [y] ∧
      l.rowChunk = 0) ∧
    (∃ (leg : BitVec 20) (s : State) (l : Leg) (r : LegRun),
      s.working = true ∧
      s.legAt leg.toNat = some (l, r)) ∧
    (∃ (core : Fin 256) (leg : BitVec 20) (tile : W32) (slot : Fin 16) (remote : List Byte) (s : State),
      s.working = false) :=
  ⟨⟨0, 0, workOn [tensorA, tensorB, tensorY] [{ product with streamCount := 1 }] [stream0] (fun r => { r with legs := [(0, { legRun0 with streams := [StreamRun.start 2] })] }), { product with streamCount := 1 }, { legRun0 with streams := [StreamRun.start 2] }, stream0, StreamRun.start 2, 0, { tensorA.newEntry 0 1 1 0x2000 0 with state := 2 }, by decide +kernel⟩,
    ⟨0, 0, 0, [], workOn [tensorA, tensorB, tensorY] [{ product with streamCount := 1 }] [stream0] (fun r => { r with legs := [(0, { legRun0 with streams := [{ StreamRun.start 2 with asked := 1 }] })] }), { product with streamCount := 1 }, { legRun0 with streams := [{ StreamRun.start 2 with asked := 1 }] }, stream0, { StreamRun.start 2 with asked := 1 }, 0, { tensorA.newEntry 0 1 1 0x2000 0 with state := 2 }, 0x2000, by decide +kernel⟩,
    ⟨0, 1, workOn [{ tensor0 with id := 10 }, { tensor0 with id := 12 }] [{ leg0 with y := 12, a := 10 }] [] id, { leg0 with y := 12, a := 10 }, legRun0, { tensor0 with id := 10 }, { tensor0 with id := 12 }, 0, by decide +kernel⟩,
    ⟨0, 0, workOn [{ tensor0 with id := 10 }, { tensor0 with id := 12 }] [{ leg0 with kind := 7, y := 12, a := 10 }] [] id, { leg0 with kind := 7, y := 12, a := 10 }, legRun0, { tensor0 with id := 10 }, { tensor0 with id := 12 }, 0, by decide +kernel⟩,
    ⟨0, 0, workOn [{ tensor0 with id := 10 }, { tensor0 with id := 12 }] [{ leg0 with kind := 8, y := 12, a := 10 }] [] id, { leg0 with kind := 8, y := 12, a := 10 }, legRun0, { tensor0 with id := 10 }, { tensor0 with id := 12 }, by decide +kernel⟩,
    ⟨0, (let s := workOn [{ tensor0 with id := 12 }] [{ leg0 with kind := 3, a := 0xFFFF, y := 12 }] [] id; { s with role := { s.role with passage := s.role.passage.map (fun p => { p with programs := [⟨0, []⟩] }) } }), 0, { leg0 with kind := 3, a := 0xFFFF, y := 12 }, legRun0, { p0 with tensors := [{ tensor0 with id := 12 }], legs := [{ leg0 with kind := 3, a := 0xFFFF, y := 12 }], programs := [⟨0, []⟩] }, ⟨0, []⟩, by decide +kernel⟩,
    ⟨0, workOn [{ tensor0 with id := 10 }, { tensor0 with id := 11 }, { tensor0 with id := 12 }] [{ leg0 with kind := 4, op := 11, a := 10, b := 11, y := 12, streamCount := 2 }] [{ stream0 with tensor := 10 }, { stream0 with tensor := 11 }] (fun r => { r with legs := [(0, { legRun0 with streams := [{ StreamRun.start 2 with asked := 1, posted := 1, tokens := 1, landed := [⟨0, 0, [0, 0, 0, 64], []⟩] }, { StreamRun.start 2 with asked := 1, posted := 1, tokens := 1, landed := [⟨0, 0, [0, 0, 0, 64], []⟩] }] })] }), 0, { leg0 with kind := 4, op := 11, a := 10, b := 11, y := 12, streamCount := 2 }, { legRun0 with streams := [{ StreamRun.start 2 with asked := 1, posted := 1, tokens := 1, landed := [⟨0, 0, [0, 0, 0, 64], []⟩] }, { StreamRun.start 2 with asked := 1, posted := 1, tokens := 1, landed := [⟨0, 0, [0, 0, 0, 64], []⟩] }] }, { tensor0 with id := 12 }, by decide +kernel⟩,
    ⟨0, workOn [{ tensor0 with id := 12 }] [{ leg0 with kind := 4, y := 12, op := 4, rowChunk := 1 }] [] (fun r => { r with rowPhases := [⟨12, 0, 0, [(0, [0, 0])], none⟩, ⟨13, 0, 0, [(0, [0, 0])], none⟩] }), { leg0 with kind := 4, y := 12, op := 4, rowChunk := 1 }, legRun0, by decide +kernel⟩,
    ⟨0, 0, 0, 0, [], atState .held, by decide +kernel⟩⟩

theorem witness_SoundingsAndRepeats :
    (∃ (tensor : W16) (tile : W32) (s : State) (x : Nat × Nat × Partial) (p : Passage) (y : Tensor) (i : Nat) (l : Leg),
      s.working = true ∧
      s.role.inFlight = [x] ∧
      x.1 = tensor.toNat ∧
      x.2.1 = tile.toNat ∧
      s.role.passage = some p ∧
      p.tensor? tensor.toNat = some y ∧
      p.owner tensor.toNat tile.toNat = some (i, l) ∧
      y.drift = 0 ∧
      s.role.snd = [] ∧
      p.writtenTiles y ≤ 1 ∧
      p.sndBase + s.role.step % max p.sndDepth 1 * p.sndStride + 64 * y.id < 0x8000000000000) ∧
    (∃ (tensor : W16) (tile : W32) (s : State) (x : Nat × Nat × Partial) (p : Passage) (y : Tensor) (i : Nat) (l : Leg),
      s.working = true ∧
      s.role.inFlight = [x] ∧
      x.1 = tensor.toNat ∧
      x.2.1 = tile.toNat ∧
      s.role.passage = some p ∧
      p.tensor? tensor.toNat = some y ∧
      p.owner tensor.toNat tile.toNat = some (i, l) ∧
      y.drift = 2 ∧
      s.drifts y x.2.2 = false ∧
      y.id = tensor.toNat ∧
      s.role.heldTokens = [⟨tensor.toNat, tile.toNat, true, false⟩] ∧
      p.sndBase + s.role.step % max p.sndDepth 1 * p.sndStride + 64 * y.id < 0x8000000000000) ∧
    (∃ (tensor : W16) (tile : W32) (s : State) (x : Nat × Nat × Partial) (p : Passage) (y : Tensor) (i : Nat) (l : Leg),
      s.working = true ∧
      s.role.inFlight = [x] ∧
      x.1 = tensor.toNat ∧
      x.2.1 = tile.toNat ∧
      s.role.passage = some p ∧
      p.tensor? tensor.toNat = some y ∧
      p.owner tensor.toNat tile.toNat = some (i, l) ∧
      y.drift = 2 ∧
      s.drifts y x.2.2 = true ∧
      y.id = tensor.toNat ∧
      s.fallbackHw = true ∧
      s.role.stormMark = false ∧
      s.role.triggers = [] ∧
      s.role.outTiles = [] ∧
      s.tileRung tensor.toNat tile.toNat < y.top ∧
      s.role.repeatedTiles + 1 ≤ s.budget ∧
      p.sndBase + s.role.step % max p.sndDepth 1 * p.sndStride + 64 * y.id < 0x8000000000000 ∧
      ((s.entryOf tensor.toNat tile.toNat).map fun z => let m := s.get Reg.CHT_MARK_REGION.BASE + z.2.markOf tile.toNat / 2; let a := p.sndBase + s.role.step % max p.sndDepth 1 * p.sndStride + 64 * y.id; decide (m < a) || decide (a + 64 ≤ m)).getD true = true) ∧
    (∃ (tensor : W16) (tile : W32) (s : State) (p : Passage) (y : Tensor) (a : AccTile),
      s.working = true ∧
      s.role.passage = some p ∧
      p.tensor? tensor.toNat = some y ∧
      s.role.acc = [a] ∧
      s.finalEntry p tensor.toNat tile.toNat = some a ∧
      s.sightActive = true ∧
      s.sampled tensor.toNat tile.toNat = true ∧
      ((s.role.ready.contains (tensor.toNat, tile.toNat) = true ∨ s.uncommitted tensor.toNat tile.toNat = true ∨ (s.role.legs.all (fun z => z.2.committed.contains tile.toNat) = true ∧ (s.owner tensor.toNat tile.toNat).any (fun z => (s.legAt z.1).isSome) = true))) ∧
      s.role.sightJudged = [] ∧
      s.role.triggers = [] ∧
      p.reducedTile tensor.toNat tile.toNat = false ∧
      (s.bump Reg.SND_SIGHT_COUNT.SAMPLED 1).sightFailure p y tile.toNat a = none) ∧
    (∃ (tensor : W16) (tile : W32) (s : State) (p : Passage) (y : Tensor) (a : AccTile) (e q : Nat),
      s.working = true ∧
      s.role.passage = some p ∧
      p.tensor? tensor.toNat = some y ∧
      y.id = tensor.toNat ∧
      s.role.acc = [a] ∧
      s.finalEntry p tensor.toNat tile.toNat = some a ∧
      s.sightActive = true ∧
      s.sampled tensor.toNat tile.toNat = true ∧
      s.role.legs.all (fun z => z.2.committed.contains tile.toNat) = true ∧
      (s.owner tensor.toNat tile.toNat).any (fun z => (s.legAt z.1).isSome) = true ∧
      s.role.sightJudged = [] ∧
      s.role.triggers = [] ∧
      (s.bump Reg.SND_SIGHT_COUNT.SAMPLED 1).sightFailure p y tile.toNat a = some e ∧
      s.fallbackHw = true ∧
      s.role.stormMark = false ∧
      s.role.repeatedTiles + 1 ≤ s.budget ∧
      s.physicalCore a.core = some q ∧
      s.evt.queue.length < 4000 ∧
      s.eventMasked Ev.sightMiss.code = false) ∧
    (∃ (tensor : W16) (tile : W32) (s : State) (x : Trigger) (p : Passage) (y : Tensor) (i : Nat) (l : Leg),
      s.working = true ∧
      s.role.triggers = [x] ∧
      x.tensor = tensor.toNat ∧
      x.tile = tile.toNat ∧
      s.role.passage = some p ∧
      p.tensor? tensor.toNat = some y ∧
      y.id = tensor.toNat ∧
      p.owner tensor.toNat tile.toNat = some (i, l) ∧
      s.role.stormMark = false ∧
      s.fallbackHw = true ∧
      p.landsTile tensor.toNat tile.toNat = false ∧
      y.outliers = false) ∧
    (∃ (tensor : W16) (tile : W32) (s : State),
      (s.working = false ∨ (s.role.inFlight = [] ∧ s.role.triggers = [] ∧ s.role.acc = []))) ∧
    (∃ (tensor : W16) (tile : W32) (s : State),
      (s.working = false ∨ (s.role.inFlight = [] ∧ s.role.triggers = [] ∧ s.role.acc = []))) :=
  ⟨⟨12, 0, multiplying (fun r => { r with inFlight := [(12, 0, Partial.zero)] }), (12, 0, Partial.zero), { p0 with tensors := [tensorA, tensorB, tensorY], legs := [product] }, tensorY, 0, product, by decide +kernel⟩,
    ⟨12, 0, workOn [tensorA, tensorB, { tensorW with shape := 0 }] [product] [] (fun r => { r with inFlight := [(12, 0, Partial.zero)], heldTokens := [⟨12, 0, true, false⟩] }), (12, 0, Partial.zero), { p0 with tensors := [tensorA, tensorB, { tensorW with shape := 0 }], legs := [product] }, { tensorW with shape := 0 }, 0, product, by decide +kernel⟩,
    ⟨12, 0, (workOn [tensorA, tensorB, { tensorW with shape := 0, format := 9, ceiling := 7 }] [product] [] (fun r => { r with budgetTiles := 1, inFlight := [(12, 0, { Partial.zero with nonfinite := 1 })], heldTokens := [⟨12, 0, true, false⟩] })).set Reg.SND_DRIFT_CFG.NONFINITE_TRIGGER 1 |>.set Reg.SND_BUDGET.FRACTION 256, (12, 0, { Partial.zero with nonfinite := 1 }), { p0 with tensors := [tensorA, tensorB, { tensorW with shape := 0, format := 9, ceiling := 7 }], legs := [product] }, { tensorW with shape := 0, format := 9, ceiling := 7 }, 0, product, by decide +kernel⟩,
    ⟨12, 0, multiplying (fun r => { r with legs := [(0, { legRun0 with started := 1, committed := [0] })], acc := [{ acc0 with value := some [] }] }) |>.set Reg.SND_SIGHT_CFG.RATE_LOG2 0 |>.set Reg.SND_SIGHT_CFG.FORCE 1, { p0 with tensors := [tensorA, tensorB, tensorY], legs := [product] }, tensorY, { acc0 with value := some [] }, by decide +kernel⟩,
    ⟨12, 0, ((multiplying (fun r => { r with budgetTiles := 1, legs := [(0, { legRun0 with started := 1, committed := [0] })], acc := [{ acc0 with value := some [0x3F80000000] }] })).set Reg.SND_SIGHT_CFG.RATE_LOG2 0).set Reg.SND_SIGHT_CFG.FORCE 1 |>.set Reg.SND_BUDGET.FRACTION 256, { p0 with tensors := [tensorA, tensorB, tensorY], legs := [product] }, tensorY, { acc0 with value := some [0x3F80000000] }, 0, 0, by decide +kernel⟩,
    ⟨12, 0, multiplying (fun r => { r with triggers := [⟨12, 0, 0, false⟩], legs := [(0, { legRun0 with started := 1 })] }), ⟨12, 0, 0, false⟩, { p0 with tensors := [tensorA, tensorB, tensorY], legs := [product] }, tensorY, 0, product, by decide +kernel⟩,
    ⟨12, 0, atState .held, by decide +kernel⟩,
    ⟨12, 0, multiplying id, by decide +kernel⟩⟩

theorem witness_Update :
    (∃ (leg : BitVec 20) (tile : W32) (s : State) (l : Leg) (r : LegRun),
      s.working = true ∧
      s.role.closed = false ∧
      s.legAt leg.toNat = some (l, r) ∧
      l.kind = 5 ∧
      s.skipsIssue (r.core.getD 0) = false ∧
      s.legActive leg.toNat = true ∧
      s.waitMet l = true ∧
      (s.unitLegs (r.core.getD 0) .u).findSome? (fun x => ((s.unmeasured x.1 x.2.1).head?).map (fun k => (x.1, k))) = some (leg.toNat, tile.toNat) ∧
      s.tokensFor l r Stream.isGradient tile.toNat ((s.unmeasured leg.toNat l).drop 1).isEmpty = true) ∧
    (∃ (leg : BitVec 20) (tile : W32) (s : State),
      (s.role.closed = true ∨ s.role.update.measured.any (fun m => m.1 == leg.toNat && m.2.1 == tile.toNat) = true)) ∧
    (∃ (leg : BitVec 20) (tile : W32) (s : State),
      (s.role.closed = true ∨ s.role.update.measured.any (fun m => m.1 == leg.toNat && m.2.1 == tile.toNat) = true)) ∧
    (∃ (leg : BitVec 20) (tile : W32) (s : State) (l : Leg) (r : LegRun) (p : Passage) (g : Program) (e : List Nat),
      s.legAt leg.toNat = some (l, r) ∧
      l.kind = 5 ∧
      s.role.passage = some p ∧
      p.programs[l.op]? = some g ∧
      s.role.update.entry = some e ∧
      s.pass2Open = true ∧
      s.skipsIssue (r.core.getD 0) = false ∧
      s.legReady leg.toNat = true ∧
      (((s.unitLegs (r.core.getD 0) .u).find? (fun x => x.2.2.more x.2.1)).map Prod.fst) = some leg.toNat ∧
      l.nextTile r = tile.toNat ∧
      s.outputsFree (r.core.getD 0) leg.toNat l (s.outputsOf l).length = true) ∧
    (∃ (leg : BitVec 20) (tile : W32) (s : State),
      (s.role.closed = false ∨ s.role.update.skip = true)) ∧
    (∃ (leg : BitVec 20) (tile : W32) (s : State),
      (s.role.closed = false ∨ s.role.update.skip = true)) ∧
    (∃ (s : State) (xs : List Nat),
      s.working = true ∧
      s.role.closed = true ∧
      s.role.update.entry = none ∧
      s.role.update.stalePosted = true ∧
      s.paramAddr < 0x8000000000000 ∧
      s.shipping = false ∧
      paramScalars (s.readBytes s.paramAddr 64) s.role.step = some xs) ∧
    (∃ (s : State),
      s.working = true ∧
      s.role.closed = true ∧
      s.role.update.entry = none ∧
      s.role.update.stalePosted = true ∧
      s.paramAddr < 0x8000000000000 ∧
      paramScalars (s.readBytes s.paramAddr 64) s.role.step = none) :=
  ⟨⟨0, 0, updating id, updateLeg, updateRun0, by decide +kernel⟩,
    ⟨0, 0, updating (fun r => { r with update := { UpdateRun.empty with measured := [(0, 0, 0, 0)] } }), by decide +kernel⟩,
    ⟨0, 0, updating (fun r => { r with closed := true }), by decide +kernel⟩,
    ⟨0, 0, updating (fun r => { r with closed := true, update := { UpdateRun.empty with combined := true, entry := some (List.replicate 14 0) } }), updateLeg, updateRun0, { p0 with tensors := [{ tensorY with shape := 2 }], legs := [updateLeg], streams := [{ stream0 with tensor := 12 }], programs := [⟨0, []⟩] }, ⟨0, []⟩, List.replicate 14 0, by decide +kernel⟩,
    ⟨0, 0, updating id, by decide +kernel⟩,
    ⟨0, 0, updating (fun r => { r with closed := true, update := { UpdateRun.empty with combined := true, skip := true } }), by decide +kernel⟩,
    ⟨(updating (fun r => { r with closed := true, update := staleUpdate })).writeBytes 0 [7], (List.replicate 14 0), by decide +kernel⟩,
    ⟨(updating (fun r => { r with closed := true, update := staleUpdate })).writeBytes 0 [6], by decide +kernel⟩⟩

theorem witness_GradientReduction :
    (∃ (leg : BitVec 20) (tile : W32) (s : State) (l : Leg) (r : LegRun) (p : Passage) (d : Collective) (y : Tensor) (a : AccTile),
      s.working = true ∧
      s.legAt leg.toNat = some (l, r) ∧
      s.role.passage = some p ∧
      p.collectives[l.op]? = some d ∧
      p.tensor? d.tensor = some y ∧
      s.role.acc = [a] ∧
      s.finalEntry p y.id tile.toNat = some a ∧
      l.kind = 10 ∧
      d.kind = 1 ∧
      s.legActive leg.toNat = true ∧
      s.waitMet l = true ∧
      l.hasTile tile.toNat = true ∧
      r.committed = [] ∧
      r.redo = [] ∧
      s.sightHolds (some a) y.id tile.toNat = false ∧
      0 < sparseGet 0 a.core s.role.grants ∧
      2 ≤ d.members.length ∧
      d.selfPos ≠ nextPosition d.members.length (tile.toNat % d.members.length) ∧
      s.role.colls = []) ∧
    (∃ (leg : BitVec 20) (tile : W32) (s : State) (l : Leg) (r : LegRun) (p : Passage) (d : Collective) (y : Tensor) (a : AccTile),
      s.working = true ∧
      s.legAt leg.toNat = some (l, r) ∧
      s.role.passage = some p ∧
      p.collectives[l.op]? = some d ∧
      p.tensor? d.tensor = some y ∧
      s.role.acc = [a] ∧
      s.finalEntry p y.id tile.toNat = some a ∧
      l.kind = 10 ∧
      d.kind = 1 ∧
      d.wire = 0 ∧
      y.shape < 3 ∧
      s.legActive leg.toNat = true ∧
      s.waitMet l = true ∧
      l.hasTile tile.toNat = true ∧
      r.committed = [] ∧
      r.redo = [] ∧
      s.sightHolds (some a) y.id tile.toNat = false ∧
      0 < sparseGet 0 a.core s.role.grants ∧
      2 ≤ d.members.length ∧
      d.selfPos = nextPosition d.members.length (tile.toNat % d.members.length) ∧
      s.role.colls = []) ∧
    (∃ (leg : BitVec 20) (tile : W32) (s : State) (l : Leg) (r : LegRun),
      s.legAt leg.toNat = some (l, r) ∧
      (s.role.grants = [] ∨ s.waitMet l = false ∨ (tile.toNat ∈ r.committed ∧ r.redo = []))) ∧
    (∃ (leg : BitVec 20) (tile : W32) (s : State) (l : Leg) (r : LegRun),
      s.legAt leg.toNat = some (l, r) ∧
      (s.role.grants = [] ∨ s.waitMet l = false ∨ (tile.toNat ∈ r.committed ∧ r.redo = []))) ∧
    (∃ (p : Packet) (s : State) (d : Collective) (y : Tensor) (e : RedEntry),
      currentHere s p 7 ∧
      (taken s p).redSource p = some (d, y) ∧
      ((taken s p).takeSegment y p false).1 = some e ∧
      d.selfPos ≠ nextPosition d.members.length (e.tile % max d.members.length 1) ∧
      (s.coll p.aux.toNat).contributions = []) ∧
    (∃ (p : Packet) (s : State) (d : Collective) (y : Tensor),
      currentHere s p 7 ∧
      (taken s p).redSource p = some (d, y) ∧
      ((taken s p).takeSegment y p false).1 = none) ∧
    (∃ (p : Packet) (s : State),
      arrivedHere s p 7 ∧
      s.isArmed = true ∧
      p.attempt ≠ s.attemptTag ∧
      p.attempt ≠ s.attemptTag + 1) ∧
    (∃ (p : Packet) (s : State),
      arrivedHere s p 7 ∧
      s.isArmed = true ∧
      p.attempt = s.attemptTag + 1) ∧
    (∃ (p : Packet) (s : State) (d : Collective) (y : Tensor) (e : RedEntry) (i : Nat) (h : ChartEntry) (a : Nat),
      currentHere s p 8 ∧
      (taken s p).redSource p = some (d, y) ∧
      ((taken s p).takeSegment y p true).1 = some e ∧
      e.scaled = false ∧
      d.selfPos ≠ e.tile % max d.members.length 1 ∧
      (s.coll p.aux.toNat).landedTiles.contains e.tile = false ∧
      landCheck (sumFp64 ((y.validElems e.tile).map (fun k => (e.codes 0).getD k 0))) e.checks = true ∧
      s.home y.id e.tile = some (i, h, a) ∧
      h.tier = 1 ∧
      (s.knot d.knotBase).toNat < 2 ^ 64 - 1 ∧
      ((s.get Reg.CHT_MARK_REGION.BASE + h.markOf e.tile / 2 < a ∨ a + 4 * e.values.length ≤ s.get Reg.CHT_MARK_REGION.BASE + h.markOf e.tile / 2))) ∧
    (∃ (c : BitVec 12) (tile : W32) (s : State) (d : Collective) (e : RedEntry) (i : Nat) (h : ChartEntry) (a : Nat),
      s.collective? c.toNat = some d ∧
      (s.coll c.toNat).contributions = [] ∧
      (s.coll c.toNat).incoming = [e] ∧
      e.tile = tile.toNat ∧
      e.spilled = false ∧
      s.home d.tensor tile.toNat = some (i, h, a) ∧
      h.tier = 1) ∧
    (∃ (c : BitVec 12) (tile : W32) (s : State),
      (s.coll c.toNat).contributions = [] ∧
      (s.coll c.toNat).incoming = []) :=
  ⟨⟨1, 0, together [ring0] [product, contributionLeg0] (fun r => { r with acc := [acc0], grants := [(0, 2)] }), contributionLeg0, legRun0, passageOf [ring0] [product, contributionLeg0], ring0, tensorY, acc0, by decide +kernel⟩,
    ⟨1, 0, together [{ ring0 with selfPos := 1, members := [0, 2, 1] }] [product, contributionLeg0] (fun r => { r with acc := [acc0], grants := [(0, 2)] }), contributionLeg0, legRun0, passageOf [{ ring0 with selfPos := 1, members := [0, 2, 1] }] [product, contributionLeg0], { ring0 with selfPos := 1, members := [0, 2, 1] }, tensorY, acc0, by decide +kernel⟩,
    ⟨1, 0, together [ring0] [product, contributionLeg0] (fun r => { r with acc := [acc0] }), contributionLeg0, legRun0, by decide +kernel⟩,
    ⟨1, 0, together [ring0] [product, contributionLeg0] (fun r => { r with acc := [acc0], grants := [(0, 1)], legs := [(1, { legRun0 with started := 1, committed := [0] })] }), contributionLeg0, { legRun0 with started := 1, committed := [0] }, by decide +kernel⟩,
    ⟨redPacket 7 3, delivered (redPacket 7 3) (together [ring0] [product, contributionLeg0] (fun r => { r with colls := [(0, segments0 7)] })), ring0, tensorY, _, by decide +kernel, by decide +kernel, rfl, by decide +kernel, by decide +kernel⟩,
    ⟨redPacket 7 0, delivered (redPacket 7 0) (together [ring0] [product, contributionLeg0] id), ring0, tensorY, by decide +kernel⟩,
    ⟨redPacket 7 0, delivered (redPacket 7 0) (together [ring0] [product, contributionLeg0] (fun r => { r with attempt := 1 })), by decide +kernel⟩,
    ⟨{ redPacket 7 0 with attempt := 1 }, delivered { redPacket 7 0 with attempt := 1 } (together [ring0] [product, contributionLeg0] id), by decide +kernel⟩,
    ⟨redPacket 8 3, delivered (redPacket 8 3) (together [ring0] [product, contributionLeg0] (fun r => { r with colls := [(0, segments0 8)] })), ring0, tensorY, _, 2, { tensorY.newEntry 0 1 1 0x12000 2 with state := 2 }, 0x12000, by decide +kernel, by decide +kernel, rfl, by decide +kernel, by decide +kernel, by decide +kernel, by decide +kernel, by decide +kernel, by decide +kernel, by decide +kernel, by decide +kernel⟩,
    ⟨0, 0, together [ring0] [product, contributionLeg0] (fun r => { r with colls := [(0, { CollRun.empty with incoming := [waiting0] })] }), ring0, waiting0, 2, { tensorY.newEntry 0 1 1 0x12000 2 with state := 2 }, 0x12000, by decide +kernel⟩,
    ⟨0, 0, together [ring0] [product, contributionLeg0] id, by decide +kernel⟩⟩

theorem witness_RendezvousEpisodes_1 :
    (∃ (leg : BitVec 20) (s : State) (l : Leg) (r : LegRun) (d : Collective),
      s.legAt leg.toNat = some (l, r) ∧
      s.collective? l.op = some d ∧
      l.kind = 11 ∧
      r.finished = false ∧
      (s.coll l.op).arrived = false ∧
      s.mayArrive = true ∧
      s.arrivalReady leg.toNat d = true ∧
      s.twinWithholds = false ∧
      s.role.placeFailed = false ∧
      s.flag Reg.CAP_RUN.HOLD_PENDING = false ∧
      s.normOfLeg l = none ∧
      (s.knot d.knotBase).toNat < 2 ^ 64 - 1) ∧
    (∃ (leg : BitVec 20) (s : State) (l : Leg) (r : LegRun) (d : Collective),
      s.legAt leg.toNat = some (l, r) ∧
      s.collective? l.op = some d ∧
      l.kind = 11 ∧
      r.finished = false ∧
      (s.coll l.op).arrived = false ∧
      s.mayArrive = true ∧
      s.arrivalReady leg.toNat d = true ∧
      s.twinWithholds = false ∧
      s.role.placeFailed = false ∧
      s.role.carried = false ∧
      s.flag Reg.CAP_RUN.HOLD_PENDING = true ∧
      d.stepClose = false ∧
      (s.dev = .running ∨ s.dev = .draining)) ∧
    (∃ (leg : BitVec 20) (s : State),
      s.mayArrive = false) ∧
    (∃ (leg : BitVec 20) (s : State),
      s.mayArrive = false) ∧
    (∃ (c : BitVec 12) (s : State) (d : Collective) (v : Payload) (q : Nat),
      s.collective? c.toNat = some d ∧
      d.kind ≠ 1 ∧
      (s.coll c.toNat).own = some v ∧
      (s.coll c.toNat).arrived = true ∧
      (s.coll c.toNat).sent = false ∧
      (s.coll c.toNat).children = [] ∧
      d.parent? = some q ∧
      s.role.started d.knotBase + ((s.coll c.toNat).episode + 1) * (d.children.length + 1) ≤ (s.knot d.knotBase).toNat) ∧
    (∃ (c : BitVec 12) (s : State) (d : Collective),
      s.collective? c.toNat = some d ∧
      (s.knot d.knotBase).toNat < s.role.started d.knotBase + ((s.coll c.toNat).episode + 1) * (d.children.length + 1)) ∧
    (∃ (p : Packet) (s : State) (d : Collective) (q : Nat),
      currentHere s p 5 ∧
      s.collective? p.aux.toNat = some d ∧
      d.kind ≠ 1 ∧
      d.positionOf p.src.toNat = some q ∧
      d.children.contains q = true ∧
      (s.knot d.knotBase).toNat < 2 ^ 64 - 1) ∧
    (∃ (p : Packet) (s : State),
      arrivedHere s p 5 ∧
      s.isArmed = false) ∧
    (∃ (p : Packet) (s : State) (d : Collective) (g : Passage) (l : Leg) (r : LegRun),
      currentHere s p 6 ∧
      s.collective? p.aux.toNat = some d ∧
      d.kind = 0 ∧
      d.children = [] ∧
      d.positionOf p.src.toNat = d.parent? ∧
      (s.coll p.aux.toNat).sent = true ∧
      (readPayload p.data).storm = false ∧
      (readPayload p.data).discard = false ∧
      (readPayload p.data).mismatch = false ∧
      p.arg.toNat % 2 = (s.coll p.aux.toNat).episode % 2 ∧
      s.role.passage = some g ∧
      s.legAt (s.coll p.aux.toNat).leg = some (l, r) ∧
      l.op = p.aux.toNat ∧
      s.normOfLeg l = none ∧
      d.stepClose = false ∧
      d.gradientClose = false ∧
      (s.knot (d.knotBase + 1)).toNat < 2 ^ 64 - 1) ∧
    (∃ (p : Packet) (s : State) (d : Collective),
      currentHere s p 6 ∧
      s.collective? p.aux.toNat = some d ∧
      ((s.coll p.aux.toNat).sent = false ∨ d.positionOf p.src.toNat ≠ d.parent?)) ∧
    (∃ (c : BitVec 12) (s : State) (d : Collective),
      s.collective? c.toNat = some d ∧
      d.kind ≠ 1 ∧
      d.stallUs ≠ 0 ∧
      (s.coll c.toNat).arrived = true ∧
      (s.coll c.toNat).stalled = false ∧
      (s.coll c.toNat).verdict = none ∧
      s.flag Reg.CAP_RUN.HOLD_PENDING = false ∧
      s.eventMasked 0x0803 = false ∧
      s.evt.queue.length < 4096) ∧
    (∃ (s : State),
      s.role.settling = true ∧
      s.role.quotaKnots.all (fun k => decide (s.role.waypoint k < 2 ^ 64 - 1)) = true) :=
  ⟨⟨0, together [meet0] [meetLeg] id, meetLeg, legRun0, meet0, by decide +kernel⟩,
    ⟨0, (together [meet0] [meetLeg] id).set Reg.CAP_RUN.HOLD_PENDING 1, meetLeg, legRun0, meet0, by decide +kernel⟩,
    ⟨0, atState .held, by decide +kernel⟩,
    ⟨0, { together [meet0] [meetLeg] id with dev := .held }, by decide +kernel⟩,
    ⟨0, { together [meet0] [meetLeg] (fun r => { r with colls := [(0, arrived0 quiet)] }) with knots := [(40, 1)] }, meet0, quiet, 0, by decide +kernel⟩,
    ⟨0, together [meet0] [meetLeg] (fun r => { r with colls := [(0, arrived0 quiet)] }), meet0, by decide +kernel⟩,
    ⟨{ blankPacket 5 3 with src := 1, dest := 2, data := quiet.bytes false }, delivered { blankPacket 5 3 with src := 1, dest := 2, data := quiet.bytes false } (together [{ meet0 with selfPos := 0, members := [2, 1] }] [meetLeg] id), { meet0 with selfPos := 0, members := [2, 1] }, 1, by decide +kernel⟩,
    ⟨{ blankPacket 5 3 with src := 1, dest := 2 }, delivered { blankPacket 5 3 with src := 1, dest := 2 } atReady, by decide +kernel⟩,
    ⟨{ blankPacket 6 3 with src := 0, dest := 2, data := quiet.bytes false }, delivered { blankPacket 6 3 with src := 0, dest := 2, data := quiet.bytes false } (together [meet0] [meetLeg] (fun r => { r with colls := [(0, { arrived0 quiet with sent := true })] })), meet0, passageOf [meet0] [meetLeg], meetLeg, legRun0, by decide +kernel⟩,
    ⟨{ blankPacket 6 3 with src := 0, dest := 2, data := quiet.bytes false }, delivered { blankPacket 6 3 with src := 0, dest := 2, data := quiet.bytes false } (together [meet0] [meetLeg] id), meet0, by decide +kernel⟩,
    ⟨0, together [meet0] [meetLeg] (fun r => { r with colls := [(0, arrived0 quiet)] }), meet0, by decide +kernel⟩,
    ⟨together [meet0] [meetLeg] (fun r => { r with settling := true, inStep := false }), by decide +kernel⟩⟩

theorem witness_RendezvousEpisodes_2 :
    ∃ (s : State),
      s.role.settling = false :=
  ⟨inStepAt 3, by decide +kernel⟩

theorem witness_StepVerdicts :
    (∃ (c : BitVec 12) (s : State) (d : Collective) (v : Payload) (p : Passage) (l : Leg) (r : LegRun),
      rootReady s c.toNat d v p l r ∧
      v.mismatch = false ∧
      v.storm = false ∧
      v.discard = false ∧
      d.stepClose = true) ∧
    (∃ (c : BitVec 12) (s : State) (d : Collective) (v : Payload) (p : Passage) (l : Leg) (r : LegRun),
      rootReady s c.toNat d v p l r ∧
      v.mismatch = false ∧
      v.storm = false ∧
      v.discard = true) ∧
    (∃ (c : BitVec 12) (s : State) (d : Collective) (v : Payload) (p : Passage) (l : Leg) (r : LegRun),
      rootReady s c.toNat d v p l r ∧
      v.mismatch = false ∧
      v.storm = true) ∧
    (∃ (c : BitVec 12) (s : State) (d : Collective) (v : Payload) (p : Passage) (l : Leg) (r : LegRun),
      rootReady s c.toNat d v p l r ∧
      v.mismatch = true ∧
      (s.dev = .running ∨ s.dev = .draining) ∧
      s.role.carried = false ∧
      s.role.placeFailed = false) :=
  ⟨⟨0, { together [closeAlone] [meetLeg] (fun r => { r with colls := [(0, arrived0 quiet)] }) with knots := [(40, 1)] }, closeAlone, quiet, passageOf [closeAlone] [meetLeg], meetLeg, legRun0, by decide +kernel⟩,
    ⟨0, { together [closeAlone] [meetLeg] (fun r => { r with discardMark := true, colls := [(0, arrived0 { quiet with discard := true })] }) with knots := [(40, 1)] }, closeAlone, { quiet with discard := true }, passageOf [closeAlone] [meetLeg], meetLeg, legRun0, by decide +kernel⟩,
    ⟨0, { together [closeAlone] [meetLeg] (fun r => { r with stormMark := true, stormTensor := 12, colls := [(0, arrived0 { quiet with storm := true, discard := true })] }) with knots := [(40, 1)] }, closeAlone, { quiet with storm := true, discard := true }, passageOf [closeAlone] [meetLeg], meetLeg, legRun0, by decide +kernel⟩,
    ⟨0, { together [closeAlone] [meetLeg] (fun r => { r with colls := [(0, arrived0 { quiet with mismatch := true, storm := true })] }) with knots := [(40, 1)] }, closeAlone, { quiet with mismatch := true, storm := true }, passageOf [closeAlone] [meetLeg], meetLeg, legRun0, by decide +kernel⟩⟩

theorem witness_OffloadGroups :
    (∃ (g : W16) (s : State) (p : Passage) (tier : Nat) (x : Nat × ChartEntry),
      s.working = true ∧
      s.role.passage = some p ∧
      s.groupTier g.toNat = some tier ∧
      s.groupEntries g.toNat = [x] ∧
      x.2.state = 2 ∧
      s.forwardDone p g.toNat = true ∧
      (tier ≠ 4 ∨ s.trafficOk = true) ∧
      s.chart.entries = [x]) ∧
    (∃ (g : W16) (s : State),
      (s.groupEntries g.toNat).all (fun x => decide (x.2.state = 2)) = false) ∧
    (∃ (g : W16) (s : State),
      (s.groupEntries g.toNat).all (fun x => decide (x.2.state = 2)) = false) ∧
    (∃ (g : W16) (s : State) (tier : Nat) (x : Nat × ChartEntry),
      s.groupTier g.toNat = some tier ∧
      s.groupEntries g.toNat = [x] ∧
      x.2.state = 3 ∧
      (tier = 4 ∨ sparseGet 0 (if tier = 2 then s.twinNode else s.offloadPeer) s.fab.unacked = 0) ∧
      s.chart.entries = [x]) ∧
    (∃ (g : W16) (s : State) (tier : Nat),
      s.groupTier g.toNat = some tier ∧
      tier ≠ 4 ∧
      0 < sparseGet 0 (if tier = 2 then s.twinNode else s.offloadPeer) s.fab.unacked) ∧
    (∃ (g : W16) (s : State) (p : Passage) (tier : Nat) (x : Nat × ChartEntry) (a : Nat),
      s.working = true ∧
      s.role.passage = some p ∧
      s.groupTier g.toNat = some tier ∧
      s.groupEntries g.toNat = [x] ∧
      x.2.state = 4 ∧
      s.chart.entries = [x] ∧
      s.backwardReached p (g.toNat + ((p.offload.head?.map OffloadEntry.lead).getD 2)) = true ∧
      (tier ≠ 4 ∨ s.trafficOk = true) ∧
      (s.fitStack (((s.tensor? x.2.tensor).map fun d => s.homeStack d x.2.first).getD 0) x.2.bytes) = some a) ∧
    (∃ (g : W16) (s : State) (p : Passage),
      s.role.passage = some p ∧
      s.backwardReached p (g.toNat + ((p.offload.head?.map OffloadEntry.lead).getD 2)) = false) ∧
    (∃ (g : W16) (at_ : Addr) (bytes : List Byte) (s : State) (x : Nat × ChartEntry),
      s.groupEntries g.toNat = [x] ∧
      x.2.state = 5 ∧
      s.chart.entries = [x] ∧
      x.2.tier ≤ 1 ∧
      at_.toNat = x.2.addr ∧
      bytes.length ≤ x.2.bytes ∧
      s.fetching [x.2] = false) ∧
    (∃ (g : W16) (shipment : List (Addr × List Byte)) (s : State),
      (s.groupEntries g.toNat).all (fun x => decide (x.2.state = 5)) = false) :=
  ⟨⟨0, away 4 2 id, { p0 with tensors := [tensorG], legs := [] }, 4, (0, { tensorG.newEntry 0 1 1 0x2000 0 with state := 2 }), by decide +kernel⟩,
    ⟨0, away 4 3 id, by decide +kernel⟩,
    ⟨0, away 4 4 id, by decide +kernel⟩,
    ⟨0, away 4 3 id, 4, (0, { tensorG.newEntry 0 1 1 0x2000 0 with state := 3 }), by decide +kernel⟩,
    ⟨0, { away 3 3 id with fab := { (away 3 3 id).fab with unacked := [(5, 1)] } }, 3, by decide +kernel⟩,
    ⟨0, (let s := away 4 4 id; { s with role := { s.role with legs := [(0, { legRun0 with started := 1 })], passage := s.role.passage.map (fun p => { p with legs := [{ product with kind := 1 }] }) } }), { p0 with tensors := [tensorG], legs := [{ product with kind := 1 }] }, 4, (0, { tensorG.newEntry 0 1 1 0x2000 0 with state := 4 }), 0x6000, by decide +kernel⟩,
    ⟨0, away 4 4 id, { p0 with tensors := [tensorG], legs := [] }, by decide +kernel⟩,
    ⟨0, 0x2000, [1, 2, 3, 4], away 4 5 id, (0, { tensorG.newEntry 0 1 1 0x2000 0 with state := 5 }), by decide +kernel⟩,
    ⟨0, [(0x2000, [1])], away 4 2 id, by decide +kernel⟩⟩

theorem witness_ErrorsAndRepair :
    (∃ (x : EccSite) (s : State) (u : Nat),
      s.dev ≠ .off ∧
      siteUnit x = some u ∧
      s.part.variant.unitPresent u = some true ∧
      unitType u ≠ 5 ∧
      (s.faultWindow u).times = [] ∧
      s.siteReal x = true) ∧
    (∃ (x : EccSite) (s : State) (u : Nat),
      s.dev ≠ .off ∧
      siteUnit x = some u ∧
      s.part.variant.unitPresent u = some true ∧
      unitType u ≠ 5 ∧
      (s.faultWindow u).times = [] ∧
      s.siteReal x = true) ∧
    (∃ (x : EccSite) (s : State) (u spare : Nat),
      s.dev ≠ .off ∧
      siteUnit x = some u ∧
      s.part.variant.unitPresent u = some true ∧
      unitType u ≠ 5 ∧
      (s.faultWindow u).posted = false ∧
      s.faultThreshold (unitType u) ≤ (withinWindow s.dtime (s.faultWindowNs (unitType u)) (s.faultWindow u).times).length + 1 ∧
      s.isRetired u = false ∧
      s.flag Reg.CAP_DUTY_MODE.REPAIR = false ∧
      s.nextSpare u x = some spare ∧
      s.siteReal x = true ∧
      s.repairPending u (some (x, [])) = false) ∧
    (∃ (x : EccSite) (s : State) (u spare : Nat),
      s.dev ≠ .off ∧
      siteUnit x = some u ∧
      s.part.variant.unitPresent u = some true ∧
      unitType u ≠ 5 ∧
      (s.faultWindow u).posted = false ∧
      s.faultThreshold (unitType u) ≤ (withinWindow s.dtime (s.faultWindowNs (unitType u)) (s.faultWindow u).times).length + 1 ∧
      s.isRetired u = false ∧
      s.flag Reg.CAP_DUTY_MODE.REPAIR = false ∧
      s.nextSpare u x = some spare ∧
      s.siteReal x = true ∧
      s.repairPending u (some (x, [])) = false) ∧
    (∃ (x : EccSite) (s : State) (u : Nat),
      s.dev ≠ .off ∧
      siteUnit x = some u ∧
      s.part.variant.unitPresent u = some true ∧
      unitType u ≠ 5 ∧
      (s.faultWindow u).posted = false ∧
      s.faultThreshold (unitType u) ≤ (withinWindow s.dtime (s.faultWindowNs (unitType u)) (s.faultWindow u).times).length + 1 ∧
      s.isRetired u = false ∧
      s.flag Reg.CAP_DUTY_MODE.REPAIR = true ∧
      s.siteReal x = true ∧
      s.repairPending u (some (x, [])) = false) ∧
    (∃ (a : Addr) (row : Nat) (s : State),
      s.dev ≠ .off ∧
      a.toNat < 2 ^ 39 ∧
      s.part.variant.unitPresent (unitCode 5 (addrStack a.toNat)) = some true ∧
      s.chart.entries = [] ∧
      s.rel.rows = [] ∧
      (s.faultWindow (unitCode 5 (addrStack a.toNat))).times = [] ∧
      s.evt.queue.length < 4096 ∧
      s.eventMasked 0x0E05 = false ∧
      s.snap = none ∧
      s.restore = none ∧
      s.role.passage = none ∧
      s.other = none) ∧
    (∃ (x : EccSite) (s : State),
      s.dev = .off) ∧
    (∃ (k : Nat) (s : State) (r : Repair),
      s.rel.repairs[k]? = some r ∧
      r.effective = false ∧
      s.isRetired r.unit = false) ∧
    (∃ (k : Nat) (s : State),
      (s.rel.repairs[k]?).all Repair.effective = true) ∧
    (∃ (stack : Fin 8) (slice : Fin 32) (found : Option EccSite) (s : State),
      (found = none ∨ (s.regionState (40 + stack.val) ≠ 3 ∧ s.regionState (32 + slice.val / 8) ≠ 3))) ∧
    (∃ (stack : Fin 8) (slice : Fin 32) (found : Option EccSite) (s : State),
      (found = none ∨ (s.regionState (40 + stack.val) ≠ 3 ∧ s.regionState (32 + slice.val / 8) ≠ 3))) ∧
    (∃ (stack : Fin 8) (slice : Fin 32) (a : Addr) (row set : Nat) (s : State),
      addrStack a.toNat = stack.val ∧
      s.part.variant.unitPresent (unitCode 5 stack.val) = some true ∧
      s.part.variant.unitPresent (unitCode 3 slice.val) = some true ∧
      s.rel.rows = [] ∧
      (s.faultWindow (unitCode 3 slice.val)).times = [] ∧
      s.regionState (40 + stack.val) = 3 ∧
      s.regionState (32 + slice.val / 8) = 3) :=
  ⟨⟨.compass 3 0, atReady, unitCode 1 3, by decide +kernel⟩,
    ⟨.clusterStore 2 9 false none, atReady, unitCode 2 2, by decide +kernel⟩,
    ⟨.compass 3 7, ((atReady.setFaultWindow (unitCode 1 3) ⟨[0], false⟩).set (Reg.BST_WINDOW_CFG.THRESHOLD 1) 2), unitCode 1 3, 0, by decide +kernel⟩,
    ⟨.staging 1 7, ((atReady.setFaultWindow (unitCode 4 1) ⟨[0], false⟩).set (Reg.BST_WINDOW_CFG.THRESHOLD 4) 2), unitCode 4 1, 0, by decide +kernel⟩,
    ⟨.compass 3 7, (((atReady.setFaultWindow (unitCode 1 3) ⟨[0], false⟩).set (Reg.BST_WINDOW_CFG.THRESHOLD 1) 2).set Reg.CAP_DUTY_MODE.REPAIR 1), unitCode 1 3, by decide +kernel⟩,
    ⟨0x40, 7, atReady, by decide +kernel⟩,
    ⟨.staging 0 0, off, by decide +kernel⟩,
    ⟨0, { atReady with badLines := [64, 128], rel := { atReady.rel with repairs := [⟨unitCode 5 1, 0, 3, [64], false⟩] } }, ⟨unitCode 5 1, 0, 3, [64], false⟩, by decide +kernel⟩,
    ⟨4, atReady, by decide +kernel⟩,
    ⟨0, 0, none, atReady, by decide +kernel⟩,
    ⟨1, 9, some (.hbm 0 0), (atReady.set (Reg.HELM_RGN_STATUS.STATE 41) 0).set (Reg.HELM_RGN_STATUS.STATE 33) 0, by decide +kernel⟩,
    ⟨0, 0, 0x40, 7, 3, (atReady.set (Reg.HELM_RGN_STATUS.STATE 40) 3).set (Reg.HELM_RGN_STATUS.STATE 32) 3, by decide +kernel⟩⟩

theorem witness_PortsAndCodewords_1 :
    (∃ (p : Fin 17) (reversed : Bool) (polarity : Byte) (s : State),
      p.val ≠ 16 ∧
      s.mayTrain p.val = true) ∧
    (∃ (p : Fin 17) (failed : Byte) (s : State),
      p.val ≠ 16 ∧
      s.mayTrain p.val = true ∧
      ((trainedWidth failed = 1 ∨ trainedWidth failed = 2)) ∧
      s.eventMasked 0x0902 = false ∧
      s.evt.queue.length < 4096) ∧
    (∃ (p : Fin 17) (failed : Byte) (s : State),
      p.val ≠ 16 ∧
      s.mayTrain p.val = true ∧
      ((trainedWidth failed = 1 ∨ trainedWidth failed = 2)) ∧
      s.eventMasked 0x0902 = false ∧
      s.evt.queue.length < 4096) ∧
    (∃ (p : Fin 17) (failed : Byte) (reversed : Bool) (polarity : Byte) (s : State),
      p.val ≠ 16 ∧
      s.mayTrain p.val = true ∧
      trainedWidth failed = 0) ∧
    (∃ (p : Fin 17) (s : State),
      p.val ≠ 16 ∧
      s.portUsable p.val = true ∧
      (s.port p.val).state = 3) ∧
    (∃ (p : Fin 17) (s : State),
      p.val ≠ 16 ∧
      (s.port p.val).state = 5 ∧
      (s.port p.val).aligned = true ∧
      s.portUsable p.val = true) ∧
    (∃ (p : Fin 17) (s : State),
      p.val ≠ 16 ∧
      (s.port p.val).state = 5 ∧
      (s.port p.val).aligned = false ∧
      s.evt.queue.length < 4096 ∧
      (s.faultWindow (unitCode 7 p.val)).times = [] ∧
      s.eventMasked 0x0901 = false) ∧
    (∃ (p : Fin 17) (s : State),
      p.val ≠ 16 ∧
      s.mayTrain p.val = true ∧
      s.evt.queue.length < 4096 ∧
      s.eventMasked 0x0901 = false ∧
      (s.faultWindow (unitCode 7 p.val)).times = []) ∧
    (∃ (p : Fin 17) (s : State) (n : Nat) (ps : List Packet) (rest : List (Nat × List Packet)),
      p.val ≠ 16 ∧
      (s.port p.val).retraining = true ∧
      (s.port p.val).unacked = (n, ps) :: rest ∧
      s.evt.queue.length < 4096 ∧
      (s.faultWindow (unitCode 7 p.val)).times = [] ∧
      s.eventMasked 0x0901 = false) ∧
    (∃ (p : Fin 17) (s : State),
      p.val ≠ 16 ∧
      (s.port p.val).state = 6) ∧
    (∃ (p : Fin 17) (s : State),
      p.val ≠ 16 ∧
      (s.port p.val).state = 6) ∧
    (∃ (s : State),
      (s.port 16).state = 5 ∧
      (s.port 16).aligned = true ∧
      s.twin.paired = true ∧
      s.flag Reg.TWN_STATUS.PATH = false) :=
  ⟨⟨0, true, 0x80, fabricOn 0 { Port.down with state := 2 }, by decide +kernel⟩,
    ⟨3, 0x01, fabricOn 3 { Port.down with state := 2 }, by decide +kernel⟩,
    ⟨3, 0xF0, fabricOn 3 { Port.down with state := 2 }, by decide +kernel⟩,
    ⟨3, 0x81, false, 0, fabricOn 3 { Port.down with state := 2 }, by decide +kernel⟩,
    ⟨3, fabricOn 3 { Port.down with state := 3 }, by decide +kernel⟩,
    ⟨3, fabricOn 3 upPort, by decide +kernel⟩,
    ⟨3, fabricOn 3 { upPort with aligned := false }, by decide +kernel⟩,
    ⟨3, fabricOn 3 { Port.down with state := 2 }, by decide +kernel⟩,
    ⟨3, fabricOn 3 { upPort with retraining := true, unacked := [(5, [toSeven])] }, 5, [toSeven], [], by decide +kernel⟩,
    ⟨3, fabricOn 3 { Port.down with state := 6 }, by decide +kernel⟩,
    ⟨3, (fabricOn 3 { Port.down with state := 6 }).set Reg.FAB_CFG.PORT_ENABLE 1, by decide +kernel⟩,
    ⟨let s := fabricOn 16 upPort; { s with twin := { s.twin with paired := true, state := 4 } }, by decide +kernel⟩⟩

theorem witness_PortsAndCodewords_2 :
    (∃ (p : Fin 17) (s : State),
      (s.port p.val).state = 0 ∧
      (s.port p.val).retraining = false ∧
      s.portUsable p.val = false) ∧
    (∃ (p : Fin 17) (count : BitVec 24) (corrected : BitVec 5) (ack : BitVec 24) (ps : List Packet) (s : State),
      p.val ≠ 16 ∧
      (s.port p.val).state = 5 ∧
      (s.port p.val).aligned = true ∧
      (s.port p.val).retraining = false ∧
      count = (s.port p.val).received + 1 ∧
      ps.all (fun k => k.headOk) = true) ∧
    (∃ (p : Fin 17) (count : BitVec 24) (ps : List Packet) (s : State),
      (s.port p.val).state = 5 ∧
      (s.port p.val).aligned = true ∧
      (s.port p.val).retraining = false ∧
      count ≠ (s.port p.val).received + 1 ∧
      notLater count.toNat (s.port p.val).received.toNat = false) ∧
    (∃ (p : Fin 17) (s : State),
      p.val ≠ 16 ∧
      (s.port p.val).state = 5 ∧
      (s.port p.val).aligned = true ∧
      (s.port p.val).retraining = false) ∧
    (∃ (p : Fin 17) (s : State),
      p.val ≠ 16 ∧
      (s.port p.val).state = 5 ∧
      (s.port p.val).aligned = true ∧
      (s.port p.val).retraining = false) :=
  ⟨⟨2, atReady, by decide +kernel⟩,
    ⟨0, 1, 2, 0, [toSeven], fabricOn 0 upPort, by decide +kernel⟩,
    ⟨0, 9, [toSeven], fabricOn 0 upPort, by decide +kernel⟩,
    ⟨0, fabricOn 0 upPort, by decide +kernel⟩,
    ⟨0, fabricOn 0 { upPort with failures := 4 }, by decide +kernel⟩⟩

theorem witness_RouterAndDelivery_1 :
    (∃ (n : Nat) (s : State) (p : Packet),
      s.fab.router[n]? = some p ∧
      s.forwards = true ∧
      p.headOk = true ∧
      bitAt (entryFor s p) 63 = true ∧
      bitAt (entryFor s p) 62 = true) ∧
    (∃ (n : Nat) (s : State) (p : Packet) (k : Nat),
      s.fab.router[n]? = some p ∧
      s.forwards = true ∧
      p.headOk = true ∧
      p.esc = false ∧
      p.data = [] ∧
      bitAt (entryFor s p) 63 = true ∧
      bitAt (entryFor s p) 62 = false ∧
      p.hops ≠ 0 ∧
      s.adaptivePort p (entryFor s p) = some k) ∧
    (∃ (n : Nat) (s : State) (p : Packet) (f : Field),
      s.fab.router[n]? = some p ∧
      s.forwards = true ∧
      ((f = Reg.FAB_DROP.BAD_CRC ∧ p.headOk = false) ∨ (f = Reg.FAB_DROP.UNROUTABLE ∧ p.headOk = true ∧ bitAt (entryFor s p) 63 = false) ∨ (f = Reg.FAB_DROP.HOP_EXPIRED ∧ p.headOk = true ∧ bitAt (entryFor s p) 63 = true ∧ bitAt (entryFor s p) 62 = false ∧ p.hops = 0))) ∧
    (∃ (n : Nat) (s : State) (p : Packet) (f : Field),
      s.fab.router[n]? = some p ∧
      s.forwards = true ∧
      ((f = Reg.FAB_DROP.BAD_CRC ∧ p.headOk = false) ∨ (f = Reg.FAB_DROP.UNROUTABLE ∧ p.headOk = true ∧ bitAt (entryFor s p) 63 = false) ∨ (f = Reg.FAB_DROP.HOP_EXPIRED ∧ p.headOk = true ∧ bitAt (entryFor s p) 63 = true ∧ bitAt (entryFor s p) 62 = false ∧ p.hops = 0))) ∧
    (∃ (n : Nat) (s : State) (p : Packet) (f : Field),
      s.fab.router[n]? = some p ∧
      s.forwards = true ∧
      ((f = Reg.FAB_DROP.BAD_CRC ∧ p.headOk = false) ∨ (f = Reg.FAB_DROP.UNROUTABLE ∧ p.headOk = true ∧ bitAt (entryFor s p) 63 = false) ∨ (f = Reg.FAB_DROP.HOP_EXPIRED ∧ p.headOk = true ∧ bitAt (entryFor s p) 63 = true ∧ bitAt (entryFor s p) 62 = false ∧ p.hops = 0))) ∧
    (∃ (n : Nat) (s : State),
      n < s.fab.router.length ∧
      s.forwards = false) ∧
    (∃ (n : Nat) (s : State),
      n < s.fab.router.length ∧
      s.forwards = false) ∧
    (∃ (n : Nat) (s : State) (p : Packet),
      s.fab.router[n]? = some p ∧
      p.esc = false ∧
      bitAt (entryFor s p) 63 = true ∧
      bitAt (entryFor s p) 62 = false ∧
      bitAt (entryFor s p) 52 = false) ∧
    (∃ (n : Nat) (s : State) (p : Packet),
      s.fab.router[n]? = some p ∧
      p.esc = false ∧
      bitAt (entryFor s p) 63 = true ∧
      bitAt (entryFor s p) 62 = false ∧
      bitAt (entryFor s p) 52 = false) ∧
    (∃ (p : Packet) (s : State),
      s.fab.inbox.contains p = true ∧
      p.dataOk = true ∧
      s.packetRole p = .own ∧
      14 ≤ p.ptype.toNat) ∧
    (∃ (p : Packet) (s : State),
      s.fab.inbox.contains p = true ∧
      p.dataOk = false) ∧
    (∃ (p : Packet) (s : State),
      s.fab.inbox.contains p = true ∧
      p.dataOk = false) :=
  ⟨⟨0, routed 0xC000000000000000 [toSeven], toSeven, by decide +kernel⟩,
    ⟨0, routed 0x8000000000000001 [toSeven], toSeven, 0, by decide +kernel⟩,
    ⟨0, routed 0 [toSeven], toSeven, Reg.FAB_DROP.UNROUTABLE, by decide +kernel⟩,
    ⟨0, routed 0x8000000000000001 [{ toSeven with hops := 0 }], { toSeven with hops := 0 }, Reg.FAB_DROP.HOP_EXPIRED, by decide +kernel⟩,
    ⟨0, routed 0x8000000000000001 [{ toSeven with headOk := false }], { toSeven with headOk := false }, Reg.FAB_DROP.BAD_CRC, by decide +kernel⟩,
    ⟨0, (let s := routed 0xC000000000000000 [toSeven]; { s with fab := { s.fab with everQuiet := false } }), by decide +kernel⟩,
    ⟨0, (routed 0xC000000000000000 [toSeven]).set Reg.FAB_NODE.VALID 0, by decide +kernel⟩,
    ⟨0, routed 0x8000000000000000 [toSeven], toSeven, by decide +kernel⟩,
    ⟨0, routed 0x8000000000000001 [toSeven], toSeven, by decide +kernel⟩,
    ⟨blankPacket 14 0, delivered (blankPacket 14 0) (fabricOn 0 upPort), by decide +kernel⟩,
    ⟨{ blankPacket 0 0 with dataOk := false }, delivered { blankPacket 0 0 with dataOk := false } (fabricOn 0 upPort), by decide +kernel⟩,
    ⟨{ blankPacket 4 0 with dataOk := false }, delivered { blankPacket 4 0 with dataOk := false } (fabricOn 0 upPort), by decide +kernel⟩⟩

theorem witness_RouterAndDelivery_2 :
    (∃ (p : Packet) (s : State),
      arrivedHere s p 9 ∧
      s.eventMasked 0x0805 = false ∧
      s.evt.queue.length < 4096) ∧
    (∃ (src : BitVec 14) (m : MgmtMsg) (s : State),
      m ≠ .stopping) ∧
    (∃ (src : BitVec 14) (s : State),
      s.twin.partnerNode ≠ some src.toNat) :=
  ⟨⟨{ blankPacket 9 3 with src := 5, dest := 2, arg := 0x0280 }, delivered { blankPacket 9 3 with src := 5, dest := 2, arg := 0x0280 } (fabricOn 0 upPort), by decide +kernel⟩,
    ⟨5, .other [], fabricOn 0 upPort, by decide +kernel⟩,
    ⟨5, (let s := fabricOn 0 upPort; { s with twin := { s.twin with paired := true, partnerNode := some 4 } }), by decide +kernel⟩⟩

theorem witness_RemoteMemory_1 :
    (∃ (p : Packet) (s : State),
      arrivedHere s p 0 ∧
      p.attempt = s.attemptTag ∧
      p.addr.toNat < 2 ^ 39 ∧
      p.data ≠ [] ∧
      s.reachable p.addr.toNat p.data.length = true ∧
      owesOne s p.src.toNat ∧
      s.fab.waitingSignals = [] ∧
      s.fab.applied = [] ∧
      p.knot ≠ 0xFFF) ∧
    (∃ (p : Packet) (s : State),
      arrivedHere s p 0 ∧
      p.attempt = s.attemptTag ∧
      s.reachable p.addr.toNat p.data.length = false ∧
      owesOne s p.src.toNat ∧
      s.fab.waitingSignals = []) ∧
    (∃ (p : Packet) (s : State),
      arrivedHere s p 0 ∧
      p.attempt ≠ s.attemptTag ∧
      p.attempt ≠ s.attemptTag + 1 ∧
      owesOne s p.src.toNat) ∧
    (∃ (p : Packet) (s : State),
      arrivedHere s p 4 ∧
      p.attempt = s.attemptTag ∧
      p.arg.toNat ≤ s.appliedWrites p.src.toNat p.knot.toNat ∧
      owesOne s p.src.toNat ∧
      (s.knot p.knot.toNat).toNat < 2 ^ 64 - 1) ∧
    (∃ (p : Packet) (s : State),
      arrivedHere s p 4 ∧
      p.attempt = s.attemptTag ∧
      s.appliedWrites p.src.toNat p.knot.toNat < p.arg.toNat) ∧
    (∃ (p q : Packet) (s : State),
      arrivedHere s p 0 ∧
      p.attempt = s.attemptTag ∧
      p.knot ≠ 0xFFF ∧
      s.fab.waitingSignals = [q] ∧
      q.src = p.src ∧
      q.knot = p.knot ∧
      q.arg.toNat = s.appliedWrites p.src.toNat p.knot.toNat + 1 ∧
      sparseGet 0 p.src.toNat s.fab.toAck + 2 < 64 ∧
      s.role.carried = false ∧
      p.addr.toNat < 2 ^ 39 ∧
      (s.knot p.knot.toNat).toNat < 2 ^ 64 - 1) ∧
    (∃ (p : Packet) (s : State),
      arrivedHere s p 1 ∧
      p.addr.toNat < 2 ^ 39 ∧
      1 ≤ p.arg.toNat ∧
      p.arg.toNat ≤ 4096 ∧
      s.reachable p.addr.toNat p.arg.toNat = true ∧
      s.twin.paired = false) ∧
    (∃ (p : Packet) (s : State),
      arrivedHere s p 1 ∧
      s.reachable p.addr.toNat (max 1 (min 4096 p.arg.toNat)) = false ∧
      s.twin.paired = false) ∧
    (∃ (p : Packet) (s : State),
      arrivedHere s p 2 ∧
      p.arg = 0 ∧
      s.fab.reads.length ≤ 1) ∧
    (∃ (p : Packet) (s : State),
      arrivedHere s p 2 ∧
      p.arg = 0 ∧
      s.fab.reads.length ≤ 1) ∧
    (∃ (p : Packet) (s : State),
      arrivedHere s p 3) ∧
    (∃ (src : BitVec 14) (s : State),
      s.twin.paired = false ∧
      sparseGet 0 (src.toNat + 16384) s.fab.toAck = 0) :=
  ⟨⟨write1, delivered write1 (fabricOn 0 upPort), by decide +kernel⟩,
    ⟨{ write1 with addr := 0x3000000000000 }, delivered { write1 with addr := 0x3000000000000 } (fabricOn 0 upPort), by decide +kernel⟩,
    ⟨{ write1 with attempt := 9 }, delivered { write1 with attempt := 9 } (fabricOn 0 upPort), by decide +kernel⟩,
    ⟨signal1, (let s := delivered signal1 (fabricOn 0 upPort); { s with fab := { s.fab with applied := [(5, 9, 1)] } }), by decide +kernel⟩,
    ⟨signal1, delivered signal1 (fabricOn 0 upPort), by decide +kernel⟩,
    ⟨write1, signal1, (let s := delivered write1 (fabricOn 0 upPort); { s with fab := { s.fab with waitingSignals := [signal1] } }), by decide +kernel⟩,
    ⟨read1, delivered read1 (fabricOn 0 upPort), by decide +kernel⟩,
    ⟨{ read1 with addr := 0x3000000000000 }, delivered { read1 with addr := 0x3000000000000 } (fabricOn 0 upPort), by decide +kernel⟩,
    ⟨{ blankPacket 2 1 with dest := 2, tag := 77 }, delivered { blankPacket 2 1 with dest := 2, tag := 77 } reading, by decide +kernel⟩,
    ⟨{ blankPacket 2 1 with dest := 2, tag := 3 }, delivered { blankPacket 2 1 with dest := 2, tag := 3 } reading, by decide +kernel⟩,
    ⟨{ blankPacket 3 1 with src := 5, dest := 2, arg := 3 }, (let s := delivered { blankPacket 3 1 with src := 5, dest := 2, arg := 3 } (fabricOn 0 upPort); { s with fab := { s.fab with unacked := [(5, 4), (6, 1)] } }), by decide +kernel⟩,
    ⟨5, (let s := fabricOn 0 upPort; { s with fab := { s.fab with toAck := [(5, 3)] } }), by decide +kernel⟩⟩

theorem witness_RemoteMemory_2 :
    (∃ (src : BitVec 14) (s : State),
      s.twin.paired = false ∧
      sparseGet 0 (src.toNat + 16384) s.fab.toAck = 0) ∧
    (∃ (dest : BitVec 14) (s : State),
      sparseGet 0 dest.toNat s.fab.unacked ≠ 0 ∧
      s.servedBy dest.toNat = false ∧
      s.snap = none ∧
      s.other = none ∧
      s.role.quotas = [] ∧
      s.twin.paired = false ∧
      s.role.passage.isSome = true ∧
      s.eventMasked 0x0906 = false ∧
      s.evt.queue.length < 4096) ∧
    (∃ (dest : BitVec 14) (s : State),
      sparseGet 0 dest.toNat s.fab.unacked = 0) ∧
    (∃ (tag : W16) (s : State) (r : PendingRead),
      s.fab.reads = [r] ∧
      r.tag = tag ∧
      r.reissued = false ∧
      r.twin = false) ∧
    (∃ (tag : W16) (s : State),
      s.fab.reads.all (fun r => r.tag != tag) = true) :=
  ⟨⟨6, (let s := fabricOn 0 upPort; { s with fab := { s.fab with toAck := [(5, 3)] } }), by decide +kernel⟩,
    ⟨5, (let s := inStepAt 3; { s with fab := { s.fab with unacked := [(5, 2)] } }), by decide +kernel⟩,
    ⟨5, fabricOn 0 upPort, by decide +kernel⟩,
    ⟨77, reading, ⟨77, false, 5, 0x3000, 16, false, none⟩, by decide +kernel⟩,
    ⟨4, reading, by decide +kernel⟩⟩

theorem witness_SightingRoutesAndTime_1 :
    (∃ (p : Fin 17) (uid : W64) (far : Fin 17) (variant : W16) (s : State),
      p.val ≠ 16 ∧
      (s.port p.val).state = 4 ∧
      uid ≠ 0 ∧
      uid ≠ s.part.uid) ∧
    (∃ (p : Fin 17) (far : Fin 17) (variant : W16) (s : State),
      p.val ≠ 16 ∧
      (s.port p.val).state = 4 ∧
      s.part.uid ≠ 0) ∧
    (∃ (p : Fin 17) (r : SightRecord) (s : State),
      p.val ≠ 16 ∧
      (s.port p.val).state = 5 ∧
      r.uid ≠ s.part.uid ∧
      r.uid ≠ 0 ∧
      (s.fab.database.find? (fun e => e.record.uid == r.uid)).all (fun e => laterSeq r.seq e.record.seq) = true) ∧
    (∃ (p : Fin 17) (r : SightRecord) (s : State),
      p.val ≠ 16 ∧
      (s.port p.val).state = 5 ∧
      r.uid ≠ s.part.uid ∧
      r.uid ≠ 0 ∧
      (s.fab.database.find? (fun e => e.record.uid == r.uid)).all (fun e => laterSeq r.seq e.record.seq) = true) ∧
    (∃ (p : Fin 17) (r : SightRecord) (s : State),
      ((s.port p.val).state ≠ 5 ∨ (s.fab.database.find? (fun e => e.record.uid == r.uid)).any (fun e => !laterSeq r.seq e.record.seq && r.seq != e.record.seq) = true)) ∧
    (∃ (p : Fin 17) (r : SightRecord) (s : State),
      ((s.port p.val).state ≠ 5 ∨ (s.fab.database.find? (fun e => e.record.uid == r.uid)).any (fun e => !laterSeq r.seq e.record.seq && r.seq != e.record.seq) = true)) ∧
    (∃ (s : State),
      s.fab.database.any (fun e => e.record.uid == s.part.uid) = true) ∧
    (∃ (uid : W64) (s : State),
      uid ≠ s.part.uid ∧
      s.fab.database.any (fun e => e.record.uid == uid && !e.departed) = true ∧
      s.fab.timeRoot ≠ some uid) ∧
    (∃ (uid : W64) (s : State),
      s.fab.database.all (fun e => e.record.uid != uid) = true) ∧
    (∃ (s : State),
      s.fab.database.any (fun e => e.record.uid == s.part.uid) = true ∧
      s.fab.quiet = false ∧
      s.fab.rebuilding = false ∧
      s.dev ≠ .off ∧
      s.peersKnown = true ∧
      s.evt.queue.length < 4000 ∧
      s.eventMasked 0x0909 = false ∧
      (s.assignIds.find? (fun x => x.1 == s.part.uid)).map Prod.snd = some (s.get Reg.FAB_NODE.NODE_ID) ∧
      s.flag Reg.FAB_NODE.VALID = true) ∧
    (∃ (s : State),
      s.fab.database.any (fun e => e.record.uid == s.part.uid) = true ∧
      (s.fab.quiet = true ∨ s.peersKnown = false)) ∧
    (∃ (s : State),
      s.fab.database.any (fun e => e.record.uid == s.part.uid) = true ∧
      (s.fab.quiet = true ∨ s.peersKnown = false)) :=
  ⟨⟨0, 0x99, 3, 0, fabricOn 0 { upPort with state := 4 }, by decide +kernel⟩,
    ⟨0, 3, 0, (let s := fabricOn 0 { upPort with state := 4 }; { s with part := { s.part with uid := 9 } }), by decide +kernel⟩,
    ⟨0, record1, fabricOn 0 upPort, by decide +kernel⟩,
    ⟨0, { record1 with seq := 2 }, sighted, by decide +kernel⟩,
    ⟨0, { record1 with seq := 0 }, sighted, by decide +kernel⟩,
    ⟨3, record1, fabricOn 0 upPort, by decide +kernel⟩,
    ⟨(let s := fabricOn 0 upPort; { s with fab := { s.fab with database := [⟨{ record1 with uid := s.part.uid }, false⟩] } }), by decide +kernel⟩,
    ⟨0x99, sighted, by decide +kernel⟩,
    ⟨0x55, sighted, by decide +kernel⟩,
    ⟨(let s := sighted; { s with fab := { s.fab with everQuiet := false, database := [⟨record1, false⟩, ⟨{ record1 with uid := s.part.uid, nodeId := some 2 }, false⟩] } }), by decide +kernel⟩,
    ⟨(let s := sighted; { s with fab := { s.fab with quiet := true, database := [⟨{ record1 with uid := s.part.uid }, false⟩] } }), by decide +kernel⟩,
    ⟨(let s := sighted; { s with fab := { s.fab with database := [⟨{ record1 with uid := s.part.uid, peers := [0x42] }, false⟩] } }), by decide +kernel⟩⟩

theorem witness_SightingRoutesAndTime_2 :
    (∃ (s : State),
      s.hostRouting = false ∧
      s.fab.quiet = true ∧
      s.flag Reg.FAB_NODE.VALID = true ∧
      s.eventMasked 0x090B = false ∧
      s.evt.queue.length < 4096) ∧
    (∃ (s : State),
      (s.hostRouting = true ∨ s.fab.quiet = false ∨ s.flag Reg.FAB_NODE.VALID = false)) ∧
    (∃ (n : Fin 16384) (s : State),
      s.served = true ∧
      (s.tableRegs true).find? (fun x => s.badEntry x.2) = none ∧
      (s.regs.map Prod.fst).Pairwise (· < ·)) ∧
    (∃ (x : Nat × W64) (s : State),
      s.served = true ∧
      (s.tableRegs true).find? (fun x => s.badEntry x.2) = some x ∧
      s.eventMasked 0x0905 = false ∧
      s.evt.queue.length < 4096) ∧
    (∃ (n : Fin 16384) (s : State),
      s.served = true ∧
      (s.regs.map Prod.fst).Pairwise (· < ·)) ∧
    (∃ (s : State),
      s.served = false) ∧
    (∃ (x : TimeStamps) (s : State),
      s.fab.timeParent.isSome = true ∧
      s.dev ≠ .off) ∧
    (∃ (x : TimeStamps) (s : State),
      s.fab.timeParent.isSome = true ∧
      s.dev ≠ .off) ∧
    (∃ (x : TimeStamps) (s : State),
      s.fab.timeParent.isSome = true ∧
      s.dev ≠ .off) ∧
    (∃ (x : TimeStamps) (s : State),
      s.fab.timeParent = none) ∧
    (∃ (p : Nat) (s : State),
      s.fab.timeParent = some p ∧
      (s.port p).state = 5) ∧
    (∃ (s : State),
      s.fab.slewing = true ∧
      s.dev ≠ .off ∧
      s.fab.offset ≠ 0) :=
  ⟨⟨(let s := sighted; { s with fab := { s.fab with quiet := true, database := [⟨{ record1 with uid := s.part.uid, nodeId := some 2 }, false⟩], reserved := [(s.part.uid, 2)] } }), by decide +kernel⟩,
    ⟨sighted, by decide +kernel⟩,
    ⟨7, (shadowed 0x8000000000000001).set Reg.CAP_DUTY_MODE.PENDING 0, by decide +kernel⟩,
    ⟨(0x1840038, 0x8000000000000000), shadowed 0x8000000000000000, by decide +kernel⟩,
    ⟨7, (shadowed 0x8000000000000001), by decide +kernel⟩,
    ⟨State.reset, by decide +kernel⟩,
    ⟨⟨1000, 3600, 3600, 1400⟩, (let s := fabricOn 0 upPort; { s with fab := { s.fab with timeParent := some 0 } }), by decide +kernel⟩,
    ⟨⟨1000, 1210, 1210, 1400⟩, (let s := fabricOn 0 upPort; { s with fab := { s.fab with timeParent := some 0 } }), by decide +kernel⟩,
    ⟨⟨1000, 3600, 3600, 1400⟩, (let s := inStepAt 3; { s with fab := { s.fab with timeParent := some 0 } }), by decide +kernel⟩,
    ⟨⟨1, 2, 3, 4⟩, fabricOn 0 upPort, by decide +kernel⟩,
    ⟨0, (let s := fabricOn 0 upPort; { s with fab := { s.fab with timeParent := some 0 } }), by decide +kernel⟩,
    ⟨(let s := fabricOn 0 upPort; { s with fab := { s.fab with slewing := true, offset := 5 } }), by decide +kernel⟩⟩

theorem witness_SightingRoutesAndTime_3 :
    (∃ (s : State),
      s.fab.slewing = true ∧
      s.dev ≠ .off ∧
      s.fab.offset ≠ 0) ∧
    (∃ (s : State),
      s.fab.slewing = false) :=
  ⟨⟨(let s := fabricOn 0 upPort; { s with fab := { s.fab with slewing := true, offset := -3 } }), by decide +kernel⟩,
    ⟨fabricOn 0 upPort, by decide +kernel⟩⟩

theorem witness_TwinPairingAndLoss_1 :
    (∃ (uid : W64) (variant fw : W16) (s : State),
      (s.port 16).state = 5 ∧
      s.flag Reg.TWN_CFG.ENABLE = true ∧
      uid ≠ 0 ∧
      uid ≠ s.part.uid ∧
      s.twin.paired = false ∧
      variant.toNat = s.part.variant.code ∧
      fw.toNat = s.get Reg.CAP_VERSION.FW_MAJOR ∧
      s.sec.attestKey.isSome = true ∧
      s.sec.challenge = [] ∧
      s.twin.partnerAuth = false ∧
      s.twin.asked = none ∧
      s.twin.state ≤ 3) ∧
    (∃ (uid : W64) (variant fw : W16) (enabled : Bool) (cause : Nat) (s : State),
      (s.port 16).state = 5 ∧
      s.flag Reg.TWN_CFG.ENABLE = true ∧
      uid ≠ 0 ∧
      uid ≠ s.part.uid ∧
      s.twin.paired = false ∧
      s.twin.state ≤ 3 ∧
      cause = (if enabled = false then 5 else if variant.toNat ≠ s.part.variant.code then 1 else 3) ∧
      ((enabled = true → variant.toNat = s.part.variant.code → fw.toNat ≠ s.get Reg.CAP_VERSION.FW_MAJOR)) ∧
      s.eventMasked 0x0907 = false ∧
      s.evt.queue.length < 4096) ∧
    (∃ (uid : W64) (variant fw : W16) (enabled : Bool) (cause : Nat) (s : State),
      (s.port 16).state = 5 ∧
      s.flag Reg.TWN_CFG.ENABLE = true ∧
      uid ≠ 0 ∧
      uid ≠ s.part.uid ∧
      s.twin.paired = false ∧
      s.twin.state ≤ 3 ∧
      cause = (if enabled = false then 5 else if variant.toNat ≠ s.part.variant.code then 1 else 3) ∧
      ((enabled = true → variant.toNat = s.part.variant.code → fw.toNat ≠ s.get Reg.CAP_VERSION.FW_MAJOR)) ∧
      s.eventMasked 0x0907 = false ∧
      s.evt.queue.length < 4096) ∧
    (∃ (uid : W64) (variant fw : W16) (enabled : Bool) (cause : Nat) (s : State),
      (s.port 16).state = 5 ∧
      s.flag Reg.TWN_CFG.ENABLE = true ∧
      uid ≠ 0 ∧
      uid ≠ s.part.uid ∧
      s.twin.paired = false ∧
      s.twin.state ≤ 3 ∧
      cause = (if enabled = false then 5 else if variant.toNat ≠ s.part.variant.code then 1 else 3) ∧
      ((enabled = true → variant.toNat = s.part.variant.code → fw.toNat ≠ s.get Reg.CAP_VERSION.FW_MAJOR)) ∧
      s.eventMasked 0x0907 = false ∧
      s.evt.queue.length < 4096) ∧
    (∃ (nonce : List Byte) (s : State),
      nonce.length = 48 ∧
      s.twin.greeted = true ∧
      s.twin.authSent = false ∧
      s.twin.partnerAuth = true ∧
      s.sec.attestKey.isSome = true ∧
      s.twin.paired = false ∧
      s.twin.state ≤ 3 ∧
      s.isArmed = false ∧
      s.eventMasked 0x090D = false ∧
      s.evt.queue.length < 4096) ∧
    (∃ (chain sig : List Byte) (s : State),
      s.twin.greeted = true ∧
      s.twin.authSent = true ∧
      s.twin.asked = none ∧
      s.twin.partnerAuth = false ∧
      s.sec.challenge ≠ [] ∧
      s.sec.attestKey.isSome = true ∧
      s.twin.paired = false ∧
      s.twin.state ≤ 3 ∧
      s.isArmed = false ∧
      s.eventMasked 0x090D = false ∧
      s.eventMasked 0x0907 = false ∧
      s.evt.queue.length < 4096) ∧
    (∃ (m : TwinMsg) (s : State),
      s.twin.paired = false ∧
      s.twin.greeted = false ∧
      s.flag Reg.TWN_CFG.ENABLE = false) ∧
    (∃ (m : TwinMsg) (s : State),
      s.twin.paired = false ∧
      s.twin.greeted = false ∧
      s.flag Reg.TWN_CFG.ENABLE = false) ∧
    (∃ (m : TwinMsg) (s : State),
      s.twin.paired = false ∧
      s.twin.greeted = false ∧
      s.flag Reg.TWN_CFG.ENABLE = false) ∧
    (∃ (s : State),
      s.twin.paired = true ∧
      s.twin.greeted = false) ∧
    (∃ (s : State),
      s.twin.paired = false ∧
      s.twin.greeted = false) ∧
    (∃ (src : BitVec 14) (s : State),
      s.twin.paired = true ∧
      4 ≤ s.twin.state ∧
      s.twin.state ≤ 6 ∧
      s.twin.partnerNode = some src.toNat ∧
      s.role.inStep = false ∧
      s.role.carried = false ∧
      s.role.quotas = [] ∧
      s.other = none ∧
      s.restore = none ∧
      s.twin.records = [] ∧
      s.get Reg.TWN_CFG.POLICY = 0 ∧
      s.eventMasked 0x0908 = false ∧
      s.evt.queue.length < 4096) :=
  ⟨⟨0x77, BitVec.ofNat 16 greetingTwin.part.variant.code, BitVec.ofNat 16 (greetingTwin.get Reg.CAP_VERSION.FW_MAJOR), greetingTwin, by decide +kernel⟩,
    ⟨0x77, BitVec.ofNat 16 (greetingTwin.part.variant.code + 1), 0, true, 1, greetingTwin, by decide +kernel⟩,
    ⟨0x77, BitVec.ofNat 16 greetingTwin.part.variant.code, BitVec.ofNat 16 (greetingTwin.get Reg.CAP_VERSION.FW_MAJOR + 1), true, 3, greetingTwin, by decide +kernel⟩,
    ⟨0x77, BitVec.ofNat 16 greetingTwin.part.variant.code, 0, false, 5, greetingTwin, by decide +kernel⟩,
    ⟨List.replicate 48 7, (let s := greetingTwin; { s with twin := { s.twin with greeted := true, partnerAuth := true, partnerUid := 0x77 } }), by decide +kernel⟩,
    ⟨[1], [2], (let s := greetingTwin; { s with twin := { s.twin with greeted := true, authSent := true, partnerUid := 0x77 }, sec := { s.sec with challenge := [5] } }), by decide +kernel⟩,
    ⟨.farewell, fabricOn 16 upPort, by decide +kernel⟩,
    ⟨.answer [] [], fabricOn 16 upPort, by decide +kernel⟩,
    ⟨.challenge [1], fabricOn 16 upPort, by decide +kernel⟩,
    ⟨pairedTwin 4, by decide +kernel⟩,
    ⟨fabricOn 16 upPort, by decide +kernel⟩,
    ⟨5, pairedTwin 4, by decide +kernel⟩⟩

theorem witness_TwinPairingAndLoss_2 :
    (∃ (s : State),
      s.twin.paired = false ∧
      s.twin.state ≠ 9) ∧
    (∃ (s : State),
      s.twin.state = 9 ∧
      s.role.carried = false ∧
      s.dev = .running ∧
      s.other = none ∧
      s.eventMasked 0x0910 = false ∧
      s.evt.queue.length < 4096) ∧
    (∃ (s : State) (st : MirrorState) (s1 : State),
      s.twin.state = 9 ∧
      s.dev = .ready ∧
      s.role.passage = none ∧
      s.twin.partnerState = some st ∧
      s.placePartner s.partnerPassage false = some s1 ∧
      s1.dev = .ready ∧
      st.step.toNat < 2 ^ 64 - 1) ∧
    (∃ (s : State),
      s.twin.state = 9 ∧
      s.eventMasked 0x0907 = false ∧
      s.evt.queue.length < 4096) ∧
    (∃ (ok : Bool) (s : State),
      s.twin.state ≠ 9) ∧
    (∃ (s : State),
      (s.port 16).state ≤ 1 ∧
      (s.twin.state ≤ 3 ∨ s.twin.state = 10)) :=
  ⟨⟨fabricOn 16 upPort, by decide +kernel⟩,
    ⟨handing, by decide +kernel⟩,
    ⟨replacing, partnerState0, replacedPlace, by decide +kernel⟩,
    ⟨handing, by decide +kernel⟩,
    ⟨true, pairedTwin 6, by decide +kernel⟩,
    ⟨(let s := fabricOn 16 { Port.down with state := 1, loopback := true }; { s with twin := { s.twin with present := true, state := 10 } }), by decide +kernel⟩⟩

theorem witness_Mirror :
    (∃ (valid : Bool) (s : State),
      s.twin.paired = true ∧
      s.twin.state = 4 ∧
      s.role.carried = false) ∧
    (∃ (step : W64) (tensor : W16) (tile : W32) (bs : List Byte) (s : State),
      s.twin.paired = true ∧
      (s.twin.state = 5 ∨ s.twin.state = 6) ∧
      s.role.carried = false ∧
      s.twin.records = []) ∧
    (∃ (s : State) (r : TwinRecord) (st : MirrorState) (digest : W32) (c : Nat × Nat × Bool × List Nat),
      s.flag Reg.TWN_STATUS.MIRROR_VALID = true ∧
      s.nextRecord = some r ∧
      r.closing = some c ∧
      r.commit = some (st, digest) ∧
      c.2.2.1 = true ∧
      (digest = 0 ∨ s.twin.state = 7) ∧
      s.twin.lostPending = false) ∧
    (∃ (s : State) (r : TwinRecord) (st : MirrorState) (digest : W32) (c : Nat × Nat × Bool × List Nat),
      s.flag Reg.TWN_STATUS.MIRROR_VALID = true ∧
      s.nextRecord = some r ∧
      r.closing = some c ∧
      r.commit = some (st, digest) ∧
      c.2.2.1 = true ∧
      digest ≠ 0 ∧
      s.twin.state = 6 ∧
      s.twin.lostPending = false ∧
      s.eventMasked 0x090F = false ∧
      s.evt.queue.length < 4096) ∧
    (∃ (s : State),
      (s.flag Reg.TWN_STATUS.MIRROR_VALID = false ∨ s.nextRecord = none) ∧
      s.twin.lostPending = false) ∧
    (∃ (s : State) (n : Nat),
      s.twin.state = 5 ∧
      s.twin.seedStep = some n) ∧
    (∃ (s : State),
      (s.twin.seedStep = none ∨ s.twin.state ≠ 5)) :=
  ⟨⟨true, pairedTwin 4, by decide +kernel⟩,
    ⟨4, 9, 0, [1, 2], pairedTwin 6, by decide +kernel⟩,
    ⟨mirroring 0, ⟨4, [], [], some (0x3F800000, 0, true, []), some (partnerState0, 0)⟩, partnerState0, 0, (0x3F800000, 0, true, []), by decide +kernel⟩,
    ⟨mirroring 7, ⟨4, [], [], some (0x3F800000, 0, true, []), some (partnerState0, 7)⟩, partnerState0, 7, (0x3F800000, 0, true, []), by decide +kernel⟩,
    ⟨pairedTwin 6, by decide +kernel⟩,
    ⟨(let s := pairedTwin 5; { s with twin := { s.twin with seedStep := some 4 } }), 4, by decide +kernel⟩,
    ⟨pairedTwin 6, by decide +kernel⟩⟩

theorem witness_CarriedRoleForms :
    (∃ (unit : UnitAddr) (msg : W64) (core : Fin 256) (leg : BitVec 20) (dma : Fin 2) (g : Bool) (tile : W32) (slot : Fin 16) (remote : List Byte) (tensor : W16) (collective : BitVec 12) (group : W16) (shipment : List (Addr × List Byte)) (s : State),
      s.other.isSome = true) ∧
    (∃ (unit : UnitAddr) (msg : W64) (core : Fin 256) (leg : BitVec 20) (dma : Fin 2) (g : Bool) (tile : W32) (slot : Fin 16) (remote : List Byte) (tensor : W16) (collective : BitVec 12) (group : W16) (shipment : List (Addr × List Byte)) (s : State),
      s.other.isSome = true) ∧
    (∃ (unit : UnitAddr) (msg : W64) (core : Fin 256) (leg : BitVec 20) (dma : Fin 2) (g : Bool) (tile : W32) (slot : Fin 16) (remote : List Byte) (tensor : W16) (collective : BitVec 12) (group : W16) (shipment : List (Addr × List Byte)) (s : State),
      s.other = none) :=
  ⟨⟨⟨1, .f⟩, 5, 0, 0, 0, true, 0, 0, [], 3, 0, 0, [], { inStepAt 3 with other := some Role.empty }, by decide +kernel⟩,
    ⟨⟨1, .f⟩, 5, 255, 0xFFFFF, 1, true, 0, 15, [], 3, 0xFFF, 0xFFFF, [], { inStepAt 3 with other := some { Role.empty with carried := true } }, by decide +kernel⟩,
    ⟨⟨1, .f⟩, 5, 0, 0, 0, true, 0, 0, [], 3, 0, 0, [], inStepAt 3, by decide +kernel⟩⟩

theorem witness_EveryStepKeepsTheInvariant :
    (∃ (s t : State), Sound s ∧ step s = .next t) ∧
    (∃ (s t : State), Sound s ∧ step s = .next t) :=
  ⟨⟨nominal, _, by decide +kernel, rfl⟩,
    ⟨{ nominal with pending := [.kntAdvance 3 9] }, _, by decide +kernel, rfl⟩⟩

theorem witness_KnotsNeverDecrease :
    ∃ (c : Instr) (s t : State), exec c s = .next t :=
  ⟨.kntAdvance 3 9, nominal, _, rfl⟩

end

end Sys2Proof.Tests
end

/-! ## What every operation keeps

`Kept r` of every operation of the model, in the order of the model's files: `h.op` says that `op` keeps what `h` says is
kept. -/

namespace Sys2Proof.Machine

/-- What a command keeps of a state `r`: the state that it answers is `Kept`. -/
structure KeptNext (r : State) (o : Host.Outcome State Fault Refusal) : Prop where
  of : ∀ t, o = .next t → Kept r t

/-- What every step keeps: as `Kept`, but that entry to BOOT brings the knots to 0 (R257). -/
structure Preserved (r t : State) : Prop where
  pending : t.pending = r.pending
  variant : t.part.variant = r.part.variant
  uid : t.part.uid = r.part.uid
  mem : Memory.wf r.mem = true → Memory.wf t.mem = true
  knots : sparseWf (fun _ => (0 : W64)) r.knots = true → sparseWf (fun _ => (0 : W64)) t.knots = true
  queue : r.evt.queue.length ≤ 4096 → t.evt.queue.length ≤ 4096

/-- `Preserved`, of a command. -/
structure PreservedNext (r : State) (o : Host.Outcome State Fault Refusal) : Prop where
  of : ∀ t, o = .next t → Preserved r t

variable {r s : State}

theorem Kept.preserved (h : Kept r s) : Preserved r s := { h with }

theorem Preserved.kept {t : State} (h : Preserved r s) (g : Kept s t) : Preserved r t where
  pending := g.pending.trans h.pending
  variant := g.variant.trans h.variant
  uid := g.uid.trans h.uid
  mem := g.mem ∘ h.mem
  knots := g.knots ∘ h.knots
  queue := g.queue ∘ h.queue

theorem Preserved.ite {a b : State} {c : Prop} [Decidable c] (ha : Preserved r a) (hb : Preserved r b) :
    Preserved r (if c then a else b) := by
  split
  · exact ha
  · exact hb

theorem KeptNext.next (h : Kept r s) : KeptNext r (.next s) := ⟨fun _ e => Host.Outcome.next.inj e ▸ h⟩

theorem KeptNext.preserved {o : Host.Outcome State Fault Refusal} (h : KeptNext r o) : PreservedNext r o :=
  ⟨fun t e => (h.of t e).preserved⟩

theorem PreservedNext.next (h : Preserved r s) : PreservedNext r (.next s) := ⟨fun _ e => Host.Outcome.next.inj e ▸ h⟩

/-- An intermediate state with a name. -/
theorem Kept.bound {x : State} {f : State → State} (hx : Kept r x) (hf : ∀ y, Kept r y → Kept r (f y)) :
    Kept r (let y := x; f y) := hf x hx

/-! ### The primitives that are left -/

theorem Kept.wr (h : Kept r s) {k : Nat} {v : W64} : Kept r (s.wr k v) := h.update rfl

theorem Kept.set (h : Kept r s) {f : Field} {v : Nat} : Kept r (s.set f v) := h.wr

theorem Kept.freeBytes (h : Kept r s) {n : Nat} : Kept r (s.freeBytes n).2 := h.update rfl

/-! ### Machine/Cache.lean -/

theorem Kept.touchCache (h : Kept r s) {a n : Nat} {write bypass : Bool} : Kept r (s.touchCache a n write bypass) :=
  Kept.ite h (h.foldl _ fun _ _ ht => ht.update rfl)

theorem Kept.dropLine (h : Kept r s) {a : Nat} : Kept r (s.dropLine a) := by
  unfold State.dropLine
  extract_lets key c
  split
  · exact h.update rfl
  · exact h

/-! ### Machine/Ops.lean -/

theorem Kept.setFlag (h : Kept r s) {f : Field} {b : Bool} : Kept r (s.setFlag f b) := h.set

theorem Kept.bump (h : Kept r s) {f : Field} {n : Nat} : Kept r (s.bump f n) := h.set

theorem Kept.emit (h : Kept r s) {o : Out} : Kept r (s.emit o) := h.update rfl

theorem Kept.storeBy (h : Kept r s) {bypass : Bool} {a : Nat} {bs : List Byte} : Kept r (s.storeBy bypass a bs) :=
  (State.writeBytes_kept h.touchCache _ _).update rfl

theorem Kept.store (h : Kept r s) {a : Nat} {bs : List Byte} : Kept r (s.store a bs) := h.storeBy

theorem Kept.markBad (h : Kept r s) {a : Nat} : Kept r (s.markBad a) := Kept.ite h (h.update rfl)

theorem Kept.raiseAlert (h : Kept r s) {bit : Nat} : Kept r (s.raiseAlert bit) :=
  (h.update rfl).bound fun _ hs' => Kept.ite hs'.emit hs'

theorem Kept.clearAlert (h : Kept r s) {mask : BitVec 7} : Kept r (s.clearAlert mask) :=
  (h.update rfl).bound fun _ hs' => Kept.ite hs'.emit hs'

theorem Kept.assertFaultPin (h : Kept r s) : Kept r s.assertFaultPin := (h.update rfl).emit

theorem Kept.post (h : Kept r s) {e : EventKind} {args : List Nat} : Kept r (s.post e args) := by
  unfold State.post
  extract_lets s1
  have hs1 : Kept r s1 := State.queueRecord_kept h _ _
  split
  · exact hs1
  · exact hs1.raiseAlert

theorem Kept.enter (h : Kept r s) {d : DevState} {cause : Nat} : Kept r (s.enter d cause) :=
  (h.update rfl).set.set.post.bound fun _ hs1 => Kept.bound (Kept.ite hs1.raiseAlert.assertFaultPin hs1) fun _ hs2 =>
    Kept.ite (hs2.update rfl).emit hs2

/-! ### Machine/Interface.lean -/

theorem Kept.signalVector (h : Kept r s) {v : Nat} : Kept r (s.signalVector v) := Kept.ite h.wr h.emit

theorem Kept.setMailbox (h : Kept r s) {m : Nat} {b : Mailbox} : Kept r (s.setMailbox m b) := h.update rfl

theorem Kept.mailboxError (h : Kept r s) {m cause : Nat} : Kept r (s.mailboxError m cause) :=
  Kept.ite h h.set.set.post

theorem Kept.writeMailboxCfg (h : Kept r s) {m : Nat} {v : W64} : Kept r (s.writeMailboxCfg m v) := by
  unfold State.writeMailboxCfg
  extract_lets was key s1 s2 _ s3 sq cq
  have hs1 : Kept r s1 := h.wr
  have hs2 : Kept r s2 := hs1.set.set
  have hs3 : Kept r s3 := hs2.setMailbox
  exact Kept.ite (Kept.ite hs3.mailboxError hs3) hs1

theorem Kept.writeDoorbell (h : Kept r s) {m tail : Nat} : Kept r (s.writeDoorbell m tail) :=
  Kept.ite h.set h.set.mailboxError

theorem Kept.writeCqHead (h : Kept r s) {m head : Nat} : Kept r (s.writeCqHead m head) :=
  Kept.ite h.set h.set.mailboxError

theorem Kept.clearMailboxError (h : Kept r s) {m : Nat} : Kept r (s.clearMailboxError m) := h.set.set

theorem Kept.complete (h : Kept r s) {m : Nat} {tag : W16} {status : Nat} {results : List W64} :
    Kept r (s.complete m tag status results) :=
  h.setMailbox.set

theorem Kept.startRunning (h : Kept r s) {m opcode : Nat} {tag : W16} : Kept r (s.startRunning m opcode tag) :=
  h.setMailbox.set

theorem Kept.writeCompletion (h : Kept r s) {m : Nat} {c : Completion} : Kept r (s.writeCompletion m c) :=
  h.emit.set.bound fun _ hs2 => (Kept.bump (Kept.ite hs2.setMailbox hs2)).bound fun _ hs4 => Kept.ite hs4.signalVector
    hs4

theorem Kept.deliverCompletion (h : Kept r s) {m : Nat} {failed : Bool} : Kept r (s.deliverCompletion m failed) := by
  unfold State.deliverCompletion
  split
  · exact h
  · exact Kept.ite (Kept.ite h.mailboxError h.setMailbox.writeCompletion) h

theorem Kept.signalRing (h : Kept r s) : Kept r s.signalRing := h.signalVector.update rfl

theorem Kept.oweSignal (h : Kept r s) {fatal : Bool} : Kept r (s.oweSignal fatal) :=
  Kept.ite h.signalRing (h.update rfl)

theorem Kept.interruptEnabled (h : Kept r s) : Kept r s.interruptEnabled :=
  Kept.ite (Kept.ite (h.update rfl) (Kept.ite h h.signalRing)) h

theorem Kept.writeRingCfg (h : Kept r s) {v : W64} : Kept r (s.writeRingCfg v) := by
  unfold State.writeRingCfg
  extract_lets wasOn wasInt s1 s3 _ s4 d s2
  have hs1 : Kept r s1 := h.wr
  have hs3 : Kept r s3 := hs1.set
  have hs4 : Kept r s4 := hs3.update rfl
  have hs2 : Kept r s2 := Kept.ite (Kept.ite hs4.set hs4) hs1
  exact Kept.ite hs2.interruptEnabled hs2

theorem Kept.writeRingHead (h : Kept r s) {head : Nat} : Kept r (s.writeRingHead head) := Kept.ite h.set h.set.set

theorem Kept.reportLost (h : Kept r s) : Kept r s.reportLost := by
  unfold State.reportLost
  split
  · exact h
  · refine Kept.post ?_
    exact h.update rfl

/-- The one operation that takes a record off the queue. -/
theorem Kept.deliverRecord (h : Kept r s) {failed : Bool} : Kept r (s.deliverRecord failed) := by
  unfold State.deliverRecord
  split
  · exact h
  · next rec rest hq =>
    have htail : s.evt.queue.length ≤ 4096 → rest.length ≤ 4096 := by
      rw [hq, List.length_cons]; omega
    extract_lets tail next base s1 s2 _ s3
    have hs2 : Kept r s2 := h.emit.set
    have hs3 : Kept r s3 := { hs2 with queue := fun hr => htail (h.queue hr) }
    exact Kept.ite (Kept.ite h.set hs3.oweSignal.reportLost) h

theorem Kept.holdoffEnds (h : Kept r s) : Kept r s.holdoffEnds := by
  unfold State.holdoffEnds
  extract_lets _ s1
  have hs1 : Kept r s1 := h.update rfl
  exact Kept.ite hs1.signalRing hs1

theorem Kept.finish (h : Kept r s) {c : Cmd} {st : Status} {results : List W64} : Kept r (s.finish c st results) :=
  h.complete

theorem Kept.command (h : Kept r s) {c : Cmd} {st : Status} {effect : State → State}
    (heffect : ∀ t, Kept r t → Kept r (effect t)) : Kept r (s.command c st effect) := by
  unfold State.command
  split
  · exact h
  · split
    · exact h.finish
    · split
      · exact heffect _ h
      · exact h.finish

/-- A command whose effect enters BOOT. -/
theorem Kept.commandBoot (h : Kept r s) {c : Cmd} {st : Status} {effect : State → State} (he :
    Preserved r (effect s)) : Preserved r (s.command c st effect) := by
  unfold State.command
  split
  · exact h.preserved
  · split
    · exact h.finish.preserved
    · split
      · exact he
      · exact h.finish.preserved

theorem Kept.writeBuffer (h : Kept r s) {a : W64} {bs : List Byte} : Kept r (s.writeBuffer a bs) :=
  Kept.ite h.emit h.store

/-! ### Machine/Units.lean -/

theorem Kept.setUnitState (h : Kept r s) {u v : Nat} : Kept r (s.setUnitState u v) := h.set

theorem Kept.recordRetired (h : Kept r s) {u : Nat} : Kept r (s.recordRetired u) :=
  Kept.ite h (h.setUnitState.update rfl)

/-! ### Machine/Helm.lean -/

theorem Kept.setRegion (h : Kept r s) {sel : Nat} {x : Region} : Kept r (s.setRegion sel x) := h.update rfl

theorem Kept.computeCap (h : Kept r s) : Kept r s.computeCap := h.set.set.setFlag.setFlag.set.set

theorem Kept.checkFloor (h : Kept r s) : Kept r s.checkFloor :=
  h.setFlag.bound fun _ hs1 => Kept.ite (Kept.ite hs1 (hs1.update rfl).post) (Kept.ite (hs1.update rfl) hs1)

theorem Kept.writeCap (h : Kept r s) {v : W64} : Kept r (s.writeCap v) := Kept.ite h.wr.computeCap.checkFloor h.wr

theorem Kept.applyBubbles (h : Kept r s) {i : Nat} : Kept r (s.applyBubbles i) := h.set.bump.update rfl

theorem Kept.takeInput (h : Kept r s) {vin iin vbank : W16} : Kept r (s.takeInput vin iin vbank) :=
  h.set.set.set.bound fun _ hs1 => Kept.bound (Kept.ite hs1.set hs1) fun _ hs2 => Kept.ite (hs2.set.set.update rfl)
    hs2

theorem Kept.takeCurrent (h : Kept r s) {sel : Nat} {current : W16} : Kept r (s.takeCurrent sel current) :=
  Kept.ite (Kept.ite h.set.setRegion h.set) h

theorem Kept.fastLoop (h : Kept r s) {f : FastSample} : Kept r (s.fastLoop f) := by
  unfold State.fastLoop
  extract_lets s1 s2 s3 p excess b s4
  have hs1 : Kept r s1 := h.takeInput
  have hs2 : Kept r s2 := hs1.foldl _ fun _ _ ht => ht.takeCurrent
  have hs3 : Kept r s3 := hs2.computeCap.checkFloor
  have hs4 : Kept r s4 := hs3.set
  exact Kept.ite (hs4.foldl _ fun _ _ ht => ht.applyBubbles) hs2

theorem Kept.coreActivity (h : Kept r s) {p : Nat} {c : CoreSample} : Kept r (s.coreActivity p c) := h.bump.update rfl

theorem Kept.takeSensor (h : Kept r s) {i : Nat} {sel : SensorReading} : Kept r (s.takeSensor i sel) := by
  unfold State.takeSensor
  split
  · exact h.set.set.set.set
  · extract_lets ok s1 _
    have hs1 : Kept r s1 := h.set.setFlag.setFlag.set
    exact Kept.ite (hs1.update rfl) hs1

theorem Kept.checkLostSpots (h : Kept r s) : Kept r s.checkLostSpots :=
  ((h.foldl _ fun _ _ ht => ht.post).update rfl).setFlag

theorem Kept.showHottest (h : Kept r s) : Kept r s.showHottest := by
  unfold State.showHottest
  split
  · exact h
  · exact h.set.set

theorem Kept.coolantLimits (h : Kept r s) : Kept r s.coolantLimits := by
  unfold State.coolantLimits
  extract_lets ceiling _
  split
  · exact h.update rfl
  · exact h.update rfl

theorem Kept.flowEvents (h : Kept r s) {flow : Nat} : Kept r (s.flowEvents flow) :=
  h.setFlag.setFlag.bound fun _ hs1 => Kept.bound (Kept.ite (hs1.update rfl).post (Kept.ite (hs1.update rfl) hs1)) fun
    _ hs2 => Kept.ite (hs2.update rfl).post (Kept.ite (hs2.update rfl) hs2)

theorem Kept.inletEvents (h : Kept r s) {inlet : Int} : Kept r (s.inletEvents inlet) :=
  h.setFlag.bound fun _ hs1 => Kept.bound (Kept.ite (hs1.update rfl).post (Kept.ite (hs1.update rfl) hs1)) fun _ hs2
    => Kept.ite (hs2.update rfl).post (Kept.ite (hs2.update rfl) hs2)

theorem Kept.targetFloor (h : Kept r s) : Kept r s.targetFloor := h.update rfl

theorem Kept.coolantStop (h : Kept r s) {criterion : Nat} : Kept r (s.coolantStop criterion) := by
  unfold State.coolantStop
  split
  · exact h
  · extract_lets s1 s2
    have hs1 : Kept r s1 := h.set.set
    have hs2 : Kept r s2 := hs1.targetFloor.set.post
    exact Kept.ite hs2.computeCap hs2

theorem Kept.takeCoolant (h : Kept r s) {c : Coolant} {seq : Byte} : Kept r (s.takeCoolant c seq) := by
  unfold State.takeCoolant
  extract_lets s1 _ s2 low _ s3 s4
  have hs1 : Kept r s1 := h.set.set.set
  have hs2 : Kept r s2 := hs1.update rfl
  have hs3 : Kept r s3 := hs2.update rfl
  have hs4 : Kept r s4 := hs3.set
  split
  · exact hs2
  · split
    · exact hs4.coolantStop
    · exact hs4

theorem Kept.raiseThermalBubble (h : Kept r s) {i : Nat} : Kept r (s.raiseThermalBubble i) := h.set

theorem Kept.throttleEvent (h : Kept r s) {i : Nat} : Kept r (s.throttleEvent i) := Kept.ite h (h.update rfl).post

theorem Kept.thermalCluster (h : Kept r s) {p i : Nat} : Kept r (s.thermalCluster p i) :=
  Kept.bound (Kept.ite (Kept.ite h.set.raiseThermalBubble (Kept.ite h.set.set h.set)) (Kept.ite (Kept.ite
    h.set.set.throttleEvent h.set) (Kept.ite h.set.set h.set))) fun _ hs1 => Kept.ite hs1.raiseThermalBubble hs1

theorem Kept.setTargets (h : Kept r s) {p : Nat} : Kept r (s.setTargets p) := h.update rfl

theorem Kept.applyMargin (h : Kept r s) {i : Nat} : Kept r (s.applyMargin i) := Kept.ite h.set.setFlag h

theorem Kept.applyMargins (h : Kept r s) : Kept r s.applyMargins := (h.foldl _ fun _ _ ht => ht.applyMargin).set

theorem Kept.switchCapping (h : Kept r s) : Kept r s.switchCapping := Kept.ite h.set.set h

theorem Kept.slowLoop (h : Kept r s) {x : SlowSample} : Kept r (s.slowLoop x) := by
  unfold State.slowLoop
  extract_lets s1 s2 boost top old fixed p s3 s4 s5 s6
  have hs1 : Kept r s1 := h.switchCapping.applyMargins.checkLostSpots.showHottest.coolantLimits
  have hs2 : Kept r s2 := by
    unfold s2
    split
    · exact hs1
    · exact hs1.flowEvents.inletEvents
  have hs3 : Kept r s3 := hs2.foldl _ fun _ _ ht => ht.thermalCluster
  have hs4 : Kept r s4 := hs3.set.set.setFlag
  have hs5 : Kept r s5 := Kept.ite hs4 hs4.bump
  have hs6 : Kept r s6 := hs5.set.set
  exact hs6.setTargets.computeCap

theorem Kept.moveSetpoint (h : Kept r s) {i : Nat} : Kept r (s.moveSetpoint i) := Kept.ite h.set h

theorem Kept.changeEclk (h : Kept r s) {i : Nat} : Kept r (s.changeEclk i) := Kept.ite h.set h

theorem Kept.trackRatio (h : Kept r s) {k : Nat} : Kept r (s.trackRatio k) :=
  Kept.ite (Kept.ite (h.update rfl).post (h.update rfl)) (h.update rfl)

theorem Kept.reckon (h : Kept r s) {x : ReckonSample} : Kept r (s.reckon x) :=
  (h.update rfl).trackRatio.set.set.update rfl

theorem Kept.stepEnergyUpdate (h : Kept r s) {step : Nat} {twoRoles : Bool} :
    Kept r (s.stepEnergyUpdate step twoRoles) :=
  (h.set.set.set.set.set.foldl _ fun _ _ ht => ht.set).set.set.set.setFlag.update rfl

theorem Kept.stepEnergyBegin (h : Kept r s) : Kept r s.stepEnergyBegin := h.update rfl

/-! ### Machine/Mesh.lean -/

theorem Kept.launch (h : Kept r s) {sel : RoleSel} {x : Sender} {u : UnitAddr} {m : W64} :
    Kept r (s.launch sel x u m) :=
  h.update rfl

theorem Kept.tick (h : Kept r s) : Kept r s.tick := Kept.ite h (h.update rfl)

/-! ### Machine/Chart.lean -/

theorem Kept.setEntry (h : Kept r s) {i : Nat} {e : ChartEntry} : Kept r (s.setEntry i e) := h.update rfl

theorem Kept.mapEntry (h : Kept r s) {i : Nat} {f : ChartEntry → ChartEntry} : Kept r (s.mapEntry i f) := h.setEntry

theorem Kept.mapEntries (h : Kept r s) {f : Nat → ChartEntry → ChartEntry} : Kept r (s.mapEntries f) :=
  h.foldl _ fun _ _ ht => ht.mapEntry

theorem Kept.startMove (h : Kept r s) {i : Nat} : Kept r (s.startMove i) := by
  unfold State.startMove
  extract_lets e
  split
  · exact h
  · exact Kept.ite h.setEntry (Kept.ite (h.setEntry.update rfl) h)

theorem Kept.endMove (h : Kept r s) {i : Nat} : Kept r (s.endMove i) := by
  unfold State.endMove
  extract_lets e
  split
  · exact Kept.ite (h.store.setEntry.update rfl) h
  · exact h

theorem Kept.endMoves (h : Kept r s) : Kept r s.endMoves := h.foldl _ fun _ _ ht => ht.endMove

theorem Kept.setMark (h : Kept r s) {j v : Nat} : Kept r (s.setMark j v) := State.writeByte_kept h _ _

theorem Kept.addEntry (h : Kept r s) {e : ChartEntry} : Kept r (s.addEntry e) := h.setEntry

theorem KeptIf.placeRange {o : Option State} (h : KeptIf r o) {t : Tensor} {away : Bool} {sel : TileRange} :
    KeptIf r (State.placeRange t away o sel) :=
  KeptIf.bind h fun _ ht => KeptIf.ite (KeptIf.some ht.addEntry) (KeptIf.mapValue fun _ => ht.addEntry)

theorem KeptIf.placeTensor {o : Option State} (h : KeptIf r o) {away : Bool} {peer : Nat} {t : Tensor} :
    KeptIf r (State.placeTensor away peer o t) :=
  KeptIf.bind h fun _ ht => KeptIf.ite (KeptIf.ite KeptIf.none (KeptIf.foldl _ (KeptIf.some ht) fun _ _ hq =>
    KeptIf.map hq fun _ ht' => ht'.addEntry)) (KeptIf.foldl _ (KeptIf.some ht) fun _ _ hq => hq.placeRange)

theorem KeptIf.placeByTable {o : Option State} (h : KeptIf r o) {homes : List ChartEntry} {away : Bool} {t : Tensor} :
    KeptIf r (State.placeByTable homes away o t) :=
  KeptIf.bind h fun _ ht => KeptIf.ite KeptIf.none (KeptIf.foldl _ (KeptIf.some ht) fun _ _ hq => KeptIf.bind hq fun _
    ht' => KeptIf.ite (KeptIf.some ht'.addEntry) (KeptIf.ite (KeptIf.some ht'.addEntry) KeptIf.none))

theorem KeptIf.placeTable {o : Option State} (h : KeptIf r o) {t : Tensor} : KeptIf r (State.placeTable t o) :=
  KeptIf.bind h fun _ ht => KeptIf.bindValue fun _ => KeptIf.foldl _ (KeptIf.some ht) fun _ _ hq => hq.placeRange

theorem Kept.placeMarks (h : Kept r s) : KeptIf r s.placeMarks :=
  KeptIf.bindValue fun _ => KeptIf.mapValue fun _ => h.set.store.update rfl

/-- A placement that succeeds. -/
theorem Kept.place (h : Kept r s) {p : Passage} {homes : Option (List ChartEntry)} {x : State × List (Nat × Nat)}
    (hx : s.place p homes = .ok x) : Kept r x.1 := by
  unfold State.place at hx
  extract_lets sorted image seed home noRoom placeTables stray at hx
  have htables : ∀ {o}, KeptIf r o → KeptIf r (placeTables o) := fun ho =>
    KeptIf.foldl _ ho fun _ _ hq => hq.placeTable
  have hhome : ∀ away t {o}, KeptIf r o → KeptIf r (home away o t) := by
    intro away t o ho
    unfold home
    split
    · exact ho.placeByTable
    · exact ho.placeTensor
  split at hx
  · cases hx
  · split at hx
    · cases hx
    · split at hx
      · cases hx
      · split at hx
        · cases hx
        · split at hx
          · cases hx
          · split at hx
            · cases hx
            · next all hall =>
              split at hx
              · cases hx
              · next s2 hs2 =>
                split at hx
                · obtain rfl := Except.ok.inj hx
                  have hkept : Kept r all := Kept.ofSome hall (KeptIf.foldl _ (KeptIf.some h) fun _ _ hq => hhome _ _ hq)
                  exact Kept.ofSome hs2 (KeptIf.bind (htables (KeptIf.some hkept)) fun _ ht => ht.placeMarks)
                · cases hx

/-! ### Machine/Flags.lean -/

theorem Kept.postFlags (h : Kept r s) {core u rose : Nat} : Kept r (s.postFlags core u rose) :=
  h.foldl _ fun _ _ ht => Kept.ite ht.post ht

theorem Kept.captureFault (h : Kept r s) {i tensor tile element cause step : Nat} :
    Kept r (s.captureFault i tensor tile element cause step) :=
  Kept.ite h h.set.set.set.set.set.set.set

theorem Kept.raiseFlags (h : Kept r s) {core u : Nat} {f : Flags} {tensor tile element step : Nat} :
    Kept r (s.raiseFlags core u f tensor tile element step) := by
  unfold State.raiseFlags
  extract_lets i key old new s1
  have hs1 : Kept r s1 := h.wr.postFlags
  exact Kept.ite h (Kept.ite hs1.captureFault hs1)

theorem Kept.raiseTileFlags (h : Kept r s) {core u : Nat} {fs : List (Nat × Flags)} {tensor tile step : Nat} :
    Kept r (s.raiseTileFlags core u fs tensor tile step) :=
  h.foldl _ fun _ _ ht => ht.raiseFlags

theorem Kept.emptyRecord (h : Kept r s) {i : Nat} : Kept r (s.emptyRecord i) := h.wr.wr.wr

theorem Kept.probeResult (h : Kept r s) : Kept r s.probeResult := h.set.set

theorem Kept.emptyRecords (h : Kept r s) : Kept r s.emptyRecords := h.foldl _ fun _ _ ht => ht.emptyRecord

theorem Kept.clearAllFlags (h : Kept r s) {mask : Nat} : Kept r (s.clearAllFlags mask) := h.foldl _ fun _ _ ht => ht.wr

theorem Kept.writeProbe (h : Kept r s) {probe : Probe} {value : W64} : Kept r (s.writeProbe probe value) := by
  unfold State.writeProbe
  refine Kept.probeResult ?_
  split
  · exact h.wr
  · exact h.wr
  · exact h.wr

/-! ### Machine/Roles.lean -/

theorem Kept.mapRole (h : Kept r s) {f : Role → Role} : Kept r (s.mapRole f) := h.update rfl

theorem Kept.swapRoles (h : Kept r s) : Kept r s.swapRoles := by
  unfold State.swapRoles
  split
  · exact h
  · exact h.update rfl

theorem Kept.asRole (h : Kept r s) {sel : RoleSel} {f : State → State} (hf : ∀ t, Kept r t → Kept r (f t)) :
    Kept r (State.asRole sel f s) := by
  unfold State.asRole
  split
  · exact hf _ h
  · exact Kept.ite (hf _ h.swapRoles).swapRoles h

theorem Kept.asOwn (h : Kept r s) {f : State → State} (hf : ∀ t, Kept r t → Kept r (f t)) : Kept r (State.asOwn f s) :=
  Kept.ite (hf _ h.swapRoles).swapRoles (hf _ h)

theorem Kept.setOwn (h : Kept r s) {f : Field} {v : Nat} : Kept r (s.setOwn f v) := Kept.ite h h.set

theorem Kept.mapLeg (h : Kept r s) {i : Nat} {f : LegRun → LegRun} : Kept r (s.mapLeg i f) := h.mapRole

theorem Kept.mapStream (h : Kept r s) {i slot : Nat} {f : StreamRun → StreamRun} : Kept r (s.mapStream i slot f) :=
  h.mapLeg

theorem Kept.settleKnots (h : Kept r s) : Kept r s.settleKnots :=
  h.foldl _ fun _ _ ht => Kept.ite (State.advance_kept ht _ _) ht

theorem Kept.reportOverruns (h : Kept r s) : Kept r s.reportOverruns := h.foldl _ fun _ _ ht => Kept.ite ht.bump.post ht

theorem Kept.sendControl (h : Kept r s) {x : Sender} {core : Nat} {e : Engine} {m : W64} :
    Kept r (s.sendControl x core e m) :=
  h.launch

theorem Kept.takeControl (h : Kept r s) {u : UnitAddr} {m : W64} {f : State → State}
    (hf : ∀ t, Kept r t → Kept r (f t)) : Kept r (s.takeControl u m f) := by
  unfold State.takeControl
  split
  · exact hf _ (h.update rfl)
  · exact h

theorem Kept.countMessage (h : Kept r s) {u : UnitAddr} {m : W64} {credit : Bool} :
    Kept r (s.countMessage u m credit) := by
  unfold State.countMessage
  split
  · exact Kept.ite h.mapStream h.mapRole
  · exact h

theorem Kept.passHeld (h : Kept r s) : Kept r s.passHeld := by
  unfold State.passHeld
  refine h.foldl _ fun t x ht => ?_
  extract_lets m
  split
  · exact Kept.ite ht.mapRole.mapStream ht
  · exact ht

theorem Kept.setCredit (h : Kept r s) {owner : Nat} {q : UnitQueue} {n : Nat} : Kept r (s.setCredit owner q n) :=
  h.mapRole

theorem Kept.takeCredit (h : Kept r s) {owner : Nat} {q : UnitQueue} : Kept r (s.takeCredit owner q) := h.setCredit

theorem Kept.returnCredit (h : Kept r s) {x : Sender} {core : Nat} {e : Engine} {q : UnitQueue} :
    Kept r (s.returnCredit x core e q) :=
  h.sendControl

theorem Kept.markReady (h : Kept r s) {tensor tile : Nat} : Kept r (s.markReady tensor tile) := by
  unfold State.markReady
  exact h.mapRole

theorem Kept.setPort (h : Kept r s) {p : Nat} {q : Port} : Kept r (s.setPort p q) := h.update rfl

theorem Kept.leavesStorage (h : Kept r s) {p : Packet} : Kept r (s.leavesStorage p) := by
  unfold State.leavesStorage
  split
  · exact (h.update rfl).emit
  · exact h.update rfl

theorem Kept.holdEarly (h : Kept r s) {p : Packet} : Kept r (s.holdEarly p) := by
  unfold State.holdEarly
  split
  · exact h
  · exact Kept.ite h (h.update rfl).emit

theorem Kept.sendPacket (h : Kept r s) {dest : Nat} {p : Packet} : Kept r (s.sendPacket dest p) := h.update rfl

theorem Kept.addUnacked (h : Kept r s) {dest n : Nat} : Kept r (s.addUnacked dest n) := h.update rfl

theorem Kept.sendWrites (h : Kept r s) {dest addr knot : Nat} {bs : List Byte} :
    Kept r (s.sendWrites dest addr knot bs) :=
  h.foldl _ fun _ _ ht => ht.sendPacket.addUnacked

theorem Kept.twinPacket (h : Kept r s) {p : Packet} : Kept r (s.twinPacket p) := Kept.ite h.sendPacket (h.update rfl)

theorem Kept.twinWrites (h : Kept r s) {addr knot : Nat} {bs : List Byte} : Kept r (s.twinWrites addr knot bs) :=
  h.foldl _ fun _ _ ht => ht.twinPacket.addUnacked

theorem Kept.sendSignal (h : Kept r s) {dest knot n : Nat} : Kept r (s.sendSignal dest knot n) :=
  h.sendPacket.addUnacked

theorem Kept.twinSignal (h : Kept r s) {knot n : Nat} : Kept r (s.twinSignal knot n) := h.twinPacket.addUnacked

theorem Kept.discardMark (h : Kept r s) : Kept r s.discardMark := h.mapRole

theorem Kept.discardAll (h : Kept r s) : Kept r s.discardAll := h.discardMark.update rfl

/-! ### Machine/Tokens.lean -/

theorem Kept.consumeFor (h : Kept r s) {i : Nat} {l : Leg} {only : Stream → Bool} {tile : Nat} {last : Bool} :
    Kept r (s.consumeFor i l only tile last) :=
  h.foldl _ fun _ _ ht => ht.mapStream

theorem Kept.consume (h : Kept r s) {i : Nat} : Kept r (s.consume i) := by
  unfold State.consume
  split
  · exact h
  · exact h.consumeFor

theorem Kept.freeSlots (h : Kept r s) {i slot upTo : Nat} : Kept r (s.freeSlots i slot upTo) := by
  unfold State.freeSlots
  split
  · exact h
  · split
    · exact h
    · exact h.mapStream.foldl _ fun _ _ ht => ht.sendControl

theorem Kept.returnFor (h : Kept r s) {i : Nat} {l : Leg} {only : Stream → Bool} {rest : List Nat} :
    Kept r (s.returnFor i l only rest) := by
  unfold State.returnFor
  split
  · refine h.foldl _ fun t x ht => ?_
    split
    · exact ht
    · exact ht.mapStream.freeSlots
  · exact h

theorem Kept.returnInputs (h : Kept r s) {i : Nat} : Kept r (s.returnInputs i) := by
  unfold State.returnInputs
  split
  · exact h
  · exact Kept.ite h.returnFor h

theorem Kept.startTile (h : Kept r s) {i : Nat} : Kept r (s.startTile i) := by
  unfold State.startTile
  split
  · exact Kept.ite h.consume.mapLeg h.mapLeg
  · exact h

theorem Kept.readThrough (h : Kept r s) {i : Nat} {only : Stream → Bool} {tile : Nat} {last : Bool} :
    Kept r (s.readThrough i only tile last) := by
  unfold State.readThrough
  split
  · exact h
  · split
    · refine h.foldl _ fun t x ht => ?_
      split
      · exact ht
      · exact Kept.ite ht.mapStream.freeSlots ht
    · exact h

theorem Kept.readOn (h : Kept r s) {i : Nat} : Kept r (s.readOn i) := by
  unfold State.readOn
  split
  · exact Kept.ite h.readThrough h
  · exact h

theorem Kept.readOnAll (h : Kept r s) {core : Nat} {e : Engine} {ok : Leg → Bool} : Kept r (s.readOnAll core e ok) :=
  h.foldl _ fun _ _ ht => ht.readOn

/-! ### Machine/Product.lean -/

theorem Kept.raiseWidened (h : Kept r s) {core : Nat} {fs : List (Nat × Nat × Nat × Flags)} :
    Kept r (s.raiseWidened core fs) :=
  h.foldl _ fun _ _ ht => ht.raiseTileFlags

theorem Kept.makeCopy (h : Kept r s) {core i : Nat} {t : Tensor} {along turned : Bool} :
    Kept r (s.makeCopy core i t along turned) :=
  Kept.ite h h.mapRole.raiseWidened

theorem Kept.makeCopies (h : Kept r s) {core i : Nat} {l : Leg} : Kept r (s.makeCopies core i l) := by
  unfold State.makeCopies
  split
  · exact h.makeCopy.makeCopy
  · exact h

/-! ### Machine/Convert.lean -/

theorem Kept.raiseConverted (h : Kept r s) {core u : Nat} {t : Tensor} {tile : Nat} {fs : List (Nat × Flags)} :
    Kept r (s.raiseConverted core u t tile fs) :=
  h.raiseTileFlags

theorem Kept.putTile (h : Kept r s) {leg : Nat} {t : Tensor} {tile : Nat} {c : Converted} :
    Kept r (s.putTile leg t tile c) := by
  unfold State.putTile
  exact h.mapRole

theorem Kept.raiseTensorRung (h : Kept r s) {id : Nat} : Kept r (s.raiseTensorRung id) := by
  unfold State.raiseTensorRung
  exact h.mapRole

theorem Kept.countOutliers (h : Kept r s) {t : Tensor} {c : Converted} : Kept r (s.countOutliers t c) :=
  h.bump.bump.bound fun _ hs1 => Kept.ite hs1.bump.raiseTensorRung.post hs1

/-! ### Machine/Precision.lean -/

theorem Kept.showSight (h : Kept r s) : Kept r s.showSight := h.setOwn

theorem Kept.tryRelease (h : Kept r s) {tensor tile : Nat} : Kept r (s.tryRelease tensor tile) := by
  unfold State.tryRelease
  extract_lets held
  split
  · exact Kept.ite h h.sendControl
  · exact h

theorem Kept.closeVerdict (h : Kept r s) {tensor tile : Nat} {drift sight : Bool} :
    Kept r (s.closeVerdict tensor tile drift sight) :=
  h.mapRole.tryRelease

theorem Kept.closeLayer (h : Kept r s) {tensor : Nat} : Kept r (s.closeLayer tensor) :=
  h.foldl _ fun _ _ ht => ht.closeVerdict

theorem Kept.closeAll (h : Kept r s) : Kept r s.closeAll := h.foldl _ fun _ _ ht => ht.closeVerdict

theorem Kept.holdTokens (h : Kept r s) {t : Tensor} {tile : Nat} {sight : Bool} : Kept r (s.holdTokens t tile sight) :=
  Kept.ite h.mapRole h

theorem Kept.releaseTokens (h : Kept r s) {u : UnitAddr} {m : W64} : Kept r (s.releaseTokens u m) := by
  unfold State.releaseTokens
  split
  · exact h
  · exact h.foldl _ fun _ _ ht => Kept.ite ht.mapRole.markReady ht

theorem Kept.startStorm (h : Kept r s) {tensor : Nat} : Kept r (s.startStorm tensor) := h.mapRole.setOwn.closeAll

theorem Kept.countRepeats (h : Kept r s) {tensor n : Nat} : Kept r (s.countRepeats tensor n) :=
  h.mapRole.setOwn.bound fun _ hs2 => Kept.ite hs2 (Kept.ite (Kept.ite hs2 hs2.mapRole.post) hs2.startStorm)

theorem Kept.ladderTop (h : Kept r s) {tensor : Nat} : Kept r (s.ladderTop tensor) :=
  Kept.ite h.bump h.bump.mapRole.post

theorem Kept.fallbackRequest (h : Kept r s) {tensor : Nat} : Kept r (s.fallbackRequest tensor) :=
  Kept.ite h h.mapRole.post

theorem Kept.storeAt (h : Kept r s) {a : Nat} {bs : List Byte} : Kept r (s.storeAt a bs) := Kept.ite h.emit h.store

theorem Kept.writeRecord (h : Kept r s) {p : Passage} {id : Nat} {o : SndOpen} : Kept r (s.writeRecord p id o) :=
  h.storeAt

theorem Kept.mapSnd (h : Kept r s) {t : Tensor} {f : SndOpen → SndOpen} : Kept r (s.mapSnd t f) := by
  unfold State.mapSnd
  split
  · exact h
  · exact h.mapRole

theorem Kept.refreshRecord (h : Kept r s) {id : Nat} : Kept r (s.refreshRecord id) := by
  unfold State.refreshRecord
  split
  · exact Kept.ite h.writeRecord h
  · exact h

theorem Kept.addTrigger (h : Kept r s) {tensor tile rung : Nat} {elsewhere : Bool} :
    Kept r (s.addTrigger tensor tile rung elsewhere) :=
  h.mapRole

theorem Kept.askRepeats (h : Kept r s) {t : Tensor} {tiles : List Nat} {elsewhere : Bool} {step : Nat} :
    Kept r (s.askRepeats t tiles elsewhere step) :=
  (h.foldl _ fun _ _ ht => ht.addTrigger).mapSnd.countRepeats

theorem Kept.driftTrigger (h : Kept r s) {t : Tensor} {tiles : List Nat} : Kept r (s.driftTrigger t tiles) := by
  unfold State.driftTrigger
  extract_lets s1 own climb s2
  have hs1 : Kept r s1 := h.mapSnd.mapRole
  have hs2 : Kept r s2 := Kept.ite hs1 hs1.ladderTop
  split
  · exact Kept.fallbackRequest (Kept.ite hs1 hs1.bump)
  · exact Kept.ite hs2 (Kept.ite (hs2.foldl _ fun _ _ ht => ht.closeVerdict) hs2.askRepeats)

theorem Kept.updateHistory (h : Kept r s) : Kept r s.updateHistory := by
  unfold State.updateHistory
  extract_lets shift
  refine h.foldl _ fun t x ht => ?_
  split
  · exact ht
  · exact Kept.ite ht.mapRole ht

theorem Kept.foldPartial (h : Kept r s) {t : Tensor} {tile : Nat} {c : Partial} : Kept r (s.foldPartial t tile c) :=
  h.mapSnd

theorem Kept.judge (h : Kept r s) {t : Tensor} {tile : Nat} {c : Partial} : Kept r (s.judge t tile c) := by
  unfold State.judge
  split
  · exact h
  · split
    · exact Kept.ite h.driftTrigger h.closeVerdict
    · exact Kept.ite (Kept.ite h.driftTrigger h.closeLayer) h

theorem Kept.partialArrives (h : Kept r s) {tensor tile : Nat} : Kept r (s.partialArrives tensor tile) := by
  unfold State.partialArrives
  split
  · split
    · extract_lets s1 s2
      have hs1 : Kept r s1 := h.mapRole
      have hs2 : Kept r s2 := by
        unfold s2
        split
        · exact hs1.returnCredit
        · exact hs1
      exact hs2.foldPartial.judge.refreshRecord
    · exact h
  · exact h

theorem Kept.repeatTile (h : Kept r s) {tensor tile : Nat} : Kept r (s.repeatTile tensor tile) := by
  unfold State.repeatTile
  split
  · split
    · extract_lets core v c sight entry kept s1 wide parts cycles dma s2
      have hs1 : Kept r s1 := h.mapRole
      have hs2 : Kept r s2 := (hs1.foldl _ fun _ _ ht => Kept.raiseWidened (Kept.ite ht.makeCopies
        ht)).bump.raiseTileFlags.bump
      exact Kept.ite hs2 hs2.raiseConverted.countOutliers.putTile.holdTokens
    · exact h
  · exact h

theorem Kept.creditMessage (h : Kept r s) {u : UnitAddr} {m : W64} : Kept r (s.creditMessage u m) := by
  unfold State.creditMessage
  split
  · split
    · exact h.setCredit
    · exact h.setCredit
    · exact h
  · exact h.countMessage

/-! ### Machine/Engines.lean -/

theorem Kept.freePages (h : Kept r s) {a : AccTile} : Kept r (s.freePages a) := by
  unfold State.freePages
  split
  · exact h.returnCredit
  · exact h

theorem Kept.moveCarriage (h : Kept r s) {l : Leg} {take give : Nat} : Kept r (s.moveCarriage l take give) := by
  unfold State.moveCarriage
  split
  · exact h.mapStream
  · exact h

theorem Kept.startChunk (h : Kept r s) {core i : Nat} {l : Leg} {sel : LegRun} : Kept r (s.startChunk core i l sel) :=
  Kept.bound (Kept.ite h h.takeCredit) fun _ hs1 => (Kept.startTile (Kept.ite hs1
    hs1.moveCarriage)).mapRole.raiseWidened.raiseTileFlags

theorem Kept.countLate (h : Kept r s) {core : Nat} {x : Option (Nat × Leg × LegRun)} : Kept r (s.countLate core x) := by
  unfold State.countLate
  split
  · exact Kept.ite h.bump h
  · exact h

theorem Kept.forwardProduct (h : Kept r s) {core : Nat} : Kept r (s.forwardProduct core) := by
  unfold State.forwardProduct
  split
  · exact h
  · extract_lets next
    clear_value next
    split
    · exact Kept.ite h.startChunk h.countLate.bump.readOn
    · exact h.bump

theorem Kept.turnPattern (h : Kept r s) {core : Nat} : Kept r (s.turnPattern core) := by
  unfold State.turnPattern
  exact h.mapRole

theorem Kept.gStart (h : Kept r s) {core : Nat} {dw : Bool} : Kept r (s.gStart core dw) := by
  unfold State.gStart
  split
  · exact h.startChunk
  · exact h

theorem Kept.gChoice (h : Kept r s) {core : Nat} : Kept r (s.gChoice core) := by
  unfold State.gChoice
  split
  · exact h
  · extract_lets want s0 s1
    have hs0 : Kept r s0 := Kept.ite h.bump h
    have hs1 : Kept r s1 := hs0.gStart
    exact Kept.ite hs0.gStart.turnPattern (Kept.ite (Kept.ite hs1.bump hs1) hs0.countLate.bump.readOnAll)

theorem Kept.setAcc (h : Kept r s) {a b : AccTile} : Kept r (s.setAcc a b) := h.mapRole

theorem Kept.dropAcc (h : Kept r s) {a : AccTile} : Kept r (s.dropAcc a) := h.mapRole.freePages

theorem Kept.foldValue (h : Kept r s) {a : AccTile} {u : Nat} {v : List Nat} : Kept r (s.foldValue a u v) := by
  unfold State.foldValue
  split
  · exact h.setAcc
  · split
    · exact h.setAcc.dropAcc.bump.raiseTileFlags
    · exact h.mapRole.dropAcc.bump

theorem Kept.tryCombine (h : Kept r s) {i tile : Nat} : Kept r (s.tryCombine i tile) := by
  unfold State.tryCombine
  split
  · exact Kept.ite h h.raiseTileFlags.moveCarriage.foldValue
  · exact h

theorem Kept.issueEnd (h : Kept r s) {core : Nat} {g : Bool} : Kept r (s.issueEnd core g) := by
  unfold State.issueEnd
  split
  · exact h
  · split
    · exact h
    · exact h.bump.setAcc.returnInputs.bound fun _ hs2 => Kept.ite hs2.tryCombine hs2.mapRole.dropAcc

theorem Kept.chunkArrives (h : Kept r s) {i tile : Nat} : Kept r (s.chunkArrives i tile) := by
  unfold State.chunkArrives
  split
  · split
    · exact h
    · split
      · exact h
      · extract_lets s1
        have hs1 : Kept r s1 := h.mapRole
        split
        · exact hs1.setAcc.tryCombine
        · exact hs1.mapRole
  · exact h

theorem Kept.foldPartials (h : Kept r s) {i : Nat} : Kept r (s.foldPartials i) := by
  unfold State.foldPartials
  split
  · split
    · exact h
    · split
      · split
        · exact h
        · exact h.setAcc.startTile.mapRole.raiseTileFlags.returnInputs
      · exact h.readOn
  · exact h

theorem Kept.outMove (h : Kept r s) {i : Nat} {l : Leg} {tensor : Nat} {take : Bool} :
    Kept r (s.outMove i l tensor take) := by
  unfold State.outMove
  split
  · exact h
  · exact h.mapStream

theorem Kept.convertEntry (h : Kept r s) {p : Passage} {i : Nat} {l : Leg} {t : Tensor} {tile : Nat} {a : AccTile} :
    Kept r (s.convertEntry p i l t tile a) :=
  h.raiseConverted.countOutliers.putTile.takeCredit.outMove.holdTokens.bound fun _ hs2 => Kept.ite hs2.setAcc
    hs2.dropAcc

theorem Kept.tileConvert (h : Kept r s) {i tile : Nat} : Kept r (s.tileConvert i tile) := by
  unfold State.tileConvert
  split
  · split
    · exact Kept.ite h.convertEntry h
    · exact h
  · exact h

theorem Kept.showAway (h : Kept r s) : Kept r s.showAway := Kept.ite h h.set.set.set

theorem Kept.unhomeEntries (h : Kept r s) {ids : List Nat} : Kept r (s.unhomeEntries ids) :=
  (h.foldl _ fun _ _ ht => ht.mapEntry).update rfl

theorem Kept.freeSaved (h : Kept r s) : Kept r s.freeSaved := Kept.ite h h.unhomeEntries

theorem Kept.giveHome (h : Kept r s) {i : Nat} : KeptIf r (s.giveHome i) := by
  unfold State.giveHome
  extract_lets e
  split
  · split
    · exact KeptIf.some h
    · exact KeptIf.mapValue fun _ => h.setEntry.showAway
  · exact KeptIf.some h

theorem Kept.giveHomes (h : Kept r s) {ws : List TileWrite} : KeptIf r (s.giveHomes ws) := by
  unfold State.giveHomes
  refine KeptIf.foldl _ ?_ fun q x hq => ?_
  · exact KeptIf.some h
  · refine KeptIf.bind ?_ fun t ht => ?_
    · exact hq
    · split
      · exact ht.giveHome
      · exact KeptIf.some ht

theorem Kept.writeTier (h : Kept r s) {bypass : Bool} {knot tier peer a : Nat} {bs : List Byte} :
    Kept r (s.writeTier bypass knot tier peer a bs) := by
  unfold State.writeTier
  split
  · exact h.twinWrites
  · exact h.sendWrites
  · exact h.emit
  · exact h.storeBy

theorem Kept.writeHomeBy (h : Kept r s) {bypass : Bool} {knot : Nat} {w : TileWrite} :
    Kept r (s.writeHomeBy bypass knot w) := by
  unfold State.writeHomeBy
  split
  · exact h
  · exact h.writeTier

theorem Kept.writeHome (h : Kept r s) {knot : Nat} {w : TileWrite} : Kept r (s.writeHome knot w) := h.writeHomeBy

theorem Kept.copyOld (h : Kept r s) {tensor tile : Nat} : Kept r (s.copyOld tensor tile) := by
  unfold State.copyOld
  split
  · exact (h.update rfl).setMark.bump
  · exact h

theorem Kept.clearReplicas (h : Kept r s) {i : Nat} : Kept r (s.clearReplicas i) :=
  Kept.update (Kept.ite h h.mapEntry) rfl

theorem Kept.markWritten (h : Kept r s) {tensor tile rung : Nat} : Kept r (s.markWritten tensor tile rung) := by
  unfold State.markWritten
  split
  · exact h
  · exact h.setMark.setEntry

theorem Kept.legSignal (h : Kept r s) {i : Nat} {l : Leg} : Kept r (s.legSignal i l) := by
  unfold State.legSignal
  split
  · exact h
  · split
    · exact h
    · extract_lets s1
      have hs1 : Kept r s1 := h.mapLeg
      split
      · exact hs1.sendSignal
      · exact hs1.twinSignal
      · exact State.advance_kept hs1 _ _

theorem Kept.commitOut (h : Kept r s) {l : Leg} {o : OutTile} : Kept r (s.commitOut l o) := by
  unfold State.commitOut
  extract_lets s1 s2 s3 s4
  have hs1 : Kept r s1 := Kept.ite h.copyOld h
  have hs2 : Kept r s2 := by
    unfold s2
    refine hs1.foldl _ fun t x ht => ?_
    split
    · exact ht.clearReplicas.writeHomeBy
    · exact ht
  have hs3 : Kept r s3 := hs2.foldl _ fun _ _ ht => ht.markWritten
  have hs4 : Kept r s4 := hs3.markWritten.mapRole
  exact Kept.ite hs4.tryRelease (Kept.ite hs4 hs4.markReady)

theorem Kept.tileCommit (h : Kept r s) {i tile : Nat} : Kept r (s.tileCommit i tile) := by
  unfold State.tileCommit
  split
  · exact h
  · extract_lets outs
    split
    · exact h
    · split
      · exact h.bump
      · split
        · exact h
        · rename_i t het
          have ht : Kept r t := Kept.ofSome het h.giveHomes
          extract_lets s2 s2' s3
          have hs2 : Kept r s2 := ht.foldl _ fun _ _ ht' => ht'.commitOut.outMove
          have hs2' : Kept r s2' := Kept.ite hs2.mapRole hs2
          have hs3 : Kept r s3 := hs2'.bump.mapLeg
          exact Kept.ite hs3.legSignal hs3

theorem Kept.legFinish (h : Kept r s) {i : Nat} : Kept r (s.legFinish i) := by
  unfold State.legFinish
  split
  · exact h
  · exact Kept.ite h.legSignal.mapLeg.passHeld.endMoves h

theorem Kept.pilotRequest (h : Kept r s) {i slot : Nat} : Kept r (s.pilotRequest i slot) := by
  unfold State.pilotRequest
  split
  · exact h
  · split
    · split
      · extract_lets tile s1 g
        have hs1 : Kept r s1 := h.bump
        split
        · exact h
        · exact Kept.ite (Kept.ite hs1 hs1.mapRole.post) (Kept.ite h h.mapStream)
      · exact h
    · exact h

theorem Kept.readSlice (h : Kept r s) {q : StreamRun} {tensor tile : Nat} {bypass : Bool} :
    Kept r (s.readSlice q tensor tile bypass) := by
  unfold State.readSlice
  split
  · exact h
  · exact Kept.ite h.touchCache h

theorem Kept.postTokens (h : Kept r s) {core : Nat} {e : Engine} {position slot first n : Nat} {st : Stream} :
    Kept r (s.postTokens core e position slot first n st) :=
  h.foldl _ fun _ _ ht => ht.sendControl

theorem Kept.countRead (h : Kept r s) {i : Nat} : Kept r (s.countRead i) := h.update rfl

theorem Kept.pilotReply (h : Kept r s) {i slot tile : Nat} {remote : List Byte} :
    Kept r (s.pilotReply i slot tile remote) := by
  unfold State.pilotReply
  split
  · exact h
  · split
    · extract_lets asked posted core d landed now left s1 s2 s3
      have hs1 : Kept r s1 := h.mapStream.bump
      have hs2 : Kept r s2 := by
        unfold s2
        refine Kept.readSlice ?_
        split
        · exact hs1.countRead
        · exact hs1
      have hs3 : Kept r s3 := Kept.ite hs2.bump hs2
      exact Kept.ite hs3.postTokens h
    · exact h

/-! ### Machine/Vector.lean -/

theorem Kept.putValues (h : Kept r s) {leg : Nat} {l : Leg} {core u : Nat} {t : Tensor} {tile rndCode : Nat}
    {f : Fmt} {vals : List (Nat × Nat)} : Kept r (s.putValues leg l core u t tile rndCode f vals) := by
  unfold State.putValues
  extract_lets rung codes c c' s1
  have hs1 : Kept r s1 := by
    unfold s1
    split
    · exact h.mapRole
    · exact h.raiseConverted.putTile
  exact hs1.takeCredit.outMove

theorem Kept.programTile (h : Kept r s) {core i : Nat} {l : Leg} {sel : LegRun} {g : Program} :
    Kept r (s.programTile core i l sel g) :=
  (h.startTile.raiseTileFlags.foldl _ fun _ _ ht => ht.putValues).bump.returnInputs

theorem Kept.vProgram (h : Kept r s) {core : Nat} : Kept r (s.vProgram core) := by
  unfold State.vProgram
  split
  · exact h
  · split
    · split
      · exact h.programTile
      · exact h
    · exact h.readOnAll

theorem Kept.raiseRow (h : Kept r s) {core : Nat} {l : Leg} {c : Composite} {row j : Nat} {vs : List FV} :
    Kept r (s.raiseRow core l c row j vs) :=
  Kept.ite h h.raiseFlags

theorem Kept.reportChunk (h : Kept r s) {core : Nat} {c : Composite} {l : Leg} {row : Nat} :
    Kept r (s.reportChunk core c l row) :=
  Kept.ite h (Kept.ite h h.raiseRow.bump.mapRole)

theorem Kept.combineChunkRows (h : Kept r s) {i : Nat} : Kept r (s.combineChunkRows i) := by
  unfold State.combineChunkRows
  split
  · exact h
  · exact h.foldl _ fun _ _ ht => ht.raiseRow.mapRole

theorem Kept.recordLosses (h : Kept r s) {core i : Nat} {l : Leg} {c : Composite} {prev : Nat → List (List FV)}
    {rows : List Nat} {lo hi : Nat} : Kept r (s.recordLosses core i l c prev rows lo hi) :=
  h.foldl _ fun _ _ ht => Kept.ite ht.raiseRow.mapRole ht

theorem Kept.putExtra (h : Kept r s) {i : Nat} {l : Leg} {core : Nat} {t : Tensor} {vals : List FV} :
    Kept r (s.putExtra i l core t vals) :=
  h.foldl _ fun _ _ ht => ht.raiseTileFlags.putValues

theorem Kept.compositeTile (h : Kept r s) {p : Passage} {core i : Nat} {l : Leg} {sel : LegRun} {c : Composite} :
    Kept r (s.compositeTile p core i l sel c) := by
  unfold State.compositeTile
  extract_lets tile rows
  split
  · exact h
  · extract_lets mine got prev elems s1 s2 s3
    have hs1 : Kept r s1 := h.startTile.raiseTileFlags
    have hs2 : Kept r s2 := hs1.putValues.recordLosses
    have hs3 : Kept r s3 := hs2.foldl _ fun _ _ ht => ht.putExtra
    exact Kept.ite (h.foldl _ fun _ _ ht => ht.reportChunk) hs3.bump.returnInputs

theorem Kept.vComposite (h : Kept r s) {core : Nat} : Kept r (s.vComposite core) := by
  unfold State.vComposite
  split
  · exact h
  · split
    · exact h.compositeTile
    · exact h.readOnAll

theorem Kept.showLoss (h : Kept r s) : Kept r s.showLoss := by
  unfold State.showLoss
  extract_lets groups rows n sum mean f s1
  have hs1 : Kept r s1 := by
    unfold s1
    split
    · exact Kept.ite h h.raiseFlags
    · exact h
  exact hs1.setOwn.setOwn.setOwn.setOwn

/-! ### Machine/Dma.lean -/

theorem Kept.putMoved (h : Kept r s) {i : Nat} {l : Leg} {o : OutTile} : Kept r (s.putMoved i l o) := h.mapRole.outMove

theorem Kept.countShape (h : Kept r s) {l : Leg} {core : Nat} : Kept r (s.countShape l core) :=
  Kept.ite h.bump (Kept.ite h.bump h)

theorem Kept.copyTile (h : Kept r s) {i dma : Nat} : Kept r (s.copyTile i dma) := by
  unfold State.copyTile
  split
  · exact h
  · split
    · extract_lets core tile turn s1 c s3 s2
      have hs1 : Kept r s1 := h.startTile
      have hs3 : Kept r s3 := hs1.raiseConverted.countOutliers.putTile
      have hs2 : Kept r s2 := by
        unfold s2
        split
        · exact hs1.putMoved
        · split
          · exact hs1.putMoved
          · exact hs3.takeCredit.outMove
      exact Kept.ite h (Kept.ite hs2.countShape.returnInputs h.readOn)
    · exact h

theorem Kept.copyKind (h : Kept r s) {i dma kind : Nat} : Kept r (s.copyKind i dma kind) := by
  unfold State.copyKind
  split
  · exact Kept.ite h.copyTile h
  · exact h

/-! ### Machine/Update.lean -/

theorem Kept.sendTwin (h : Kept r s) {m : TwinMsg} : Kept r (s.sendTwin m) := h.emit

theorem Kept.mapUpdate (h : Kept r s) {f : UpdateRun → UpdateRun} : Kept r (s.mapUpdate f) := h.mapRole

theorem Kept.rewindGradients (h : Kept r s) {i : Nat} {l : Leg} : Kept r (s.rewindGradients i l) :=
  Kept.ite h (h.foldl _ fun _ _ ht => ht.mapStream)

theorem Kept.pass1 (h : Kept r s) {i tile : Nat} : Kept r (s.pass1 i tile) := by
  unfold State.pass1
  split
  · exact h
  · extract_lets core first rest parts sums s1 s2
    have hs1 : Kept r s1 := h.foldl _ fun _ _ ht => ht.raiseTileFlags
    have hs2 : Kept r s2 := hs1.consumeFor.mapUpdate
    exact Kept.ite h (Kept.ite hs2.setOwn.returnFor.rewindGradients h.readThrough)

theorem Kept.paramBytes (h : Kept r s) : Kept r s.paramBytes.2 := by
  unfold State.paramBytes
  split
  · exact h.freeBytes
  · exact h

theorem Kept.sendClosing (h : Kept r s) : Kept r s.sendClosing := Kept.ite h.sendTwin h

theorem Kept.readEntry (h : Kept r s) : Kept r s.readEntry := by
  unfold State.readEntry
  extract_lets r' s1
  have hr' : Kept r r'.2 := h.paramBytes
  have hs1 : Kept r s1 := hr'.setOwn
  split
  · exact hr'.mapUpdate.setOwn.sendClosing
  · exact Kept.ite hs1 hs1.mapUpdate.post

theorem Kept.skipPass2 (h : Kept r s) : Kept r s.skipPass2 := by
  unfold State.skipPass2
  split
  · exact h
  · exact h.mapRole.setOwn.setOwn.sendClosing

theorem Kept.applyClip (h : Kept r s) {clip : Nat} {proceed : Bool} : Kept r (s.applyClip clip proceed) := by
  unfold State.applyClip
  extract_lets s1 s2
  have hs1 : Kept r s1 := h.mapUpdate.setOwn
  have hs2 : Kept r s2 := hs1.setOwn.setOwn
  split
  · exact hs1.bump.post.skipPass2
  · split
    · exact Kept.ite hs2.readEntry hs2
    · exact hs2

theorem Kept.combineNorm (h : Kept r s) {sum nonfinite : Nat} : Kept r (s.combineNorm sum nonfinite) := by
  unfold State.combineNorm
  extract_lets norm s1
  have hs1 : Kept r s1 := h.mapUpdate.setOwn
  split
  · exact hs1.applyClip
  · split
    · exact hs1.applyClip
    · exact hs1.setOwn.setOwn

theorem Kept.putUpdated (h : Kept r s) {i : Nat} {l : Leg} {core : Nat} {t : Tensor} {tile rung : Nat}
    {ws : List TileWrite} {counts : Partial} : Kept r (s.putUpdated i l core t tile rung ws counts) :=
  h.mapRole.takeCredit.outMove

theorem Kept.countFrozen (h : Kept r s) {i tile : Nat} {t : Tensor} {n : Nat} : Kept r (s.countFrozen i tile t n) :=
  Kept.ite h h.mapUpdate

theorem Kept.putWeight (h : Kept r s) {i : Nat} {l : Leg} {core : Nat} {t : Tensor} {tile elems : Nat}
    {vals : List (Nat × Nat)} : Kept r (s.putWeight i l core t tile elems vals) := by
  unfold State.putWeight
  extract_lets hi slot free all counts s1
  have hs1 : Kept r s1 := h.countFrozen
  split
  · exact Kept.ite hs1.mapRole hs1.putUpdated
  · exact hs1

theorem Kept.putState (h : Kept r s) {i : Nat} {l : Leg} {core : Nat} {t : Tensor} {tile elems : Nat}
    {vals : List (Nat × Nat)} : Kept r (s.putState i l core t tile elems vals) := by
  unfold State.putState
  extract_lets marked c r' s1
  have hs1 : Kept r s1 := h.raiseConverted.putUpdated
  exact Kept.ite h.mapRole (Kept.ite h.raiseConverted.putUpdated (Kept.ite hs1.set hs1))

theorem Kept.reportMasked (h : Kept r s) {p : Passage} : Kept r (s.reportMasked p) :=
  h.foldl _ fun _ _ ht => Kept.ite ht.post ht

theorem Kept.updateTile (h : Kept r s) {p : Passage} {i : Nat} {l : Leg} {core tile : Nat} {g : Program}
    {entry : List Nat} : Kept r (s.updateTile p i l core tile g entry) := by
  unfold State.updateTile
  extract_lets u outs elems here again froze s1 idle scalars runs t1 s2 s3
  have hs1 : Kept r s1 := h.startTile.bump
  have ht1 : Kept r t1 := hs1.raiseTileFlags
  have hs2 : Kept r s2 := by
    unfold s2
    split
    · refine hs1.foldl _ fun t x ht => ?_
      extract_lets hi t1'
      have ht1' : Kept r t1' := ht.mapRole
      exact Kept.ite ht1'.countFrozen ht1'
    · exact (ht1.foldl _ fun _ _ ht => Kept.ite ht.putWeight ht.putState).bump
  have hs3 : Kept r s3 := Kept.ite hs2 hs2.mapUpdate.reportMasked
  exact hs3.returnInputs

theorem Kept.pass2 (h : Kept r s) {i tile : Nat} : Kept r (s.pass2 i tile) := by
  unfold State.pass2
  split
  · split
    · exact h
    · split
      · exact h.readEntry
      · extract_lets core first
        split
        · split
          · split
            · exact h.updateTile
            · exact h
          · exact h.readOn
        · exact h
  · exact h

/-! ### Machine/Snapshot.lean -/

theorem Kept.snapWrite (h : Kept r s) {x : SnapRun} {off : Nat} {bs : List Byte} : Kept r (s.snapWrite x off bs) := by
  unfold State.snapWrite
  split
  · exact h.emit
  · exact h.sendWrites

theorem Kept.showLeft (h : Kept r s) : Kept r s.showLeft := by
  unfold State.showLeft
  split
  · exact h.set
  · exact h.set

theorem Kept.markSnapshot (h : Kept r s) {step : Nat} : Kept r (s.markSnapshot step) := by
  unfold State.markSnapshot
  split
  · exact h
  · split
    · exact h
    · extract_lets tiles s1
      have hs1 : Kept r s1 := by
        unfold s1
        refine h.foldl _ fun t x ht => ?_
        split
        · exact ht.setMark.mapEntry
        · exact ht
      exact (hs1.update rfl).showLeft

theorem Kept.clearPending (h : Kept r s) {tensor tile : Nat} : Kept r (s.clearPending tensor tile) := by
  unfold State.clearPending
  split
  · exact h
  · exact h.setMark.bound fun _ hs1 => Kept.ite hs1 hs1.mapEntry

theorem Kept.endSnapshot (h : Kept r s) : Kept r s.endSnapshot := by
  unfold State.endSnapshot
  split
  · exact h
  · exact ((h.foldl _ fun _ _ ht => ht.clearPending).update rfl).set.set

theorem Kept.failSnapshot (h : Kept r s) {cause : Nat} : Kept r (s.failSnapshot cause) := by
  unfold State.failSnapshot
  split
  · exact h
  · exact (h.asOwn fun _ ht => ht.endSnapshot).post

theorem Kept.snapshotDropped (h : Kept r s) {ps : List Packet} : Kept r (s.snapshotDropped ps) := by
  unfold State.snapshotDropped
  split
  · exact h
  · exact Kept.ite h.failSnapshot h

theorem Kept.sendSnapTile (h : Kept r s) {x : SnapRun} {tensor tile : Nat} {bytes : List Byte} :
    Kept r (s.sendSnapTile x tensor tile bytes) :=
  (Kept.snapWrite (Kept.ite h.snapWrite h)).update rfl

theorem Kept.sendTrailer (h : Kept r s) : Kept r s.sendTrailer := by
  unfold State.sendTrailer
  split
  · exact h
  · exact Kept.ite (h.snapWrite.update rfl) h

theorem Kept.shipTile (h : Kept r s) : Kept r s.shipTile := by
  unfold State.shipTile
  split
  · exact h
  · split
    · exact h
    · split
      · exact (h.update rfl).sendSnapTile.clearPending.sendTrailer.showLeft
      · split
        · exact h.sendSnapTile.clearPending.sendTrailer.showLeft
        · exact h.sendTrailer

theorem Kept.sendFooter (h : Kept r s) : Kept r s.sendFooter := by
  unfold State.sendFooter
  split
  · exact h
  · exact Kept.ite h.snapWrite.endSnapshot.post h

/-! ### Machine/Links.lean -/

theorem Kept.setPortState (h : Kept r s) {p n : Nat} : Kept r (s.setPortState p n) := h.setPort.set

theorem Kept.setPortBit (h : Kept r s) {f : Field} {p : Nat} {b : Bool} : Kept r (s.setPortBit f p b) :=
  Kept.ite h (Kept.ite h h.set)

theorem Kept.floodRecord (h : Kept r s) {sel : SightRecord} {except : Option Nat} :
    Kept r (s.floodRecord sel except) :=
  h.foldl _ fun _ _ ht => ht.emit

theorem Kept.storeRecord (h : Kept r s) {sel : SightRecord} : Kept r (s.storeRecord sel) := (h.update rfl).set

theorem Kept.flooding (h : Kept r s) : Kept r s.flooding := (h.update rfl).set

theorem Kept.recordChanged (h : Kept r s) : Kept r s.recordChanged := (h.update rfl).storeRecord.flooding.floodRecord

theorem Kept.pruneRoutes (h : Kept r s) {p : Nat} : Kept r (s.pruneRoutes p) := h.foldl _ fun _ _ ht => ht.wr

theorem Kept.clearPort (h : Kept r s) {p : Nat} : Kept r (s.clearPort p) := h.set.set.set.wr.setPortBit.setPortBit

theorem Kept.twinPathLost (h : Kept r s) : Kept r s.twinPathLost := Kept.ite h (h.update rfl).set.bump.post.sendTwin

theorem Kept.portDown (h : Kept r s) {p hold : Nat} : Kept r (s.portDown p hold) :=
  (Kept.setPort (Kept.ite (h.update rfl) h)).setPortState.clearPort.bump.post.snapshotDropped.bound fun _ hs3 =>
    Kept.ite hs3.twinPathLost hs3.pruneRoutes.recordChanged

theorem Kept.portLost (h : Kept r s) {p : Nat} : Kept r (s.portLost p) := h.portDown

theorem Kept.applyPortEnable (h : Kept r s) : Kept r s.applyPortEnable :=
  h.foldl _ fun _ _ ht => Kept.ite (Kept.ite ht.setPortState ht) (Kept.ite ht (Kept.ite ht.portDown
    ht.setPort.setPortState.clearPort))

theorem Kept.portsOff (h : Kept r s) : Kept r s.portsOff := h.foldl _ fun _ _ ht => ht.setPort.setPortState.clearPort

/-! ### Machine/Assign.lean -/

theorem Kept.homeLocal (h : Kept r s) {p : Passage} {i : Nat} : Kept r (s.homeLocal p i) := by
  unfold State.homeLocal
  extract_lets e
  split
  · split
    · exact h.setEntry.update rfl
    · exact h
  · exact h

theorem Kept.moveHomes (h : Kept r s) : Kept r s.moveHomes := by
  unfold State.moveHomes
  split
  · exact h
  · exact h.foldl _ fun _ _ ht => Kept.ite ht.startMove ht

theorem Kept.replicate (h : Kept r s) {p : Passage} {i : Nat} : Kept r (s.replicate p i) := by
  unfold State.replicate
  extract_lets e cs
  split
  · exact h
  · split
    · exact h.setEntry
    · exact h

theorem Kept.releaseHomes (h : Kept r s) {p : Passage} : Kept r (s.releaseHomes p) :=
  ((h.endMoves.foldl _ fun _ _ ht => ht.mapEntry).foldl _ fun _ _ ht => ht.mapEntry).update rfl

theorem Kept.copyReplica (h : Kept r s) {i c : Nat} : Kept r (s.copyReplica i c) := Kept.ite (h.store.update rfl) h

theorem Kept.placementFailed (h : Kept r s) {unit : Nat} : Kept r (s.placementFailed unit) := Kept.ite h h.mapRole.post

theorem Kept.relocateMarks (h : Kept r s) : Kept r s.relocateMarks := by
  unfold State.relocateMarks
  split
  · exact h
  · extract_lets n _ s0 _
    have hs0 : Kept r s0 := h.update rfl
    split
    · exact (hs0.update rfl).placementFailed
    · exact (hs0.set.store.update rfl).foldl _ fun _ _ ht => ht.foldl _ fun _ _ ht' => ht'.setMark

theorem Kept.latch (h : Kept r s) : Kept r s.latch := h.mapRole

theorem Kept.switchModes (h : Kept r s) : Kept r s.switchModes :=
  Kept.ite h (Kept.set (Kept.ite (Kept.setFlag (Kept.ite h.setFlag h)) (Kept.ite h.setFlag h)))

theorem Kept.applyRungs (h : Kept r s) : Kept r s.applyRungs := (h.mapRole.foldl _ fun _ _ ht => ht.setOwn).setOwn

theorem Kept.chartRungs (h : Kept r s) : Kept r s.chartRungs := h.mapEntries

theorem Kept.showStart (h : Kept r s) : Kept r s.showStart := h.showSight.setOwn.setOwn.setOwn

theorem Kept.recordRotation (h : Kept r s) : Kept r s.recordRotation := Kept.ite h (Kept.ite h h.set.set)

theorem Kept.showBands (h : Kept r s) : Kept r s.showBands := h.foldl _ fun _ _ ht => ht.set

theorem Kept.assign (h : Kept r s) {p : Passage} : Kept r (s.assign p) :=
  ((h.showBands.mapRole.recordRotation.foldl _ fun _ _ ht => ht.homeLocal).foldl _ fun _ _ ht =>
    ht.replicate).mapRole.set

theorem Kept.clearReads (h : Kept r s) : Kept r s.clearReads := h.update rfl

theorem Kept.stepStart (h : Kept r s) : Kept r s.stepStart := by
  unfold State.stepStart
  split
  · exact h
  · split
    · exact h
    · extract_lets s1 s2 s3 s4
      have hs1 : Kept r s1 := h.relocateMarks.releaseHomes.clearReads.freeSaved
      have hs2 : Kept r s2 := hs1.mapRole.latch.switchModes.applyRungs.chartRungs
      have hs3 : Kept r s3 := hs2.asOwn fun _ ht => ht.update rfl
      have hs4 : Kept r s4 := hs3.foldl _ fun _ _ ht => ht.setOwn
      exact hs4.showStart.applyPortEnable.assign

/-! ### Machine/Offload.lean -/

theorem Kept.shipEntry (h : Kept r s) {tier i : Nat} {e : ChartEntry} : Kept r (s.shipEntry tier i e) := by
  unfold State.shipEntry
  extract_lets bytes a
  split
  · exact h.twinWrites
  · exact h.sendWrites
  · exact h.emit

theorem Kept.offloadShip (h : Kept r s) {g : Nat} : Kept r (s.offloadShip g) := by
  unfold State.offloadShip
  split
  · exact Kept.ite (h.foldl _ fun _ _ ht => ht.shipEntry.mapEntry).bump h
  · exact h

theorem Kept.offloadConfirm (h : Kept r s) {g : Nat} : Kept r (s.offloadConfirm g) := by
  unfold State.offloadConfirm
  split
  · exact h
  · exact Kept.ite (h.foldl _ fun _ _ ht => ht.mapEntry).showAway h

theorem Kept.sendRead (h : Kept r s) {twin : Bool} {dest addr n : Nat} {target : Option Nat} :
    Kept r (s.sendRead twin dest addr n target) :=
  (h.update rfl).bound fun _ hs1 => Kept.ite hs1.twinPacket hs1.sendPacket

theorem Kept.fetchTile (h : Kept r s) {tier i tile : Nat} : Kept r (s.fetchTile tier i tile) :=
  Kept.ite h (h.foldl _ fun _ _ ht => ht.sendRead)

theorem Kept.freeLater (h : Kept r s) {p : Passage} {g : Nat} : Kept r (s.freeLater p g) := h.unhomeEntries

theorem Kept.unreadyEntries (h : Kept r s) {ids : List Nat} : Kept r (s.unreadyEntries ids) := by
  unfold State.unreadyEntries
  exact h.mapRole

theorem Kept.offloadFetch (h : Kept r s) {g : Nat} : Kept r (s.offloadFetch g) := by
  unfold State.offloadFetch
  split
  · extract_lets es lead placed
    have hplaced : KeptIf r placed := KeptIf.foldl _ (KeptIf.some h.freeLater) fun _ _ hq => KeptIf.bind hq fun _ ht
      => KeptIf.mapValue fun _ => ht.setEntry
    split
    · clear_value placed
      split
      · exact (hplaced.of _ rfl).unreadyEntries.foldl _ fun _ _ ht => ht.fetchTile
      · exact h
    · exact h
  · exact h

theorem Kept.landFetched (h : Kept r s) {a : Nat} {bytes : List Byte} : Kept r (s.landFetched a bytes) := by
  unfold State.landFetched
  split
  · exact h
  · exact Kept.ite h.store (Kept.asRole (Kept.ite h.store.mapRole h.store) fun _ ht => Kept.ite ht.mapRole ht)

theorem Kept.landIn (h : Kept r s) {es : List Nat} {shipment : List (Addr × List Byte)} :
    Kept r (s.landIn es shipment) :=
  h.foldl _ fun _ _ ht => Kept.ite ht.store ht

theorem Kept.offloadDone (h : Kept r s) {g : Nat} {shipment : List (Addr × List Byte)} :
    Kept r (s.offloadDone g shipment) :=
  Kept.ite (h.landIn.foldl _ fun _ _ ht => ht.mapEntry).mapRole.bump.showAway h

theorem Kept.tierFailed (h : Kept r s) {tier : Nat} : Kept r (s.tierFailed tier) := by
  unfold State.tierFailed
  split
  · exact h
  · extract_lets held mine lost s1 left kept plan s2 s3
    have hs1 : Kept r s1 := h.foldl _ fun _ _ ht => Kept.ite ht.mapEntry (Kept.ite ht.mapEntry ht)
    have hs2 : Kept r s2 := hs1.mapRole.showAway
    have hs3 : Kept r s3 := hs2.post.discardMark
    exact Kept.ite hs3.placementFailed hs3

theorem Kept.tierFailedAll (h : Kept r s) {tier : Nat} : Kept r (s.tierFailedAll tier) :=
  h.tierFailed.asRole fun _ ht => ht.tierFailed

theorem Kept.replaceLost (h : Kept r s) {es : List Nat} : KeptIf r (s.replaceLost es) :=
  KeptIf.foldl _ (KeptIf.some h) fun _ _ hq => KeptIf.bind hq fun _ ht => KeptIf.ite (KeptIf.some ht) (KeptIf.ite
    (KeptIf.some ht.setEntry) (KeptIf.mapValue fun _ => ht.setEntry))

theorem Kept.checkRoom (h : Kept r s) {unit : Nat} : Kept r (s.checkRoom unit) := Kept.ite h.placementFailed h

theorem Kept.holdBy (h : Kept r s) {cause : Nat} : Kept r (s.holdBy cause) := Kept.ite h.enter h

theorem Kept.startRestore (h : Kept r s) {late disarm : Bool} : Kept r (s.startRestore late disarm) := by
  unfold State.startRestore
  extract_lets es lost cause mib s1
  have hs1 : Kept r s1 := h.set.set.set
  split
  · split
    · rename_i t het
      have ht : Kept r t := Kept.ofSome het h.replaceLost
      exact ht
    · exact h.placementFailed
  · split
    · exact hs1.placementFailed
    · rename_i t het
      have ht : Kept r t := Kept.ofSome het hs1.replaceLost
      extract_lets s3 s4
      have hs3 : Kept r s3 := ht.update rfl
      have hs4 : Kept r s4 := hs3.set.post
      exact Kept.ite hs3.set.sendTwin (Kept.ite hs4 hs4.holdBy)

theorem Kept.restored (h : Kept r s) {es : List Nat} : Kept r (s.restored es) := h.foldl _ fun _ _ ht => ht.mapEntry

theorem Kept.restoreTile (h : Kept r s) {tensor tile : Nat} : Kept r (s.restoreTile tensor tile) := by
  unfold State.restoreTile
  split
  · exact h
  · exact (h.update rfl).restored.set

theorem Kept.restoreLanded (h : Kept r s) {shipment : List (Addr × List Byte)} : Kept r (s.restoreLanded shipment) := by
  unfold State.restoreLanded
  split
  · exact h
  · split
    · exact h
    · extract_lets mib _ s1 s2 s3
      have hs1 : Kept r s1 := h.landIn.restored.update rfl
      have hs2 : Kept r s2 := hs1.set.set.bump
      have hs3 : Kept r s3 := hs2.post
      exact Kept.ite hs3.enter hs3

theorem Kept.abandonRestore (h : Kept r s) : Kept r s.abandonRestore := by
  unfold State.abandonRestore
  split
  · exact h
  · exact Kept.ite h (h.set.post.bound fun _ hs1 => Kept.ite (Kept.ite hs1.enter hs1) hs1.holdBy)

theorem Kept.hostRestored (h : Kept r s) : Kept r s.hostRestored := (h.restored.update rfl).set.set.bump

/-! ### Machine/Mirror.lean -/

theorem Kept.setTwin (h : Kept r s) {n : Nat} : Kept r (s.setTwin n) := (h.update rfl).set

theorem Kept.mapTwin (h : Kept r s) {f : TwinUnit → TwinUnit} : Kept r (s.mapTwin f) := h.update rfl

theorem Kept.showTwin (h : Kept r s) : Kept r s.showTwin := Kept.ite h.setTwin h

theorem Kept.portsOn (h : Kept r s) : Kept r s.portsOn :=
  h.applyPortEnable.bound fun _ hs1 => Kept.ite hs1.setPortState.showTwin hs1

theorem Kept.pairFailed (h : Kept r s) {cause : Nat} : Kept r (s.pairFailed cause) := h.set.post

theorem Kept.mirrorLost (h : Kept r s) : Kept r s.mirrorLost := h.set

theorem Kept.sendArmed (h : Kept r s) : Kept r s.sendArmed := by
  unfold State.sendArmed
  split
  · exact h
  · exact h.sendTwin

theorem Kept.checkMirror (h : Kept r s) : Kept r s.checkMirror := by
  unfold State.checkMirror
  split
  · exact h
  · split
    · exact h
    · extract_lets s1 gib
      have hs1 : Kept r s1 := h.set
      exact Kept.ite hs1 (Kept.ite hs1.pairFailed (Kept.ite hs1.pairFailed hs1.mirrorLost.setTwin.mapTwin))

theorem Kept.shipLanded (h : Kept r s) {tensor tile : Nat} : Kept r (s.shipLanded tensor tile) := by
  unfold State.shipLanded
  split
  · exact h
  · exact Kept.ite h.sendTwin h

theorem Kept.shipMasks (h : Kept r s) : Kept r s.shipMasks := by
  unfold State.shipMasks
  split
  · exact h
  · exact Kept.ite h ((h.foldl _ fun _ _ ht => ht.shipLanded).foldl _ fun _ _ ht => ht.sendTwin)

theorem Kept.setRecord (h : Kept r s) {sel : TwinRecord} : Kept r (s.setRecord sel) := h.mapTwin

theorem Kept.ackWhole (h : Kept r s) {sel : TwinRecord} : Kept r (s.ackWhole sel) := Kept.ite h.sendTwin h

theorem Kept.takeRecordTile (h : Kept r s) {step tensor tile : Nat} {bs : List Byte} :
    Kept r (s.takeRecordTile step tensor tile bs) :=
  h.setRecord

theorem Kept.takeMaskTile (h : Kept r s) {step tensor tile : Nat} {bs : List Byte} :
    Kept r (s.takeMaskTile step tensor tile bs) :=
  h.setRecord

theorem Kept.takeClosing (h : Kept r s) {step clip norm : Nat} {skip : Bool} {entry : List Nat} :
    Kept r (s.takeClosing step clip norm skip entry) :=
  h.setRecord.sendTwin.ackWhole

theorem Kept.takeCommit (h : Kept r s) {st : MirrorState} {digest : W32} : Kept r (s.takeCommit st digest) := by
  unfold State.takeCommit
  exact h.setRecord.mapTwin

theorem Kept.dropOpenRecords (h : Kept r s) : Kept r s.dropOpenRecords := h.mapTwin

theorem Kept.sendSeed (h : Kept r s) : Kept r s.sendSeed := by
  unfold State.sendSeed
  split
  · exact h
  · exact (h.foldl _ fun _ _ ht => ht.sendTwin).mapTwin

theorem Kept.mirrorPoint (h : Kept r s) : Kept r s.mirrorPoint := by
  unfold State.mirrorPoint
  split
  · exact h
  · extract_lets s1 s2
    have hs1 : Kept r s1 := Kept.ite h.sendTwin h
    have hs2 : Kept r s2 := hs1.mapTwin
    exact Kept.ite hs2.sendSeed hs2

theorem Kept.detach (h : Kept r s) : Kept r s.detach := by
  unfold State.detach
  exact h.sendTwin.mirrorLost.mapTwin.setPort.setPortState.clearPort.set.set.setTwin.post

theorem Kept.detachAtCommit (h : Kept r s) : Kept r s.detachAtCommit := Kept.ite h.detach h

theorem Kept.putTileBytes (h : Kept r s) {tensor tile : Nat} {bs : List Byte} :
    Kept r (s.putTileBytes tensor tile bs) := by
  unfold State.putTileBytes
  split
  · exact h.store
  · exact h

theorem Kept.putTileRung (h : Kept r s) {tensor tile rung : Nat} : Kept r (s.putTileRung tensor tile rung) := by
  unfold State.putTileRung
  split
  · exact h.setMark
  · exact h

theorem Kept.mirrorDiverged (h : Kept r s) : Kept r s.mirrorDiverged := h.bump.post.mirrorLost.setTwin.mapTwin

/-- The view of the mirror that the computation works in is no state of the module's: what stays of it is a digest and
bytes. -/
theorem Kept.computeMirror (h : Kept r s) : Kept r s.computeMirror := by
  unfold State.computeMirror
  split
  · exact h
  · split
    · exact h
    · split
      · extract_lets p v w tiles s1
        have hs1 : Kept r s1 := h.mapTwin.set.bump
        split
        · exact Kept.ite hs1 hs1.mirrorDiverged
        · exact hs1
      · exact h

theorem Kept.takeSeedTile (h : Kept r s) {step tensor tile rung : Nat} {bs : List Byte} :
    Kept r (s.takeSeedTile step tensor tile rung bs) :=
  h.mapTwin

theorem Kept.seedComplete (h : Kept r s) : Kept r s.seedComplete := by
  unfold State.seedComplete
  split
  · exact h
  · exact Kept.ite h h.set.set.setTwin.mapTwin

theorem Kept.shipRestore (h : Kept r s) {tensors : List Nat} : Kept r (s.shipRestore tensors) :=
  Kept.ite (h.foldl _ fun _ _ ht => ht.sendTwin) h

theorem Kept.takeRestoreTile (h : Kept r s) {tensor tile rung : Nat} {bs : List Byte} :
    Kept r (s.takeRestoreTile tensor tile rung bs) :=
  Kept.ite h.putTileBytes.putTileRung.restoreTile h

theorem Kept.initTensor (h : Kept r s) {t : Tensor} : Kept r (s.initTensor t) := by
  unfold State.initTensor
  split
  · exact h
  · refine h.foldl _ fun t x ht => ?_
    extract_lets src got
    have hgot : Kept r got.2 := by
      unfold got
      split
      · exact ht
      · split
        · exact ht.freeBytes
        · exact ht
    exact hgot.writeTier.mapEntry

theorem Kept.initTensors (h : Kept r s) {p : Passage} {ok : Tensor → Bool} : Kept r (s.initTensors p ok) :=
  h.foldl _ fun _ _ ht => ht.initTensor

theorem KeptIf.placeMirrored {o : Option State} (h : KeptIf r o) {t : Tensor} : KeptIf r (State.placeMirrored o t) :=
  KeptIf.foldl _ h fun _ _ hq => KeptIf.bind hq fun _ ht => KeptIf.mapValue fun _ => ht.addEntry

theorem Kept.growMarks (h : Kept r s) : KeptIf r s.growMarks :=
  KeptIf.bindValue fun _ => KeptIf.mapValue fun _ => h.set.store.update rfl

theorem Kept.placePartner (h : Kept r s) {p : Passage} {inMirror : Bool} : KeptIf r (s.placePartner p inMirror) := by
  unfold State.placePartner
  extract_lets ids sorted placed
  have hplaced : KeptIf r placed := KeptIf.foldl _ (KeptIf.some h) fun _ _ hq => KeptIf.ite hq.placeMirrored
    hq.placeTensor
  exact KeptIf.map (KeptIf.bind hplaced.placeTable fun _ ht => ht.growMarks) fun _ ht => (ht.initTensors.foldl _ fun
    _ _ ht' => ht'.putTileBytes.putTileRung).mapEntries

theorem Kept.setAlias (h : Kept r s) {n : Option Nat} : Kept r (s.setAlias n) := by
  unfold State.setAlias
  split
  · exact h.set.set
  · exact h.set.set

theorem Kept.carry (h : Kept r s) : Kept r s.carry := by
  unfold State.carry
  extract_lets p
  split
  · rename_i t _ het
    have ht : Kept r t := Kept.ofSome het h.placePartner
    exact (ht.update rfl).setTwin.mirrorLost.mapTwin.setAlias.recordChanged
  · exact h

theorem Kept.endLoss (h : Kept r s) : Kept r s.endLoss := by
  unfold State.endLoss
  split
  · exact h
  · extract_lets s1
    have hs1 : Kept r s1 := h.mapTwin.post
    exact Kept.ite (hs1.asOwn fun _ ht => ht.carry) hs1

theorem Kept.handoverFailed (h : Kept r s) : Kept r s.handoverFailed := h.setTwin.mapTwin.pairFailed

theorem Kept.partnerLost (h : Kept r s) : Kept r s.partnerLost := by
  unfold State.partnerLost
  split
  · exact h.mapTwin
  · split
    · exact h.handoverFailed
    · split
      · exact h
      · extract_lets gone s1 s2 s3
        have hgone : Kept r gone := h.mapTwin
        have hs1 : Kept r s1 := hgone.setTwin.mapTwin
        have hs2 : Kept r s2 := hs1.asOwn fun _ ht => Kept.ite ht.discardMark ht
        have hs3 : Kept r s3 := Kept.ite hs2 hs2.mapTwin
        exact Kept.ite hgone hs3.tierFailedAll.abandonRestore.endLoss

theorem Kept.heldLoss (h : Kept r s) : Kept r s.heldLoss := Kept.ite h.mapTwin.partnerLost h

theorem Kept.endTwinHold (h : Kept r s) {cause : Nat} : Kept r (s.endTwinHold cause) := Kept.ite h.enter h

theorem Kept.releaseTwin (h : Kept r s) : Kept r s.releaseTwin := h.mirrorLost.setTwin.mapTwin.set

theorem Kept.startHandover (h : Kept r s) : Kept r s.startHandover :=
  h.mapTwin.setTwin.sendTwin.foldl _ fun _ _ ht => ht.sendTwin

theorem Kept.takeHandover (h : Kept r s) {node : Nat} {image : List Byte} {lists : List (Nat × List Byte)}
    {st : MirrorState} : Kept r (s.takeHandover node image lists st) :=
  Kept.ite h.mapTwin.setTwin h

theorem Kept.freeEntries (h : Kept r s) {p : Passage} : Kept r (s.freeEntries p) := h.update rfl

theorem Kept.takeRole (h : Kept r s) : Kept r s.takeRole := by
  unfold State.takeRole
  extract_lets p
  split
  · rename_i t _ het
    have ht : Kept r t := Kept.ofSome het h.placePartner
    exact (ht.set.update rfl).set.set.recordChanged.set.set.set.set.enter.mapTwin.setTwin.post
  · exact h.handoverFailed.mapTwin

theorem Kept.giveRole (h : Kept r s) : Kept r s.giveRole := by
  unfold State.giveRole
  extract_lets st s1 s2 s3
  have hs1 : Kept r s1 := by
    unfold s1
    split
    · exact h.freeEntries.update rfl
    · exact h
  have hs2 : Kept r s2 := hs1.setAlias.recordChanged
  have hs3 : Kept r s3 := hs2.set.set
  exact hs3.setTwin.endTwinHold.mapTwin.post

theorem Kept.handoverDone (h : Kept r s) {ok : Bool} : Kept r (s.handoverDone ok) :=
  Kept.ite h (Kept.ite h.handoverFailed (Kept.ite h.takeRole (h.asOwn fun _ ht => ht.giveRole)))

theorem Kept.takeMirrorAck (h : Kept r s) {whole : Bool} {step : Nat} : Kept r (s.takeMirrorAck whole step) :=
  Kept.ite h.mapTwin h.mapTwin

/-! ### Machine/Collect.lean -/

theorem Kept.mapColl (h : Kept r s) {c : Nat} {f : CollRun → CollRun} : Kept r (s.mapColl c f) := by
  unfold State.mapColl
  exact h.mapRole

theorem Kept.sendRdv (h : Kept r s) {d : Collective} {c ptype position : Nat} {v : Payload} :
    Kept r (s.sendRdv d c ptype position v) :=
  h.sendPacket

theorem Kept.sendAck (h : Kept r s) {key : Nat} : Kept r (s.sendAck key) :=
  Kept.ite h (Kept.ite (h.update rfl) (h.update rfl))

theorem Kept.oweAck (h : Kept r s) {src : Nat} : Kept r (s.oweAck src) :=
  (h.update rfl).bound fun _ hs1 => Kept.ite hs1.sendAck hs1

theorem Kept.ackDropped (h : Kept r s) {ps : List Packet} : Kept r (s.ackDropped ps) :=
  h.foldl _ fun _ _ ht => ht.oweAck

theorem Kept.showHeld (h : Kept r s) : Kept r s.showHeld := h.set

theorem Kept.receive (h : Kept r s) {p : Packet} {f : State → State} (hf : ∀ t, Kept r t → Kept r (f t)) :
    Kept r (s.receive p f) :=
  Kept.ite h ((h.update rfl).bound fun _ hs1 => Kept.bound (Kept.ite hs1.bump (hs1.asRole fun _ ht => hf _ ht)) fun _
    hs2 => Kept.ite hs2 hs2.leavesStorage)

theorem Kept.deliver (h : Kept r s) {p : Packet} {ptype : Nat} {f : State → State}
    (hf : ∀ t, Kept r t → Kept r (f t)) : Kept r (s.deliver p ptype f) :=
  Kept.ite (h.receive fun _ ht => hf _ ht) h

theorem Kept.byTag (h : Kept r s) {p : Packet} {apply stale : State → State}
    (happly : ∀ t, Kept r t → Kept r (apply t)) (hstale : ∀ t, Kept r t → Kept r (stale t)) :
    Kept r (s.byTag p apply stale) :=
  Kept.ite (happly _ h) (Kept.ite (h.update rfl).holdEarly.showHeld (hstale _ h.bump))

theorem Kept.attemptRises (h : Kept r s) : Kept r s.attemptRises := (h.mapRole.update rfl).ackDropped.showHeld.setOwn

theorem Kept.updateHeat (h : Kept r s) : Kept r s.updateHeat := (h.foldl _ fun _ _ ht => ht.mapEntry).update rfl

theorem Kept.keepRungs (h : Kept r s) : Kept r s.keepRungs := h.update rfl

theorem Kept.updateScales (h : Kept r s) : Kept r s.updateScales := by
  unfold State.updateScales
  split
  · exact h
  · exact h.foldl _ fun _ _ ht => ht.mapColl.setOwn.setOwn

theorem Kept.afterCommit (h : Kept r s) : Kept r s.afterCommit := by
  unfold State.afterCommit
  split
  · exact h
  · extract_lets left s1 clear
    have hs1 : Kept r s1 := h.mapRole.set
    split
    · exact hs1.mapRole.holdBy
    · split
      · exact hs1
      · split
        · exact hs1.set.set.set.enter
        · exact Kept.ite hs1.set.set.set.enter (Kept.ite hs1.set.set.set.enter (Kept.ite hs1.set.set.set.enter hs1))

theorem Kept.commitStep (h : Kept r s) {p : Passage} : Kept r (s.commitStep p) := by
  unfold State.commitStep
  extract_lets step s1 s2 s3 s4 s5
  have hs1 : Kept r s1 := h.showLoss.updateHistory.updateHeat.keepRungs.releaseHomes.markSnapshot.mirrorPoint
  have hs2 : Kept r s2 := hs1.mapRole.setOwn
  have hs3 : Kept r s3 := hs2.setOwn.showSight.updateScales
  have hs4 : Kept r s4 := hs3.reportOverruns.setOwn.attemptRises
  have hs5 : Kept r s5 := Kept.ite hs4 hs4.stepEnergyUpdate
  exact hs5.afterCommit.detachAtCommit

theorem Kept.discardStep (h : Kept r s) : Kept r s.discardStep := by
  unfold State.discardStep
  extract_lets late s1 s2 s3 s4 s5 s6
  have hs1 : Kept r s1 := h.reportOverruns.bump
  have hs2 : Kept r s2 := hs1.mapRole.setOwn
  have hs3 : Kept r s3 := hs2.setOwn.set
  have hs4 : Kept r s4 := Kept.ite hs3 hs3.dropOpenRecords
  have hs5 : Kept r s5 := hs4.startRestore
  have hs6 : Kept r s6 := Kept.ite hs5.mapRole.holdBy hs5
  exact Kept.ite hs6.set.holdBy hs6

theorem Kept.settled (h : Kept r s) : Kept r s.settled :=
  Kept.ite h (h.settleKnots.mapRole.bound fun _ hs1 => Kept.attemptRises (Kept.ite hs1 hs1.set))

theorem Kept.stormVerdict (h : Kept r s) : Kept r s.stormVerdict := h.mapRole.bump.setOwn.post.setOwn.discardStep

theorem Kept.endEpisode (h : Kept r s) {c : Nat} : Kept r (s.endEpisode c) := h.mapColl

theorem Kept.act (h : Kept r s) {p : Passage} {i : Nat} {l : Leg} {d : Collective} {v : Payload}
    {norm : Option Payload} : Kept r (s.act p i l d v norm) := by
  unfold State.act
  extract_lets episode ended s1 s2 s3 own
  have hended : Kept r ended := Kept.getD (KeptIf.mapValue fun _ => h.endEpisode.endEpisode) h.endEpisode
  have hs1 : Kept r s1 := hended.set.mapLeg
  have hs2 : Kept r s2 := hs1.legSignal
  have hs3 : Kept r s3 := hs2.mapRole.shipMasks
  split
  · exact hs1.post.discardStep.holdBy
  · split
    · exact hs1.stormVerdict
    · split
      · exact hs1.discardStep
      · split
        · exact hs2.commitStep
        · split
          · split
            · exact hs3.combineNorm
            · exact hs3.combineNorm
          · exact hs2

theorem Kept.released (h : Kept r s) {c : Nat} {v : Payload} : Kept r (s.released c v) := by
  unfold State.released
  extract_lets run ns s1 s2
  have hs1 : Kept r s1 := h.mapColl.bump.set
  have hs2 : Kept r s2 := hs1.set.set
  split
  · split
    · split
      · exact hs2.act
      · split
        · exact hs2.act
        · exact hs2
    · exact hs2
  · exact hs2

theorem Kept.arriveAt (h : Kept r s) {i c : Nat} {d : Collective} : Kept r (s.arriveAt i c d) :=
  (State.advance_kept h.mapColl _ _).set

theorem Kept.rendezvous (h : Kept r s) {i : Nat} : Kept r (s.rendezvous i) := by
  unfold State.rendezvous
  split
  · exact h
  · split
    · exact h
    · split
      · exact h
      · split
        · exact Kept.ite h h.holdBy
        · split
          · exact h.mapRole.holdBy
          · split
            · exact h.set.holdBy
            · extract_lets s0 s1
              have hs0 : Kept r s0 := h.arriveAt
              have hs1 : Kept r s1 := Kept.ite hs0.setOwn hs0
              split
              · exact hs1
              · split
                · exact hs1.arriveAt
                · exact hs1

theorem Kept.arrivalsComplete (h : Kept r s) {c : Nat} : Kept r (s.arrivalsComplete c) := by
  unfold State.arrivalsComplete
  split
  · exact h
  · extract_lets run due kids s1 s2
    have hs1 : Kept r s1 := h.mapColl
    have hs2 : Kept r s2 := State.advance_kept hs1 _ _
    split
    · exact h
    · split
      · exact h
      · extract_lets v
        split
        · exact hs1.sendRdv
        · exact (hs2.foldl _ fun _ _ ht => ht.sendRdv).released

theorem Kept.takeArrival (h : Kept r s) {p : Packet} : Kept r (s.takeArrival p) := by
  unfold State.takeArrival
  split
  · exact h
  · split
    · exact h
    · exact Kept.ite h (State.advance_kept h.mapColl _ _)

theorem Kept.takeRelease (h : Kept r s) {p : Packet} : Kept r (s.takeRelease p) := by
  unfold State.takeRelease
  extract_lets c v run bad w
  split
  · exact h
  · exact Kept.ite h ((State.advance_kept h _ _).foldl _ fun _ _ ht => ht.sendRdv).released

theorem Kept.stall (h : Kept r s) {c : Nat} : Kept r (s.stall c) := by
  unfold State.stall
  split
  · exact h
  · extract_lets run s1
    have hs1 : Kept r s1 := h.mapColl.bump.post
    exact Kept.ite h (Kept.ite hs1.set.holdBy hs1)

theorem Kept.takeCollective (h : Kept r s) {p : Packet} {ptype : Nat} {f : State → State}
    (hf : ∀ t, Kept r t → Kept r (f t)) : Kept r (s.takeCollective p ptype f) :=
  h.deliver fun _ ht => Kept.ite (ht.byTag (fun _ ht' => hf _ ht') fun _ ht' => ht') ht

/-! ### Machine/Loss.lean -/

theorem Kept.abortMailbox (h : Kept r s) {m : Nat} : Kept r (s.abortMailbox m) := by
  unfold State.abortMailbox
  split
  · exact h
  · extract_lets _ s1
    have hs1 : Kept r s1 := h.setMailbox.set
    exact Kept.ite hs1.writeCompletion hs1

theorem Kept.abortCommands (h : Kept r s) : Kept r s.abortCommands := h.foldl _ fun _ _ ht => ht.abortMailbox

theorem Kept.runAgain (h : Kept r s) {j : Nat} {tiles : List Nat} : Kept r (s.runAgain j tiles) := Kept.ite h h.mapLeg

theorem Kept.releaseEntry (h : Kept r s) {a : AccTile} : Kept r (s.releaseEntry a) := by
  unfold State.releaseEntry
  extract_lets s1
  have hs1 : Kept r s1 := by
    unfold s1
    split
    · exact h.setCredit
    · exact h
  split
  · exact Kept.ite hs1 hs1.moveCarriage
  · exact hs1

theorem Kept.unwrite (h : Kept r s) {o : OutTile} : Kept r (s.unwrite o) := by
  unfold State.unwrite
  split
  · exact Kept.ite h h.mapUpdate
  · exact h

theorem Kept.discardOut (h : Kept r s) {o : OutTile} : Kept r (s.discardOut o) := by
  unfold State.discardOut
  extract_lets s1
  have hs1 : Kept r s1 := h.unwrite
  split
  · extract_lets core s2
    have hs2 : Kept r s2 := hs1.outMove
    exact Kept.ite hs2.setCredit hs2
  · exact hs1

theorem Kept.discardWork (h : Kept r s) {accs : List AccTile} {outs : List OutTile} :
    Kept r (s.discardWork accs outs) := by
  unfold State.discardWork
  split
  · exact h
  · extract_lets again gone s1 s2
    have hs1 : Kept r s1 := (h.foldl _ fun _ _ ht => ht.releaseEntry).foldl _ fun _ _ ht => ht.discardOut
    have hs2 : Kept r s2 := hs1.mapRole
    exact hs2.foldl _ fun _ _ ht => ht.runAgain

theorem Kept.recomputeCore (h : Kept r s) {p : Nat} {compass : Bool} : Kept r (s.recomputeCore p compass) := by
  unfold State.recomputeCore
  split
  · exact h
  · exact Kept.asRole (Kept.ite h.discardWork h) fun _ ht => Kept.ite ht.discardWork ht

theorem Kept.moveLeg (h : Kept r s) {j : Nat} {to_ : Option Nat} : Kept r (s.moveLeg j to_) := by
  unfold State.moveLeg
  split
  · exact h
  · exact h.mapLeg

theorem Kept.releaseAgain (h : Kept r s) : Kept r s.releaseAgain := h.foldl _ fun _ _ ht => ht.tryRelease

theorem Kept.replaceLegs (h : Kept r s) {cores : List Nat} : Kept r (s.replaceLegs cores).1 := by
  unfold State.replaceLegs
  split
  · exact h
  · split
    · exact h
    · exact ((h.discardWork.foldl _ fun _ _ ht => ht.setOwn.mapRole).foldlPair' _ fun _ _ hq => hq.foldl _ fun _ _ ht =>
        ht.moveLeg).releaseAgain.moveHomes

theorem Kept.failFrw (h : Kept r s) {hit : FrwJob → Bool} : Kept r (s.failFrw hit) := h.update rfl

theorem Kept.unwriteEntry (h : Kept r s) {i : Nat} : Kept r (s.unwriteEntry i) := by
  unfold State.unwriteEntry
  exact (h.setEntry.update rfl).mapRole

theorem Kept.rerunWriters (h : Kept r s) {p : Passage} {lost : List ChartEntry} : Kept r (s.rerunWriters p lost).1 := by
  unfold State.rerunWriters
  refine Kept.foldlPair' _ ?_ fun q x hq => ?_
  · exact h
  · split
    · extract_lets needed tiles
      split
      · exact hq
      · exact hq.runAgain
    · exact hq

theorem Kept.recomputeLocal (h : Kept r s) {ids : List Nat} : Kept r (s.recomputeLocal ids).1 := by
  unfold State.recomputeLocal
  split
  · exact h
  · extract_lets mine lost s1
    have hs1 : Kept r s1 := h.foldl _ fun _ _ ht => ht.unwriteEntry
    split
    · exact hs1.rerunWriters
    · exact hs1

theorem Kept.recomputeAll (h : Kept r s) {ids : List Nat} : Kept r (s.recomputeAll ids) := by
  unfold State.recomputeAll
  exact h.recomputeLocal.bump.asRole fun _ ht => ht.recomputeLocal.bump

theorem Kept.replaceAll (h : Kept r s) {unit : Nat} {cores ids : List Nat} : Kept r (s.replaceAll unit cores ids) := by
  unfold State.replaceAll
  extract_lets go
  refine Kept.asRole ?_ (fun t ht => ?_)
  · exact h.replaceLegs.recomputeLocal.replaceLegs.bound fun _ hz => Kept.ite hz (Kept.ite hz.post hz.bump.post)
  · exact ht.replaceLegs.recomputeLocal.replaceLegs.bound fun _ hz => Kept.ite hz (Kept.ite hz.post hz.bump.post)

theorem Kept.countRetired (h : Kept r s) {cores : List Nat} : Kept r (s.countRetired cores) := Kept.ite h.bump h

theorem Kept.coreLost (h : Kept r s) {p : Nat} : Kept r (s.coreLost p) := h.countRetired.failFrw.replaceAll

theorem Kept.dropReplicas (h : Kept r s) {c : Nat} : Kept r (s.dropReplicas c) := h.mapEntries.update rfl

theorem Kept.clustersLost (h : Kept r s) {unit : Nat} {cs fresh : List Nat} : Kept r (s.clustersLost unit cs fresh) :=
  (h.countRetired.foldl _ fun _ _ ht => ht.dropReplicas).failFrw.replaceAll

theorem Kept.clusterLost (h : Kept r s) {c : Nat} : Kept r (s.clusterLost c) :=
  (h.foldl _ fun _ _ ht => ht.recordRetired).bump.clustersLost

theorem Kept.loseEntry (h : Kept r s) {i : Nat} : Kept r (s.loseEntry i) := by
  unfold State.loseEntry
  exact Kept.mapEntry (Kept.ite h.failSnapshot h)

theorem Kept.losesEntries (h : Kept r s) {unit : Nat} {ids : List Nat} : Kept r (s.losesEntries unit ids) := by
  unfold State.losesEntries
  split
  · exact h
  · exact (h.foldl _ fun _ _ ht => ht.loseEntry).post.discardAll.checkRoom

theorem Kept.entryLost (h : Kept r s) {unit i : Nat} : Kept r (s.entryLost unit i) := Kept.ite h h.losesEntries

theorem Kept.storeEntryLost (h : Kept r s) {unit i : Nat} : Kept r (s.storeEntryLost unit i) :=
  Kept.ite h.recomputeAll h.entryLost

theorem Kept.addressLost (h : Kept r s) {unit a : Nat} : Kept r (s.addressLost unit a) := by
  unfold State.addressLost
  extract_lets s0 s1
  have hs0 : Kept r s0 := Kept.ite h.failSnapshot h
  have hs1 : Kept r s1 := hs0.failFrw
  split
  · exact hs1.entryLost
  · exact hs1

theorem Kept.mirrorDamaged (h : Kept r s) : Kept r s.mirrorDamaged := by
  unfold State.mirrorDamaged
  split
  · extract_lets s1
    have hs1 : Kept r s1 := h.mirrorLost.mapTwin
    exact Kept.ite hs1.setTwin hs1
  · exact h

theorem Kept.baseLost (h : Kept r s) {unit : Nat} : Kept r (s.baseLost unit) := by
  unfold State.baseLost
  extract_lets _ s1 s2 _
  have hs1 : Kept r s1 := h.update rfl
  have hs2 : Kept r s2 := hs1.set
  split
  · exact hs2.update rfl
  · exact hs2.placementFailed

theorem Kept.restoreAgain (h : Kept r s) {unit : Nat} : Kept r (s.restoreAgain unit) := by
  unfold State.restoreAgain
  split
  · exact h
  · split
    · rename_i t het
      have ht : Kept r t := Kept.ofSome het h.replaceLost
      exact Kept.ite ht.sendTwin ht
    · exact h.placementFailed

theorem Kept.rehomeKept (h : Kept r s) {unit : Nat} {inside : Nat → Bool} : Kept r (s.rehomeKept unit inside) := by
  unfold State.rehomeKept
  refine h.foldl _ fun t x ht => ?_
  extract_lets others _ t0 _
  have ht0 : Kept r t0 := ht.update rfl
  split
  · exact ht0.update rfl
  · exact ht.placementFailed

theorem Kept.stacksLost (h : Kept r s) {unit : Nat} {wasBase : Option Nat} {ns : List Nat} :
    Kept r (s.stacksLost unit wasBase ns) := by
  unfold State.stacksLost
  extract_lets inside ids base marks s1 told s2 _ s3 s4 s5
  have hs1 : Kept r s1 := Kept.ite h.failSnapshot h
  have htold : Kept r told := Kept.ite hs1.post.discardAll hs1.losesEntries
  have hs2 : Kept r s2 := (htold.rehomeKept.foldl _ fun _ _ ht => State.loseStack_kept ht _).failFrw
  have hs3 : Kept r s3 := hs2.update rfl
  have hs4 : Kept r s4 := hs3.mirrorDamaged
  have hs5 : Kept r s5 := Kept.ite hs4.baseLost hs4
  exact Kept.ite hs5 hs5.restoreAgain

theorem Kept.stackLost (h : Kept r s) {n : Nat} : Kept r (s.stackLost n) := h.bump.stacksLost

theorem Kept.dieLost (h : Kept r s) {d : Nat} : Kept r (s.dieLost d) := by
  unfold State.dieLost
  exact h.set.bump.clustersLost.stacksLost

theorem Kept.stagingSlotLost (h : Kept r s) {d : Nat} : Kept r (s.stagingSlotLost d) := h.update rfl

theorem Kept.loseStep (h : Kept r s) : Kept r s.loseStep := (h.update rfl).set.set.set.set.failSnapshot.failFrw

theorem Kept.dropPassage (h : Kept r s) : Kept r s.dropPassage := (h.update rfl).set.set

theorem Kept.dropLoad (h : Kept r s) : Kept r s.dropLoad := h.update rfl

theorem Kept.announceTwin (h : Kept r s) : Kept r s.announceTwin := Kept.ite h.emit.emit h

theorem Kept.announceStop (h : Kept r s) : Kept r s.announceStop := h.announceTwin.foldl _ fun _ _ ht => ht.emit

theorem Kept.announceSafe (h : Kept r s) : Kept r s.announceSafe := h.announceStop

theorem Kept.portRetired (h : Kept r s) {p : Nat} : Kept r (s.portRetired p) :=
  Kept.ite h.portDown h.setPortState.clearPort

theorem Kept.twinLinkRetired (h : Kept r s) : Kept r s.twinLinkRetired := Kept.ite h.portDown h.setPortState.clearPort

theorem Kept.forwardFrom (h : Kept r s) {dest : Nat} {p : Packet} : Kept r (s.forwardFrom dest p) := h.update rfl

theorem Kept.sendPace (h : Kept r s) {fraction cause : Nat} : Kept r (s.sendPace fraction cause) := by
  unfold State.sendPace
  split
  · exact h
  · exact (h.foldl _ fun _ _ ht => ht.forwardFrom).bump

theorem Kept.paceCheck (h : Kept r s) {fraction : Nat} : Kept r (s.paceCheck fraction) :=
  Kept.ite h (Kept.ite (h.sendPace.update rfl) (Kept.ite (h.sendPace.update rfl) h))

theorem Kept.snapshotHostFault (h : Kept r s) : Kept r s.snapshotHostFault := by
  unfold State.snapshotHostFault
  split
  · exact Kept.ite h.failSnapshot h
  · exact h

theorem Kept.offloadHostFault (h : Kept r s) : Kept r s.offloadHostFault := h.tierFailedAll

/-! ### Machine/Power.lean -/

theorem Kept.regionOff (h : Kept r s) {sel : Nat} : Kept r (s.regionOff sel) := Kept.ite h h.set.set.setRegion

theorem Kept.regionsOff (h : Kept r s) {rs : List Nat} : Kept r (s.regionsOff rs) :=
  h.foldl _ fun _ _ ht => ht.regionOff

theorem Kept.hostLinkLost (h : Kept r s) : Kept r s.hostLinkLost := h.set.set.update rfl

theorem Kept.crossbarLost (h : Kept r s) : Kept r s.crossbarLost := h.update rfl

theorem Kept.hubDark (h : Kept r s) {sel : Nat} : Kept r (s.hubDark sel) := by
  unfold State.hubDark
  split
  · exact (State.loseHbm_kept h.loseStep.dropPassage.regionsOff).hostLinkLost.assertFaultPin.update rfl
  · extract_lets s1 s2 s3 s4
    have hs1 : Kept r s1 := h.loseStep
    have hs2 : Kept r s2 := Kept.ite hs1 hs1.set
    have hs3 : Kept r s3 := Kept.ite hs2.hostLinkLost.crossbarLost (Kept.ite (hs2.update rfl) hs2)
    have hs4 : Kept r s4 := Kept.ite hs3.portsOff hs3.announceTwin
    exact Kept.ite hs4 hs4.enter

theorem Kept.goDark (h : Kept r s) {sel cause : Nat} : Kept r (s.goDark sel cause) :=
  Kept.ite h ((h.regionOff.set.set.update rfl).bound fun _ hs2 => Kept.bound (Kept.ite hs2 hs2.post) fun _ hs3 =>
    Kept.ite hs3.clusterLost (Kept.ite hs3.dieLost (Kept.ite hs3.hubDark hs3.stackLost)))

theorem Kept.failPhase (h : Kept r s) {sel phase cause : Nat} : Kept r (s.failPhase sel phase cause) := by
  unfold State.failPhase
  extract_lets ok s1 s2
  have hs1 : Kept r s1 := h.set.post
  have hs2 : Kept r s2 := hs1.recordRetired
  exact Kept.ite h (Kept.ite hs2.goDark hs2)

theorem Kept.clampRegion (h : Kept r s) {sel : Nat} : Kept r (s.clampRegion sel) :=
  Kept.ite ((h.set.bump.setRegion.update rfl).bound fun _ hs2 => Kept.ite hs2 hs2.post) h

theorem Kept.releaseClamp (h : Kept r s) {sel : Nat} : Kept r (s.releaseClamp sel) := Kept.ite h.set.setRegion h

theorem Kept.restoreStep (h : Kept r s) {sel : Nat} : Kept r (s.restoreStep sel) := Kept.ite h.setRegion h

theorem Kept.sampleRail (h : Kept r s) {sel mv lag : Nat} : Kept r (s.sampleRail sel mv lag) := by
  unfold State.sampleRail
  split
  · extract_lets s1 t _ s2 depth
    have hs1 : Kept r s1 := h.set
    have hs2 : Kept r s2 := Kept.ite hs1.set.set.setRegion hs1
    exact Kept.ite hs2.bump hs2
  · exact h

theorem Kept.rearmRegion (h : Kept r s) {sel : Nat} : Kept r (s.rearmRegion sel) := Kept.ite h.set.set.setRegion h

theorem Kept.rearmInput (h : Kept r s) : Kept r s.rearmInput := h.set.set.update rfl

theorem Kept.softStart (h : Kept r s) {sel : Nat} : Kept r (s.softStart sel) := h.set.set.setRegion

theorem Kept.requestEnable (h : Kept r s) {sel : Nat} : Kept r (s.requestEnable sel) :=
  Kept.ite h (Kept.ite h.set.bump h.softStart)

theorem Kept.endDefer (h : Kept r s) {sel : Nat} : Kept r (s.endDefer sel) := Kept.ite h.softStart h

theorem Kept.softStartStep (h : Kept r s) {sel : Nat} : Kept r (s.softStartStep sel) :=
  Kept.ite (h.setRegion.bound fun _ hs1 => Kept.ite hs1 (Kept.ite hs1.set.portsOn hs1.set)) h

theorem Kept.showCeiling (h : Kept r s) : Kept r s.showCeiling := h.set

theorem Kept.beginStop (h : Kept r s) {cause vin vbank : Nat} : Kept r (s.beginStop cause vin vbank) :=
  Kept.ite h (h.loseStep.abortCommands.set.update rfl)

theorem Kept.failCell (h : Kept r s) {cell vin vbank : Nat} : Kept r (s.failCell cell vin vbank) :=
  Kept.ite h ((h.set.showCeiling.update rfl).post.bound fun _ hs3 => Kept.ite hs3.beginStop (Kept.ite hs3.computeCap
    hs3))

theorem Kept.stopAnnounced (h : Kept r s) : Kept r s.stopAnnounced := by
  unfold State.stopAnnounced
  split
  · exact h
  · exact Kept.ite h (h.announceStop.post.update rfl).emit

theorem Kept.stopRegions (h : Kept r s) : Kept r s.stopRegions := by
  unfold State.stopRegions
  split
  · exact h
  · exact Kept.ite ((State.loseHbm_kept h.regionsOff).update rfl) h

theorem Kept.stopRecord (h : Kept r s) : Kept r s.stopRecord := by
  unfold State.stopRecord
  split
  · exact h
  · exact Kept.ite (h.update rfl) h

theorem Kept.stopHub (h : Kept r s) : Kept r s.stopHub := by
  unfold State.stopHub
  split
  · exact h
  · exact Kept.ite (h.regionsOff.hostLinkLost.portsOff.update rfl) h

theorem Kept.stopDone (h : Kept r s) : Kept r s.stopDone := by
  unfold State.stopDone
  split
  · exact h
  · exact Kept.ite (h.regionsOff.dropPassage.enter.update rfl) h

theorem Kept.execUndervoltageTimerStart (h : Kept r s) {vin : W16} :
    KeptNext r (Machine.execUndervoltageTimerStart vin s) := by
  unfold Machine.execUndervoltageTimerStart
  refine .next ?_
  split
  · extract_lets s1
    have hs1 : Kept r s1 := h.set.set.post
    exact Kept.ite hs1.targetFloor.computeCap hs1
  · exact h

/-! ### Machine/Reliability.lean -/

theorem Kept.retireUnit (h : Kept r s) {u cause : Nat} : Kept r (s.retireUnit u cause) := by
  unfold State.retireUnit
  split
  · exact h
  · extract_lets s1 i r' ok s2 s3
    have hs1 : Kept r s1 := h.recordRetired.post
    have hs2 : Kept r s2 := Kept.ite hs1.set hs1
    have hs3 : Kept r s3 := hs2.post
    split
    · exact hs1.coreLost
    · exact hs1.clusterLost
    · exact hs1.stagingSlotLost
    · exact hs1.stackLost
    · exact Kept.ite hs3.goDark hs3
    · exact hs1.portRetired
    · exact hs1.twinLinkRetired
    · exact hs1

theorem Kept.setFaultWindow (h : Kept r s) {u : Nat} {w : FaultWindow} : Kept r (s.setFaultWindow u w) :=
  h.set.update rfl

theorem Kept.repairSite (h : Kept r s) {u spare : Nat} {x : EccSite} {lines : List Nat} :
    Kept r (s.repairSite u spare x lines) := by
  unfold State.repairSite
  exact (h.setUnitState.bump.update rfl).setFaultWindow.post

theorem Kept.actLasting (h : Kept r s) {u : Nat} {site : Option (EccSite × List Nat)} : Kept r (s.actLasting u site) := by
  unfold State.actLasting
  split
  · exact h.update rfl
  · split
    · exact h
    · split
      · exact h.setUnitState
      · split
        · exact h.retireUnit
        · split
          · exact h.repairSite
          · extract_lets s1 _ _
            have hs1 : Kept r s1 := h.post
            split
            · exact hs1.setUnitState.update rfl
            · exact hs1
            · exact hs1
            · exact hs1.retireUnit

theorem Kept.crossing (h : Kept r s) {u inWindow : Nat} {site : Option (EccSite × List Nat)} :
    Kept r (s.crossing u inWindow site) :=
  (h.bump.update rfl).post.actLasting

theorem Kept.countUnit (h : Kept r s) {u : Nat} {site : Option EccSite} : Kept r (s.countUnit u site) :=
  h.bump.setFaultWindow.bound fun _ hs1 => Kept.ite hs1.crossing hs1

theorem Kept.countRow (h : Kept r s) {x : EccSite} {a row : Nat} : Kept r (s.countRow x a row) :=
  (h.bump.setFaultWindow.update rfl).bound fun _ hs2 => Kept.ite hs2.crossing hs2

theorem Kept.faultEvent (h : Kept r s) {u : Nat} {site : Option EccSite} : Kept r (s.faultEvent u site) := by
  unfold State.faultEvent
  extract_lets _ _ s1
  have hs1 : Kept r s1 := h.bump.update rfl
  split
  · exact hs1.countRow
  · exact hs1.countUnit

theorem Kept.memoryEvent (h : Kept r s) {x : EccSite} : Kept r (s.memoryEvent x) := by
  unfold State.memoryEvent
  split
  · exact Kept.ite h.faultEvent h
  · exact h

theorem Kept.spoilCopy (h : Kept r s) {block : Nat} {copyB : Bool} : Kept r (s.spoilCopy block copyB) :=
  Kept.ite (h.update rfl) (Kept.ite (h.update rfl) (h.update rfl))

theorem Kept.errorOutcome (h : Kept r s) {x : EccSite} : Kept r (s.errorOutcome x) := by
  unfold State.errorOutcome
  split
  · exact h.recomputeCore
  · exact h.recomputeCore
  · split
    · exact h
    · split
      · exact h.storeEntryLost
      · exact h
  · split
    · extract_lets s1
      have hs1 : Kept r s1 := h.dropLine
      exact Kept.ite (hs1.foldl _ fun _ _ ht => ht.markBad).addressLost hs1
    · exact h
  · exact h.discardAll
  · exact h.markBad.addressLost
  · exact h.entryLost
  · exact h
  · exact h.spoilCopy

theorem Kept.uncorrectable (h : Kept r s) {x : EccSite} : Kept r (s.uncorrectable x) := by
  unfold State.uncorrectable
  extract_lets _ _ s1
  have hs1 : Kept r s1 := h.bump.update rfl
  split
  · exact hs1.errorOutcome
  · exact hs1.post.errorOutcome.memoryEvent

theorem Kept.actDeferred (h : Kept r s) : Kept r s.actDeferred := (h.update rfl).foldl _ fun _ _ ht => ht.actLasting

theorem Kept.repairEffect (h : Kept r s) {k : Nat} : Kept r (s.repairEffect k) := by
  unfold State.repairEffect
  split
  · exact h
  · exact Kept.ite h (Kept.update (Kept.ite h h.setUnitState) rfl).actDeferred

theorem Kept.stepRepairs (h : Kept r s) : Kept r s.stepRepairs := by
  unfold State.stepRepairs
  refine h.foldl _ fun t x ht => ?_
  split
  · exact Kept.ite ht.repairEffect ht
  · exact ht

theorem Kept.execSoftRepairEffect (h : Kept r s) {repair : Nat} : KeptNext r (Machine.execSoftRepairEffect repair s) := by
  unfold Machine.execSoftRepairEffect
  refine .next ?_
  split
  · exact Kept.ite h h.repairEffect
  · exact h

theorem Kept.execHbmScrub (h : Kept r s) {stack : Fin 8} {found : Option EccSite} :
    KeptNext r (Machine.execHbmScrub stack found s) := by
  unfold Machine.execHbmScrub
  refine .next ?_
  split
  · exact Kept.ite h.memoryEvent h
  · exact h

theorem Kept.execSliceScrub (h : Kept r s) {slice : Fin 32} {found : Option EccSite} :
    KeptNext r (Machine.execSliceScrub slice found s) := by
  unfold Machine.execSliceScrub
  refine .next ?_
  split
  · exact Kept.ite h.memoryEvent h
  · exact h

/-! ### Machine/Mram.lean -/

theorem Kept.applySettings (h : Kept r s) {vals : List Nat} : Kept r (s.applySettings vals) :=
  h.foldl _ fun _ _ ht => ht.set

theorem Kept.markPersistent (h : Kept r s) {records : List RepairRecord} : Kept r (s.markPersistent records) := by
  unfold State.markPersistent
  extract_lets keep _ s1
  have hs1 : Kept r s1 := h.update rfl
  refine hs1.foldl _ fun t x ht => ?_
  extract_lets t1
  have ht1 : Kept r t1 := ht.setUnitState
  exact Kept.ite (ht1.foldl _ fun _ _ ht' => ht'.setUnitState) ht1

theorem Kept.extend (h : Kept r s) {i : Nat} {d : Digest} : Kept r (s.extend i d) := h.update rfl

theorem Kept.extendSettings (h : Kept r s) : Kept r s.extendSettings := h.extend

/-! ### Machine/Thermal.lean -/

theorem Kept.trip (h : Kept r s) {i : Nat} {t : Int} : Kept r (s.trip i t) := by
  unfold State.trip
  extract_lets s1 told s2 hub s4 _ _ _ s5
  have hs1 : Kept r s1 := h.takeSensor.set.set
  have htold : Kept r told := Kept.ite hs1.announceSafe hs1
  have hs2 : Kept r s2 := (State.loseHbm_kept htold.loseStep.regionsOff).post
  have hs4 : Kept r s4 := Kept.ite hs2.regionsOff.hostLinkLost.portsOff hs2
  have hs5 : Kept r s5 := (hs4.update rfl).emit
  exact Kept.ite hs5 hs5.enter

theorem Kept.busWrite (h : Kept r s) {index : Nat} {bs : List Byte} : Kept r (s.busWrite index bs) := by
  unfold State.busWrite
  split
  · split
    · exact h.takeCoolant
    · exact h.bump
  · exact Kept.ite h.bump (Kept.ite h (Kept.ite h.clearAlert h))

theorem Kept.execCoolantHoldEnd (h : Kept r s) : KeptNext r (Machine.execCoolantHoldEnd s) := by
  unfold Machine.execCoolantHoldEnd
  refine .next ?_
  split
  · exact h
  · split
    · extract_lets s1
      have hs1 : Kept r s1 := h.set.coolantLimits
      exact Kept.ite hs1.computeCap hs1
    · exact h

theorem Kept.execCoolantDataLost (h : Kept r s) : KeptNext r (Machine.execCoolantDataLost s) := by
  unfold Machine.execCoolantDataLost
  refine .next ?_
  split
  · extract_lets s1
    have hs1 : Kept r s1 := h.set.post
    exact Kept.ite hs1.computeCap hs1
  · exact h

theorem Kept.execBudgetFrame (h : Kept r s) {frame : List Byte} : KeptNext r (Machine.execBudgetFrame frame s) := by
  unfold Machine.execBudgetFrame
  refine .next ?_
  split
  · exact h
  · split
    · extract_lets s1
      have hs1 : Kept r s1 := h.set.set.set
      exact Kept.ite hs1.computeCap.checkFloor hs1
    · exact h.bump

/-! ### Machine/Startup.lean -/

theorem Kept.renumber (h : Kept r s) {old new : List Nat} : Kept r (s.renumber old new) := Kept.ite h (h.update rfl)

theorem Kept.numberCores (h : Kept r s) : Kept r s.numberCores := h.renumber.set.update rfl

theorem Kept.copyStopRecord (h : Kept r s) : Kept r s.copyStopRecord := Kept.ite (h.foldl _ fun _ _ ht => ht.set) h

theorem Kept.dropPhase (h : Kept r s) {u : Nat} : Kept r (s.dropPhase u) :=
  Kept.bound (Kept.ite h.set h) fun _ hs1 => Kept.ite hs1.goDark hs1

theorem Kept.restoreDamage (h : Kept r s) : Kept r s.restoreDamage :=
  (h.foldl _ fun _ _ ht => ht.set.set).set.showCeiling.foldl _ fun _ _ ht => ht.dropPhase

theorem Kept.keepHub (h : Kept r s) {old : State} : Kept r (s.keepHub old) :=
  (h.foldl _ fun _ _ ht => Kept.ite ht.wr ht).bound fun _ hs1 => Kept.ite (hs1.wr.set.update rfl) hs1

theorem Kept.enterBoot (h : Kept r s) {cause : Nat} : Preserved r (s.enterBoot cause) := by
  unfold State.enterBoot
  extract_lets cold _ _ _ _ _ _ _ base s1 s1' s2 s3 s4 s5 _ _
  have hbase : Preserved r base :=
    { pending := h.pending, variant := h.variant, uid := h.uid, mem := fun _ => rfl, knots := fun _ => rfl,
      queue := fun _ => Nat.zero_le _ }
  have hs1 : Kept base s1' := Kept.ite (Kept.refl base).set.keepHub (Kept.refl base).set
  have hs3 : Kept base s3 := hs1.restoreDamage.set.set.copyStopRecord.set.enter
  have hs4 : Kept base s4 := Kept.ite hs3.emit hs3
  have hs5 : Kept base s5 := Kept.ite hs4.emit hs4
  split
  · exact hbase.kept (hs5.update rfl).post
  · exact hbase.kept hs5

theorem Kept.deviceReset (h : Kept r s) {cause : Nat} : Preserved r (s.deviceReset cause) := by
  unfold State.deviceReset
  split
  · exact h.preserved
  · exact h.abortCommands.enterBoot

theorem Kept.enterReady (h : Kept r s) {cause : Nat} : Kept r (s.enterReady cause) :=
  (h.enter.update rfl).foldl _ fun _ _ ht => ht.retireUnit

/-- The fuses that a COMMIT_SVN image blows are not the part's variant or UID. -/
theorem Kept.commitSvn (h : Kept r s) : Kept r s.commitSvn := by
  unfold State.commitSvn
  extract_lets p b p'
  have hp' : Kept r { s with part := p' } := { h with }
  exact Kept.ite hp'.set.set.post h

theorem Kept.finishBoot (h : Kept r s) : Kept r s.finishBoot := by
  unfold State.finishBoot
  extract_lets ms s1 _ _ s2 s3
  have hs1 : Kept r s1 := h.set.set
  have hs2 : Kept r s2 := (hs1.update rfl).enterReady.post
  have hs3 : Kept r s3 := by
    unfold s3
    split
    · exact hs2.post
    · exact hs2
  exact hs3.commitSvn

theorem Kept.startLoops (h : Kept r s) : Kept r s.startLoops := by
  unfold State.startLoops
  extract_lets s1 _ _ s2 s3
  have hs1 : Kept r s1 := h.set.numberCores
  have hs2 : Kept r s2 := hs1.update rfl
  have hs3 : Kept r s3 := hs2.foldl _ fun _ _ ht => ht.set
  exact Kept.ite hs1.set.enter hs3.coolantLimits.computeCap.checkFloor.set

theorem Kept.clearSecrets (h : Kept r s) : Kept r s.clearSecrets := by
  unfold State.clearSecrets
  exact (h.set.set.update rfl).post

theorem Kept.reloadKeys (h : Kept r s) : Kept r s.reloadKeys := by
  unfold State.reloadKeys
  split
  · exact h
  · extract_lets s1 _ s2 _ _
    have hs1 : Kept r s1 := h.set
    have hs2 : Kept r s2 := hs1.update rfl
    exact Kept.ite hs2 (hs2.set.update rfl)

theorem Kept.leaveBist (h : Kept r s) : Kept r s.leaveBist := by
  unfold State.leaveBist
  split
  · exact h
  · extract_lets _ s1 s2
    have hs1 : Kept r s1 := Kept.update (Kept.ite h.reloadKeys h) rfl
    have hs2 : Kept r s2 := hs1.set
    exact Kept.ite hs2 (Kept.ite hs2.enter hs2.numberCores.enterReady)

theorem Kept.startBist (h : Kept r s) {startup : Bool} {selection : Nat} : Kept r (s.startBist startup selection) := by
  unfold State.startBist
  extract_lets s1 c s2 dies logic s2' s3 s4
  have hs1 : Kept r s1 := h.set.set.set.set
  have hs2 : Kept r s2 := hs1.set.set.post
  have hs2' : Kept r s2' := hs1.set.wr
  have hs3 : Kept r s3 := hs2'.foldl _ fun _ _ ht => ht.set.set
  have hs4 : Kept r s4 := Kept.ite hs3.clearSecrets hs3
  exact Kept.ite (hs2.update rfl).leaveBist (hs4.update rfl)

theorem Kept.bistProgress (h : Kept r s) : Kept r s.bistProgress := by
  unfold State.bistProgress
  split
  · exact h
  · exact Kept.ite (Kept.leaveBist (Kept.ite h.post.set h.post)) h

theorem Kept.failCoreDomain (h : Kept r s) {p : Nat} : Kept r (s.failCoreDomain p) :=
  Kept.ite h.bump.retireUnit.faultEvent h

theorem Kept.failClusterDomain (h : Kept r s) {c : Nat} : Kept r (s.failClusterDomain c) :=
  h.bump.foldl _ fun _ _ ht => ht.retireUnit.faultEvent

theorem Kept.failUncoreDomain (h : Kept r s) {d : Nat} : Kept r (s.failUncoreDomain d) := by
  unfold State.failUncoreDomain
  exact h.bump.dieLost

theorem Kept.bistBatch (h : Kept r s) {d : Nat} {cores clusters : List Nat} {uncore : Bool} :
    Kept r (s.bistBatch d cores clusters uncore) := by
  unfold State.bistBatch
  split
  · exact h
  · split
    · extract_lets s1 s2 s3
      have hs1 : Kept r s1 := (h.update rfl).bump
      have hs2 : Kept r s2 := hs1.foldl _ fun _ _ ht => ht.failCoreDomain
      have hs3 : Kept r s3 := hs2.foldl _ fun _ _ ht => ht.failClusterDomain
      exact Kept.bistProgress (Kept.ite hs3.failUncoreDomain hs3)
    · exact h

theorem Kept.bistFault (h : Kept r s) {f : BistFault} : Kept r (s.bistFault f) := by
  unfold State.bistFault
  split
  · exact h
  · split
    · split
      · exact h.repairSite.bump.faultEvent
      · exact Kept.ite h.faultEvent h.retireUnit.bump.faultEvent
    · exact h

theorem Kept.bistMemory (h : Kept r s) {hbm : Bool} {faults : List BistFault} : Kept r (s.bistMemory hbm faults) := by
  unfold State.bistMemory
  split
  · exact h
  · exact Kept.ite ((h.update rfl).foldl _ fun _ _ ht => ht.bistFault).bistProgress h

theorem Kept.bistAbort (h : Kept r s) {c : Nat} : Kept r (s.bistAbort c) := by
  unfold State.bistAbort
  split
  · exact h
  · exact Kept.ite h.set.set.post.leaveBist h

/-! ### Machine/Boot.lean -/

theorem Kept.startImage (h : Kept r s) {slotB fallback : Bool} : Kept r (s.startImage slotB fallback) :=
  (h.extend.extend.update rfl).set.set.set.set.set.set.setFlag.setFlag.set

theorem Kept.enableHub (h : Kept r s) : Kept r s.enableHub :=
  (h.foldl _ fun _ _ ht => ht.requestEnable).bound fun _ hs1 => Kept.ite hs1.set.enter hs1

theorem Kept.readVf {x : State × Bool} (h : Kept r x.1) {d p : Nat} : Kept r (s.readVf d x p).1 := by
  unfold State.readVf
  extract_lets i e copy mramMv t
  have ht : Kept r t := h.set
  split
  · exact ht.set
  · split
    · exact ht.set.set
    · clear_value copy
      split <;> dsimp only
      · exact Kept.post ht.set.set.set
      · exact Kept.post ht.set

theorem Kept.readVfDie (h : Kept r s) {d : Nat} : Kept r (s.readVfDie d) := by
  unfold State.readVfDie
  extract_lets t
  have ht : Kept r t := h.foldlPair' _ fun _ _ hq => hq.readVf
  exact Kept.ite (Kept.ite ht ht.set) h

theorem Kept.execVtableRead (h : Kept r s) : KeptNext r (Machine.execVtableRead s) := by
  unfold Machine.execVtableRead
  refine .next ?_
  extract_lets _ s0 s1
  have hs0 : Kept r s0 := Kept.ite (h.update rfl) h
  have hs1 : Kept r s1 := hs0.foldl _ fun _ _ ht => ht.readVfDie
  exact Kept.ite hs1.set.set hs0

theorem Kept.execBridgeTrainingDone (h : Kept r s) {bridge : Fin 8} {ok : Bool} :
    KeptNext r (Machine.execBridgeTrainingDone bridge ok s) := by
  unfold Machine.execBridgeTrainingDone
  refine .next ?_
  split
  · extract_lets s1 _ s2
    have hs1 : Kept r s1 := h.set
    have hs2 : Kept r s2 := (hs1.update rfl).post
    exact Kept.ite hs1 (Kept.ite hs2.set hs2)
  · exact h

theorem Kept.execStackTrainingDone (h : Kept r s) {stack : Fin 8} {ok : Bool} :
    KeptNext r (Machine.execStackTrainingDone stack ok s) := by
  unfold Machine.execStackTrainingDone
  refine .next ?_
  split
  · split
    · exact (State.loseStack_kept h _).update rfl
    · extract_lets n _ s1
      have hs1 : Kept r s1 := h.update rfl
      exact Kept.ite hs1.set.post.faultEvent hs1
  · exact h

theorem Kept.applyRecord (h : Kept r s) {sel : RepairRecord} : Kept r (s.applyRecord sel) :=
  Kept.ite (h.recordRetired.update rfl) (Kept.ite h (h.setUnitState.bump.update rfl))

theorem Kept.reportUnsound (h : Kept r s) {block : Nat} {sound : Bool} : Kept r (s.reportUnsound block sound) :=
  Kept.ite h h.post

theorem Kept.loadSettings (h : Kept r s) : Kept r s.loadSettings :=
  (h.set.applySettings.reportUnsound.reportUnsound.reportUnsound.foldl _ fun _ _ ht =>
    ht.applyRecord).markPersistent.set.extendSettings.applyMargins.update rfl

theorem Kept.execSettingsLoad (h : Kept r s) : KeptNext r (Machine.execSettingsLoad s) := by
  unfold Machine.execSettingsLoad
  refine .next ?_
  split
  · extract_lets s1 _
    have hs1 : Kept r s1 := h.loadSettings
    exact Kept.ite (hs1.update rfl).set.enter.startBist hs1
  · exact h

/-! ### Machine/HostBus.lean -/

theorem Kept.dropLink (h : Kept r s) : Kept r s.dropLink := h.set.set.set

theorem Kept.execPcieLinkDown (h : Kept r s) : KeptNext r (Machine.execPcieLinkDown s) := by
  unfold Machine.execPcieLinkDown
  refine .next ?_
  split
  · extract_lets _ _ s1
    have hs1 : Kept r s1 := h.dropLink.update rfl
    exact Kept.ite hs1.raiseAlert hs1
  · exact h

theorem Kept.commandHostFault (h : Kept r s) {m : Nat} : Kept r (s.commandHostFault m) := by
  unfold State.commandHostFault
  split
  · exact h
  · exact Kept.ite (Kept.dropLoad (Kept.ite (h.update rfl) h)).complete h

theorem Kept.execPcieCompletionError (h : Kept r s) {access : HostAccess} :
    KeptNext r (Machine.execPcieCompletionError access s) := by
  unfold Machine.execPcieCompletionError
  refine .next ?_
  split
  · exact h
  · split
    · exact Kept.ite h.mailboxError h
    · exact Kept.ite h.mailboxError h
    · exact h.commandHostFault
    · exact Kept.ite h.set h
    · exact h.snapshotHostFault
    · exact h.offloadHostFault

theorem Kept.unmaskVector (h : Kept r s) {v : Nat} : Kept r (s.unmaskVector v) := Kept.ite h.set.wr.emit h.set

theorem Kept.clearStopRecord (h : Kept r s) : Kept r s.clearStopRecord :=
  Kept.ite ((h.foldl _ fun _ _ ht => ht.set).bound fun _ hs1 => Kept.ite hs1 (hs1.update rfl)) h

theorem Kept.touchReached (h : Kept r s) {a n : Nat} {write : Bool} : Kept r (s.touchReached a n write) :=
  h.touchCache

theorem Kept.bar4Read (h : Kept r s) {off n : Nat} : Kept r (s.bar4Read off n) := by
  unfold State.bar4Read
  extract_lets a bytes bad s0 s1
  have hs0 : Kept r s0 := Kept.ite h.touchReached h
  have hs1 : Kept r s1 := hs0.foldl _ fun _ _ ht => ht.uncorrectable
  exact hs1.emit

theorem Kept.storeReached (h : Kept r s) {a : Nat} {bs : List Byte} : Kept r (s.storeReached a bs) :=
  (h.touchReached.foldl _ fun _ _ ht => Kept.ite (State.writeByte_kept ht _ _) ht).update rfl

theorem Kept.bar4Write (h : Kept r s) {off : Nat} {bs : List Byte} {poisoned : Bool} :
    Kept r (s.bar4Write off bs poisoned) :=
  Kept.ite h.post (Kept.ite h.storeReached h)

/-! ### Machine/Commands.lean -/

theorem Kept.nop (h : Kept r s) {c : Cmd} : Kept r (s.nop c) := h.command fun _ ht => ht.finish

theorem Kept.identGet (h : Kept r s) {c : Cmd} : Kept r (s.identGet c) := h.command fun _ ht => ht.finish

theorem Kept.measureGet (h : Kept r s) {c : Cmd} : Kept r (s.measureGet c) :=
  h.command fun _ ht => ht.writeBuffer.finish

theorem Kept.storeCommand (h : Kept r s) {c : Cmd} : Kept r (s.storeCommand c) :=
  h.command fun _ ht => Kept.ite ht.set.finish (ht.startRunning.update rfl)

theorem Kept.endStore (h : Kept r s) {m : Nat} {tag : W16} {blocks settings : List Nat}
    {records : List RepairRecord} {vtable : List (List (BitVec 10))} :
    Kept r (s.endStore m tag blocks settings records vtable) :=
  ((h.update rfl).extend.markPersistent.set.set.set.post.foldl _ fun _ _ ht => ht.post).complete

theorem Kept.fwUpdate (h : Kept r s) {c : Cmd} : Kept r (s.fwUpdate c) :=
  h.command fun _ ht => Kept.ite (ht.startRunning.update rfl) ht.finish

theorem Kept.endUpdate (h : Kept r s) {m : Nat} {tag : W16} {slotB : Bool} {image : List Byte} :
    Kept r (s.endUpdate m tag slotB image) :=
  (h.update rfl).complete

theorem Kept.completeInBoot (h : Kept r s) {c : Cmd} : Kept r (s.completeInBoot c) := Kept.ite h.writeCompletion h

theorem Kept.deviceResetCommand (h : Kept r s) {c : Cmd} : Preserved r (s.deviceResetCommand c) :=
  h.commandBoot h.completeInBoot.deviceReset

theorem Kept.deviceRecover (h : Kept r s) {c : Cmd} : Preserved r (s.deviceRecover c) :=
  h.commandBoot h.completeInBoot.abortCommands.enterBoot

theorem Kept.bistRun (h : Kept r s) {c : Cmd} : Kept r (s.bistRun c) :=
  h.command fun _ ht => ht.startRunning.enter.startBist

theorem Kept.endBistRun (h : Kept r s) {m : Nat} {tag : W16} : Kept r (s.endBistRun m tag) :=
  Kept.ite (h.set.update rfl).complete h

theorem Kept.unitRetire (h : Kept r s) {c : Cmd} : Kept r (s.unitRetire c) :=
  h.command fun _ ht => Kept.ite (ht.update rfl).finish ht.retireUnit.finish

/-! ### Machine/PassageCmds.lean -/

theorem Kept.keepImage (h : Kept r s) {p : Passage} : Kept r (s.keepImage p) :=
  h.foldl _ fun _ _ ht => ht.store.mapEntry

/-- A load that succeeds. -/
theorem Kept.loadPassage (h : Kept r s) {j : LoadJob} {t : State} (ht : s.loadPassage j = .ok t) : Kept r t := by
  unfold State.loadPassage at ht
  extract_lets p hostMap homes at ht
  clear_value homes
  split at ht
  · cases ht
  · split at ht
    · cases ht
    · split at ht
      · cases ht
      · next s1 plan hplan =>
        cases ht
        have hs1 : Kept r s1 := h.place hplan
        exact (hs1.update rfl).keepImage.initTensors.set.setOwn.extend

theorem Kept.showLoad (h : Kept r s) {e : LoadError} : Kept r (s.showLoad e) := h.set.set.set

theorem Kept.endLoad (h : Kept r s) {m : Nat} {tag : W16} : Kept r (s.endLoad m tag) := by
  unfold State.endLoad
  extract_lets s0
  have hs0 : Kept r s0 := h.update rfl
  split
  · exact hs0.complete
  · split
    · exact hs0.complete
    · split
      · exact hs0.showLoad.complete
      · next t ht => exact (hs0.loadPassage ht).showLoad.complete

theorem Kept.passageLoad (h : Kept r s) {c : Cmd} : Kept r (s.passageLoad c) :=
  h.command fun _ ht => ht.startRunning.update rfl

theorem Kept.endCarry (h : Kept r s) : Kept r s.endCarry := by
  unfold State.endCarry
  split
  · exact h
  · exact (h.update rfl).setTwin.mapTwin.setAlias.recordChanged

theorem Kept.unload (h : Kept r s) : Kept r s.unload := by
  unfold State.unload
  exact (h.failSnapshot.endCarry.update rfl).set.set.set.set.showAway

theorem Kept.passageUnload (h : Kept r s) {c : Cmd} : Kept r (s.passageUnload c) :=
  h.command fun _ ht => ht.unload.finish

theorem Kept.clearScales (h : Kept r s) : Kept r s.clearScales := h.foldl _ fun _ _ ht => ht.setOwn.setOwn

theorem Kept.arm (h : Kept r s) {base : Nat} : Kept r (s.arm base) :=
  ((h.update rfl).foldl _ fun _ _ ht =>
    ht.leavesStorage).ackDropped.showHeld.clearScales.setOwn.setOwn.set.enter.stepEnergyBegin.bound fun _ hs3 =>
    Kept.checkMirror (Kept.ite hs3.sendArmed hs3)

theorem Kept.passageArm (h : Kept r s) {c : Cmd} : Kept r (s.passageArm c) := h.command fun _ ht => ht.arm.finish

theorem Kept.releaseArrivals (h : Kept r s) : Kept r s.releaseArrivals := h.update rfl

theorem Kept.stepRun (h : Kept r s) {c : Cmd} : Kept r (s.stepRun c) :=
  h.command fun _ ht => ht.releaseArrivals.mapRole.set.enter.finish

theorem Kept.stepStop (h : Kept r s) {c : Cmd} : Kept r (s.stepStop c) := h.command fun _ ht => ht.set.set.enter.finish

theorem Kept.stepHold (h : Kept r s) {c : Cmd} : Kept r (s.stepHold c) :=
  h.command fun _ ht => Kept.finish (Kept.ite ht.holdBy ht.set)

theorem Kept.stepResume (h : Kept r s) {c : Cmd} : Kept r (s.stepResume c) := h.command fun _ ht => ht.enter.finish

theorem Kept.stepAbort (h : Kept r s) {c : Cmd} : Kept r (s.stepAbort c) :=
  h.command fun _ ht => Kept.ite (Kept.finish (Kept.ite ht.set.enter ht.set)) (ht.update rfl).set.set.set.enter.finish

theorem Kept.disarmRole (h : Kept r s) : Kept r s.disarmRole := by
  unfold State.disarmRole
  extract_lets late homes s1
  have hhomes : Kept r homes := by
    unfold homes
    split
    · exact h.releaseHomes
    · exact h
  have hs1 : Kept r s1 := hhomes.mapRole
  exact Kept.ite hs1 hs1.startRestore

theorem Kept.endMirroring (h : Kept r s) : Kept r s.endMirroring := Kept.ite h.setTwin.mapTwin h

theorem Kept.disarm (h : Kept r s) : Kept r s.disarm := by
  unfold State.disarm
  extract_lets s1 _ s2 s2' s3 s4
  have hs1 : Kept r s1 := ((h.asOwn fun _ ht => ht.disarmRole).asRole fun _ ht => ht.disarmRole).dropOpenRecords
  have hs2 : Kept r s2 := hs1.update rfl
  have hs2' : Kept r s2' := hs2.foldl _ fun _ _ ht => ht.leavesStorage
  have hs3 : Kept r s3 := hs2'.ackDropped.showHeld.set.set.set.set.set.set.set.set.set
  have hs4 : Kept r s4 := hs3.detachAtCommit.endMirroring.mapRole
  exact Kept.ite hs4 hs4.enter

theorem Kept.passageDisarm (h : Kept r s) {c : Cmd} : Kept r (s.passageDisarm c) :=
  h.command fun _ ht => ht.disarm.bound fun _ hs1 => Kept.ite hs1.finish hs1.startRunning

theorem Kept.endDisarm (h : Kept r s) {m : Nat} {tag : W16} : Kept r (s.endDisarm m tag) := Kept.ite h h.complete

theorem Kept.switchDuty (h : Kept r s) {modes i : Nat} : Kept r (State.switchDuty modes s i) :=
  Kept.ite h.set h.setFlag.set

theorem Kept.dutySet (h : Kept r s) {c : Cmd} : Kept r (s.dutySet c) := by
  unfold State.dutySet
  exact h.command fun _ ht => (ht.foldl _ fun _ _ ht' => ht'.switchDuty).finish

theorem Kept.newHostmap (h : Kept r s) {hm : List Nat} : Kept r (s.newHostmap hm) :=
  h.mapRole.foldl _ fun _ _ ht => ht.moveLeg

theorem Kept.hostmapSet (h : Kept r s) {c : Cmd} : Kept r (s.hostmapSet c) := h.command fun _ ht => ht.newHostmap.finish

theorem Kept.supplyClip (h : Kept r s) {clip : Nat} {proceed : Bool} : Kept r (s.supplyClip clip proceed) := by
  unfold State.supplyClip
  split
  · exact h
  · extract_lets s1
    have hs1 : Kept r s1 := h.mapUpdate
    exact Kept.ite hs1.setOwn.applyClip hs1

theorem Kept.updClipSet (h : Kept r s) {c : Cmd} : Kept r (s.updClipSet c) :=
  h.command fun _ ht => ((ht.asOwn fun _ ht' => ht'.supplyClip).asRole fun _ ht' => ht'.supplyClip).finish

theorem Kept.rungSet (h : Kept r s) {c : Cmd} : Kept r (s.rungSet c) := h.command fun _ ht => ht.mapRole.finish

theorem Kept.historyRead (h : Kept r s) {c : Cmd} : Kept r (s.historyRead c) := h.command fun _ ht => ht.finish

theorem Kept.historyWrite (h : Kept r s) {c : Cmd} : Kept r (s.historyWrite c) :=
  h.command fun _ ht => ht.mapRole.finish

theorem Kept.openSnapshot (h : Kept r s) {ids : List Nat} {n : Nat} {dest : W64} {slots addr : Nat} :
    Kept r (s.openSnapshot ids n dest slots addr) := by
  unfold State.openSnapshot
  exact (h.update rfl).set.set.showLeft

theorem Kept.snapshotRequest (h : Kept r s) {c : Cmd} : Kept r (s.snapshotRequest c) :=
  h.command fun _ ht => ht.openSnapshot.finish

theorem Kept.snapshotAbort (h : Kept r s) {c : Cmd} : Kept r (s.snapshotAbort c) :=
  h.command fun _ ht => ht.failSnapshot.finish

theorem Kept.restoreComplete (h : Kept r s) {c : Cmd} : Kept r (s.restoreComplete c) :=
  h.command fun _ ht => ht.hostRestored.heldLoss.finish

theorem Kept.fabricReleaseId (h : Kept r s) {c : Cmd} : Kept r (s.fabricReleaseId c) :=
  h.command fun _ ht => (ht.update rfl).finish

theorem Kept.twinCommand (h : Kept r s) {c : Cmd} {device twin busy : Bool} {effect : State → State}
    (heffect : ∀ t, Kept r t → Kept r (effect t)) : Kept r (s.twinCommand c device twin busy effect) :=
  h.command fun _ ht => Kept.ite (heffect _ ht).finish ht.finish

theorem Kept.twinCarry (h : Kept r s) {c : Cmd} : Kept r (s.twinCarry c) :=
  h.twinCommand fun _ ht => (ht.asOwn fun _ ht' => ht'.carry).endTwinHold

theorem Kept.twinHandover (h : Kept r s) {c : Cmd} : Kept r (s.twinHandover c) :=
  h.twinCommand fun _ ht => ht.startHandover

theorem Kept.twinRelease (h : Kept r s) {c : Cmd} : Kept r (s.twinRelease c) :=
  h.twinCommand fun _ ht => ht.releaseTwin.endTwinHold

theorem Kept.twinDetach (h : Kept r s) {c : Cmd} : Kept r (s.twinDetach c) :=
  h.twinCommand fun _ ht => Kept.ite ht.mapTwin ht.detach

/-! ### Machine/Fabric.lean -/

theorem Kept.transmit (h : Kept r s) {port : Nat} {p : Packet} : Kept r (s.transmit port p) := h.setPort.bump.emit

theorem Kept.replay (h : Kept r s) {port : Nat} : Kept r (s.replay port) := by
  unfold State.replay
  extract_lets q
  split
  · exact h
  · exact h.bump.emit

theorem Kept.linkFails (h : Kept r s) {p : Nat} : Kept r (s.linkFails p) :=
  h.portLost.faultEvent.bound fun _ hs1 => Kept.ite hs1.showTwin hs1

theorem Kept.trained (h : Kept r s) {p : Nat} {failed : Byte} {reversed : Bool} {polarity : Byte} :
    Kept r (s.trained p failed reversed polarity) := by
  unfold State.trained
  split
  · exact h
  · extract_lets width s1 s1' s2 s3
    have hs1 : Kept r s1 := h.setPortState
    have hs1' : Kept r s1' := h.setPortState.set.setFlag
    have hs2 : Kept r s2 := hs1'.set
    have hs3 : Kept r s3 := Kept.ite hs2 hs2.setPortBit.post
    exact Kept.ite (Kept.ite hs1.showTwin hs1) (Kept.ite hs3.mapTwin.showTwin hs3)

theorem Kept.twinHello (h : Kept r s) : Kept r s.twinHello := h.emit

theorem Kept.twinPathBack (h : Kept r s) : Kept r s.twinPathBack := Kept.ite h.set.bump h

theorem Kept.alignment (h : Kept r s) {p : Nat} : Kept r (s.alignment p) := by
  unfold State.alignment
  extract_lets q s1 _ s1' s1''
  have hs1 : Kept r s1 := h.setPort
  have hs1' : Kept r s1' := hs1.update rfl
  have hs1'' : Kept r s1'' := h.setPort
  split
  · exact h
  · split
    · exact Kept.ite hs1'.setPortState.mapTwin.showTwin.twinHello hs1'.setPortState.emit
    · exact Kept.ite (Kept.ite hs1''.twinPathBack hs1'') h

theorem Kept.alignmentLost (h : Kept r s) {p : Nat} : Kept r (s.alignmentLost p) := by
  unfold State.alignmentLost
  extract_lets q s1
  have hs1 : Kept r s1 := h.setPort
  exact Kept.ite (Kept.ite hs1.twinPathLost hs1) h

theorem Kept.alignmentTimeout (h : Kept r s) {p : Nat} : Kept r (s.alignmentTimeout p) := Kept.ite h.linkFails h

theorem Kept.retrained (h : Kept r s) {p : Nat} {ok : Bool} : Kept r (s.retrained p ok) :=
  Kept.ite h (Kept.ite h.setPort.replay h.linkFails)

theorem Kept.trainingTimeout (h : Kept r s) {p : Nat} : Kept r (s.trainingTimeout p) := Kept.ite h.linkFails h

theorem Kept.flapHoldOver (h : Kept r s) {p : Nat} : Kept r (s.flapHoldOver p) := by
  unfold State.flapHoldOver
  split
  · exact h
  · extract_lets s1
    have hs1 : Kept r s1 := h.setPortState
    exact Kept.ite hs1.showTwin hs1

theorem Kept.rejectCodeword (h : Kept r s) {p : Nat} : Kept r (s.rejectCodeword p) :=
  Kept.ite h.bump.setPort.bump h.bump.setPort

theorem Kept.takePackets (h : Kept r s) {port : Nat} {ps : List Packet} : Kept r (s.takePackets port ps) :=
  ((h.bump.foldl _ fun _ _ ht => ht.emit).update rfl).bound fun _ hs1 => Kept.ite (hs1.update rfl) (hs1.update rfl)

theorem Kept.codeword (h : Kept r s) {p : Nat} {cw : Codeword} : Kept r (s.codeword p cw) := by
  unfold State.codeword
  extract_lets q
  split
  · exact h
  · split
    · exact h.rejectCodeword
    · extract_lets s1 rx s2 s3
      have hs1 : Kept r s1 := h.bump
      have hs2 : Kept r s2 := hs1.setPort
      have hs3 : Kept r s3 := hs2.bump.takePackets
      exact Kept.ite (Kept.ite hs3.replay hs3) (Kept.ite hs1 hs1.setPort)

theorem Kept.setRouter (h : Kept r s) {ps : List Packet} : Kept r (s.setRouter ps) := h.update rfl

theorem Kept.dropPacket (h : Kept r s) {n : Nat} {count : Field} : Kept r (s.dropPacket n count) :=
  (h.setRouter.bump.foldl _ fun _ _ ht => ht.leavesStorage).snapshotDropped

theorem Kept.hop (h : Kept r s) {n : Nat} {p : Packet} : Kept r (s.hop n p) := by
  unfold State.hop
  extract_lets entry rest away free s1 _
  have hs1 : Kept r s1 := h.setRouter
  split
  · exact h.dropPacket
  · split
    · exact h.dropPacket
    · split
      · exact hs1.update rfl
      · split
        · exact h.dropPacket
        · split
          · clear_value free
            split
            · exact h.setRouter.leavesStorage.transmit
            · exact h.setRouter.leavesStorage.transmit
          · clear_value free
            split
            · exact h.setRouter.leavesStorage.transmit
            · exact h

theorem Kept.routerHop (h : Kept r s) {n : Nat} : Kept r (s.routerHop n) := by
  unfold State.routerHop
  split
  · exact Kept.ite h.hop h
  · extract_lets i _
    split
    · exact Kept.ite (h.update rfl).transmit h
    · exact h

theorem Kept.unroutable (h : Kept r s) {n : Nat} : Kept r (s.unroutable n) := by
  unfold State.unroutable
  split
  · exact h
  · exact Kept.ite h.dropPacket h

/-! ### Machine/Fetch.lean -/

theorem Kept.dispatch (h : Kept r s) {c : Cmd} {opcode : Nat} : Preserved r (s.dispatch c opcode) := by
  unfold State.dispatch
  split
  · exact h.nop.preserved
  · exact h.identGet.preserved
  · exact h.measureGet.preserved
  · exact h.storeCommand.preserved
  · exact h.fwUpdate.preserved
  · exact h.deviceResetCommand
  · exact h.deviceRecover
  · exact h.bistRun.preserved
  · exact h.unitRetire.preserved
  · exact h.passageLoad.preserved
  · exact h.passageUnload.preserved
  · exact h.passageArm.preserved
  · exact h.stepRun.preserved
  · exact h.stepStop.preserved
  · exact h.stepHold.preserved
  · exact h.stepResume.preserved
  · exact h.stepAbort.preserved
  · exact h.passageDisarm.preserved
  · exact h.dutySet.preserved
  · exact h.hostmapSet.preserved
  · exact h.updClipSet.preserved
  · exact h.rungSet.preserved
  · exact h.historyRead.preserved
  · exact h.historyWrite.preserved
  · exact h.snapshotRequest.preserved
  · exact h.snapshotAbort.preserved
  · exact h.restoreComplete.preserved
  · exact h.fabricReleaseId.preserved
  · exact h.twinCarry.preserved
  · exact h.twinHandover.preserved
  · exact h.twinRelease.preserved
  · exact h.twinDetach.preserved
  · exact (h.command fun _ ht => ht).preserved

theorem Kept.advanceHead (h : Kept r s) {m : Nat} : Kept r (s.advanceHead m) := h.set

theorem Kept.fetchCommand (h : Kept r s) {f : Fetch} : Preserved r (s.fetchCommand f) := by
  unfold State.fetchCommand
  split
  · exact h.preserved
  · extract_lets s1
    have hs1 : Kept r s1 := h.update rfl
    split
    · exact hs1.mailboxError.preserved
    · exact hs1.advanceHead.dispatch

theorem Kept.endCommand (h : Kept r s) {m : Nat} : Kept r (s.endCommand m) := by
  unfold State.endCommand
  split
  · exact h
  · split
    · split
      · exact h.endStore
      · exact h
    · split
      · split
        · exact h.endUpdate
        · exact h
      · exact Kept.ite h.endBistRun (Kept.ite h.endLoad (Kept.ite h.endDisarm h))

/-! ### Machine/Forerunner.lean -/

theorem Kept.frwGo (h : Kept r s) {value : W32} : Kept r (s.frwGo value) :=
  Kept.ite h (Kept.ite h.bump (Kept.ite (h.set.update rfl) h.set))

theorem Kept.frwFlags (h : Kept r s) {j : FrwJob} {fs : List (Nat × Flags)} : Kept r (s.frwFlags j fs) :=
  (State.freeWord_kept (State.freeWord_kept h)).foldl _ fun _ _ ht => ht.raiseFlags

theorem Kept.frwCounters (h : Kept r s) {j : FrwJob} : Kept r (s.frwCounters j) :=
  Kept.ite h (Kept.ite h.bump.bump h.bump)

theorem Kept.frwEnd (h : Kept r s) {code : Nat} : Kept r (s.frwEnd code) := h.set.bump.update rfl

theorem Kept.frwFinish (h : Kept r s) {j : FrwJob} : Kept r (s.frwFinish j) :=
  Kept.ite (State.writeBytes_kept h.freeBytes _ _).frwEnd (Kept.store (Kept.ite h h.frwFlags)).frwCounters.frwEnd

theorem Kept.execForerunnerJobDone (h : Kept r s) : KeptNext r (Machine.execForerunnerJobDone s) := by
  unfold Machine.execForerunnerJobDone
  refine .next ?_
  split
  · exact h
  · exact h.frwFinish

/-! ### Machine/Messages.lean -/

theorem Kept.landWrite (h : Kept r s) {a : Nat} {bs : List Byte} : Kept r (s.landWrite a bs) :=
  Kept.ite h (Kept.ite h.emit (Kept.ite h.twinWrites h.store))

theorem Kept.setApplied (h : Kept r s) {src knot n : Nat} : Kept r (s.setApplied src knot n) := h.update rfl

theorem Kept.trySignal (h : Kept r s) {p : Packet} : KeptIf r (s.trySignal p) :=
  KeptIf.ite (KeptIf.some (State.advance_kept h.setApplied _ _).oweAck) KeptIf.none

theorem Kept.takeSignal (h : Kept r s) {p : Packet} : Kept r (s.takeSignal p) := Kept.getD h.trySignal (h.update rfl)

theorem Kept.retrySignals (h : Kept r s) {src knot : Nat} : Kept r (s.retrySignals src knot) := by
  unfold State.retrySignals
  refine h.foldl _ fun t x ht => ?_
  split
  · rename_i t' het'
    have ht' : Kept r t' := Kept.ofSome het' ht.trySignal
    exact ht'.update rfl
  · exact ht

theorem Kept.takeWrite (h : Kept r s) {p : Packet} : Kept r (s.takeWrite p) :=
  h.landWrite.oweAck.bound fun _ hs1 => Kept.ite hs1 hs1.setApplied.retrySignals

theorem Kept.takeAck (h : Kept r s) {p : Packet} : Kept r (s.takeAck p) := h.update rfl

theorem Kept.answer (h : Kept r s) {dest : Nat} {p : Packet} : Kept r (s.answer dest p) :=
  Kept.ite h.twinPacket h.sendPacket

theorem Kept.takeReadReq (h : Kept r s) {p : Packet} : Kept r (s.takeReadReq p) := by
  unfold State.takeReadReq
  extract_lets a n _ reply got
  have hgot : Kept r got.2 := by
    unfold got
    split
    · exact h.freeBytes
    · exact h
  exact Kept.ite h.answer hgot.answer

theorem Kept.peerLost (h : Kept r s) {dest : Nat} : Kept r (s.peerLost dest) := by
  unfold State.peerLost
  extract_lets s1 tier s2
  have hs1 : Kept r s1 := by
    unfold s1
    split
    · exact Kept.ite h.failSnapshot h
    · exact h
  have hs2 : Kept r s2 := Kept.asRole (Kept.ite hs1.tierFailed hs1) fun _ ht => Kept.ite ht.tierFailed ht
  exact Kept.ite hs2.tierFailedAll hs2

theorem Kept.takeReadResp (h : Kept r s) {p : Packet} : Kept r (s.takeReadResp p) := by
  unfold State.takeReadResp
  split
  · exact h
  · extract_lets _ s1
    have hs1 : Kept r s1 := h.update rfl
    split
    · exact hs1.peerLost
    · split
      · exact hs1.landFetched
      · exact hs1

theorem Kept.readTimeout (h : Kept r s) {tag : W16} : Kept r (s.readTimeout tag) := by
  unfold State.readTimeout
  split
  · exact h
  · exact (h.update rfl).bound fun _ hs1 => Kept.ite hs1.peerLost (hs1.bump.sendRead.update rfl)

theorem Kept.lostWrite (h : Kept r s) {dest : Nat} {explained : Bool} : Kept r (State.lostWrite dest explained s) :=
  Kept.ite h.discardMark h

theorem Kept.ackTimeout (h : Kept r s) {dest : Nat} : Kept r (s.ackTimeout dest) :=
  Kept.ite h ((h.update rfl).bump.post.peerLost.lostWrite.asRole fun _ ht => ht.lostWrite)

theorem Kept.takePace (h : Kept r s) {p : Packet} : Kept r (s.takePace p) := by
  unfold State.takePace
  extract_lets fraction s1 s2
  have hs1 : Kept r s1 := h.bump.set.set
  have hs2 : Kept r s2 := hs1.post
  split
  · exact hs2
  · split
    · exact hs2
    · exact hs2.foldl _ fun _ _ ht => ht.forwardFrom

/-! ### Machine/Reduce.lean -/

theorem Kept.moveSlots (h : Kept r s) {die take give : Nat} : Kept r (s.moveSlots die take give) := h.setOwn.setOwn

theorem Kept.integrityFailure (h : Kept r s) {c tile phase position die : Nat} :
    Kept r (s.integrityFailure c tile phase position die) :=
  h.post.bump.bound fun _ hs1 => (Kept.faultEvent (Kept.ite hs1 hs1.set.set.set.set.set)).bound fun _ hs3 => Kept.ite
    hs3.discardMark hs3

theorem Kept.sendTile (h : Kept r s) {d : Collective} {c ptype position : Nat} {e : RedEntry} {ext0 ext1 : Nat} :
    Kept r (s.sendTile d c ptype position e ext0 ext1) :=
  h.foldl _ fun _ _ ht => ht.sendPacket

theorem Kept.landResult (h : Kept r s) {c : Nat} {d : Collective} {t : Tensor} {e : RedEntry} :
    Kept r (s.landResult c d t e) :=
  h.writeHome.markWritten.takeCredit.mapRole.mapColl.bound fun _ hs3 => (State.advance_kept (Kept.ite hs3.holdTokens
    hs3.markReady) _ _).shipLanded

theorem Kept.homeResult (h : Kept r s) {c : Nat} {d : Collective} {t : Tensor} {e : RedEntry} :
    Kept r (s.homeResult c d t e) :=
  h.landResult.bound fun _ hs1 => Kept.ite hs1 hs1.sendTile

theorem Kept.tryAdd (h : Kept r s) {c tile : Nat} : Kept r (s.tryAdd c tile) := by
  unfold State.tryAdd
  split
  · exact h
  · split
    · extract_lets n h' die drop slots first s0
      have hs0 : Kept r s0 := Kept.ite h.bump h
      split
      · exact hs0.mapColl.moveSlots.homeResult
      · split
        · exact hs0.mapColl.moveSlots.sendTile
        · split
          · exact h
          · extract_lets sum s1 s2 valid ok s3
            have hs1 : Kept r s1 := h.mapColl.moveSlots.bump
            have hs2 : Kept r s2 := Kept.ite hs1.bump hs1
            have hs3 : Kept r s3 := Kept.ite hs2 hs2.integrityFailure
            exact Kept.ite hs3.homeResult hs3.sendTile
    · exact h

theorem Kept.contribute (h : Kept r s) {i tile : Nat} : Kept r (s.contribute i tile) := by
  unfold State.contribute
  split
  · split
    · exact h
    · split
      · exact h
      · split
        · exact h
        · split
          · extract_lets e s0 s1 s2 s3 s4
            have hs0 : Kept r s0 := Kept.ite h h.consumeFor.returnFor
            have hs1 : Kept r s1 := by
              unfold s1
              split
              · exact hs0.dropAcc
              · exact hs0
            have hs2 : Kept r s2 := hs1.mapRole
            have hs3 : Kept r s3 := hs2.moveSlots.moveSlots
            have hs4 : Kept r s4 := hs3.mapLeg.mapColl
            exact hs4.tryAdd
          · exact Kept.ite h.readThrough h
  · exact h

theorem Kept.stagingGrant (h : Kept r s) {u : UnitAddr} {m : W64} : Kept r (s.stagingGrant u m) :=
  Kept.ite h (Kept.ite h.bump h.mapRole.moveSlots)

theorem Kept.takeSegment (h : Kept r s) {t : Tensor} {p : Packet} {result : Bool} :
    Kept r (s.takeSegment t p result).2 := by
  unfold State.takeSegment
  extract_lets c tile f s1 mine bs w values
  have hs1 : Kept r s1 := h.mapColl
  split
  · exact hs1
  · dsimp only
    exact hs1.mapColl

theorem Kept.takePartial (h : Kept r s) {p : Packet} : Kept r (s.takePartial p) := by
  unfold State.takePartial
  split
  · exact h
  · extract_lets x
    have hx : Kept r x.2 := h.takeSegment
    split
    · exact hx
    · exact Kept.ite hx hx.mapColl.moveSlots.tryAdd

theorem Kept.takeResult (h : Kept r s) {p : Packet} : Kept r (s.takeResult p) := by
  unfold State.takeResult
  split
  · exact h
  · extract_lets x c n
    have hx : Kept r x.2 := h.takeSegment
    split
    · exact hx
    · extract_lets h' codes own s1 s2
      have hs1 : Kept r s1 := Kept.ite hx hx.integrityFailure
      have hs2 : Kept r s2 := hs1.landResult
      exact Kept.ite hx (Kept.ite hs2 hs2.sendTile)

theorem Kept.spill (h : Kept r s) {c tile : Nat} : Kept r (s.spill c tile) := by
  unfold State.spill
  split
  · exact h
  · extract_lets run die mark
    split
    · exact h.writeHome.mapColl.moveSlots.bump
    · exact h.writeHome.mapColl.moveSlots.bump
    · exact h

theorem Kept.placeElsewhere (h : Kept r s) {a : AccTile} : Kept r (s.placeElsewhere a) := h.setAcc.freePages

theorem Kept.sightMiss (h : Kept r s) {t : Tensor} {tile elem : Nat} {a : AccTile} :
    Kept r (s.sightMiss t tile elem a) := by
  unfold State.sightMiss
  extract_lets s1 climb s3 s2 s4
  have hs1 : Kept r s1 := h.bump.post.mapSnd
  have hs3 : Kept r s3 := Kept.ite hs1 hs1.ladderTop
  have hs2 : Kept r s2 := Kept.ite (Kept.fallbackRequest (Kept.ite hs1 hs1.bump)).dropAcc (Kept.ite hs3.dropAcc
    hs3.placeElsewhere.askRepeats)
  have hs4 : Kept r s4 := hs2.mapRole.refreshRecord
  split
  · exact hs4.faultEvent
  · exact hs4

theorem Kept.sightCheck (h : Kept r s) {tensor tile : Nat} : Kept r (s.sightCheck tensor tile) := by
  unfold State.sightCheck
  split
  · split
    · exact h
    · extract_lets made s1 s2
      have hs1 : Kept r s1 := h.bump
      have hs2 : Kept r s2 := hs1.mapRole
      split
      · split
        · exact hs1.sightMiss
        · exact Kept.closeVerdict (Kept.ite hs2 hs2.dropAcc)
      · exact h
  · exact h

/-! ### Machine/Sighting.lean -/

theorem Kept.takeHello (h : Kept r s) {p : Nat} {uid : W64} : Kept r (s.takeHello p uid) :=
  Kept.ite h (Kept.ite h.setPort.setPortState.clearPort h.wr.setPortState.setPortBit.recordChanged)

theorem Kept.takeRecord (h : Kept r s) {p : Nat} {sel : SightRecord} : Kept r (s.takeRecord p sel) := by
  unfold State.takeRecord
  split
  · exact h
  · split
    · exact h.storeRecord.flooding.floodRecord
    · exact Kept.ite h.storeRecord.flooding.floodRecord (Kept.ite h.storeRecord.flooding h)

theorem Kept.sendRecord (h : Kept r s) : Kept r s.sendRecord := Kept.ite h.floodRecord h.recordChanged

theorem Kept.takeId (h : Kept r s) {id : Option Nat} : Kept r (s.takeId id) := by
  unfold State.takeId
  split
  · exact Kept.ite h h.set.set.recordChanged
  · extract_lets s1 s2
    have hs1 : Kept r s1 := Kept.ite h h.post
    have hs2 : Kept r s2 := hs1.post
    exact Kept.ite hs2.set.set.recordChanged hs2

theorem Kept.greatestTime (h : Kept r s) {us : List W64} : Kept r (s.greatestTime us).2 := by
  unfold State.greatestTime
  split
  · exact h
  · exact h
  · exact State.freeWord_kept h

theorem Kept.chooseRoot (h : Kept r s) {before : List W64} : Kept r (s.chooseRoot before) := by
  unfold State.chooseRoot
  extract_lets ms picked _ _
  have hpicked : Kept r picked.2 := by
    unfold picked
    split
    · exact h.greatestTime
    · split
      · exact h.greatestTime
      · exact h
  exact hpicked.update rfl

theorem Kept.showRoot (h : Kept r s) : Kept r s.showRoot := by
  unfold State.showRoot
  split
  · exact h
  · exact h.setFlag.set.set.update rfl

theorem Kept.quiet (h : Kept r s) : Kept r s.quiet := by
  unfold State.quiet
  extract_lets s0 ids before _ s1 s2 s3 s4
  have hs0 : Kept r s0 := Kept.ite h h.storeRecord
  have hs1 : Kept r s1 := hs0.update rfl
  have hs2 : Kept r s2 := hs1.set.post.takeId
  have hs3 : Kept r s3 := hs2.mapTwin
  have hs4 : Kept r s4 := hs3.chooseRoot.showRoot
  exact Kept.ite h (Kept.ite hs4.post hs4)

theorem Kept.departs (h : Kept r s) {uid : W64} : Kept r (s.departs uid) := by
  unfold State.departs
  split
  · exact h
  · extract_lets _ s1 s2
    have hs1 : Kept r s1 := h.update rfl
    have hs2 : Kept r s2 := hs1.flooding
    exact Kept.ite hs2.chooseRoot.showRoot hs2

theorem Kept.clearRegs (h : Kept r s) {rs : List (Nat × W64)} : Kept r (s.clearRegs rs) := h.foldl _ fun _ _ ht => ht.wr

theorem Kept.swapTables (h : Kept r s) : Kept r s.swapTables :=
  ((h.clearRegs.clearRegs.foldl _ fun _ _ ht => ht.wr).foldl _ fun _ _ ht => ht.wr).set.set.bound fun _ hs4 =>
    Kept.ite hs4.setFlag.set hs4

theorem Kept.computeRoutes (h : Kept r s) : Kept r s.computeRoutes := by
  unfold State.computeRoutes
  split
  · exact h
  · extract_lets ms tree s1 s2
    have hs1 : Kept r s1 := h.clearRegs
    have hs2 : Kept r s2 := by
      unfold s2
      refine hs1.foldl _ fun t x ht => ?_
      split
      · exact ht
      · extract_lets t1
        have ht1 : Kept r t1 := ht.wr
        split
        · exact ht1.wr
        · exact ht1
    exact hs2.swapTables.post

theorem Kept.hostCommit (h : Kept r s) : Kept r s.hostCommit := by
  unfold State.hostCommit
  split
  · exact h.post
  · exact h.swapTables

theorem Kept.copyTable (h : Kept r s) : Kept r s.copyTable := h.clearRegs.foldl _ fun _ _ ht => ht.wr

theorem Kept.takeTime (h : Kept r s) {x : TimeStamps} : Kept r (s.takeTime x) :=
  Kept.ite h (h.set.setFlag.bound fun _ hs1 => Kept.bound (Kept.ite (hs1.post.update rfl) (Kept.ite (hs1.update rfl)
    hs1)) fun _ hs2 => Kept.ite (hs2.update rfl) (hs2.update rfl))

theorem Kept.beginExchange (h : Kept r s) : Kept r s.beginExchange := by
  unfold State.beginExchange
  split
  · exact Kept.ite h.emit h
  · exact h

theorem Kept.slew (h : Kept r s) : Kept r s.slew := Kept.ite h (Kept.ite (h.update rfl) (h.update rfl))

theorem Kept.execSight (h : Kept r s) {port : Fin 17} {msg : SightMsg} : KeptNext r (Machine.execSight port msg s) := by
  unfold Machine.execSight
  refine .next ?_
  split
  · exact h
  · split
    · exact h.takeHello
    · exact h.takeRecord

/-! ### Machine/Twin.lean -/

theorem Kept.pairRefused (h : Kept r s) {cause : Nat} : Kept r (s.pairRefused cause) :=
  h.pairFailed.mapTwin.setPort.setPortState.clearPort.bound fun _ hs2 => Kept.ite hs2.setTwin hs2

theorem Kept.challengeTwin (h : Kept r s) : Kept r s.challengeTwin := Kept.ite h (h.freeBytes.update rfl).emit

theorem Kept.answerTwin (h : Kept r s) : Kept r s.answerTwin := by
  unfold State.answerTwin
  split
  · exact h
  · exact h.mapTwin.emit

theorem Kept.sendAuth (h : Kept r s) : Kept r s.sendAuth :=
  Kept.ite h (Kept.ite h.challengeTwin.answerTwin (Kept.ite h h.pairRefused))

theorem Kept.finishPairing (h : Kept r s) : Kept r s.finishPairing :=
  Kept.ite h ((Kept.mapTwin (Kept.ite h.twinPathBack h.set)).set.wr.bound fun _ hs3 => (Kept.post (Kept.ite
    hs3.setTwin hs3)).recordChanged.bound fun _ hs4 => Kept.ite (hs4.asOwn fun _ ht => ht.sendArmed).checkMirror hs4)

theorem Kept.takeTwinHello (h : Kept r s) {uid : W64} {variant fwMajor : W16} {node : Option (BitVec 14)}
    {enabled : Bool} : Kept r (s.takeTwinHello uid variant fwMajor node enabled) :=
  Kept.ite h (h.wr.mapTwin.bound fun _ hs1 => Kept.bound (Kept.ite hs1.setTwin hs1) fun _ hs2 => Kept.ite
    hs2.pairRefused (Kept.ite hs2.pairRefused (Kept.ite hs2.pairRefused hs2.mapTwin.sendAuth)))

theorem Kept.takeChallenge (h : Kept r s) {nonce : List Byte} : Kept r (s.takeChallenge nonce) :=
  Kept.ite h h.mapTwin.sendAuth.finishPairing

theorem Kept.takeAnswer (h : Kept r s) {chain signature : List Byte} : Kept r (s.takeAnswer chain signature) :=
  Kept.ite h ((h.update rfl).bound fun _ hs1 => Kept.ite hs1.mapTwin.sendAuth.finishPairing hs1.pairRefused)

theorem Kept.enableTwin (h : Kept r s) : Kept r s.enableTwin := Kept.ite h.twinHello h

theorem Kept.takeHeartbeat (h : Kept r s) {valid armed : Bool} : Kept r (s.takeHeartbeat valid armed) :=
  h.mapTwin.bound fun _ hs1 => Kept.ite hs1.endMirroring (Kept.ite hs1.setTwin.mapTwin (Kept.ite hs1.setTwin hs1))

theorem Kept.takeArmed (h : Kept r s) {gib content : Nat} {tensors knots : List Nat} {reservation : Nat}
    {image : List Byte} {lists : List (Nat × List Byte)} :
    Kept r (s.takeArmed gib content tensors knots reservation image lists) :=
  h.mapTwin.checkMirror

theorem Kept.takeTwin (h : Kept r s) {m : TwinMsg} : Kept r (s.takeTwin m) := by
  unfold State.takeTwin
  extract_lets mirrors
  split
  · exact h
  · exact h
  · exact h
  · exact h.takeHeartbeat
  · exact h.takeArmed
  · exact Kept.ite h.takeRecordTile h
  · exact Kept.ite h.takeMaskTile.ackWhole h
  · exact Kept.ite h.takeClosing h
  · exact Kept.ite h.takeCommit h
  · exact Kept.ite h.takeSeedTile h
  · exact h.shipRestore
  · exact h.takeRestoreTile
  · exact h.takeHandover
  · exact h.takeMirrorAck
  · exact h.takeMirrorAck
  · exact h.detach
  · exact h.partnerLost

theorem Kept.twinMessage (h : Kept r s) {m : TwinMsg} : Kept r (s.twinMessage m) := by
  unfold State.twinMessage
  split
  · exact h.takeTwinHello
  · exact h.takeChallenge
  · exact h.takeAnswer
  · exact Kept.ite (h.asOwn fun _ ht => ht.takeTwin) h

theorem Kept.heartbeat (h : Kept r s) : Kept r s.heartbeat :=
  (Kept.sendAuth (Kept.ite h.sendTwin h)).finishPairing.heldLoss

theorem Kept.takeMgmt (h : Kept r s) {src : Nat} {m : MgmtMsg} : Kept r (s.takeMgmt src m) := by
  unfold State.takeMgmt
  split
  · exact Kept.ite h.partnerLost h
  · exact h

theorem Kept.presentReleased (h : Kept r s) : Kept r s.presentReleased :=
  h.alignmentLost.setPort.mapTwin.bound fun _ hs2 => Kept.ite hs2.setTwin hs2.showTwin

/-! ### Machine/Registers.lean -/

theorem Kept.clearRc (h : Kept r s) {key lo : Nat} : Kept r (s.clearRc key lo) := Kept.ite h h.wr

theorem Kept.setShadow (h : Kept r s) {who : Requester} {x : Option Shadow} : Kept r (s.setShadow who x) := by
  unfold State.setShadow
  split
  · exact h.update rfl
  · exact h.update rfl

theorem Kept.readLow (h : Kept r s) {who : Requester} {key : Nat} : Kept r (s.readLow who key) :=
  (Kept.setShadow (Kept.ite h.clearRc h)).emit

theorem Kept.readHigh (h : Kept r s) {who : Requester} {key : Nat} : Kept r (s.readHigh who key) := by
  unfold State.readHigh
  extract_lets current
  have hcurrent : Kept r current := (Kept.setShadow (Kept.ite h.clearRc h)).emit
  split
  · exact Kept.ite h.setShadow.emit hcurrent
  · exact hcurrent

theorem Kept.readWhole (h : Kept r s) {who : Requester} {key : Nat} : Kept r (s.readWhole who key) :=
  Kept.emit (Kept.ite h.clearRc h)

theorem Kept.readBytesAt (h : Kept r s) {who : Requester} {win : Window} {off n : Nat} :
    Kept r (s.readBytesAt who win off n) :=
  h.emit

theorem Kept.readMisaligned (h : Kept r s) {who : Requester} {win : Window} {off n : Nat} :
    Kept r (s.readMisaligned who win off n) :=
  Kept.ite h.emit.post h.emit

theorem Kept.clearPromotion (h : Kept r s) : Kept r s.clearPromotion := h.update rfl

theorem Kept.clearTensor (h : Kept r s) {t : Nat} : Kept r (s.clearTensor t) := h.update rfl

theorem Kept.clearTensors (h : Kept r s) : Kept r s.clearTensors := h.update rfl

theorem Kept.copyEntry (h : Kept r s) {index : Nat} : Kept r (s.copyEntry index) := h.set.wr.wr.wr.wr

theorem Kept.hostAdvance (h : Kept r s) {k amount : Nat} : Kept r (s.hostAdvance k amount) :=
  Kept.ite h (State.advance_kept h _ _)

theorem Kept.emptyIntegrity (h : Kept r s) : Kept r s.emptyIntegrity := h.wr.set.set

theorem Kept.writeTwinCfg (h : Kept r s) {w : W64} : Kept r (s.writeTwinCfg w) := Kept.ite h.wr.enableTwin h.wr

theorem Kept.writeVector (h : Kept r s) {i : Nat} {w : W64} : Kept r (s.writeVector i w) :=
  Kept.ite h.wr.unmaskVector h.wr

theorem Kept.writeHook (h : Kept r s) {key : Nat} {d : RegDesc} {i : Nat} {w lanes bits : W64} :
    Kept r (s.writeHook key d i w lanes bits) := by
  unfold State.writeHook
  refine .ite h.writeMailboxCfg <| .ite (.ite h.writeDoorbell h) <| .ite (.ite h.writeCqHead h) <|
    .ite (.ite h.clearMailboxError h) <| .ite h.writeVector <| .ite h.writeRingCfg <| .ite (.ite h.writeRingHead h) <|
    .ite (.ite h.clearStopRecord h) <| .ite h.writeCap <| .ite (.ite (h.foldl _ fun _ _ ht => ht.set) h) <|
    .ite (.ite h.rearmInput h) <| .ite (.ite h.rearmRegion h) <| .ite (.ite h.clearAllFlags.emptyRecords h.clearAllFlags) <|
    .ite h.wr.probeResult <| .ite (.ite h.emptyRecord h) <| .ite ?_ <| .ite (.ite h.copyEntry h) <| .ite h.hostAdvance <|
    .ite (.ite h.emptyIntegrity h) <| .ite (.ite h h.wr.recordChanged) <| .ite (.ite h.wr h.wr.applyPortEnable) <|
    .ite ?_ <| .ite h.writeTwinCfg h.wr
  · extract_lets s1 s2
    have hs1 : Kept r s1 := Kept.ite h.clearPromotion h
    have hs2 : Kept r s2 := Kept.ite hs1.clearTensor hs1
    exact Kept.ite hs2.clearTensors hs2
  · extract_lets s1
    have hs1 : Kept r s1 := Kept.ite h.hostCommit h
    exact Kept.ite hs1.copyTable hs1

theorem Kept.writeReg (h : Kept r s) {key : Nat} {lanes value : W64} : Kept r (s.writeReg key lanes value) := by
  unfold State.writeReg
  split
  · exact h
  · split
    · exact h
    · exact h.writeHook

theorem Kept.writeFrw (h : Kept r s) {off : Nat} {value : W64} : Kept r (s.writeFrw off value) := by
  unfold State.writeFrw
  split
  · exact h.frwGo
  · split
    · exact h
    · exact h.wr

theorem Kept.writeBar0 (h : Kept r s) {who : Requester} {off : Nat} {width : Width} {value : W64} :
    Kept r (s.writeBar0 who off width value) :=
  Kept.ite h (Kept.ite h.post h.writeReg)

theorem Kept.writeBar2 (h : Kept r s) {off : Nat} {width : Width} {value : W64} :
    Kept r (s.writeBar2 off width value) :=
  Kept.ite h.post h.writeFrw

theorem Kept.execRegReadLowHalf (h : Kept r s) {who : Requester} {win : Window} {reg : BitVec 29} :
    KeptNext r (Machine.execRegReadLowHalf who win reg s) := by
  unfold Machine.execRegReadLowHalf
  refine .next ?_
  split
  · exact h
  · split
    · exact h.readLow
    · exact h.emit

theorem Kept.execRegReadHighHalf (h : Kept r s) {who : Requester} {win : Window} {reg : BitVec 29} :
    KeptNext r (Machine.execRegReadHighHalf who win reg s) := by
  unfold Machine.execRegReadHighHalf
  refine .next ?_
  split
  · exact h
  · split
    · exact h.readHigh
    · exact h.emit

theorem Kept.execRegReadFullWidth (h : Kept r s) {who : Requester} {win : Window} {reg : BitVec 29} :
    KeptNext r (Machine.execRegReadFullWidth who win reg s) := by
  unfold Machine.execRegReadFullWidth
  refine .next ?_
  split
  · exact h
  · split
    · exact h.readWhole
    · exact h.emit

theorem Kept.execRegWrite (h : Kept r s) {who : Requester} {win : Window} {off : W32} {width : Width} {value : W64}
    {poisoned : Bool} : KeptNext r (Machine.execRegWrite who win off width value poisoned s) := by
  unfold Machine.execRegWrite
  refine .next ?_
  split
  · exact h
  · split
    · exact h.post
    · split
      · exact h.writeBar0
      · exact h.writeBar2

/-! ### Machine/Security.lean -/

theorem Kept.reply (h : Kept r s) {sel : SpdmReply} : Kept r (s.reply sel) := Kept.ite h.emit h

theorem Kept.signedReply (h : Kept r s) {transcript : List Byte} {f : List Byte → List Byte → SpdmReply} :
    Kept r (s.signedReply transcript f) := by
  unfold State.signedReply
  split
  · exact h.reply
  · exact (h.freeBytes.update rfl).reply

theorem Kept.execGetMeasurements (h : Kept r s) {signed : Bool} {index : Byte} {transcript : List Byte} :
    KeptNext r (Machine.execGetMeasurements signed index transcript s) := by
  unfold Machine.execGetMeasurements
  refine .next ?_
  split
  · split
    · exact h.reply
    · exact Kept.ite h.signedReply h.reply
  · exact h

theorem Kept.tapSelect (h : Kept r s) {i : Nat} : Kept r (s.tapSelect i) := h.update rfl

theorem Kept.acceptUnlock (h : Kept r s) : Kept r s.acceptUnlock := by
  unfold State.acceptUnlock
  exact (h.clearSecrets.extend.set.update rfl).post

theorem Kept.execDebugUnlock (h : Kept r s) {token : Option (List Byte)} :
    KeptNext r (Machine.execDebugUnlock token s) := by
  unfold Machine.execDebugUnlock
  refine .next ?_
  split
  · exact Kept.ite h (h.freeBytes.update rfl).emit
  · exact Kept.ite h.acceptUnlock h

theorem Kept.mgRead (h : Kept r s) {index len : Nat} : Kept r (s.mgRead index len) :=
  Kept.bound (Kept.ite h.emit.set h.emit) fun _ hs2 => Kept.ite hs2.set hs2

/-! ### Every command -/

/-- The commands that may enter BOOT: a fetched DEVICE_RESET or DEVICE_RECOVER among them. -/
def mayEnterBoot : Instr → Bool
  | .commandFetch _ | .deviceReset _ | .deviceRecover _ | .bootEntry _ | .binnacleSramError _ => true
  | _ => false

/-- Every command but those keeps what `Kept` says. -/
theorem Kept.exec (h : Kept r s) : ∀ c : Instr, mayEnterBoot c = false → KeptNext r (exec c s)
  | .regReadLowHalf .., _ => h.execRegReadLowHalf
  | .regReadHighHalf .., _ => h.execRegReadHighHalf
  | .regReadFullWidth .., _ => h.execRegReadFullWidth
  | .regReadUnaligned .., _ => .next (Kept.ite h (Kept.ite h.readBytesAt (Kept.ite h.readMisaligned h)))
  | .regWrite .., _ => h.execRegWrite
  | .numFfValidClear .., _ => .next (Kept.ite h.emptyRecord h)
  | .numClearAllFlags .., _ => .next (Kept.ite h.clearAllFlags h)
  | .numClearAllRecords .., _ => .next (Kept.ite h.emptyRecords h)
  | .numSrProbeWrite .., _ => .next (Kept.ite h.writeProbe h)
  | .sndClearPromotion .., _ => .next (Kept.ite h.clearPromotion h)
  | .sndClearTensor .., _ => .next (Kept.ite h.clearTensor h)
  | .sndClearAllTensors .., _ => .next (Kept.ite h.clearTensors h)
  | .chtIndexWrite .., _ => .next (Kept.ite h.copyEntry h)
  | .kntAdvance .., _ => .next (Kept.ite h.hostAdvance h)
  | .kntIntegrityClear .., _ => .next (Kept.ite h.emptyIntegrity h)
  | .fabRouteCommit .., _ => .next (Kept.ite h.hostCommit h)
  | .fabRouteCopy .., _ => .next (Kept.ite h.copyTable h)
  | .helmInMinRearm .., _ => .next (Kept.ite h.rearmInput h)
  | .helmRgnVminRearm .., _ => .next (Kept.ite h.rearmRegion h)
  | .helmCapWrite .., _ => .next (Kept.ite h.writeCap h)
  | .helmSensorSuspectClear .., _ => .next (Kept.ite (h.foldl _ fun _ _ ht => ht.set) h)
  | .mbxEnable .., _ => .next (Kept.ite h.writeMailboxCfg h)
  | .mbxDisable .., _ => .next (Kept.ite h.writeMailboxCfg h)
  | .mbxSqDoorbell .., _ => .next (Kept.ite h.writeDoorbell h)
  | .mbxCqHeadWrite .., _ => .next (Kept.ite h.writeCqHead h)
  | .mbxErrorClear .., _ => .next (Kept.ite h.clearMailboxError h)
  | .commandFetch .., hc => nomatch hc
  | .completionWrite .., _ => .next h.deliverCompletion
  | .evtRingEnable .., _ => .next (Kept.ite h.writeRingCfg h)
  | .evtRingHeadWrite .., _ => .next (Kept.ite h.writeRingHead h)
  | .evtIntEnable .., _ => .next (Kept.ite h.writeRingCfg h)
  | .eventRecordWrite .., _ => .next h.deliverRecord
  | .eventInterruptHoldoff .., _ => .next h.holdoffEnds
  | .msixVectorUnmask .., _ => .next (Kept.ite h.unmaskVector h)
  | .capStopRecClear .., _ => .next (Kept.ite h.clearStopRecord h)
  | .bar4Read .., _ => .next (Kept.ite h.bar4Read h)
  | .bar4Write .., _ => .next (Kept.ite h.bar4Write h)
  | .nop .., _ => .next h.nop
  | .identGet .., _ => .next h.identGet
  | .measureGet .., _ => .next h.measureGet
  | .store .., _ => .next h.storeCommand
  | .fwUpdate .., _ => .next h.fwUpdate
  | .deviceReset .., hc => nomatch hc
  | .deviceRecover .., hc => nomatch hc
  | .bistRun .., _ => .next h.bistRun
  | .unitRetire .., _ => .next h.unitRetire
  | .unitRetireRemoval .., _ => .next h.unitRetire
  | .passageLoad .., _ => .next h.passageLoad
  | .passageUnload .., _ => .next h.passageUnload
  | .passageArm .., _ => .next h.passageArm
  | .stepRun .., _ => .next h.stepRun
  | .stepStop .., _ => .next h.stepStop
  | .stepHold .., _ => .next h.stepHold
  | .stepResume .., _ => .next h.stepResume
  | .stepAbort .., _ => .next h.stepAbort
  | .passageDisarm .., _ => .next h.passageDisarm
  | .dutySet .., _ => .next h.dutySet
  | .hostmapSet .., _ => .next h.hostmapSet
  | .updClipSet .., _ => .next h.updClipSet
  | .rungSet .., _ => .next h.rungSet
  | .historyRead .., _ => .next h.historyRead
  | .historyWrite .., _ => .next h.historyWrite
  | .snapshotRequest .., _ => .next h.snapshotRequest
  | .snapshotAbort .., _ => .next h.snapshotAbort
  | .restoreComplete .., _ => .next h.restoreComplete
  | .fabricReleaseId .., _ => .next h.fabricReleaseId
  | .twinCarry .., _ => .next h.twinCarry
  | .twinHandover .., _ => .next h.twinHandover
  | .twinRelease .., _ => .next h.twinRelease
  | .twinDetach .., _ => .next h.twinDetach
  | .perstAssert .., _ => .next (Kept.ite h (h.dropLink.set.set.bump.update rfl))
  | .perstDeassert .., _ => .next (h.update rfl)
  | .pcieLinkUp .., _ => .next (Kept.ite (h.set.set.setFlag.update rfl) h)
  | .d3hotEntry .., _ => .next (Kept.ite h.set h)
  | .d0Return .., _ => .next (Kept.ite h.set h)
  | .busMasterEnableChange .., _ => .next (Kept.ite h.setFlag h)
  | .hostTransferTimeout .., _ => .next (Kept.ite h (Kept.ite h.offloadHostFault h.snapshotHostFault))
  | .pcieCompletionError .., _ => h.execPcieCompletionError
  | .getVersion .., _ => .next h.reply
  | .getCapabilities .., _ => .next h.reply
  | .negotiateAlgorithms .., _ => .next h.reply
  | .getDigests .., _ => .next h.reply
  | .getCertificate .., _ => .next (Kept.ite h.reply h.reply)
  | .challenge .., _ => .next (Kept.ite h.signedReply h)
  | .getMeasurements .., _ => h.execGetMeasurements
  | .spdmUnsupportedRequest .., _ => .next h.reply
  | .idcode .., _ => .next h.tapSelect
  | .bypass .., _ => .next h.tapSelect
  | .extest .., _ => .next (Kept.ite h.tapSelect h)
  | .samplePreload .., _ => .next (Kept.ite h.tapSelect h)
  | .internalScan .., _ => .next (Kept.ite h.clearSecrets.tapSelect h)
  | .debugUnlock .., _ => h.execDebugUnlock
  | .setdasa .., _ => .next (Kept.ite (h.update rfl) h)
  | .entdaa .., _ => .next (Kept.ite (h.update rfl).emit h)
  | .mgRegisterRead .., _ => .next (Kept.ite h h.mgRead)
  | .mgAlertClear .., _ => .next (Kept.ite h h.busWrite)
  | .mgCoolantWrite .., _ => .next (Kept.ite h h.busWrite)
  | .coolantHoldEnd .., _ => h.execCoolantHoldEnd
  | .coolantDataLost .., _ => h.execCoolantDataLost
  | .budgetFrame .., _ => h.execBudgetFrame
  | .budgetLost .., _ => .next (Kept.ite h.set.post h)
  | .twPresentRelease .., _ => .next h.presentReleased
  | .powerUp .., _ => .next (Kept.ite (h.update rfl) h)
  | .busInRegulation .., _ => .next (Kept.ite (h.update rfl) h)
  | .bootEntry .., hc => nomatch hc
  | .bootRomVerify .., _ => .next (Kept.ite (Kept.ite h.set.startImage.enableHub (Kept.ite h.set.startImage.enableHub
      (h.set.set.enableHub.bound fun _ hs1 => Kept.ite hs1 hs1.enter))) h)
  | .vtableRead .., _ => h.execVtableRead
  | .bridgeTrainingDone .., _ => h.execBridgeTrainingDone
  | .stackTrainingDone .., _ => h.execStackTrainingDone
  | .settingsLoad .., _ => h.execSettingsLoad
  | .bistBatchComplete .., _ => .next h.bistBatch
  | .memoryBistComplete .., _ => .next h.bistMemory
  | .bistConditionLost .., _ => .next h.bistAbort
  | .coreNumbering .., _ => .next (Kept.ite h.startLoops h)
  | .readyEntry .., _ => .next (Kept.ite h.finishBoot h)
  | .holdupReadyTimeout .., _ => .next (Kept.ite h.finishBoot.post h)
  | .holdupBankReady .., _ => .next (Kept.ite h h.set.set)
  | .holdupBankLow .., _ => .next (Kept.ite h h.set.set)
  | .undervoltageTimerStart .., _ => h.execUndervoltageTimerStart
  | .undervoltageTimerReset .., _ => .next (Kept.ite (Kept.ite h.set.computeCap h.set) h)
  | .undervoltageTimerExpiry .., _ => .next (Kept.ite h.beginStop h)
  | .inputBelow48v .., _ => .next (Kept.ite h.beginStop h)
  | .inputAbove80v .., _ => .next (Kept.ite h.set.set.post h)
  | .inputAbove84v .., _ => .next (Kept.ite h.beginStop h)
  | .preReadyInputLoss .., _ => .next (Kept.ite ((State.loseHbm_kept h.regionsOff).hostLinkLost.enter.update rfl) h)
  | .stopAnnounce .., _ => .next h.stopAnnounced
  | .stopRegionsOff .., _ => .next h.stopRegions
  | .stopRecordWritten .., _ => .next h.stopRecord
  | .stopHubOff .., _ => .next h.stopHub
  | .stopComplete .., _ => .next h.stopDone
  | .inputRemoval .., _ => .next (Kept.ite (h.emit.emit.emit.emit.update rfl) h)
  | .stageaCellFault .., _ => .next h.failCell
  | .stageaOverloadTimeout .., _ => .next (h.foldl _ fun _ _ ht => ht.failCell)
  | .phaseFailure .., _ => .next h.failPhase
  | .regionClamp .., _ => .next h.clampRegion
  | .clampRelease .., _ => .next h.releaseClamp
  | .clampRestoreStep .., _ => .next h.restoreStep
  | .clampTimeout .., _ => .next (Kept.ite h.goDark h)
  | .railOvervoltage .., _ => .next (Kept.ite h h.goDark)
  | .droopSkipStart .., _ => .next (Kept.ite h.setRegion.bump h)
  | .droopSkipEnd .., _ => .next h.setRegion
  | .regionEnableRequest .., _ => .next h.requestEnable
  | .regionDeferEnd .., _ => .next h.endDefer
  | .softStartStep .., _ => .next h.softStartStep
  | .fastLoopUpdate .., _ => .next (Kept.ite h h.fastLoop)
  | .coreActivityUpdate .., _ => .next (Kept.ite h.coreActivity h)
  | .slowLoopPeriod .., _ => .next (Kept.ite h.slowLoop.paceCheck h)
  | .operatingPointChange .., _ => .next h.moveSetpoint
  | .eclkChange .., _ => .next h.changeEclk
  | .reckoningInterval .., _ => .next (Kept.ite h.reckon h)
  | .sensorPairDisagreement .., _ => .next (Kept.ite (h.foldl _ fun _ _ ht => ht.set).post h)
  | .hardwareTrip .., _ => .next (Kept.ite h.trip h)
  | .stepStart .., _ => .next (h.asRole fun _ ht => Kept.ite ht.stepRepairs.stepStart ht)
  | .assignmentDone .., _ => .next (h.asRole fun _ ht => Kept.ite ht.set ht)
  | .replicaCopy .., _ => .next (Kept.ite h.copyReplica h)
  | .tokenMessage .., _ => .next (h.asRole fun _ ht => Kept.ite (ht.takeControl fun _ ht' => ht'.countMessage) ht)
  | .creditMessage .., _ => .next (h.asRole fun _ ht => Kept.ite (ht.takeControl fun _ ht' => ht'.creditMessage) ht)
  | .stagingGrant .., _ => .next (h.asRole fun _ ht => Kept.ite ht.stagingGrant ht)
  | .verdictTokenRelease .., _ => .next (h.asRole fun _ ht => Kept.ite (ht.takeControl fun _ ht' => ht'.releaseTokens) ht)
  | .forwardProduct .., _ => .next (h.asRole fun _ ht => ht.forwardProduct)
  | .gEngineTileChoice .., _ => .next (h.asRole fun _ ht => ht.gChoice)
  | .vProgram .., _ => .next (h.asRole fun _ ht => ht.vProgram)
  | .vComposite .., _ => .next (h.asRole fun _ ht => ht.vComposite)
  | .rowChunkCombine .., _ => .next (h.asRole fun _ ht => Kept.ite ht.combineChunkRows ht)
  | .copy .., _ => .next (h.asRole fun _ ht => ht.copyKind)
  | .transposedCopy .., _ => .next (h.asRole fun _ ht => ht.copyKind)
  | .reBlockedCopy .., _ => .next (h.asRole fun _ ht => ht.copyKind)
  | .partialFold .., _ => .next (h.asRole fun _ ht => ht.foldPartials)
  | .tileIssueEnd .., _ => .next (h.asRole fun _ ht => Kept.ite ht.issueEnd ht)
  | .chunkResultArrival .., _ => .next (h.asRole fun _ ht => Kept.ite ht.chunkArrives ht)
  | .tileConvert .., _ => .next (h.asRole fun _ ht => ht.tileConvert)
  | .tileCommit .., _ => .next (h.asRole fun _ ht => ht.tileCommit)
  | .legFinish .., _ => .next (h.asRole fun _ ht => ht.legFinish)
  | .pilotRequest .., _ => .next (h.asRole fun _ ht => ht.pilotRequest)
  | .pilotReply .., _ => .next (h.asRole fun _ ht => ht.pilotReply)
  | .soundingsPartial .., _ => .next (h.asRole fun _ ht => Kept.ite ht.partialArrives ht)
  | .sightCheck .., _ => .next (h.asRole fun _ ht => ht.sightCheck)
  | .tileRepeat .., _ => .next (h.asRole fun _ ht => ht.repeatTile)
  | .updatePass1 .., _ => .next (h.asRole fun _ ht => ht.pass1)
  | .updatePass2 .., _ => .next (h.asRole fun _ ht => ht.pass2)
  | .paramEntryReread .., _ => .next (h.asRole fun _ ht => Kept.ite ht.readEntry ht)
  | .contributionLeg .., _ => .next (h.asRole fun _ ht => ht.contribute)
  | .redPartial .., _ => .next (h.takeCollective fun _ ht => ht.takePartial)
  | .reductionSpill .., _ => .next (h.asRole fun _ ht => ht.spill)
  | .redResult .., _ => .next (h.takeCollective fun _ ht => ht.takeResult)
  | .rendezvous .., _ => .next (h.asRole fun _ ht => ht.rendezvous)
  | .rendezvousArrivalsComplete .., _ => .next (h.asRole fun _ ht => ht.arrivalsComplete)
  | .rdvArrive .., _ => .next (h.takeCollective fun _ ht => ht.takeArrival)
  | .rdvRelease .., _ => .next (h.takeCollective fun _ ht => ht.takeRelease)
  | .restoreShipmentLanded .., _ => .next h.restoreLanded.heldLoss
  | .collectiveStalled .., _ => .next (h.asRole fun _ ht => ht.stall)
  | .snapshotShipTile .., _ => .next h.shipTile
  | .reserveSlotFreed .., _ => .next (h.update rfl)
  | .snapshotFooter .., _ => .next h.sendFooter
  | .offloadShip .., _ => .next (h.asRole fun _ ht => ht.offloadShip)
  | .offloadConfirm .., _ => .next (h.asRole fun _ ht => ht.offloadConfirm)
  | .offloadFetch .., _ => .next (h.asRole fun _ ht => ht.offloadFetch)
  | .offloadFetchDone .., _ => .next (h.asRole fun _ ht => ht.offloadDone)
  | .baseStackRebuild .., _ => .next (h.update rfl)
  | .eccCorrected .., _ => .next (Kept.ite h h.memoryEvent)
  | .eccUncorrectable .., _ => .next (Kept.ite h h.uncorrectable)
  | .binnacleSramError .., hc => nomatch hc
  | .softRepairEffect .., _ => h.execSoftRepairEffect
  | .hbmScrub .., _ => h.execHbmScrub
  | .sliceScrub .., _ => h.execSliceScrub
  | .linkTrainingDone .., _ => .next h.trained
  | .alignmentAcquired .., _ => .next h.alignment
  | .alignmentLoss .., _ => .next h.alignmentLost
  | .codewordReceive .., _ => .next h.codeword
  | .retrainDone .., _ => .next h.retrained
  | .alignmentLossTimeout .., _ => .next h.alignmentTimeout
  | .trainingTimeout .., _ => .next h.trainingTimeout
  | .flapHoldExpiry .., _ => .next h.flapHoldOver
  | .routerHop .., _ => .next h.routerHop
  | .unroutableHoldTimeout .., _ => .next h.unroutable
  | .write .., _ => .next (h.deliver fun _ ht => ht.byTag (fun _ ht' => ht'.takeWrite) fun _ ht' => ht'.oweAck)
  | .readReq .., _ => .next (h.deliver fun _ ht => ht.takeReadReq)
  | .readResp .., _ => .next (h.deliver fun _ ht => ht.takeReadResp)
  | .ack .., _ => .next (h.deliver fun _ ht => ht.takeAck)
  | .signal .., _ => .next (h.deliver fun _ ht => ht.byTag (fun _ ht' => ht'.takeSignal) fun _ ht' => ht'.oweAck)
  | .pace .., _ => .next (h.deliver fun _ ht => ht.takePace)
  | .sight .., _ => h.execSight
  | .time .., _ => .next h.takeTime
  | .twin .., _ => .next h.twinMessage
  | .mgmt .., _ => .next h.takeMgmt
  | .badPacketType .., _ => .next (Kept.ite (h.receive fun _ ht => ht.bump) h)
  | .ackSendTimer .., _ => .next h.sendAck.sendAck
  | .ackTimeout .., _ => .next h.ackTimeout
  | .readTimeout .., _ => .next h.readTimeout
  | .sightingRecordSend .., _ => .next h.sendRecord
  | .sightingDeparture .., _ => .next h.departs
  | .sightingQuiet .., _ => .next h.quiet
  | .routeCompute .., _ => .next h.computeRoutes
  | .timeExchange .., _ => .next h.beginExchange
  | .dtimeSlew .., _ => .next h.slew
  | .twinHeartbeat .., _ => .next h.heartbeat
  | .twinSilence .., _ => .next h.partnerLost
  | .mirrorAck .., _ => .next h.takeMirrorAck
  | .mirrorComputation .., _ => .next h.computeMirror.endLoss
  | .seedComplete .., _ => .next h.seedComplete
  | .handoverShipmentDone .., _ => .next h.handoverDone
  | .frwGo .., _ => .next (Kept.ite h h.frwGo)
  | .forerunnerJobDone .., _ => h.execForerunnerJobDone
  | .pcieLinkDown .., _ => h.execPcieLinkDown
  | .railSample .., _ => .next h.sampleRail
  | .sensorSample .., _ => .next (Kept.ite h.takeSensor h)
  | .commandEnd .., _ => .next (Kept.ite h h.endCommand)
  | .settlementComplete .., _ => .next (h.asRole fun _ ht => ht.settled)

/-! ### Every step -/

theorem Preserved.bootEntry (h : Kept r s) {slotId : BitVec 4} : PreservedNext r (execBootEntry slotId s) :=
  .next (.ite (h.update rfl).enterBoot h.preserved)

theorem Preserved.binnacleSramError (h : Kept r s) {addr : W64} : PreservedNext r (execBinnacleSramError addr s) :=
  .next (.ite h.preserved (h.update rfl).deviceReset)

theorem Preserved.commandFetch (h : Kept r s) {f : Fetch} : PreservedNext r (execCommandFetch f s) :=
  .next (.ite h.preserved h.fetchCommand)

/-- Every command, those that may enter BOOT among them. -/
theorem Preserved.exec (h : Kept r s) (c : Instr) : PreservedNext r (Machine.exec c s) := by
  cases hc : mayEnterBoot c with
  | false => exact (h.exec c hc).preserved
  | true =>
    cases c with
    | commandFetch f => exact Preserved.commandFetch h
    | deviceReset c => exact .next h.deviceResetCommand
    | deviceRecover c => exact .next h.deviceRecover
    | bootEntry n => exact Preserved.bootEntry h
    | binnacleSramError a => exact Preserved.binnacleSramError h
    | _ => exact nomatch hc

/-- A step preserves what the state without its front command holds. -/
theorem Preserved.step {s t : State} (h : step s = .next t) : Preserved { s with pending := s.pending.tail } t := by
  unfold Machine.step at h
  split at h
  · next c rest hp =>
    rw [hp, List.tail_cons]
    exact (Preserved.exec (Kept.refl _) c).of t h
  · next hp =>
    obtain rfl := Host.Outcome.next.inj h
    have hs : { s with pending := s.pending.tail } = s := by rw [hp, List.tail_nil, ← hp]
    rw [hs]
    exact (Kept.refl s).tick.preserved

end Sys2Proof.Machine

section
open Sys2Proof Sys2Proof.Machine

/-- Settles O57: what every step preserves holds the invariant, the queue and the part. -/
theorem everyStepKeepsTheInvariant : Obligations.EveryStepKeepsTheInvariant := by
  unfold Obligations.EveryStepKeepsTheInvariant Claims.stepKeeps
  intro s t hs hstep
  obtain ⟨hmem, hknots, hqueue⟩ := hs
  have h := Preserved.step hstep
  exact ⟨⟨h.mem hmem, h.knots hknots, h.queue hqueue⟩, h.pending, h.variant, h.uid⟩

/-- Settles O58: reset lists no memory, no knot and no record. -/
theorem resetMeetsTheInvariant : Obligations.ResetMeetsTheInvariant := by
  unfold Obligations.ResetMeetsTheInvariant Claims.Sound
  exact ⟨rfl, rfl, Nat.zero_le _⟩

end

/-! ## Guarded commands and posted events, as the claims speak of them -/

namespace Sys2Proof.Machine

open Sys2Proof.Claims

/-- A command whose meaning is guarded, where the guard holds. -/
theorem runs_of_guard {c : Instr} {s t : State} {g : Prop} [Decidable g] {P : State → Prop} (hg : g)
    (he : exec c s = .next (if g then t else s)) (hP : P t) : runs c s P :=
  ⟨t, by rw [he, if_pos hg], hP⟩

/-- A command whose meaning is guarded, where the guard fails. -/
theorem runs_of_not_guard {c : Instr} {s t : State} {g : Prop} [Decidable g] {P : State → Prop} (hg : ¬ g)
    (he : exec c s = .next (if g then t else s)) (hP : P s) : runs c s P :=
  ⟨s, by rw [he, if_neg hg], hP⟩

/-- A register read after a register was written. -/
theorem State.rd_wr (s : State) (k : Nat) (v : W64) (j : Nat) : (s.wr k v).rd j = if j = k then v else s.rd j := by
  split
  · next h => rw [h, State.rd_wr_same]
  · next h => exact State.rd_wr_other s k j v h

theorem State.posted_post (s : State) (e : EventKind) (args : List Nat) : posted e args s (s.post e args) := by
  refine ⟨State.post_seq s e args, fun hmask hroom => ?_⟩
  rw [State.post_queue s e args hmask hroom]
  exact ⟨List.dropLast_concat, by rw [List.getLast?_concat]; rfl⟩

/-- An operation before the posting that leaves the event unit, the masks and the clock. -/
theorem State.posted_after {s s1 t : State} {e : EventKind} {args : List Nat} (he : s1.evt = s.evt)
    (hm : s1.eventMasked e.code = s.eventMasked e.code) (hd : s1.dtime = s.dtime) (h : posted e args s1 t) :
    posted e args s t := by
  unfold posted at h ⊢
  rwa [he, hm, hd] at h

/-- An operation after the posting that leaves the event unit. -/
theorem State.posted_before {s t u : State} {e : EventKind} {args : List Nat} (he : u.evt = t.evt)
    (h : posted e args s t) : posted e args s u := by
  unfold posted at h ⊢
  rwa [he]

/-- A posting that no alert goes with changes registers and the event unit alone. -/
theorem State.post_quiet_frame (s : State) (e : EventKind) (args : List Nat) (h : e.alert = none) :
    { s.post e args with regs := s.regs, evt := s.evt } = s := by
  obtain ⟨hout, hhold⟩ := State.post_quiet s e args h
  have hframe := State.post_frame s e args
  rwa [← hout, ← hhold] at hframe

theorem State.eventMasked_congr {s t : State} (hr : t.regs = s.regs) (hp : t.part = s.part) (c : Nat) :
    t.eventMasked c = s.eventMasked c := by
  unfold State.eventMasked
  rw [State.rd_congr hr hp]

end Sys2Proof.Machine

section
open Sys2Proof Sys2Proof.Machine

/-- Settles O4: reset lists no register, no byte and no knot, so each reads its default. -/
theorem resetLeavesBoot : Obligations.ResetLeavesBoot := by
  unfold Obligations.ResetLeavesBoot
  exact ⟨rfl, rfl, rfl, fun _ => rfl, fun _ => rfl, fun _ => rfl, rfl, rfl, rfl, by decide, by decide, by decide⟩

end

/-! ## Register reads (R17) -/

namespace Sys2Proof.Machine

open Sys2Proof.Claims

/-! ### Clearing the RC fields, and the shadows -/

/-- Without an RC field the register file is as it was. -/
theorem State.clearRc_eq_or (s : State) (key lo : Nat) :
    s.clearRc key lo = s ∧ rcMask key lo = 0 ∨ s.clearRc key lo = s.wr key (s.rd key &&& ~~~(rcMask key lo)) := by
  unfold State.clearRc
  extract_lets m
  split
  · next h => exact .inl ⟨rfl, h⟩
  · exact .inr rfl

theorem State.rd_clearRc_same (s : State) (key lo : Nat) : (s.clearRc key lo).rd key = s.rd key &&& ~~~(rcMask key lo) := by
  obtain ⟨h, hm⟩ | h := s.clearRc_eq_or key lo
  · rw [h, hm, BitVec.ofNat_eq_ofNat, BitVec.not_zero, BitVec.and_allOnes]
  · rw [h, State.rd_wr_same]

theorem State.clearRc_regsKept (s : State) (key lo : Nat) : regsKept [key] s (s.clearRc key lo) := by
  intro k hk
  obtain ⟨h, -⟩ | h := s.clearRc_eq_or key lo
  · rw [h]
  · rw [h, State.rd_wr_other s key k _ (List.ne_of_not_mem_cons hk)]

theorem State.clearRc_frame (s : State) (key lo : Nat) : { s.clearRc key lo with regs := s.regs } = s := by
  obtain ⟨h, -⟩ | h := s.clearRc_eq_or key lo
  · rw [h]
  · rw [h]; rfl

@[simp] theorem State.clearRc_out (s : State) (key lo : Nat) : (s.clearRc key lo).out = s.out :=
  (congrArg State.out (s.clearRc_frame key lo) :)

@[simp] theorem State.shadow_clearRc (s : State) (key lo : Nat) (who : Requester) :
    (s.clearRc key lo).shadow who = s.shadow who :=
  (congrArg (fun t : State => t.shadow who) (s.clearRc_frame key lo) :)

@[simp] theorem State.shadow_setShadow_same (s : State) (who : Requester) (x : Option Shadow) :
    (s.setShadow who x).shadow who = x := by
  cases who <;> rfl

theorem State.shadow_setShadow_other (s : State) {who other : Requester} (x : Option Shadow) (h : other ≠ who) :
    (s.setShadow who x).shadow other = s.shadow other := by
  cases who <;> cases other
  case host.host | binnacle.binnacle => exact absurd rfl h
  all_goals rfl

/-- A read that clears RC fields, replaces a shadow and puts its data out changes nothing else. -/
theorem State.halfRead_frame (s : State) (key lo : Nat) (who : Requester) (x : Option Shadow) (o : Out) :
    { ((s.clearRc key lo).setShadow who x).emit o with
      regs := s.regs, out := s.out, hostShadow := s.hostShadow, binnacleShadow := s.binnacleShadow } = s := by
  obtain ⟨h, -⟩ | h := s.clearRc_eq_or key lo <;> rw [h] <;> cases who <;> rfl

@[simp] theorem State.rd_setShadow (s : State) (who : Requester) (x : Option Shadow) (k : Nat) :
    (s.setShadow who x).rd k = s.rd k := by
  cases who <;> rfl

@[simp] theorem State.setShadow_out (s : State) (who : Requester) (x : Option Shadow) : (s.setShadow who x).out = s.out := by
  cases who <;> rfl

@[simp] theorem State.shadow_emit (s : State) (o : Out) (who : Requester) : (s.emit o).shadow who = s.shadow who := by
  cases who <;> rfl

/-! ### What a read that arrives, or is served, does -/

theorem State.seen_of_served {s : State} {who : Requester} {key : Nat} (h : s.readServed who key = true) :
    s.seen who key = s.view key := by
  unfold State.seen
  rw [if_pos h]

theorem State.readLow_of_served {s : State} {who : Requester} {key : Nat} (h : s.readServed who key = true) :
    s.readLow who key = ((s.clearRc key 0).setShadow who (some ⟨key, (upperBits (s.view key)).setWidth 32⟩)).emit
      (.readData who (lowerBits (s.view key))) := by
  unfold State.readLow
  rw [State.seen_of_served h, if_pos h]

theorem State.readHigh_of_shadow {s : State} {who : Requester} {key : Nat} {x : Shadow} (hx : s.shadow who = some x)
    (hk : x.key = key) : s.readHigh who key = (s.setShadow who none).emit (.readData who (x.high.setWidth 64)) := by
  unfold State.readHigh
  rw [hx]
  exact if_pos hk

theorem State.readHigh_of_served {s : State} {who : Requester} {key : Nat} (h : s.readServed who key = true)
    (hno : ∀ x, s.shadow who = some x → x.key ≠ key) :
    s.readHigh who key = ((s.clearRc key 32).setShadow who none).emit (.readData who (upperBits (s.view key))) := by
  unfold State.readHigh
  rw [State.seen_of_served h, if_pos h]
  split
  · next x hx => exact if_neg (hno x hx)
  · rfl

theorem State.readWhole_of_served {s : State} {who : Requester} {key : Nat} (h : s.readServed who key = true) :
    s.readWhole who key = (s.clearRc key 0).emit (.readData who (s.view key)) := by
  unfold State.readWhole
  rw [State.seen_of_served h, if_pos h]

theorem exec_regReadLowHalf {s : State} {who : Requester} (h : s.arrives who = true) (reg : BitVec 29) :
    exec (.regReadLowHalf who .bar0 reg) s = .next (s.readLow who (8 * reg.toNat)) := by
  show execRegReadLowHalf who .bar0 reg s = _
  unfold execRegReadLowHalf
  rw [h]; rfl

theorem exec_regReadHighHalf {s : State} {who : Requester} (h : s.arrives who = true) (reg : BitVec 29) :
    exec (.regReadHighHalf who .bar0 reg) s = .next (s.readHigh who (8 * reg.toNat)) := by
  show execRegReadHighHalf who .bar0 reg s = _
  unfold execRegReadHighHalf
  rw [h]; rfl

theorem exec_regReadFullWidth {s : State} {who : Requester} (h : s.arrives who = true) (reg : BitVec 29) :
    exec (.regReadFullWidth who .bar0 reg) s = .next (s.readWhole who (8 * reg.toNat)) := by
  show execRegReadFullWidth who .bar0 reg s = _
  unfold execRegReadFullWidth
  rw [h]; rfl

theorem exec_regReadNarrow {s : State} {who : Requester} {width : Width} (h : s.arrives who = true)
    (hw : width.bytes < 4) (win : Window) (off : W32) :
    exec (.regReadUnaligned who win off width) s = .next (s.readBytesAt who win off.toNat width.bytes) := by
  show execRegReadUnaligned who win off width s = _
  unfold execRegReadUnaligned
  rw [h, if_pos hw]; rfl

theorem exec_regReadMisaligned {s : State} {who : Requester} {off : W32} {width : Width} (h : s.arrives who = true)
    (hw : 4 ≤ width.bytes) (hoff : off.toNat % width.bytes ≠ 0) (win : Window) :
    exec (.regReadUnaligned who win off width) s = .next (s.readMisaligned who win off.toNat width.bytes) := by
  show execRegReadUnaligned who win off width s = _
  unfold execRegReadUnaligned
  rw [h, if_neg (Nat.not_lt.mpr hw), if_pos hoff]; rfl

/-! ### The bytes of a narrow read -/

theorem State.seenByte_lt (s : State) (who : Requester) (win : Window) (off : Nat) : s.seenByte who win off < 256 := by
  unfold State.seenByte
  split <;> exact Nat.mod_lt _ (by omega)

/-- One or two bytes put together are found again. -/
theorem State.narrowValue (s : State) (who : Requester) (win : Window) (off : Nat) {width : Width} (hw : width.bytes < 4) :
    let v : W64 := BitVec.ofNat 64
      (((List.range width.bytes).map (fun j => s.seenByte who win (off + j) * 256 ^ j)).foldl (· + ·) 0)
    v.toNat < 256 ^ width.bytes ∧
      ∀ j ∈ List.range width.bytes, v.toNat / 256 ^ j % 256 = s.seenByte who win (off + j) := by
  have h0 := s.seenByte_lt who win off
  have h1 := s.seenByte_lt who win (off + 1)
  cases width with
  | w8 => simp [Width.bytes, List.range_succ]; omega
  | w16 => simp [Width.bytes, List.range_succ]; omega
  | w32 | w64 => exact absurd hw (by decide)

/-! ### The reads, one by one -/

theorem regReadLowHalf_holds : regReadLowHalf := by
  intro who reg s harr hserved
  refine ⟨_, exec_regReadLowHalf harr reg, ?_⟩
  rw [State.readLow_of_served hserved]
  refine ⟨by simp [State.emit], by simp, by simp [State.rd_clearRc_same], fun k hk => ?_, fun other hother => ?_, ?_⟩
  · simpa using s.clearRc_regsKept _ 0 k hk
  · rw [State.shadow_emit, State.shadow_setShadow_other _ _ hother, State.shadow_clearRc]
  · exact s.halfRead_frame _ _ who _ _

theorem regReadHighHalfShadowed_holds : regReadHighHalfShadowed := by
  intro who reg s x harr hx hkey
  refine ⟨_, exec_regReadHighHalf harr reg, ?_⟩
  rw [State.readHigh_of_shadow hx hkey]
  refine ⟨by simp [State.emit], by simp, fun other hother => ?_, ?_⟩
  · rw [State.shadow_emit, State.shadow_setShadow_other _ _ hother]
  · cases who <;> rfl

theorem regReadHighHalfCurrent_holds : regReadHighHalfCurrent := by
  intro who reg s harr hserved hno
  refine ⟨_, exec_regReadHighHalf harr reg, ?_⟩
  rw [State.readHigh_of_served hserved hno]
  refine ⟨by simp [State.emit], by simp, by simp [State.rd_clearRc_same], fun k hk => ?_, ?_⟩
  · simpa using s.clearRc_regsKept _ 32 k hk
  · exact s.halfRead_frame _ _ who _ _

theorem regReadFullWidth_holds : regReadFullWidth := by
  intro who reg s harr hserved
  refine ⟨_, exec_regReadFullWidth harr reg, ?_⟩
  rw [State.readWhole_of_served hserved]
  exact ⟨by simp [State.emit], by simp [State.rd_clearRc_same], s.clearRc_regsKept (8 * reg.toNat) 0,
    congrArg (fun t : State => { t with out := s.out }) (s.clearRc_frame (8 * reg.toNat) 0)⟩

theorem regReadNarrow_holds : regReadNarrow := by
  intro who win off width s harr hw
  refine ⟨_, exec_regReadNarrow harr hw win off, rfl, ⟨_, ?_, State.narrowValue s who win off.toNat hw⟩, rfl⟩
  simp [State.readBytesAt, State.emit, readValue]

theorem regReadMisaligned_holds : regReadMisaligned := by
  intro who off width s harr hw hoff hserved
  refine ⟨_, exec_regReadMisaligned harr hw hoff .bar0, ?_⟩
  unfold State.readMisaligned
  extract_lets s1
  rw [if_pos (.inr hserved)]
  refine ⟨?_, State.posted_after rfl rfl rfl (s1.posted_post _ _), fun k hk => ?_, ?_⟩
  · rw [(State.post_quiet s1 _ _ rfl).1]; rfl
  · exact State.rd_post s1 _ _ k (List.ne_of_not_mem_cons hk)
  · exact congrArg (fun t : State => { t with out := s.out }) (s1.post_quiet_frame Ev.badRegAccess _ rfl)

theorem regReadForerunner_holds : regReadForerunner := by
  intro who reg s harr
  refine ⟨⟨_, ?_, rfl⟩, ⟨_, ?_, rfl⟩, ⟨_, ?_, rfl⟩⟩
  · show execRegReadLowHalf who .bar2 reg s = _
    unfold execRegReadLowHalf
    rw [harr]; rfl
  · show execRegReadHighHalf who .bar2 reg s = _
    unfold execRegReadHighHalf
    rw [harr]; rfl
  · show execRegReadFullWidth who .bar2 reg s = _
    unfold execRegReadFullWidth
    rw [harr]; rfl

end Sys2Proof.Machine

section
open Sys2Proof Sys2Proof.Machine

/-- Settles O5: a served read is what it returns, the RC fields cleared and the shadow put or taken. -/
theorem registerReads : Obligations.RegisterReads := by
  unfold Obligations.RegisterReads
  exact ⟨regReadLowHalf_holds, regReadHighHalfShadowed_holds, regReadHighHalfCurrent_holds, regReadFullWidth_holds,
    regReadNarrow_holds, regReadMisaligned_holds, regReadForerunner_holds⟩

end

/-! ## Registers that act when written (R78 to R88, R148, R228, R258, R287) -/

namespace Sys2Proof.Machine

open Sys2Proof.Claims

/-! ### Records and flags of the units -/

/-- The registers of a unit's first-fault record. -/
def recordKeys (i : Nat) : List Nat :=
  [(Reg.NUM_FF_LOC.VALID i).reg, (Reg.NUM_FF_DETAIL.CAUSE i).reg, (Reg.NUM_FF_TIME.DTIME i).reg]

theorem State.rd_emptyRecord (s : State) (i k : Nat) : (s.emptyRecord i).rd k = if k ∈ recordKeys i then 0 else s.rd k := by
  unfold State.emptyRecord recordKeys
  rw [State.rd_wr, State.rd_wr, State.rd_wr]
  simp only [List.mem_cons, List.not_mem_nil, or_false]
  grind

theorem State.rd_emptyRecord_fold (us : List Nat) (s : State) (k : Nat) :
    (us.foldl State.emptyRecord s).rd k = if k ∈ us.flatMap recordKeys then 0 else s.rd k := by
  induction us generalizing s with
  | nil => rfl
  | cons u us ih =>
    rw [List.foldl_cons, ih, State.rd_emptyRecord, List.flatMap_cons]
    simp only [List.mem_append]
    grind

theorem State.emptyRecord_fold_frame (us : List Nat) (s : State) : onlyRegs s (us.foldl State.emptyRecord s) := by
  induction us generalizing s with
  | nil => rfl
  | cons u us ih => exact congrArg (fun t : State => { t with regs := s.regs }) (ih (s.emptyRecord u))

theorem rd_clearFlags_fold (us : List Nat) (m : W64) (s : State) (k : Nat) :
    (us.foldl (fun t i => t.wr (Reg.NUM_FLAGS.INVALID i).reg (t.rd (Reg.NUM_FLAGS.INVALID i).reg &&& m)) s).rd k =
      if k ∈ us.map (fun i => (Reg.NUM_FLAGS.INVALID i).reg) then s.rd k &&& m else s.rd k := by
  induction us generalizing s with
  | nil => rfl
  | cons u us ih =>
    rw [List.foldl_cons, ih, List.map_cons]
    by_cases hk : k = (Reg.NUM_FLAGS.INVALID u).reg
    · subst hk
      simp [BitVec.and_assoc]
    · rw [State.rd_wr_other _ _ _ _ hk]
      simp [hk]

theorem clearFlags_fold_frame (us : List Nat) (m : W64) (s : State) :
    onlyRegs s (us.foldl (fun t i => t.wr (Reg.NUM_FLAGS.INVALID i).reg (t.rd (Reg.NUM_FLAGS.INVALID i).reg &&& m)) s) := by
  induction us generalizing s with
  | nil => rfl
  | cons u us ih => exact congrArg (fun t : State => { t with regs := s.regs }) (ih (s.wr _ _))

theorem State.emptyRecord_frame (s : State) (i : Nat) : onlyRegs s (s.emptyRecord i) := rfl

theorem recordClear_holds : recordClear := by
  intro unit s hserved
  by_cases hu : unit.val ∈ s.numUnits
  · refine runs_of_guard (by simp [hserved, hu]) rfl ?_
    rw [if_pos hu]
    refine ⟨?_, ?_, ?_, fun k hk => ?_, s.emptyRecord_frame _⟩
    · rw [State.rd_emptyRecord]; simp [recordKeys]
    · rw [State.rd_emptyRecord]; simp [recordKeys]
    · rw [State.rd_emptyRecord]; simp [recordKeys]
    · rw [State.rd_emptyRecord]; exact if_neg hk
  · refine runs_of_not_guard (by simp [hu]) rfl ?_
    rw [if_neg hu]

theorem clearAllUnits_holds : clearAllUnits := by
  intro flags s i hserved hi
  refine ⟨runs_of_guard hserved rfl ?_, runs_of_guard hserved rfl ?_⟩
  · have hmask : BitVec.ofNat 64 (flags.toNat % 32) = flags.setWidth 64 := by bv_omega
    unfold State.clearAllFlags
    rw [hmask]
    refine ⟨?_, fun k hk => ?_, clearFlags_fold_frame _ _ s⟩
    · rw [rd_clearFlags_fold, if_pos (List.mem_map_of_mem hi)]
    · rw [rd_clearFlags_fold, if_neg hk]
  · have hread : ∀ k ∈ recordKeys i, (s.emptyRecords).rd k = 0 := fun k hk =>
      (State.rd_emptyRecord_fold _ s k).trans (if_pos (List.mem_flatMap.mpr ⟨i, hi, hk⟩))
    refine ⟨hread _ ?_, hread _ ?_, hread _ ?_, fun k hk => ?_, State.emptyRecord_fold_frame _ s⟩
    · simp [recordKeys]
    · simp [recordKeys]
    · simp [recordKeys]
    · exact (State.rd_emptyRecord_fold _ s k).trans (if_neg hk)

/-! ### The rounding probe -/

/-- The register that a write of the probe stores. -/
def probeKey : Probe → Nat
  | .seed => Reg.NUM_SR_SEED.SEED.reg
  | .step => Reg.NUM_SR_STEP.STEP.reg
  | .index => Reg.NUM_SR_INDEX.TID.reg

theorem State.writeProbe_eq (s : State) (probe : Probe) (value : W64) :
    s.writeProbe probe value = (s.wr (probeKey probe) value).probeResult := by
  cases probe <;> rfl

/-- The result goes to NUM_SR_RESULT alone. -/
theorem State.rd_probeResult (s : State) (k : Nat) (h : k ≠ Reg.NUM_SR_RESULT.X.reg) : s.probeResult.rd k = s.rd k := by
  unfold State.probeResult
  extract_lets xy
  rw [State.rd_set_other _ Reg.NUM_SR_RESULT.Y _ _ h, State.rd_set_other _ Reg.NUM_SR_RESULT.X _ _ h]

theorem State.get_probeResult (s : State) (f : Field) (h : f.reg ≠ Reg.NUM_SR_RESULT.X.reg) :
    s.probeResult.get f = s.get f := by
  unfold State.get
  rw [State.rd_probeResult s f.reg h]

theorem State.probeResult_words (s : State) :
    let xy := srWords (s.rd Reg.NUM_SR_SEED.SEED.reg) (s.rd Reg.NUM_SR_STEP.STEP.reg) (s.get Reg.NUM_SR_INDEX.TID)
      (s.get Reg.NUM_SR_INDEX.TILE) (s.get Reg.NUM_SR_INDEX.ELEM)
    (s.probeResult.get Reg.NUM_SR_RESULT.X, s.probeResult.get Reg.NUM_SR_RESULT.Y) = (xy.1.toNat, xy.2.toNat) := by
  unfold State.probeResult
  extract_lets xy
  rw [State.get_set_apart _ Reg.NUM_SR_RESULT.Y Reg.NUM_SR_RESULT.X _ rfl rfl, State.get_set_same _ _ _ rfl,
    State.get_set_same _ _ _ rfl]
  exact Prod.ext (Nat.mod_eq_of_lt xy.1.isLt) (Nat.mod_eq_of_lt xy.2.isLt)

theorem probeWrite_holds : probeWrite := by
  intro probe value s hserved
  refine runs_of_guard hserved rfl ?_
  rw [State.writeProbe_eq]
  have hkey : probeKey probe ≠ Reg.NUM_SR_RESULT.X.reg := by cases probe <;> decide
  refine ⟨?_, ?_, fun k hk => ?_, rfl⟩
  · refine Eq.trans ?_ ((State.rd_probeResult _ _ hkey).trans (State.rd_wr_same s _ value))
    cases probe <;> rfl
  · rw [State.rd_probeResult _ Reg.NUM_SR_SEED.SEED.reg (by decide),
      State.rd_probeResult _ Reg.NUM_SR_STEP.STEP.reg (by decide),
      State.get_probeResult _ Reg.NUM_SR_INDEX.TID (by decide), State.get_probeResult _ Reg.NUM_SR_INDEX.TILE (by decide),
      State.get_probeResult _ Reg.NUM_SR_INDEX.ELEM (by decide)]
    exact State.probeResult_words _
  · simp only [List.mem_cons, List.not_mem_nil, or_false, not_or] at hk
    obtain ⟨hseed, hstep, hindex, hresult⟩ := hk
    rw [State.rd_probeResult _ _ hresult]
    refine State.rd_wr_other s _ k value ?_
    cases probe
    · exact hseed
    · exact hstep
    · exact hindex

/-! ### SND_CLEAR and CHT_INDEX -/

theorem soundingsClears_holds : soundingsClears := by
  intro tensor s hserved
  refine ⟨runs_of_guard hserved rfl ⟨rfl, ?_, rfl⟩,
    runs_of_guard hserved rfl ⟨List.mem_cons_self, fun x hx => ?_, rfl⟩,
    runs_of_guard hserved rfl ⟨rfl, ?_, rfl, rfl⟩⟩
  · unfold State.clearPromotion
    cases s.other <;> rfl
  · have hkept := (List.mem_filter.mp hx).2
    simpa using hkept
  · unfold State.clearTensors
    cases s.other <;> rfl

theorem ChartEntry.words_getD (e : ChartEntry) :
    [e.words.getD 0 0, e.words.getD 1 0, e.words.getD 2 0, e.words.getD 3 0] = e.words := by
  unfold ChartEntry.words
  split <;> rfl

/-- What the registers of the Chart's window hold once an entry has been copied out. -/
theorem State.rd_copyEntry (s : State) (index k : Nat) :
    (s.copyEntry index).rd k =
      if k = Reg.CHT_DATA3.WORD.reg then (s.entry index).words.getD 3 0
      else if k = Reg.CHT_DATA2.WORD.reg then (s.entry index).words.getD 2 0
      else if k = Reg.CHT_DATA1.WORD.reg then (s.entry index).words.getD 1 0
      else if k = Reg.CHT_DATA0.WORD.reg then (s.entry index).words.getD 0 0
      else (s.set Reg.CHT_INDEX.INDEX index).rd k := by
  unfold State.copyEntry
  extract_lets ws s1
  rw [State.rd_wr, State.rd_wr, State.rd_wr, State.rd_wr]

theorem chartIndexWrite_holds : chartIndexWrite := by
  intro index s hserved
  refine runs_of_guard hserved rfl ⟨?_, ?_, fun k hk => ?_, rfl⟩
  · have hindex := State.get_set_same s Reg.CHT_INDEX.INDEX index.toNat rfl
    unfold State.get at hindex ⊢
    rw [State.rd_copyEntry]
    exact hindex.trans (Nat.mod_eq_of_lt index.isLt)
  · simp only [State.rd_copyEntry]
    exact ChartEntry.words_getD _
  · simp only [List.mem_cons, List.not_mem_nil, or_false, not_or] at hk
    obtain ⟨hindex, h0, h1, h2, h3⟩ := hk
    rw [State.rd_copyEntry, if_neg h3, if_neg h2, if_neg h1, if_neg h0, State.rd_set_other _ _ _ _ hindex]

/-! ### The host's advance of a knot, and the integrity record -/

theorem State.knot_advance_other (s : State) {k j : Nat} (n : Nat) (h : j ≠ k) : (s.advance k n).knot j = s.knot j := by
  unfold State.advance
  split <;> exact sparseGet_put_other 0 h _ _ _

theorem State.knot_advance_of_lt (s : State) {k n : Nat} (h : (s.knot k).toNat + n < 2 ^ 64) :
    ((s.advance k n).knot k).toNat = (s.knot k).toNat + n := by
  unfold State.advance
  rw [if_pos h]
  show (sparseGet 0 k (sparsePut 0 k (s.knot k + BitVec.ofNat 64 n) s.knots)).toNat = _
  rw [sparseGet_put_same]
  bv_omega

theorem knotAdvance_holds : knotAdvance := by
  intro k amount s j hserved
  refine runs_of_guard hserved rfl ?_
  unfold State.hostAdvance
  split
  · next h0 => exact ⟨fun _ => by rw [h0]; rfl, Nat.le_refl _, fun _ => rfl, rfl⟩
  · refine ⟨s.knot_advance_of_lt, (State.advance_kept (Kept.refl s) _ _).rise _, s.knot_advance_other _, ?_⟩
    unfold State.advance
    split <;> rfl

theorem integrityClear_holds : integrityClear := by
  intro s hserved
  refine runs_of_guard hserved rfl ?_
  unfold State.emptyIntegrity
  refine ⟨?_, ?_, State.get_set_same _ _ _ rfl, ?_, fun k hk => ?_, rfl⟩
  · rw [State.rd_set_other _ _ _ _ (by decide), State.rd_set_other _ _ _ _ (by decide), State.rd_wr_same]
  · rw [State.get_set_apart _ Reg.KNT_INTEGRITY_HOP.POSITION _ _ rfl rfl, State.get_set_same _ _ _ rfl]; rfl
  · rw [State.get_set_apart _ Reg.KNT_INTEGRITY_HOP.POSITION _ _ rfl rfl,
      State.get_set_apart _ Reg.KNT_INTEGRITY_HOP.PHASE _ _ rfl rfl]
    unfold State.get
    rw [State.rd_wr_other _ _ _ _ (by decide)]
  · simp only [List.mem_cons, List.not_mem_nil, or_false, not_or] at hk
    obtain ⟨hvalid, hhop⟩ := hk
    rw [State.rd_set_other _ Reg.KNT_INTEGRITY_HOP.POSITION _ _ hhop,
      State.rd_set_other _ Reg.KNT_INTEGRITY_HOP.PHASE _ _ hhop, State.rd_wr_other _ _ _ _ hvalid]

end Sys2Proof.Machine

section
open Sys2Proof Sys2Proof.Machine

/-- Settles O37: each register that acts is the operation that its write runs. -/
theorem registersThatAct : Obligations.RegistersThatAct := by
  unfold Obligations.RegistersThatAct
  exact ⟨recordClear_holds, clearAllUnits_holds, probeWrite_holds, soundingsClears_holds, chartIndexWrite_holds,
    knotAdvance_holds, integrityClear_holds⟩

end

/-! ## A disarm while a home is on the move -/

namespace Sys2Proof.Machine

open Sys2Proof.Claims

/-- A passage without tensors, legs or collectives. -/
def emptyPassage : Passage :=
  ⟨0, 0, 0, 0, 0, 0, 0, 0, false, 0, 0, 0, 0, 0, 0, [], [], [], [], [], [], [], []⟩

/-- A home of one tile of 64 bytes on the move (STATE MOVING). -/
def movingEntry : ChartEntry := { ChartEntry.free with tiles := 1, units := 1, state := 6, tier := 1, addr := 64 }

/-- A module ARMED with a passage: Chart entry 0 moves from address 64, where one byte is not zero, to its reservation at
address 0. -/
def armedMoving : State :=
  { State.reset with
    dev := .armed
    mem := [(64, 1)]
    role := { Role.empty with passage := some emptyPassage }
    chart := { ChartUnit.empty with entries := [(0, movingEntry)], keptHomes := [(0, 0)] } }

/-- PASSAGE_DISARM from mailbox 0, without arguments. -/
def disarmCommand : Cmd := ⟨0, 0, 0, 0, 0, 0, 0, 0, 0, 0, [], false⟩

/-- The disarm ends the move (Table 6-11): the tile is copied to its reservation. -/
theorem passageDisarm_armedMoving_mem : (armedMoving.passageDisarm disarmCommand).mem = [(0, 1), (64, 1)] := by
  rfl

theorem not_passageDisarm : ¬ passageDisarm := by
  intro h
  have hjudged : adminJudged disarmCommand armedMoving := ⟨⟨by decide, rfl, rfl⟩, rfl⟩
  have hbare : bare disarmCommand := ⟨rfl, rfl, rfl, rfl, rfl, rfl, rfl, rfl⟩
  obtain ⟨t, ht, -, -, -, -, -, -, -, -, -, -, -, -, -, hmem, -, -⟩ :=
    h disarmCommand armedMoving hjudged hbare (.inl rfl) rfl rfl rfl rfl rfl rfl rfl
  obtain rfl : armedMoving.passageDisarm disarmCommand = t := Host.Outcome.next.inj ht
  rw [passageDisarm_armedMoving_mem] at hmem
  exact absurd hmem (by decide)

end Sys2Proof.Machine

section
open Sys2Proof Sys2Proof.Machine

/-- Refutes O16: its clause on PASSAGE_DISARM says that module memory stays, but a disarm ends the moves of homes that are
under way, and ending a move copies the tiles to their reservation in module memory (`State.endMove`). -/
theorem not_runningAPassage : ¬ Obligations.RunningAPassage := by
  unfold Obligations.RunningAPassage
  rintro ⟨-, -, -, -, -, -, -, -, -, hdisarm⟩
  exact not_passageDisarm hdisarm

end

/-! ## A third training failure that retires the stack -/

namespace Sys2Proof.Machine

open Sys2Proof.Claims

/-- A module in BOOT whose firmware runs: stack 0 has failed its training twice, its fault window counts seven events where the
threshold is eight, and one byte that it holds is not zero. -/
def stackNearThreshold : State :=
  { State.reset with
    mem := [(0, 1)]
    boot := { BootUnit.reset with fwStarted := true, stackTries := [(0, 2)] }
    rel := { RelUnit.reset with windows := [(unitCode 5 0, ⟨List.replicate 7 0, false⟩)] } }

/-- The state after the third failure. -/
def stackRetired : State :=
  match exec (.stackTrainingDone 0 false) stackNearThreshold with
  | .next t => t
  | _ => stackNearThreshold

theorem exec_stackNearThreshold : exec (.stackTrainingDone 0 false) stackNearThreshold = .next stackRetired := rfl

/-- The failure is the eighth fault event: the stack is retired, and what it held is lost (R219, R440). -/
theorem stackRetired_mem : stackRetired.mem = [] := rfl

theorem not_stackTrainingFails : ¬ stackTrainingFails := by
  intro h
  obtain ⟨t, ht, -, hmem, -⟩ := h 0 stackNearThreshold 2 rfl rfl (by decide) rfl
  obtain rfl : stackRetired = t := Host.Outcome.next.inj (exec_stackNearThreshold.symm.trans ht)
  rw [stackRetired_mem] at hmem
  exact absurd hmem (by decide)

end Sys2Proof.Machine

section
open Sys2Proof Sys2Proof.Machine

/-- Refutes O28: its clause on a failed training says that module memory stays, but the third failure is a fault event of the
stack, and one that fills the stack's fault window retires the stack, whose contents are lost (`State.stackLost`). -/
theorem not_trainingToReady : ¬ Obligations.TrainingToReady := by
  unfold Obligations.TrainingToReady
  rintro ⟨-, -, hfails, -⟩
  exact not_stackTrainingFails hfails

end

/-! ## Row chunks whose combined sum is rounded -/

namespace Sys2Proof.Machine

open Sys2Proof.Claims

/-- The first of two chunk legs of RMSNORM_FWD. -/
def chunkedNorm : Leg where
  kind := 4
  orientA := false
  orientB := false
  y := 0
  a := 0xFFFF
  b := 0xFFFF
  streamCount := 0
  firstTile := 0
  tileCount := 1
  kStart := 0
  kLen := 0
  chunk := 0
  chunkCount := 2
  useIndex := 0
  op := 2
  firstStream := 0
  param0 := 0
  param1 := 0
  rowChunk := 1
  waitEn := false
  waitKnot := 0
  waitStep := 0
  signalEn := false
  signalKnot := 0

/-- The leg on logical core 0, with nothing started. -/
def chunkedNormRun : LegRun := ⟨some 0, 0, 0, [], [], false, false, []⟩

/-- Both chunks of row 0 have reported their sums of squares, 1 and 2 ^ -30, as FP32 codes. -/
def bothReported : RowPhase := ⟨0, 0, 0, [(0, [0x3F800000]), (1, [0x30800000])], none⟩

/-- A module at work on the leg. -/
def rowCombining : State :=
  { State.reset with
    dev := .running
    role := { Role.empty with
      passage := some { emptyPassage with legs := [chunkedNorm] }
      inStep := true
      legs := [(0, chunkedNormRun)]
      rowPhases := [bothReported] } }

/-- 1 + 2 ^ -30 is rounded to 1 in FP32. -/
theorem combineFv_bothReported :
    combineFv [fv 0x3F800000, fv 0x30800000] = (0x3F800000, { Flags.none with inexact := true }) := by
  decide +kernel

/-- The combine raises INEXACT in the sticky flags of core 0's V engine (R82, R168). -/
theorem combineChunkRows_rowCombining_regs :
    (rowCombining.combineChunkRows 0).regs = [((Reg.NUM_FLAGS.INVALID (unitIndexOf 0 2)).reg, 4)] := by
  decide +kernel

theorem not_rowChunkCombine : ¬ rowChunkCombine := by
  intro h
  obtain ⟨t, ht, -, -, hframe⟩ := h 0 rowCombining chunkedNorm chunkedNormRun rfl rfl
  obtain rfl : rowCombining.combineChunkRows 0 = t := Host.Outcome.next.inj ht
  have hregs : (rowCombining.combineChunkRows 0).regs = [] := congrArg State.regs hframe
  rw [combineChunkRows_rowCombining_regs] at hregs
  exact List.cons_ne_nil _ _ hregs

end Sys2Proof.Machine

section
open Sys2Proof Sys2Proof.Machine

/-- Refutes O42: its clause on the combining of a row's chunks says that nothing but the row's phases changes, but the combine is
FP32 arithmetic, and a sum that is rounded raises INEXACT in the sticky flags of the core's V engine (`State.raiseRow`). -/
theorem not_pilotsCopiesAndVector : ¬ Obligations.PilotsCopiesAndVector := by
  unfold Obligations.PilotsCopiesAndVector
  rintro ⟨-, -, -, -, -, -, -, hcombine, -⟩
  exact not_rowChunkCombine hcombine

end

/-! ## The code points of the number formats (R57 to R61) -/

namespace Sys2Proof.Machine

open Sys2Proof.Claims

/-! ### What the fields of a code give -/

/-- The weight of a code's exponent field over a power of two. -/
theorem pow2_natCast_sub (n k : Nat) : pow2 ((n : Int) - k) = 2 ^ n / 2 ^ k := by
  have hne : ∀ j : Nat, (2 : Rat) ^ j ≠ 0 := fun j => Rat.ne_of_gt (Rat.pow_pos (by decide))
  have hn := hne n
  have hk := hne k
  unfold pow2
  split
  · next h =>
    obtain ⟨d, rfl⟩ : ∃ d, n = d + k := ⟨n - k, by omega⟩
    have hexp : (((d + k : Nat) : Int) - k).toNat = d := by omega
    rw [hexp, Rat.natCast_pow, Rat.natCast_ofNat]
    grind
  · next h =>
    obtain ⟨d, rfl⟩ : ∃ d, k = d + n := ⟨k - n, by omega⟩
    have hexp : (-((n : Int) - (d + n : Nat))).toNat = d := by omega
    have hd := hne d
    rw [hexp, Rat.natCast_pow, Rat.natCast_ofNat]
    grind

/-- The magnitude that an exponent and a fraction field stand for: subnormal where the exponent field is 0. -/
def Fmt.fieldsMag (f : Fmt) (e m : Nat) : Rat :=
  if e = 0 then (m : Rat) * pow2 (f.emin - f.frac) else ((2 ^ f.frac + m : Nat) : Rat) * pow2 ((e : Int) - f.bias - f.frac)

theorem Fmt.fieldsMag_eq (f : Fmt) (e m : Nat) :
    f.fieldsMag e m = if e = 0 then (m : Rat) * (2 / 2 ^ (f.bias + f.frac))
      else (2 ^ f.frac + m : Rat) * (2 ^ e / 2 ^ (f.bias + f.frac)) := by
  have hsub : f.emin - f.frac = ((1 : Nat) : Int) - (f.bias + f.frac : Nat) := by
    unfold Fmt.emin
    omega
  have hnorm : (e : Int) - f.bias - f.frac = (e : Int) - (f.bias + f.frac : Nat) := by omega
  unfold Fmt.fieldsMag
  rw [hsub, hnorm, pow2_natCast_sub, pow2_natCast_sub, Rat.natCast_add, Rat.natCast_pow, Rat.natCast_ofNat]
  rfl

/-- A code put together from its fields is finite unless it is the poison code of a plain EQ format or has the exponent that a format
keeps for infinities and NaNs. -/
theorem decodeNum_of_fields {f : Fmt} (hint : f.isInt = false) (hwidth : f.width - 1 = f.frac + f.expBits) {sign e m : Nat}
    (hs : sign < 2) (he : e < 2 ^ f.expBits) (hm : m < 2 ^ f.frac)
    (hpoison : f.isPlainEq = true → ¬(sign = 1 ∧ e = 0 ∧ m = 0)) (htop : f.hasInf = true → e ≠ 2 ^ f.expBits - 1) :
    decodeNum f (2 ^ f.frac * (2 ^ f.expBits * sign + e) + m) = .fin (decide (sign = 1)) (f.fieldsMag e m) := by
  have hfrac : (2 ^ f.frac * (2 ^ f.expBits * sign + e) + m) % 2 ^ f.frac = m := by
    rw [Nat.mul_add_mod, Nat.mod_eq_of_lt hm]
  have hupper : (2 ^ f.frac * (2 ^ f.expBits * sign + e) + m) / 2 ^ f.frac = 2 ^ f.expBits * sign + e := by
    rw [Nat.mul_add_div (Nat.two_pow_pos _), Nat.div_eq_of_lt hm, Nat.add_zero]
  have hexp : (2 ^ f.expBits * sign + e) % 2 ^ f.expBits = e := by
    rw [Nat.mul_add_mod, Nat.mod_eq_of_lt he]
  have hsign : (2 ^ f.frac * (2 ^ f.expBits * sign + e) + m) / 2 ^ (f.width - 1) % 2 = sign := by
    rw [hwidth, Nat.pow_add, ← Nat.div_div_eq_div_mul, hupper, Nat.mul_add_div (Nat.two_pow_pos _), Nat.div_eq_of_lt he,
      Nat.add_zero, Nat.mod_eq_of_lt hs]
  unfold decodeNum Fmt.fieldsMag
  simp only [hint, hfrac, hupper, hexp, hsign]
  rw [if_neg (by simp), if_neg (by simpa [and_assoc] using hpoison), if_neg (by simpa using htop)]
  split <;> rfl

/-! ### Format by format -/

theorem eq4Codes_holds : eq4Codes := by
  unfold eq4Codes
  decide +kernel

theorem eq6Codes_holds : eq6Codes := by
  unfold eq6Codes signedTable
  decide +kernel

theorem eq8aCodes_holds : eq8aCodes := by
  refine ⟨fun sign hs e he f hf => ?_, by decide +kernel, rfl⟩
  split
  · next h =>
    obtain ⟨rfl, rfl, rfl⟩ := h
    decide +kernel
  · next h =>
    have hcode := decodeNum_of_fields (f := .eq8a) rfl rfl hs he hf (fun _ ⟨hsign, hexp, hfrac⟩ => h ⟨hexp, hfrac, hsign⟩) (fun h => absurd h (by decide))
    have hmag : Fmt.fieldsMag .eq8a e f = if e = 0 then (f : Rat) / 512 else (8 + f : Rat) * 2 ^ e / 1024 := by
      rw [Fmt.fieldsMag_eq]
      simp only [Fmt.bias, Fmt.frac]
      split <;> grind
    rw [← hmag, ← hcode]
    congr 1
    simp only [Fmt.frac, Fmt.expBits]
    omega

theorem eq8bCodes_holds : eq8bCodes := by
  refine ⟨fun sign hs e he f hf => ?_, by decide +kernel, by decide +kernel, by decide +kernel, rfl, rfl, rfl, rfl⟩
  have hcode := decodeNum_of_fields (f := .eq8b) rfl rfl hs (Nat.lt_succ_of_lt he) hf
    (fun h => absurd h (by decide)) (fun _ => Nat.ne_of_lt he)
  have hmag : Fmt.fieldsMag .eq8b e f = if e = 0 then (f : Rat) / 65536 else (4 + f : Rat) * 2 ^ e / 131072 := by
    rw [Fmt.fieldsMag_eq]
    simp only [Fmt.bias, Fmt.frac]
    split <;> grind
  rw [← hmag, ← hcode]
  congr 1
  simp only [Fmt.frac, Fmt.expBits]
  omega

theorem scaleValue_of_fields {e f : Nat} (hf : f < 8) :
    scaleValue (8 * e + f) = if e = 0 then (f : Rat) / 131072 else (8 + f : Rat) * 2 ^ e / 262144 := by
  have hexp : (8 * e + f) / 8 = e := by omega
  have hfrac : (8 * e + f) % 8 = f := by omega
  have hsub : pow2 (-17) = 1 / 131072 := by decide +kernel
  have hnorm : pow2 ((e : Int) - 18) = 2 ^ e / 262144 := by
    refine (pow2_natCast_sub e 18).trans ?_
    grind
  simp only [scaleValue, hexp, hfrac, hsub, hnorm]
  split
  · grind
  · rw [Rat.natCast_add, Rat.natCast_ofNat]
    grind

theorem eqs8Codes_holds : eqs8Codes :=
  ⟨fun _ _ _ hf _ _ => scaleValue_of_fields hf, by decide +kernel, by decide +kernel, fun _ _ => ⟨rfl, rfl⟩⟩

end Sys2Proof.Machine

section
open Sys2Proof Sys2Proof.Machine

/-- Settles O60: a code is the value that its exponent and fraction fields give, but for the poison codes, infinities and NaNs. -/
theorem codePoints : Obligations.CodePoints := by
  unfold Obligations.CodePoints
  exact ⟨eq4Codes_holds, eq6Codes_holds, eq8aCodes_holds, eq8bCodes_holds, eqs8Codes_holds⟩

end

/-! ## A result of a watched gradient, which lands without its token -/

namespace Sys2Proof.Machine

open Sys2Proof.Claims

/-! ### A reduction packet that arrives -/

@[simp] theorem State.leavesStorage_role (s : State) (p : Packet) : (s.leavesStorage p).role = s.role := by
  unfold State.leavesStorage
  split <;> rfl

/-- Under the role in force, a packet of the present attempt is worked on once it is taken out of what is delivered. -/
theorem State.takeCollective_role {s : State} {p : Packet} {n : Nat} (h : currentHere s p n) (hcls : (p.cls == 0) = false)
    (f : State → State) : (s.takeCollective p n f).role = (f (taken s p)).role := by
  obtain ⟨⟨hin, hok, htype, hrole⟩, harmed, htag⟩ := h
  have hown : (taken s p).packetRole p = .own := hrole
  have harmed' : (taken s p).isArmed = true := harmed
  have hcurrent : p.attempt - (taken s p).attemptTag = 0 := by rw [htag]; exact BitVec.sub_self _
  have hworked : ((taken s p).asRole .own fun t => if t.isArmed then t.byTag p f id else t) = f (taken s p) := by
    simp only [State.asRole, harmed', State.byTag, hcurrent, if_true]
  have hreceived : s.takeCollective p n f =
      if (f (taken s p)).fab.early.contains p then f (taken s p) else (f (taken s p)).leavesStorage p := by
    unfold State.takeCollective State.deliver State.receive
    rw [if_pos htype, ← hworked, ← hown]
    simp only [hin, hcls, hok, Bool.not_true, Bool.false_and, Bool.or_self, Bool.false_eq_true, if_false]
    rfl
  rw [hreceived]
  split
  · rfl
  · exact State.leavesStorage_role _ _

theorem exec_redResult (p : Packet) (s : State) :
    exec (.redResult p) s = .next (s.takeCollective p 8 (fun t => t.takeResult p)) := rfl

/-- Keeping a segment changes how far the collectives have run, and nothing else. -/
theorem State.takeSegment_frame (s : State) (t : Tensor) (p : Packet) (result : Bool) :
    ∃ colls, (s.takeSegment t p result).2 = s.mapRole (fun r => { r with colls := colls }) := by
  unfold State.takeSegment
  dsimp only
  split <;> exact ⟨_, rfl⟩

theorem State.coll_mapColl_same (s : State) (c : Nat) (f : CollRun → CollRun) : (s.mapColl c f).coll c = f (s.coll c) := by
  have hgone : (s.role.colls.filter (fun x => x.1 != c)).find? (fun x => x.1 == c) = none := by simp
  change (((s.role.colls.filter (fun x => x.1 != c) ++ [(c, f (s.coll c))]).find? (fun x => x.1 == c)).map Prod.snd).getD
    CollRun.empty = _
  rw [List.find?_append, hgone]
  simp

theorem State.takeSegment_landedTiles (s : State) (t : Tensor) (p : Packet) (result : Bool) :
    ((s.takeSegment t p result).2.coll p.aux.toNat).landedTiles = (s.coll p.aux.toNat).landedTiles := by
  unfold State.takeSegment
  dsimp only
  split <;> simp [State.coll_mapColl_same]

/-- The codes of values that are not in the scaled form do not depend on the scale. -/
theorem RedEntry.codes_of_unscaled {e : RedEntry} (h : e.scaled = false) (scale : Int) : e.codes scale = e.codes 0 := by
  unfold RedEntry.codes
  exact List.map_congr_left fun v _ => by simp [RedEntry.code, h]

/-- The last position of the ring lands a whole result whose checksum is right, and sends it no further (R279, R280). -/
theorem State.takeResult_last {s : State} {p : Packet} {d : Collective} {t : Tensor} {e : RedEntry}
    (hsrc : s.redSource p = some (d, t)) (hwhole : (s.takeSegment t p true).1 = some e) (hscaled : e.scaled = false)
    (haway : d.selfPos ≠ e.tile % max d.members.length 1) (hnew : (s.coll p.aux.toNat).landedTiles.contains e.tile = false)
    (hcheck : landCheck (sumFp64 ((t.validElems e.tile).map (fun k => (e.codes 0).getD k 0))) e.checks = true)
    (hlast : nextPosition d.members.length d.selfPos = e.tile % max d.members.length 1) :
    s.takeResult p = (s.takeSegment t p true).2.landResult p.aux.toNat d t e := by
  unfold State.takeResult
  simp only [hsrc, hwhole, State.takeSegment_landedTiles, hnew, RedEntry.codes_of_unscaled hscaled, hcheck, if_true, haway,
    decide_false, Bool.or_self, Bool.false_eq_true, if_false, if_pos hlast]

/-! ### The token of a watched result -/

/-- `t`, reached from `r`, has posted no token, and what decides whether Drift watch holds one is the same. -/
structure TokensKept (r t : State) : Prop where
  regs : t.regs = r.regs
  part : t.part = r.part
  ready : t.role.ready = r.role.ready
  stormMark : t.role.stormMark = r.role.stormMark

/-- A record update of other fields. -/
theorem TokensKept.same {r s t : State} (h : TokensKept r s) (hregs : t.regs = s.regs) (hpart : t.part = s.part)
    (hrole : t.role = s.role) : TokensKept r t where
  regs := hregs.trans h.regs
  part := hpart.trans h.part
  ready := (congrArg Role.ready hrole).trans h.ready
  stormMark := (congrArg Role.stormMark hrole).trans h.stormMark

theorem TokensKept.mapRole {r s : State} (h : TokensKept r s) {f : Role → Role} (hready : (f s.role).ready = s.role.ready)
    (hstorm : (f s.role).stormMark = s.role.stormMark) : TokensKept r (s.mapRole f) where
  regs := h.regs
  part := h.part
  ready := hready.trans h.ready
  stormMark := hstorm.trans h.stormMark

theorem TokensKept.takeCredit {r s : State} (h : TokensKept r s) (owner : Nat) (q : UnitQueue) :
    TokensKept r (s.takeCredit owner q) := by
  unfold State.takeCredit State.setCredit
  exact h.mapRole rfl rfl

theorem TokensKept.mapColl {r s : State} (h : TokensKept r s) (c : Nat) (f : CollRun → CollRun) : TokensKept r (s.mapColl c f) := by
  unfold State.mapColl
  exact h.mapRole rfl rfl

theorem TokensKept.markWritten {r s : State} (h : TokensKept r s) (tensor tile rung : Nat) :
    TokensKept r (s.markWritten tensor tile rung) := by
  unfold State.markWritten
  split
  · exact h
  · exact h.same rfl rfl rfl

theorem TokensKept.writeHome {r s : State} (h : TokensKept r s) {w : TileWrite} {i a : Nat} {x : ChartEntry}
    (hhome : s.home w.tensor w.tile = some (i, x, a)) (hlocal : x.tier = 1) (knot : Nat) :
    TokensKept r (s.writeHome knot w) := by
  have hstored : s.writeHome knot w = s.store (a + w.offset) w.bytes := by
    simp only [State.writeHome, State.writeHomeBy, hhome, State.writeTier, hlocal, State.store]
  rw [hstored]
  exact h.same (by simp) (by simp) (by simp)

/-- Holding a tile's tokens posts none. -/
theorem TokensKept.holdTokens {r s : State} (h : TokensKept r s) (t : Tensor) (tile : Nat) (sight : Bool) :
    TokensKept r (s.holdTokens t tile sight) := by
  unfold State.holdTokens
  dsimp only
  split
  · exact h.mapRole rfl rfl
  · exact h

theorem TokensKept.advance {r s : State} (h : TokensKept r s) (k n : Nat) : TokensKept r (s.advance k n) := by
  unfold State.advance
  split <;> exact h.same rfl rfl rfl

theorem TokensKept.shipLanded {r s : State} (h : TokensKept r s) (tensor tile : Nat) : TokensKept r (s.shipLanded tensor tile) := by
  unfold State.shipLanded
  split
  · exact h
  · split
    · exact h.same rfl rfl rfl
    · exact h

theorem TokensKept.fallbackHw {r s : State} (h : TokensKept r s) : s.fallbackHw = r.fallbackHw := by
  unfold State.fallbackHw
  rw [State.flag_congr h.regs h.part]

/-- A result of a tensor under Drift watch lands at a local home without its token: that waits for the verdict (R138). -/
theorem TokensKept.landResult {r s : State} (h : TokensKept r s) {t : Tensor} {e : RedEntry} {i a : Nat} {x : ChartEntry}
    (hwatched : t.drift ≠ 0) (hhw : r.fallbackHw = true) (hstorm : r.role.stormMark = false)
    (hhome : s.home t.id e.tile = some (i, x, a)) (hlocal : x.tier = 1) (c : Nat) (d : Collective) :
    TokensKept r (s.landResult c d t e) := by
  unfold State.landResult
  dsimp only
  generalize hlanded : (State.mapColl _ _ _) = landed
  have hkept : TokensKept r landed :=
    hlanded ▸ ((((h.writeHome hhome hlocal _).markWritten _ _ _).takeCredit _ _).mapRole rfl rfl).mapColl _ _
  rw [if_pos ⟨hwatched, hkept.fallbackHw.trans hhw, hkept.stormMark.trans hstorm⟩]
  exact ((hkept.holdTokens _ _ _).advance _ _).shipLanded _ _

/-- The last segment of a watched result posts no token at the last position of the ring. -/
theorem State.redResult_ready_of_watched {s : State} {p : Packet} {d : Collective} {t : Tensor} {e : RedEntry} {i a : Nat}
    {x : ChartEntry} (hhere : currentHere s p 8) (hcls : (p.cls == 0) = false) (hsrc : (taken s p).redSource p = some (d, t))
    (hwhole : ((taken s p).takeSegment t p true).1 = some e) (hscaled : e.scaled = false)
    (haway : d.selfPos ≠ e.tile % max d.members.length 1) (hnew : (s.coll p.aux.toNat).landedTiles.contains e.tile = false)
    (hcheck : landCheck (sumFp64 ((t.validElems e.tile).map (fun k => (e.codes 0).getD k 0))) e.checks = true)
    (hlast : nextPosition d.members.length d.selfPos = e.tile % max d.members.length 1)
    (hhome : s.home t.id e.tile = some (i, x, a)) (hlocal : x.tier = 1)
    (hwatched : t.drift ≠ 0) (hhw : s.fallbackHw = true) (hstorm : s.role.stormMark = false) :
    (s.takeCollective p 8 (fun u => u.takeResult p)).role.ready = s.role.ready := by
  have htaken : TokensKept s (taken s p) := ⟨rfl, rfl, rfl, rfl⟩
  obtain ⟨colls, hframe⟩ := (taken s p).takeSegment_frame t p true
  have hkept : TokensKept s ((taken s p).takeSegment t p true).2 := hframe ▸ htaken.mapRole rfl rfl
  have hchart : ((taken s p).takeSegment t p true).2.chart = s.chart := by rw [hframe]; rfl
  have hhome' : ((taken s p).takeSegment t p true).2.home t.id e.tile = some (i, x, a) := by
    rw [← hhome, State.home, State.entryOf, hchart]
    rfl
  rw [State.takeCollective_role hhere hcls, State.takeResult_last hsrc hwhole hscaled haway hnew hcheck hlast]
  exact (hkept.landResult hwatched hhw hstorm hhome' hlocal _ _).ready

/-! ### The counterexample -/

/-- A weight gradient of one element, and so of one tile, under Drift watch at TILE grain. -/
def watchedGradient : Tensor where
  id := 0
  format := 0
  kind := 3
  carry := false
  outMode := 0
  rnd := 0
  block := 0
  zp := false
  rowBlocks := false
  alt6 := false
  alt8 := false
  ceiling := 0
  drift := 2
  driftGradient := true
  outliers := false
  master := false
  pinned := false
  offloadOk := false
  isLocal := false
  shape := 0
  init := 0
  rows := 1
  cols := 1
  coarse := 0x3F800000
  group := 0
  partner := 0xFFFF
  scalesId := 0xFFFF
  zpId := 0xFFFF
  outIndexId := 0xFFFF
  outSideId := 0xFFFF
  pinTier := 0
  pinAddr := 0
  source := 0

/-- The ring of nodes 0, 1 and 2 that reduces it, seen from node 2: position 0 is home, and this one lands the result last. -/
def gradientRing : Collective where
  kind := 1
  gradientClose := false
  stepClose := false
  wire := 0
  knotBase := 40
  headroom := 0
  tensor := 0
  members := [0, 1, 2]
  selfPos := 2
  stallUs := 0
  firstTile := 0
  tileCount := 1

/-- Segment `n` of the tile's result from the position before, all zero. -/
def resultSegment (n : Nat) : Packet :=
  { blankPacket 8 2 with
    src := 1
    dest := 2
    tag := 3
    addr := BitVec.ofNat 52 n
    data := List.replicate 4096 0 }

/-- The local home of the gradient. -/
def gradientHome : ChartEntry := { ChartEntry.free with tiles := 1, units := 256, state := 2, tier := 1, addr := 0x1000 }

/-- A module at work, at which the last of the four segments of the tile's result has just arrived. -/
def watchedResult : State :=
  { State.reset with
    dev := .running
    role := { Role.empty with
      passage := some { emptyPassage with tensors := [watchedGradient], collectives := [gradientRing] }
      inStep := true
      colls := [(0, { CollRun.empty with segments := (List.range 3).map (fun n => (0, true, n, resultSegment n)) })] }
    chart := { ChartUnit.empty with entries := [(0, gradientHome)] }
    fab := { State.reset.fab with inbox := [resultSegment 3] } }

/-- The four segments make a whole result of tile 0, whose checksum is right. -/
theorem resultSegment_completes :
    ∃ e, ((taken watchedResult (resultSegment 3)).takeSegment watchedGradient (resultSegment 3) true).1 = some e ∧
      e.scaled = false ∧ e.tile = 0 ∧
      landCheck (sumFp64 ((watchedGradient.validElems e.tile).map (fun k => (e.codes 0).getD k 0))) e.checks = true :=
  ⟨_, rfl, rfl, rfl, by decide +kernel⟩

theorem not_resultLands : ¬ resultLands := by
  intro hlands
  obtain ⟨e, hwhole, hscaled, htile, hcheck⟩ := resultSegment_completes
  have hhere : currentHere watchedResult (resultSegment 3) 8 :=
    ⟨⟨by simp [watchedResult], rfl, rfl, by decide +kernel⟩, rfl, rfl⟩
  have hsrc : (taken watchedResult (resultSegment 3)).redSource (resultSegment 3) = some (gradientRing, watchedGradient) := by
    decide +kernel
  have haway : gradientRing.selfPos ≠ e.tile % max gradientRing.members.length 1 := by rw [htile]; decide
  have hlast : nextPosition gradientRing.members.length gradientRing.selfPos = e.tile % max gradientRing.members.length 1 := by
    rw [htile]; decide
  have hnew : (watchedResult.coll (resultSegment 3).aux.toNat).landedTiles.contains e.tile = false := by
    rw [htile]; decide +kernel
  have hhome : watchedResult.home watchedGradient.id e.tile = some (0, gradientHome, 0x1000) := by
    rw [htile]; decide +kernel
  have hmark : watchedResult.get Reg.CHT_MARK_REGION.BASE + gradientHome.markOf e.tile / 2 < 0x1000 := by
    rw [htile]; decide +kernel
  obtain ⟨t, ht, -, -, -, -, -, hready, -⟩ := hlands (resultSegment 3) watchedResult gradientRing watchedGradient e 0 gradientHome
    0x1000 hhere hsrc hwhole hscaled haway hnew hcheck hhome rfl (by decide +kernel) (.inl hmark)
  obtain rfl : watchedResult.takeCollective (resultSegment 3) 8 (fun u => u.takeResult (resultSegment 3)) = t :=
    Host.Outcome.next.inj ((exec_redResult _ _).symm.trans ht)
  rw [State.redResult_ready_of_watched hhere rfl hsrc hwhole hscaled haway hnew hcheck hlast hhome rfl (by decide)
    (by decide +kernel) rfl] at hready
  exact absurd hready List.not_mem_nil

end Sys2Proof.Machine

section
open Sys2Proof Sys2Proof.Machine

/-- Refutes O45: its clause on a result that lands says that the tile's token is posted, for every tensor. The token of a tensor
under Drift watch, which R135 admits for weight gradients at TILE grain, is held for the tile's verdict (R138,
`State.holdTokens`). -/
theorem not_gradientReduction : ¬ Obligations.GradientReduction := by
  unfold Obligations.GradientReduction
  rintro ⟨-, -, -, -, -, -, -, hlands, -⟩
  exact not_resultLands hlands

end

/-! ## A step that starts while a home is on the move -/

namespace Sys2Proof.Machine

open Sys2Proof.Claims

/-- A module that runs and has no step in hand: Chart entry 0 moves from address 64, where one byte is not zero, to its
reservation at address 0. -/
def runningMoving : State := { armedMoving with dev := .running }

/-- The state after the step start. -/
def movedAtStart : State := runningMoving.stepStart

theorem exec_stepStart_runningMoving : exec (.stepStart .own) runningMoving = .next movedAtStart := rfl

/-- A step start returns the homes of the step before (R214), which ends the move: the tile is copied to its reservation. -/
theorem movedAtStart_mem : movedAtStart.mem = [(0, 1), (64, 1)] := by
  decide +kernel

theorem not_stepStart_claim : ¬ stepStart := by
  intro h
  obtain ⟨t, ht, -, -, -, -, -, -, -, -, -, -, -, -, -, -, -, ⟨hmem, -⟩, -⟩ := h runningMoving emptyPassage rfl rfl rfl
  obtain rfl : movedAtStart = t := Host.Outcome.next.inj (exec_stepStart_runningMoving.symm.trans ht)
  rw [movedAtStart_mem] at hmem
  exact absurd hmem (by decide)

end Sys2Proof.Machine

section
open Sys2Proof Sys2Proof.Machine

/-- Refutes O38: its clause on a step start says that module memory stays, but a step start returns the cluster-store homes of
the step before, which ends the moves that are under way, and ending a move copies the tiles to their reservation in module memory
(`State.endMove`). -/
theorem not_stepStart : ¬ Obligations.StepStart := by
  unfold Obligations.StepStart
  rintro ⟨hstart, -⟩
  exact not_stepStart_claim hstart

end

/-! ## A Drift watch trigger on a tile that a reduction lands -/

namespace Sys2Proof.Machine

open Sys2Proof.Claims

/-- The watched gradient with its ladder: a tile of it can climb one rung. -/
def climbingGradient : Tensor := { watchedGradient with format := 9, ceiling := 7 }

/-- The DW product leg that writes the gradient's one tile. -/
def gradientLeg : Leg := { chunkedNorm with kind := 2, chunkCount := 1, op := 0, rowChunk := 0 }

/-- A partial with a non-finite element. -/
def nonfinitePartial : Partial := { Partial.zero with nonfinite := 1 }

/-- A module at work on a passage in which a leg writes the gradient's tile and a ring reduces it. Non-finite elements trigger Drift
watch, the budget is one tile, and the tile's partial is on its way. -/
def landedDrift : State :=
  { State.reset with
    dev := .running
    role := { Role.empty with
      passage := some { emptyPassage with
        tensors := [climbingGradient], legs := [gradientLeg], collectives := [gradientRing] }
      inStep := true
      latched := [(Reg.SND_DRIFT_CFG.NONFINITE_TRIGGER.reg, BitVec.ofNat 64 (2 ^ 48)), (Reg.SND_BUDGET.FRACTION.reg, 256)]
      budgetTiles := 1
      inFlight := [(0, 0, nonfinitePartial)] } }

/-- The state after the partial has reached its collector. -/
def driftJudged : State := landedDrift.partialArrives 0 0

theorem exec_soundingsPartial_landedDrift : exec (.soundingsPartial .own 0 0) landedDrift = .next driftJudged := rfl

/-- The result of a reduction stands: the drift is noted, and no repeat is asked for (log 99). -/
theorem driftJudged_triggers : driftJudged.role.triggers = [] := by
  decide +kernel

theorem drifts_landedDrift : landedDrift.drifts climbingGradient nonfinitePartial = true := by
  decide +kernel

theorem not_driftWatchTriggers : ¬ driftWatchTriggers := by
  intro h
  obtain ⟨t, ht, htriggers, -⟩ := h 0 0 landedDrift (0, 0, nonfinitePartial) _ climbingGradient 0 gradientLeg rfl rfl rfl rfl rfl rfl
    (by decide +kernel) rfl drifts_landedDrift rfl (by decide +kernel) rfl rfl rfl (by decide +kernel) (by decide +kernel)
    (by decide +kernel) rfl
  obtain rfl : driftJudged = t := Host.Outcome.next.inj (exec_soundingsPartial_landedDrift.symm.trans ht)
  rw [driftJudged_triggers] at htriggers
  exact absurd htriggers.symm (List.cons_ne_nil _ _)

end Sys2Proof.Machine

section
open Sys2Proof Sys2Proof.Machine

/-- Refutes O43: its clause on a Drift watch trigger says that the tile is asked for once more, for every tile that a leg owns. The
result of a reduction stands: for a tile that a collective lands no repeat is asked for (log 99, `State.driftTrigger`), and a weight
gradient at TILE grain (R135) is such a tile. -/
theorem not_soundingsAndRepeats : ¬ Obligations.SoundingsAndRepeats := by
  unfold Obligations.SoundingsAndRepeats
  rintro ⟨-, -, htriggers, -⟩
  exact not_driftWatchTriggers htriggers

end

/-! ## The verdict of a step (R146, R247, R248, R261, R271, R272) -/

namespace Sys2Proof.Machine

open Sys2Proof.Claims

/-! ### What stands while nothing decides the step -/

/-- How far a role has come: what the verdict of a step changes, but the legs. -/
structure Progress where
  carried : Bool
  step : Nat
  attempt : Nat
  inStep : Bool
  settling : Bool
  level : Nat
  rerun : Bool
  stormMark : Bool

/-- The progress of a role. -/
def Role.progress (r : Role) : Progress where
  carried := r.carried
  step := r.step
  attempt := r.attempt
  inStep := r.inStep
  settling := r.settling
  level := r.level
  rerun := r.rerun
  stormMark := r.stormMark

/-- `t`, reached from `r`, has come as far in its steps: the progress is the same, a role without legs has none, the registers
at `ks` read as before, and the device state is the same or one of `ds`. -/
structure StepKept (ks : List Nat) (ds : List DevState) (r t : State) : Prop where
  part : t.part = r.part
  progress : t.role.progress = r.role.progress
  legs : r.role.legs = [] → t.role.legs = []
  regs : ∀ k ∈ ks, t.rd k = r.rd k
  dev : t.dev = r.dev ∨ t.dev ∈ ds

section
variable {ks : List Nat} {ds : List DevState} {r s : State}

theorem StepKept.refl (s : State) : StepKept ks ds s s := ⟨rfl, rfl, id, fun _ _ => rfl, .inl rfl⟩

theorem StepKept.step (h : StepKept ks ds r s) : s.role.step = r.role.step := congrArg Progress.step h.progress

theorem StepKept.attempt (h : StepKept ks ds r s) : s.role.attempt = r.role.attempt := congrArg Progress.attempt h.progress

theorem StepKept.carried (h : StepKept ks ds r s) : s.role.carried = r.role.carried := congrArg Progress.carried h.progress

theorem StepKept.get (h : StepKept ks ds r s) (f : Field) (hf : f.reg ∈ ks) : s.get f = r.get f := by
  unfold State.get
  rw [h.regs _ hf]

/-- A change of fields other than the part, the role, the registers and the device state. -/
theorem StepKept.same (h : StepKept ks ds r s) {t : State} (hpart : t.part = s.part) (hrole : t.role = s.role)
    (hregs : t.regs = s.regs) (hdev : t.dev = s.dev) : StepKept ks ds r t where
  part := hpart.trans h.part
  progress := (congrArg Role.progress hrole).trans h.progress
  legs := fun hr => (congrArg Role.legs hrole).trans (h.legs hr)
  regs := fun k hk => (State.rd_congr hregs hpart k).trans (h.regs k hk)
  dev := hdev ▸ h.dev

theorem StepKept.mapRole (h : StepKept ks ds r s) {f : Role → Role} (hf : (f s.role).progress = s.role.progress)
    (hlegs : (f s.role).legs = s.role.legs) : StepKept ks ds r (s.mapRole f) where
  part := h.part
  progress := hf.trans h.progress
  legs := fun hr => hlegs.trans (h.legs hr)
  regs := h.regs
  dev := h.dev

theorem StepKept.mapLeg (h : StepKept ks ds r s) (i : Nat) (f : LegRun → LegRun) : StepKept ks ds r (s.mapLeg i f) where
  part := h.part
  progress := h.progress
  legs := fun hr => congrArg _ (h.legs hr)
  regs := h.regs
  dev := h.dev

theorem StepKept.ite {a b : State} {c : Prop} [Decidable c] (ha : StepKept ks ds r a) (hb : StepKept ks ds r b) :
    StepKept ks ds r (if c then a else b) := by
  split
  · exact ha
  · exact hb

theorem StepKept.foldl {α : Type} {f : State → α → State} (xs : List α) (h : StepKept ks ds r s)
    (hf : ∀ t x, StepKept ks ds r t → StepKept ks ds r (f t x)) : StepKept ks ds r (xs.foldl f s) := by
  induction xs generalizing s with
  | nil => exact h
  | cons x xs ih => exact ih (hf s x h)

/-! ### Registers, events and the device state -/

theorem StepKept.wr (h : StepKept ks ds r s) {k : Nat} (hk : k ∉ ks) (v : W64) : StepKept ks ds r (s.wr k v) :=
  { h with regs := fun j hj => (State.rd_wr_other s k j v fun e => hk (e ▸ hj)).trans (h.regs j hj) }

theorem StepKept.set (h : StepKept ks ds r s) {f : Field} (hf : f.reg ∉ ks) (v : Nat) : StepKept ks ds r (s.set f v) := h.wr hf _

theorem StepKept.setOwn (h : StepKept ks ds r s) {f : Field} (hf : f.reg ∉ ks) (v : Nat) : StepKept ks ds r (s.setOwn f v) :=
  .ite h (h.set hf v)

theorem StepKept.post (h : StepKept ks ds r s) (hevt : Reg.EVT_STATUS.MASKED.reg ∉ ks) (e : EventKind) (args : List Nat) :
    StepKept ks ds r (s.post e args) where
  part := (State.post_part s e args).trans h.part
  progress := (congrArg Role.progress (State.post_role s e args)).trans h.progress
  legs := fun hr => (congrArg Role.legs (State.post_role s e args)).trans (h.legs hr)
  regs := fun k hk => (State.rd_post s e args k fun hevt' => hevt (hevt' ▸ hk)).trans (h.regs k hk)
  dev := (State.post_dev s e args).symm ▸ h.dev

/-- Entering one of the states listed. -/
theorem StepKept.enter (h : StepKept ks ds r s) (hstate : Reg.CAP_STATE.STATE.reg ∉ ks) (hevt : Reg.EVT_STATUS.MASKED.reg ∉ ks)
    {d : DevState} (hd : d ∈ ds) (cause : Nat) : StepKept ks ds r (s.enter d cause) where
  part := (State.enter_part s d cause).trans h.part
  progress := (congrArg Role.progress (State.enter_role s d cause)).trans h.progress
  legs := fun hr => (congrArg Role.legs (State.enter_role s d cause)).trans (h.legs hr)
  regs := fun k hk =>
    (State.rd_enter s d cause k (fun e => hstate (e ▸ hk)) fun e => hevt (e ▸ hk)).trans (h.regs k hk)
  dev := .inr ((State.enter_dev s d cause).symm ▸ hd)

theorem StepKept.holdBy (h : StepKept ks ds r s) (hstate : Reg.CAP_STATE.STATE.reg ∉ ks)
    (hevt : Reg.EVT_STATUS.MASKED.reg ∉ ks) (hd : .held ∈ ds) (cause : Nat) : StepKept ks ds r (s.holdBy cause) :=
  .ite (h.enter hstate hevt hd cause) h

theorem StepKept.reportOverruns (h : StepKept ks ds r s) (hstale : Reg.KNT_STALE.OVERRUNS.reg ∉ ks)
    (hevt : Reg.EVT_STATUS.MASKED.reg ∉ ks) : StepKept ks ds r s.reportOverruns :=
  h.foldl _ fun _ _ ht => .ite ((ht.set hstale _).post hevt _ _) ht

/-! ### Sparse state beside the role -/

theorem StepKept.setEntry (h : StepKept ks ds r s) (i : Nat) (e : ChartEntry) : StepKept ks ds r (s.setEntry i e) :=
  h.same rfl rfl rfl rfl

theorem StepKept.mapEntry (h : StepKept ks ds r s) (i : Nat) (f : ChartEntry → ChartEntry) : StepKept ks ds r (s.mapEntry i f) :=
  h.setEntry _ _

theorem StepKept.setMark (h : StepKept ks ds r s) (j v : Nat) : StepKept ks ds r (s.setMark j v) := h.same rfl rfl rfl rfl

theorem StepKept.store (h : StepKept ks ds r s) (a : Nat) (bs : List Byte) : StepKept ks ds r (s.store a bs) :=
  h.same (by simp) (by simp) (by simp) (by simp)

theorem StepKept.advance (h : StepKept ks ds r s) (k n : Nat) : StepKept ks ds r (s.advance k n) := by
  unfold State.advance
  split <;> exact h.same rfl rfl rfl rfl

theorem StepKept.mapColl (h : StepKept ks ds r s) (c : Nat) (f : CollRun → CollRun) : StepKept ks ds r (s.mapColl c f) := by
  unfold State.mapColl
  exact h.mapRole rfl rfl

theorem StepKept.sendTwin (h : StepKept ks ds r s) (m : TwinMsg) : StepKept ks ds r (s.sendTwin m) := h.same rfl rfl rfl rfl

theorem StepKept.mapTwin (h : StepKept ks ds r s) (f : TwinUnit → TwinUnit) : StepKept ks ds r (s.mapTwin f) :=
  h.same rfl rfl rfl rfl

/-- A leg's signal advances a knot here or is sent to another module. -/
theorem StepKept.legSignal (h : StepKept ks ds r s) (i : Nat) (l : Leg) : StepKept ks ds r (s.legSignal i l) := by
  unfold State.legSignal
  split
  · exact h
  · split
    · exact h
    · extract_lets s1
      have hs1 : StepKept ks ds r s1 := h.mapLeg _ _
      split
      · exact hs1.same rfl rfl rfl rfl
      · unfold State.twinSignal State.twinPacket
        split <;> exact hs1.same rfl rfl rfl rfl
      · exact hs1.advance _ _

/-! ### The discard of a step (R247, R261) -/

theorem StepKept.placementFailed (h : StepKept ks ds r s) (hevt : Reg.EVT_STATUS.MASKED.reg ∉ ks) (unit : Nat) :
    StepKept ks ds r (s.placementFailed unit) :=
  .ite h ((h.mapRole rfl rfl).post hevt _ _)

/-- Re-placing what is LOST changes the Chart alone. -/
theorem StepKept.replaceLost (h : StepKept ks ds r s) {es : List Nat} {t : State} (ht : s.replaceLost es = some t) :
    StepKept ks ds r t := by
  have hall : ∀ u, s.replaceLost es = some u → StepKept ks ds r u := by
    unfold State.replaceLost
    refine List.foldlRecOn es _ (motive := fun o => ∀ u, o = some u → StepKept ks ds r u) (fun u hu => Option.some.inj hu ▸ h) ?_
    intro o ho i _ u hu
    obtain ⟨v, rfl, hv⟩ := Option.bind_eq_some_iff.mp hu
    have hkept := ho v rfl
    dsimp only at hv
    split at hv
    · exact Option.some.inj hv ▸ hkept
    · split at hv
      · exact Option.some.inj hv ▸ hkept.setEntry _ _
      · obtain ⟨a, -, rfl⟩ := Option.map_eq_some_iff.mp hv
        exact hkept.setEntry _ _
  exact hall t ht

theorem StepKept.startRestore (h : StepKept ks ds r s) (hrec : Reg.CAP_RECOVERY.RESTORE.reg ∉ ks)
    (hstate : Reg.CAP_STATE.STATE.reg ∉ ks) (hevt : Reg.EVT_STATUS.MASKED.reg ∉ ks) (hd : .held ∈ ds) (late disarm : Bool) :
    StepKept ks ds r (s.startRestore late disarm) := by
  unfold State.startRestore
  extract_lets es lost cause mib s1
  have hs1 : StepKept ks ds r s1 := 
    ((h.set hrec _).set (f := Reg.CAP_RECOVERY.CAUSE) hrec _).set (f := Reg.CAP_RECOVERY.MIB_LEFT) hrec _
  split
  · split
    · next t ht => exact h.replaceLost ht
    · exact h.placementFailed hevt _
  · split
    · exact hs1.placementFailed hevt _
    · next t ht =>
      extract_lets s3 s4
      have hs3 : StepKept ks ds r s3 := (hs1.replaceLost ht).same rfl rfl rfl rfl
      have hs4 : StepKept ks ds r s4 := (hs3.set hrec _).post hevt _ _
      exact .ite ((hs3.set hrec _).sendTwin _) (.ite hs4 (hs4.holdBy hstate hevt hd _))

end

/-- The state in which a discard has begun the settlement. -/
def State.settlingBegun (s : State) : State :=
  ((((s.reportOverruns.bump Reg.KNT_RDV_STATS.DISCARDS 1).mapRole (fun r => { r with
    inStep := false, closed := false, settling := true, stormMark := false, discardMark := false, legs := [], outTiles := []
    update := UpdateRun.empty })).setOwn Reg.NUM_UPD_STATUS.PASS 0).setOwn Reg.CAP_RUN.HOST_WAIT 0).set Reg.KNT_STATUS.SETTLING 1

/-- The registers by which a discard shows. -/
def discardKeys : List Nat := [Reg.KNT_RDV_STATS.DISCARDS.reg, Reg.KNT_STATUS.SETTLING.reg, Reg.SND_FALLBACK_COUNT.STORMS.reg]

/-- Once the settlement has begun, what is left of a discard decides nothing: a restore may start, and the module may be held. -/
theorem State.discardStep_kept (s : State) : StepKept discardKeys [.held] s.settlingBegun s.discardStep := by
  unfold State.discardStep
  extract_lets late s1 s2 s3 s4 s5 s6
  have hs3 : StepKept discardKeys [.held] s.settlingBegun s3 := .refl s3
  have hs4 : StepKept discardKeys [.held] s.settlingBegun s4 := .ite hs3 (hs3.mapTwin _)
  have hs5 : StepKept discardKeys [.held] s.settlingBegun s5 :=
    hs4.startRestore (by decide) (by decide) (by decide) (by decide) _ _
  have hs6 : StepKept discardKeys [.held] s.settlingBegun s6 :=
    .ite ((hs5.mapRole rfl rfl).holdBy (by decide) (by decide) (by decide) _) hs5
  exact .ite ((hs6.set (by decide) _).holdBy (by decide) (by decide) (by decide) _) hs6

/-! ### What a discard leaves -/

@[simp] theorem State.setOwn_role (s : State) (f : Field) (v : Nat) : (s.setOwn f v).role = s.role := by
  unfold State.setOwn
  split <;> rfl

@[simp] theorem State.setOwn_dev (s : State) (f : Field) (v : Nat) : (s.setOwn f v).dev = s.dev := by
  unfold State.setOwn
  split <;> rfl

theorem State.rd_setOwn_other (s : State) {f : Field} {k : Nat} (h : k ≠ f.reg) (v : Nat) : (s.setOwn f v).rd k = s.rd k := by
  unfold State.setOwn
  split
  · rfl
  · exact State.rd_set_other s f v k h

/-- A counter holds its count, saturated. -/
theorem State.get_bump_same (s : State) (f : Field) (n : Nat) (hf : f.sound = true) :
    (s.bump f n).get f = satCount f.width (s.get f + n) := by
  have hlt : satCount f.width (s.get f + n) < 2 ^ f.width := by
    have := Nat.two_pow_pos f.width
    unfold satCount
    omega
  unfold State.bump
  rw [State.get_set_same _ _ _ hf, Nat.mod_eq_of_lt hlt]

theorem State.settlingBegun_progress (s : State) :
    s.settlingBegun.role.progress = { s.role.progress with inStep := false, settling := true, stormMark := false } := by
  have hbase : StepKept [] [] s (s.reportOverruns.bump Reg.KNT_RDV_STATS.DISCARDS 1) :=
    ((StepKept.refl s).reportOverruns List.not_mem_nil List.not_mem_nil).set List.not_mem_nil _
  rw [← hbase.progress]
  simp [State.settlingBegun, State.mapRole, Role.progress]

theorem State.settlingBegun_dev (s : State) : s.settlingBegun.dev = s.dev := by
  have hover : StepKept [] [] s s.reportOverruns := (StepKept.refl s).reportOverruns List.not_mem_nil List.not_mem_nil
  simpa [State.settlingBegun, State.mapRole] using hover.dev

/-- The registers that the beginning of a settlement writes beside KNT_STATUS and KNT_RDV_STATS are others. -/
theorem State.rd_settlingBegun (s : State) {k : Nat} (hstatus : k ≠ Reg.KNT_STATUS.SETTLING.reg)
    (hpass : k ≠ Reg.NUM_UPD_STATUS.PASS.reg) (hrun : k ≠ Reg.CAP_RUN.HOST_WAIT.reg) :
    s.settlingBegun.rd k = (s.reportOverruns.bump Reg.KNT_RDV_STATS.DISCARDS 1).rd k := by
  unfold State.settlingBegun
  rw [State.rd_set_other _ _ _ _ hstatus, State.rd_setOwn_other _ hrun, State.rd_setOwn_other _ hpass]
  rfl

theorem State.discardStep_progress (s : State) :
    s.discardStep.role.progress = { s.role.progress with inStep := false, settling := true, stormMark := false } :=
  s.discardStep_kept.progress.trans s.settlingBegun_progress

theorem State.discardStep_dev (s : State) : s.discardStep.dev = s.dev ∨ s.discardStep.dev = .held := by
  simpa [s.settlingBegun_dev] using s.discardStep_kept.dev

theorem State.flag_settling_discardStep (s : State) : s.discardStep.flag Reg.KNT_STATUS.SETTLING = true := by
  unfold State.flag
  rw [s.discardStep_kept.get _ (by decide)]
  exact decide_eq_true (State.get_set_same _ Reg.KNT_STATUS.SETTLING 1 rfl)

theorem State.get_discards_discardStep (s : State) :
    s.discardStep.get Reg.KNT_RDV_STATS.DISCARDS =
      satCount Reg.KNT_RDV_STATS.DISCARDS.width (s.get Reg.KNT_RDV_STATS.DISCARDS + 1) := by
  have hover : StepKept [Reg.KNT_RDV_STATS.DISCARDS.reg] [] s s.reportOverruns :=
    (StepKept.refl s).reportOverruns (by decide) (by decide)
  have hbegun : s.settlingBegun.get Reg.KNT_RDV_STATS.DISCARDS =
      (s.reportOverruns.bump Reg.KNT_RDV_STATS.DISCARDS 1).get Reg.KNT_RDV_STATS.DISCARDS := by
    unfold State.get
    rw [s.rd_settlingBegun (by decide) (by decide) (by decide)]
  rw [s.discardStep_kept.get _ (by decide), hbegun, State.get_bump_same _ _ _ rfl, hover.get _ (by decide)]

theorem State.get_storms_discardStep (s : State) :
    s.discardStep.get Reg.SND_FALLBACK_COUNT.STORMS = s.get Reg.SND_FALLBACK_COUNT.STORMS := by
  have hover : StepKept [Reg.SND_FALLBACK_COUNT.STORMS.reg] [] s (s.reportOverruns.bump Reg.KNT_RDV_STATS.DISCARDS 1) :=
    ((StepKept.refl s).reportOverruns (by decide) (by decide)).set (by decide) _
  rw [s.discardStep_kept.get _ (by decide), ← hover.get _ (by decide)]
  unfold State.get
  rw [s.rd_settlingBegun (by decide) (by decide) (by decide)]

/-! ### The storm verdict (R146) -/

/-- A storm verdict as it stands before the discard. -/
def State.stormNoted (s : State) : State :=
  (s.mapRole (fun r => { r with level := min 3 (r.level + 1), rerun := true })).bump Reg.SND_FALLBACK_COUNT.STORMS 1

/-- A storm verdict discards the step once it has been counted and posted. -/
theorem State.stormVerdict_eq (s : State) :
    ∃ t, s.stormVerdict = t.discardStep ∧ StepKept [Reg.SND_FALLBACK_COUNT.STORMS.reg] [] s.stormNoted t :=
  ⟨_, rfl, (((StepKept.refl s.stormNoted).setOwn (by decide) _).post (by decide) _ _).setOwn (by decide) _⟩

theorem State.stormVerdict_progress (s : State) :
    s.stormVerdict.role.progress = { s.role.progress with
      inStep := false, settling := true, stormMark := false, level := min 3 (s.role.level + 1), rerun := true } := by
  obtain ⟨t, ht, hkept⟩ := s.stormVerdict_eq
  rw [ht, t.discardStep_progress, hkept.progress]
  rfl

theorem State.get_storms_stormVerdict (s : State) :
    s.stormVerdict.get Reg.SND_FALLBACK_COUNT.STORMS =
      satCount Reg.SND_FALLBACK_COUNT.STORMS.width (s.get Reg.SND_FALLBACK_COUNT.STORMS + 1) := by
  obtain ⟨t, ht, hkept⟩ := s.stormVerdict_eq
  rw [ht, t.get_storms_discardStep, hkept.get _ (by decide)]
  exact State.get_bump_same _ _ _ rfl

/-! ### The release at the root (R271) -/

@[simp] theorem State.advance_role (s : State) (k n : Nat) : (s.advance k n).role = s.role := by
  unfold State.advance
  split <;> rfl

/-! What is read of a role is the same in another state that has the same of it. -/

theorem State.legAt_of_legs {s t : State} (hpass : t.role.passage = s.role.passage) (hlegs : t.role.legs = s.role.legs) (i : Nat) :
    t.legAt i = s.legAt i := by
  unfold State.legAt
  rw [hpass, hlegs]

theorem State.coll_of_role {s t : State} (h : t.role = s.role) (c : Nat) : t.coll c = s.coll c := by
  unfold State.coll
  rw [h]

theorem State.normOfLeg_of_passage {s t : State} (h : t.role.passage = s.role.passage) (l : Leg) : t.normOfLeg l = s.normOfLeg l := by
  unfold State.normOfLeg
  rw [h]

/-- The release of an episode is counted and timed, and its verdict is there to be acted on. -/
def State.countRelease (s : State) (c : Nat) (v : Payload) : State :=
  let s1 := ((s.mapColl c (fun q => { q with verdict := some v })).bump Reg.KNT_RDV_STATS.EPISODES 1).set
    Reg.KNT_STATUS.LAST_COLLECTIVE c
  let ns := satCount 32 (s.dtime - (s.coll c).arrivedAt)
  (s1.set Reg.KNT_RDV_LATENCY.LAST_NS ns).set Reg.KNT_RDV_LATENCY.MAX_NS (max (s1.get Reg.KNT_RDV_LATENCY.MAX_NS) ns)

/-- The episode of a leg's collective is over, and with it the leg. -/
def State.closeEpisode (s : State) (i : Nat) (l : Leg) : State :=
  ((s.endEpisode l.op).set Reg.KNT_STATUS.IN_RENDEZVOUS 0).mapLeg i (fun q => { q with started := l.tileCount, finished := true })

theorem StepKept.closeEpisode {ks : List Nat} {ds : List DevState} {r s : State} (h : StepKept ks ds r s)
    (hstatus : Reg.KNT_STATUS.IN_RENDEZVOUS.reg ∉ ks) (i : Nat) (l : Leg) : StepKept ks ds r (s.closeEpisode i l) := by
  unfold State.closeEpisode State.endEpisode
  exact ((h.mapColl _ _).set hstatus _).mapLeg _ _

/-- A released verdict acts where no norm combine runs beside it. -/
theorem State.released_eq {s : State} {c : Nat} {v : Payload} {p : Passage} {d : Collective} {l : Leg} {r : LegRun}
    (hpass : s.role.passage = some p) (hcoll : p.collectives[c]? = some d) (hleg : s.legAt (s.coll c).leg = some (l, r))
    (hop : l.op = c) (hnorm : s.normOfLeg l = none) :
    s.released c v = (s.countRelease c v).act p (s.coll c).leg l d v none := by
  subst hop
  unfold State.released
  extract_lets run ns s1 s2
  have hrole : s2.role = (s.mapColl l.op (fun q => { q with verdict := some v })).role := by
    simp only [s2, s1, State.set_role, State.bump_role]
  have hpass2 : s2.role.passage = some p := by rw [hrole]; exact hpass
  have hleg2 : s2.legAt run.leg = some (l, r) := by
    rw [← hleg]
    exact State.legAt_of_legs (by rw [hrole]; rfl) (by rw [hrole]; rfl) _
  have hnorm2 : s2.normOfLeg l = none := by
    rw [← hnorm]
    exact State.normOfLeg_of_passage (by rw [hrole]; rfl) l
  have hverdict : (s2.coll l.op).verdict = some v := by rw [State.coll_of_role hrole, State.coll_mapColl_same]
  simp only [hpass2, hleg2, hcoll, hverdict, hnorm2]
  rfl

section
variable {s : State} {p : Passage} {i : Nat} {l : Leg} {d : Collective} {v : Payload}

theorem State.act_of_mismatch (hnorm : s.normOfLeg l = none) (hv : v.mismatch = true) :
    ∃ args, s.act p i l d v none =
      (((s.closeEpisode i l).post Ev.rendezvousMismatch args).discardStep).holdBy (eventCause Ev.rendezvousMismatch) := by
  unfold State.act
  rw [hnorm, if_pos hv]
  exact ⟨_, rfl⟩

theorem State.act_of_storm (hnorm : s.normOfLeg l = none) (hm : v.mismatch = false) (hv : v.storm = true) :
    s.act p i l d v none = (s.closeEpisode i l).stormVerdict := by
  unfold State.act
  rw [hnorm, if_neg (by simp [hm]), if_pos hv]
  rfl

theorem State.act_of_discard (hnorm : s.normOfLeg l = none) (hm : v.mismatch = false) (hs : v.storm = false)
    (hv : v.discard = true) : s.act p i l d v none = (s.closeEpisode i l).discardStep := by
  unfold State.act
  rw [hnorm, if_neg (by simp [hm]), if_neg (by simp [hs]), if_pos hv]
  rfl

theorem State.act_of_close (hnorm : s.normOfLeg l = none) (hm : v.mismatch = false) (hs : v.storm = false)
    (hv : v.discard = false) (hclose : d.stepClose = true) :
    s.act p i l d v none = ((s.closeEpisode i l).legSignal i l).commitStep p := by
  unfold State.act
  rw [hnorm, if_neg (by simp [hm]), if_neg (by simp [hs]), if_neg (by simp [hv]), if_pos hclose]
  rfl

end

/-- The root has joined the arrivals of an episode, and its release knot has advanced. -/
def State.arrivalsJoined (s : State) (c : Nat) (d : Collective) : State :=
  (s.mapColl c (fun q => { q with sent := true })).advance (d.knotBase + 1) 1

/-- Once the one arrival due is counted, the root's own payload is released as the verdict. -/
theorem State.arrivalsComplete_of_rootReady {s : State} {c : Nat} {d : Collective} {v : Payload} {p : Passage} {l : Leg} {r : LegRun}
    (h : rootReady s c d v p l r) : s.arrivalsComplete c = (s.arrivalsJoined c d).released c v := by
  obtain ⟨hcoll, hkind, hroot, hnone, hown, harrived, hsent, hkids, hdue, -⟩ := h
  have hcounted : ¬(s.knot d.knotBase).toNat < s.role.started d.knotBase + ((s.coll c).episode + 1) := Nat.not_lt.mpr hdue
  unfold State.arrivalsComplete
  simp only [hcoll, hown, hkind, hroot, hnone, harrived, hsent, hkids, List.length_nil, Nat.zero_add, Nat.mul_one, hcounted,
    Nat.zero_ne_one, decide_false, Bool.not_true, Bool.or_self, Bool.false_eq_true, if_false]
  rfl

/-- The verdict of a root without children acts at once. -/
theorem exec_arrivalsComplete_of_rootReady {c : BitVec 12} {s : State} {d : Collective} {v : Payload} {p : Passage} {l : Leg}
    {r : LegRun} (h : rootReady s c.toNat d v p l r) :
    exec (.rendezvousArrivalsComplete .own c) s =
      .next (((s.arrivalsJoined c.toNat d).countRelease c.toNat v).act p (s.coll c.toNat).leg l d v none) := by
  have hreleased : s.arrivalsComplete c.toNat = _ := s.arrivalsComplete_of_rootReady h
  obtain ⟨hcoll, -, -, -, -, -, -, -, -, hpass, hleg, hop, hnorm, -⟩ := h
  have hrole : (s.arrivalsJoined c.toNat d).role = (s.mapColl c.toNat (fun q => { q with sent := true })).role :=
    State.advance_role _ _ _
  have hleader : ((s.arrivalsJoined c.toNat d).coll c.toNat).leg = (s.coll c.toNat).leg := by
    rw [State.coll_of_role hrole, State.coll_mapColl_same]
  have hdesc : p.collectives[c.toNat]? = some d := by simpa [State.collective?, hpass] using hcoll
  have hpass' : (s.arrivalsJoined c.toNat d).role.passage = some p := by rw [hrole]; exact hpass
  have hlegs' : (s.arrivalsJoined c.toNat d).role.legs = s.role.legs := by rw [hrole]; rfl
  have hleg' : (s.arrivalsJoined c.toNat d).legAt ((s.arrivalsJoined c.toNat d).coll c.toNat).leg = some (l, r) := by
    rw [hleader, State.legAt_of_legs (hpass'.trans hpass.symm) hlegs', hleg]
  have hnorm' : (s.arrivalsJoined c.toNat d).normOfLeg l = none := by
    rw [State.normOfLeg_of_passage (hpass'.trans hpass.symm), hnorm]
  show Host.Outcome.next (s.arrivalsComplete c.toNat) = _
  rw [hreleased, State.released_eq hpass' hdesc hleg' hop hnorm', hleader]

/-- The state in which the verdict of a root without children acts. -/
def State.verdictState (s : State) (c : Nat) (d : Collective) (v : Payload) (l : Leg) : State :=
  ((s.arrivalsJoined c d).countRelease c v).closeEpisode (s.coll c).leg l

/-- Until the verdict acts nothing is decided. -/
theorem State.verdictState_kept (s : State) (c : Nat) (d : Collective) (v : Payload) (l : Leg) :
    StepKept [Reg.SND_FALLBACK_COUNT.STORMS.reg] [] s (s.verdictState c d v l) := by
  have hjoined : StepKept [Reg.SND_FALLBACK_COUNT.STORMS.reg] [] s (s.arrivalsJoined c d) :=
    ((StepKept.refl s).mapColl _ _).advance _ _
  have hcounted : StepKept [Reg.SND_FALLBACK_COUNT.STORMS.reg] [] s ((s.arrivalsJoined c d).countRelease c v) :=
    ((((hjoined.mapColl _ _).set (by decide) _).set (by decide) _).set (by decide) _).set (by decide) _
  exact hcounted.closeEpisode (by decide) _ _

theorem State.get_discards_countRelease (s : State) (c : Nat) (v : Payload) :
    (s.countRelease c v).get Reg.KNT_RDV_STATS.DISCARDS = s.get Reg.KNT_RDV_STATS.DISCARDS := by
  unfold State.countRelease State.bump
  extract_lets s1 ns
  rw [State.get_set_apart _ _ _ _ rfl rfl, State.get_set_apart _ _ _ _ rfl rfl, State.get_set_apart _ _ _ _ rfl rfl,
    State.get_set_apart _ _ _ _ rfl rfl]
  rfl

theorem State.get_discards_verdictState (s : State) (c : Nat) (d : Collective) (v : Payload) (l : Leg) :
    (s.verdictState c d v l).get Reg.KNT_RDV_STATS.DISCARDS = s.get Reg.KNT_RDV_STATS.DISCARDS := by
  have hjoined : StepKept [Reg.KNT_RDV_STATS.DISCARDS.reg] [] s (s.arrivalsJoined c d) :=
    ((StepKept.refl s).mapColl _ _).advance _ _
  have hclosed : StepKept [Reg.KNT_RDV_STATS.DISCARDS.reg] [] ((s.arrivalsJoined c d).countRelease c v) (s.verdictState c d v l) :=
    (StepKept.refl _).closeEpisode (by decide) _ _
  rw [hclosed.get _ (by decide), State.get_discards_countRelease, hjoined.get _ (by decide)]

theorem normOfLeg_of_rootReady {s : State} {c : Nat} {d : Collective} {v : Payload} {p : Passage} {l : Leg} {r : LegRun}
    (h : rootReady s c d v p l r) : ((s.arrivalsJoined c d).countRelease c v).normOfLeg l = none := by
  obtain ⟨-, -, -, -, -, -, -, -, -, -, -, -, hnorm, -⟩ := h
  rw [← hnorm]
  refine State.normOfLeg_of_passage ?_ l
  show (s.arrivalsJoined c d).role.passage = _
  unfold State.arrivalsJoined
  rw [State.advance_role]
  rfl

/-! ### Discard, storm and mismatch (R146, R247, R261, R272) -/

theorem stepDiscarded_holds : stepDiscarded := by
  intro c s d v p l r h hmismatch hstorm hdiscard
  refine ⟨_, exec_arrivalsComplete_of_rootReady h, ?_⟩
  rw [State.act_of_discard (normOfLeg_of_rootReady h) hmismatch hstorm hdiscard]
  have hprogress := (s.verdictState c.toNat d v l).discardStep_progress
  rw [(s.verdictState_kept c.toNat d v l).progress] at hprogress
  exact ⟨congrArg Progress.settling hprogress, congrArg Progress.inStep hprogress, congrArg Progress.step hprogress,
    congrArg Progress.attempt hprogress, State.flag_settling_discardStep _, congrArg Progress.level hprogress,
    by rw [← s.get_discards_verdictState c.toNat d v l]; exact State.get_discards_discardStep _⟩

theorem stormDiscards_holds : stormDiscards := by
  intro c s d v p l r h hmismatch hstorm
  refine ⟨_, exec_arrivalsComplete_of_rootReady h, ?_⟩
  rw [State.act_of_storm (normOfLeg_of_rootReady h) hmismatch hstorm]
  have hkept := s.verdictState_kept c.toNat d v l
  have hlevel : (s.verdictState c.toNat d v l).role.level = s.role.level := congrArg Progress.level hkept.progress
  have hprogress := (s.verdictState c.toNat d v l).stormVerdict_progress
  rw [hkept.progress, hlevel] at hprogress
  exact ⟨congrArg Progress.settling hprogress, congrArg Progress.inStep hprogress, congrArg Progress.step hprogress,
    congrArg Progress.attempt hprogress, congrArg Progress.level hprogress, congrArg Progress.rerun hprogress,
    congrArg Progress.stormMark hprogress,
    by rw [← hkept.get _ (by decide)]; exact State.get_storms_stormVerdict _⟩

theorem State.holdBy_dev {s : State} (h : s.dev = .running ∨ s.dev = .draining ∨ s.dev = .held) (cause : Nat) :
    (s.holdBy cause).dev = .held := by
  unfold State.holdBy
  split
  · exact State.enter_dev _ _ _
  · next hidle => exact h.elim (fun hrun => absurd (.inl hrun) hidle) fun h => h.elim (fun hdrain => absurd (.inr hdrain) hidle) id

theorem mismatchHolds_holds : mismatchHolds := by
  intro c s d v p l r h hmismatch hdev _ _
  refine ⟨_, exec_arrivalsComplete_of_rootReady h, ?_⟩
  obtain ⟨args, hact⟩ := State.act_of_mismatch (p := p) (i := (s.coll c.toNat).leg) (d := d) (normOfLeg_of_rootReady h) hmismatch
  rw [hact]
  generalize hposted : State.post _ Ev.rendezvousMismatch args = u
  have hkept : StepKept [] [] s u :=
    hposted ▸ { (s.verdictState_kept c.toNat d v l).post (by decide) Ev.rendezvousMismatch args with regs := nofun }
  have hu : u.dev = s.dev := by simpa using hkept.dev
  have hheld : (u.discardStep.holdBy (eventCause Ev.rendezvousMismatch)).dev = .held := by
    refine State.holdBy_dev ?_ _
    have hstep := u.discardStep_dev
    rw [hu] at hstep
    grind
  have hprogress := ((StepKept.refl u.discardStep).holdBy (ks := []) (ds := [.held]) List.not_mem_nil List.not_mem_nil
    List.mem_cons_self (eventCause Ev.rendezvousMismatch)).progress
  rw [u.discardStep_progress, hkept.progress] at hprogress
  exact ⟨hheld, congrArg Progress.settling hprogress, congrArg Progress.inStep hprogress, congrArg Progress.step hprogress,
    congrArg Progress.level hprogress, congrArg Progress.rerun hprogress⟩

/-! ### The commit of a step (R248) -/

section
variable {ds : List DevState} {r s : State}

/-- Nothing is asked of the registers. -/
theorem StepKept.anyReg (h : StepKept [] ds r s) {f : Field} {v : Nat} : StepKept [] ds r (s.set f v) := h.set List.not_mem_nil v

theorem StepKept.captureFault (h : StepKept [] ds r s) (i tensor tile element cause step : Nat) :
    StepKept [] ds r (s.captureFault i tensor tile element cause step) :=
  .ite h h.anyReg.anyReg.anyReg.anyReg.anyReg.anyReg.anyReg

theorem StepKept.raiseFlags (h : StepKept [] ds r s) (core u : Nat) (f : Flags) (tensor tile element step : Nat) :
    StepKept [] ds r (s.raiseFlags core u f tensor tile element step) := by
  unfold State.raiseFlags
  extract_lets i key old new s1
  have hs1 : StepKept [] ds r s1 :=
    (h.wr List.not_mem_nil _).foldl _ fun _ _ ht => .ite (ht.post List.not_mem_nil _ _) ht
  exact .ite h (.ite (hs1.captureFault _ _ _ _ _ _) hs1)

theorem StepKept.showLoss (h : StepKept [] ds r s) : StepKept [] ds r s.showLoss := by
  unfold State.showLoss
  extract_lets groups rows n sum mean f s1
  have hs1 : StepKept [] ds r s1 := by
    unfold s1
    split
    · exact .ite h (h.raiseFlags _ _ _ _ _ _ _)
    · exact h
  exact (((hs1.setOwn List.not_mem_nil _).setOwn List.not_mem_nil _).setOwn List.not_mem_nil _).setOwn List.not_mem_nil _

end

section
variable {ks : List Nat} {ds : List DevState} {r s : State}

theorem StepKept.updateHistory (h : StepKept ks ds r s) : StepKept ks ds r s.updateHistory := by
  unfold State.updateHistory
  refine h.foldl _ fun u x hu => ?_
  split
  · exact hu
  · exact .ite (hu.mapRole rfl rfl) hu

theorem StepKept.updateHeat (h : StepKept ks ds r s) : StepKept ks ds r s.updateHeat :=
  (h.foldl _ fun _ _ ht => ht.mapEntry _ _).same rfl rfl rfl rfl

theorem StepKept.keepRungs (h : StepKept ks ds r s) : StepKept ks ds r s.keepRungs := h.same rfl rfl rfl rfl

theorem StepKept.endMove (h : StepKept ks ds r s) (i : Nat) : StepKept ks ds r (s.endMove i) := by
  unfold State.endMove
  extract_lets e
  split
  · refine .ite ?_ h
    extract_lets s1
    have hs1 : StepKept ks ds r s1 := (h.store _ _).setEntry _ _
    exact hs1.same rfl rfl rfl rfl
  · exact h

theorem StepKept.releaseHomes (h : StepKept ks ds r s) (p : Passage) : StepKept ks ds r (s.releaseHomes p) := by
  unfold State.releaseHomes
  extract_lets u mine s1 s2
  have hu : StepKept ks ds r u := h.foldl _ fun _ _ ht => ht.endMove _
  have hs1 : StepKept ks ds r s1 := hu.foldl _ fun _ _ ht => ht.mapEntry _ _
  have hs2 : StepKept ks ds r s2 := hs1.foldl _ fun _ _ ht => ht.mapEntry _ _
  exact hs2.same rfl rfl rfl rfl

theorem StepKept.showLeft (h : StepKept [] ds r s) : StepKept [] ds r s.showLeft := by
  unfold State.showLeft
  split <;> exact h.anyReg

theorem StepKept.markSnapshot (h : StepKept [] ds r s) (step : Nat) : StepKept [] ds r (s.markSnapshot step) := by
  unfold State.markSnapshot
  split
  · exact h
  · split
    · exact h
    · extract_lets tiles s1
      have hs1 : StepKept [] ds r s1 := by
        refine h.foldl _ fun t y ht => ?_
        split
        · exact (ht.setMark _ _).mapEntry _ _
        · exact ht
      exact StepKept.showLeft (hs1.same rfl rfl rfl rfl)

theorem StepKept.mirrorPoint (h : StepKept ks ds r s) : StepKept ks ds r s.mirrorPoint := by
  unfold State.mirrorPoint
  split
  · exact h
  · extract_lets s1 s2
    have hs1 : StepKept ks ds r s1 := .ite (h.sendTwin _) h
    have hs2 : StepKept ks ds r s2 := hs1.mapTwin _
    refine .ite ?_ hs2
    unfold State.sendSeed
    split
    · exact hs2
    · exact (hs2.foldl _ fun _ _ ht => ht.sendTwin _).mapTwin _

end

/-- The content of the step stands: history, HEAT, homes, snapshot marks and the mirror point. -/
def State.contentCommitted (s : State) (p : Passage) : State :=
  ((s.showLoss.updateHistory.updateHeat.keepRungs.releaseHomes p).markSnapshot s.role.step).mirrorPoint

/-- The step number has risen, and CAP_STEP shows it. -/
def State.stepCounted (s : State) (p : Passage) : State :=
  ((s.contentCommitted p).mapRole (fun r => { r with
    step := s.role.step + 1
    inStep := false
    closed := false
    rerun := false
    stormMark := false
    discardMark := false
    sightSteps := r.sightSteps + 1
    level := if r.stormRerunPosted then min 3 (r.level + 1) else r.level
    legs := [] })).setOwn Reg.CAP_STEP.STEP (s.role.step + 1)

theorem State.contentCommitted_kept (s : State) (p : Passage) : StepKept [] [] s (s.contentCommitted p) :=
  ((((StepKept.refl s).showLoss.updateHistory.updateHeat.keepRungs).releaseHomes p).markSnapshot _).mirrorPoint

/-- The attempt number has risen, and the collectives begin anew. -/
def State.attemptRaised (s : State) : State :=
  s.mapRole (fun r => { r with
    attempt := r.attempt + 1
    colls := r.colls.map (fun x => (x.1, { CollRun.empty with scale := x.2.scale, scaleValid := x.2.scaleValid })) })

section
variable {ks : List Nat} {ds : List DevState} {r s : State}

theorem StepKept.sendAck (h : StepKept ks ds r s) (key : Nat) : StepKept ks ds r (s.sendAck key) :=
  .ite h (.ite (h.same rfl rfl rfl rfl) (h.same rfl rfl rfl rfl))

theorem StepKept.oweAck (h : StepKept ks ds r s) (src : Nat) : StepKept ks ds r (s.oweAck src) := by
  unfold State.oweAck
  extract_lets key n fab s1
  have hs1 : StepKept ks ds r s1 := h.same rfl rfl rfl rfl
  exact .ite (hs1.sendAck _) hs1

/-- What follows the attempt number: its collectives' counts, the early traffic, and the registers that show them. -/
theorem State.attemptRises_kept (s : State) (hstatus : Reg.KNT_STATUS.HELD.reg ∉ ks) (hattempt : Reg.KNT_ATTEMPT.ATTEMPT.reg ∉ ks) :
    StepKept ks ds s.attemptRaised s.attemptRises := by
  unfold State.attemptRises
  extract_lets s1 _ mine knots dropped fab s2
  have hs2 : StepKept ks ds s.attemptRaised s2 := (StepKept.refl s.attemptRaised).same rfl rfl rfl rfl
  have hacked : StepKept ks ds s.attemptRaised (s2.ackDropped dropped) := hs2.foldl _ fun _ _ ht => ht.oweAck _
  exact (hacked.set hstatus _).setOwn hattempt _

end

/-- The register that shows the step. -/
def stepKeys : List Nat := [Reg.CAP_STEP.STEP.reg]

section
variable {ds : List DevState} {r s : State}

theorem StepKept.updateScales (h : StepKept stepKeys ds r s) : StepKept stepKeys ds r s.updateScales := by
  have hhistory : ∀ i, (Reg.KNT_SCALE.HISTORY i).reg ∉ stepKeys := fun i => by
    simp [stepKeys, Reg.KNT_SCALE.HISTORY, Reg.CAP_STEP.STEP]; omega
  unfold State.updateScales
  split
  · exact h
  · exact h.foldl _ fun _ _ ht => ((ht.mapColl _ _).setOwn (hhistory _) _).setOwn (f := Reg.KNT_SCALE.E _) (hhistory _) _

theorem StepKept.stepEnergyUpdate (h : StepKept stepKeys ds r s) (step : Nat) (twoRoles : Bool) :
    StepKept stepKeys ds r (s.stepEnergyUpdate step twoRoles) := by
  have hsplit : ∀ j, (Reg.HELM_RK_SPLIT.ENERGY j).reg ∉ stepKeys := fun j => by
    simp [stepKeys, Reg.HELM_RK_SPLIT.ENERGY, Reg.CAP_STEP.STEP]; omega
  unfold State.stepEnergyUpdate
  extract_lets u ns s1 s2 s3 s4 s5 s6
  have hs3 : StepKept stepKeys ds r s3 :=
    ((((h.set (by decide) _).set (by decide) _).set (by decide) _).set (by decide) _).set (by decide) _
  have hs4 : StepKept stepKeys ds r s4 := hs3.foldl _ fun _ _ ht => ht.set (hsplit _) _
  have hs6 : StepKept stepKeys ds r s6 := (((hs4.set (by decide) _).set (by decide) _).set (by decide) _).set (by decide) _
  clear_value s6
  exact hs6.same rfl rfl rfl rfl

theorem StepKept.setTwin (h : StepKept stepKeys ds r s) (n : Nat) : StepKept stepKeys ds r (s.setTwin n) :=
  StepKept.set (s := { s with twin := { s.twin with state := n } }) (h.same rfl rfl rfl rfl) (f := Reg.TWN_STATUS.STATE) (by decide) n

theorem StepKept.setPort (h : StepKept stepKeys ds r s) (n : Nat) (p : Port) : StepKept stepKeys ds r (s.setPort n p) :=
  h.same rfl rfl rfl rfl

theorem StepKept.setPortState (h : StepKept stepKeys ds r s) (n : Nat) : StepKept stepKeys ds r (s.setPortState 16 n) :=
  (h.setPort 16 _).set (f := portField Reg.FAB_PORT_STATUS.STATE 16) (by decide) n

theorem StepKept.clearPort (h : StepKept stepKeys ds r s) : StepKept stepKeys ds r (s.clearPort 16) := by
  unfold State.clearPort
  extract_lets s1 s2
  have hs2 : StepKept stepKeys ds r s2 :=
    (((h.set (by decide) _).set (by decide) _).set (by decide) _).wr (by decide) _
  exact hs2

theorem StepKept.detach (h : StepKept stepKeys ds r s) : StepKept stepKeys ds r s.detach := by
  unfold State.detach
  extract_lets s1 port s2
  have hs1 : StepKept stepKeys ds r s1 := ((h.sendTwin _).set (f := Reg.TWN_STATUS.MIRROR_VALID) (by decide) _).mapTwin _
  have hport : StepKept stepKeys ds r ((s1.setPort 16 { port with aligned := false, unacked := [], loopback := true }).setPortState 16 1) :=
    (hs1.setPort _ _).setPortState 1
  have hs2 : StepKept stepKeys ds r s2 := hport.clearPort
  clear_value s2
  exact (((hs2.set (by decide) _).set (by decide) _).setTwin 1).post (by decide) _ _

/-- A stop or a hold may act at the commit: the module may enter ARMED or HELD. -/
theorem StepKept.afterCommit (h : StepKept stepKeys [.held, .armed] r s) : StepKept stepKeys [.held, .armed] r s.afterCommit := by
  unfold State.afterCommit
  split
  · exact h
  · extract_lets left s1 clear
    have hs1 : StepKept stepKeys [.held, .armed] r s1 := (h.mapRole rfl rfl).set (by decide) _
    have hclear : StepKept stepKeys [.held, .armed] r (clear s1) :=
      ((hs1.set (by decide) _).set (by decide) _).set (by decide) _
    have henter : ∀ d ∈ [DevState.held, .armed], ∀ cause, StepKept stepKeys [.held, .armed] r ((clear s1).enter d cause) :=
      fun d hd cause => hclear.enter (by decide) (by decide) hd cause
    refine .ite ((hs1.mapRole rfl rfl).holdBy (by decide) (by decide) (by decide) _) (.ite hs1 ?_)
    exact .ite (henter _ (by decide) _) (.ite (henter _ (by decide) _) (.ite (henter _ (by decide) _)
      (.ite (henter _ (by decide) _) hs1)))

end

/-- A committed step: the step and the attempt have risen by 1, no leg is left, and CAP_STEP shows what it showed when the step was
counted. -/
theorem State.commitStep_kept (s : State) (p : Passage) :
    ∃ t, StepKept stepKeys [] (s.stepCounted p) t ∧ StepKept stepKeys [.held, .armed] t.attemptRaised (s.commitStep p) := by
  unfold State.commitStep
  extract_lets step s1 s2 s3 s4 s5
  have hs3 : StepKept stepKeys [] (s.stepCounted p) s3 :=
    (((StepKept.refl (s.stepCounted p)).setOwn (by decide) _).setOwn (by decide) _).updateScales
  refine ⟨s3.reportOverruns.setOwn Reg.NUM_UPD_STATUS.PASS 0, (hs3.reportOverruns (by decide) (by decide)).setOwn (by decide) 0, ?_⟩
  have hs4 : StepKept stepKeys [.held, .armed] (s3.reportOverruns.setOwn Reg.NUM_UPD_STATUS.PASS 0).attemptRaised s4 :=
    State.attemptRises_kept _ (by decide) (by decide)
  clear_value s4
  have hs5 : StepKept stepKeys [.held, .armed] (s3.reportOverruns.setOwn Reg.NUM_UPD_STATUS.PASS 0).attemptRaised s5 :=
    .ite hs4 (hs4.stepEnergyUpdate _ _)
  clear_value s5
  exact .ite hs5.afterCommit.detach hs5.afterCommit

theorem State.stepCounted_progress (s : State) (p : Passage) : ∃ level, (s.stepCounted p).role.progress =
    { s.role.progress with step := s.role.step + 1, inStep := false, rerun := false, stormMark := false, level := level } := by
  rw [← (s.contentCommitted_kept p).progress]
  unfold State.stepCounted
  rw [State.setOwn_role]
  generalize s.contentCommitted p = u
  exact ⟨_, rfl⟩

/-- CAP_STEP shows the step of the module's own role. -/
theorem State.get_step_stepCounted (s : State) (p : Passage) (hown : s.role.carried = false) :
    (s.stepCounted p).get Reg.CAP_STEP.STEP = (s.role.step + 1) % 2 ^ 64 := by
  have hcarried : (s.contentCommitted p).role.carried = false := (s.contentCommitted_kept p).carried.trans hown
  unfold State.stepCounted State.setOwn
  rw [if_neg (by simpa [State.mapRole] using hcarried)]
  exact State.get_set_same _ Reg.CAP_STEP.STEP _ rfl

theorem State.commitStep_progress (s : State) (p : Passage) : ∃ level, (s.commitStep p).role.progress = { s.role.progress with
    step := s.role.step + 1, attempt := s.role.attempt + 1, inStep := false, rerun := false, stormMark := false, level := level } := by
  obtain ⟨t, hcounted, hrisen⟩ := s.commitStep_kept p
  obtain ⟨level, hlevel⟩ := s.stepCounted_progress p
  have hraised : t.attemptRaised.role.progress = { t.role.progress with attempt := t.role.progress.attempt + 1 } := rfl
  rw [hcounted.progress, hlevel] at hraised
  exact ⟨level, hrisen.progress.trans hraised⟩

theorem State.commitStep_legs (s : State) (p : Passage) : (s.commitStep p).role.legs = [] := by
  obtain ⟨t, hcounted, hrisen⟩ := s.commitStep_kept p
  refine hrisen.legs (hcounted.legs ?_)
  unfold State.stepCounted
  rw [State.setOwn_role]
  rfl

theorem State.get_step_commitStep (s : State) (p : Passage) (hown : s.role.carried = false) :
    (s.commitStep p).get Reg.CAP_STEP.STEP = (s.role.step + 1) % 2 ^ 64 := by
  obtain ⟨t, hcounted, hrisen⟩ := s.commitStep_kept p
  rw [hrisen.get _ (by decide), ← s.get_step_stepCounted p hown, ← hcounted.get _ (by decide)]
  rfl

theorem stepCommits_holds : stepCommits := by
  intro c s d v p l r h hmismatch hstorm hdiscard hclose
  refine ⟨_, exec_arrivalsComplete_of_rootReady h, ?_⟩
  rw [State.act_of_close (normOfLeg_of_rootReady h) hmismatch hstorm hdiscard hclose]
  generalize hsignalled : State.legSignal _ (s.coll c.toNat).leg l = u
  have hkept : StepKept [] [] s u :=
    hsignalled ▸ { (s.verdictState_kept c.toNat d v l).legSignal (s.coll c.toNat).leg l with regs := nofun }
  obtain ⟨level, hprogress⟩ := u.commitStep_progress p
  have hlegs := u.commitStep_legs p
  have hshown := u.get_step_commitStep p
  rw [hkept.step, hkept.carried] at hshown
  rw [hkept.progress, hkept.step, hkept.attempt] at hprogress
  generalize u.commitStep p = t at hprogress hlegs hshown ⊢
  exact ⟨congrArg Progress.step hprogress, congrArg Progress.attempt hprogress, congrArg Progress.inStep hprogress, hlegs, hshown⟩

end Sys2Proof.Machine

section
open Sys2Proof Sys2Proof.Machine

/-- Settles O47: a root alone releases its own payload as the verdict, and of the flags MISMATCH acts before STORM, STORM before
DISCARD, and none of the three is the commit of a STEP_CLOSE. -/
theorem stepVerdicts : Obligations.StepVerdicts := by
  unfold Obligations.StepVerdicts
  exact ⟨stepCommits_holds, stepDiscarded_holds, stormDiscards_holds, mismatchHolds_holds⟩

end

/-! ## The tokens of a group that is fetched back (R223, Table 6-7) -/

namespace Sys2Proof.Machine

open Sys2Proof.Claims

/-- An activation of one tile that may be off-loaded, in group 0. -/
def savedActivation : Tensor := { watchedGradient with kind := 4, drift := 0, driftGradient := false, offloadOk := true }

/-- Its entry, held only at a peer (STATE AWAY). -/
def awayEntry : ChartEntry :=
  { ChartEntry.free with tiles := 1, units := 1, kind := 4, offloadOk := true, state := 4, tier := 3, aux := 5 }

/-- A module at work whose backward pass has started. The plan gave group 0 to a peer, which holds it; the token that the forward
pass posted for the activation's tile still stands. -/
def tokenOfAway : State :=
  { State.reset with
    dev := .running
    role := { Role.empty with
      passage := some { emptyPassage with tensors := [savedActivation], legs := [gradientLeg] }
      inStep := true
      groups := [(0, 3)]
      legs := [(0, { chunkedNormRun with started := 1 })]
      ready := [(0, 0)] }
    chart := { ChartUnit.empty with entries := [(0, awayEntry)] } }

/-- The state after OFFLOAD_FETCH of group 0. -/
def tokenTaken : State := tokenOfAway.offloadFetch 0

theorem exec_offloadFetch_tokenOfAway : exec (.offloadFetch .own 0) tokenOfAway = .next tokenTaken := rfl

/-- The fetch takes the token back: the tile is readable once more when it has landed (`State.unreadyEntries`). -/
theorem tokenTaken_ready : tokenTaken.role.ready = [] := by
  decide +kernel

theorem not_groupFetched : ¬ groupFetched := by
  intro h
  obtain ⟨t, ht, -, -, -, -, hframe⟩ := h 0 tokenOfAway _ 3 (0, awayEntry) 0 rfl rfl rfl (by decide +kernel) rfl rfl
    (by decide +kernel) (.inl (by decide)) (by decide +kernel)
  obtain rfl : tokenTaken = t := Host.Outcome.next.inj (exec_offloadFetch_tokenOfAway.symm.trans ht)
  have hready : tokenTaken.role.ready = [(0, 0)] := congrArg (fun s : State => s.role.ready) hframe
  rw [tokenTaken_ready] at hready
  exact absurd hready.symm (List.cons_ne_nil _ _)

end Sys2Proof.Machine

section
open Sys2Proof Sys2Proof.Machine

/-- Refutes O48: its clause on the fetch says that nothing but the Chart and the fabric changes, but a fetch takes back the tokens of
the tiles that it fetches, since a tile of an INBOUND entry is readable only once its token is posted (Table 6-7). -/
theorem not_offloadGroups : ¬ Obligations.OffloadGroups := by
  unfold Obligations.OffloadGroups
  rintro ⟨-, -, -, -, hfetched, -⟩
  exact not_groupFetched hfetched

end

/-! ## Commands as the claims speak of them (R417, R419, R422) -/

namespace Sys2Proof.Machine

open Sys2Proof.Claims

/-! ### The completion of a command -/

section
variable {s t : State} {c : Cmd} {st : Status} {results : List W64}

@[simp] theorem State.mailbox_setMailbox_same (s : State) (m : Nat) (b : Mailbox) : (s.setMailbox m b).mailbox m = b :=
  sparseGet_put_same _ _ _ _

theorem State.mailbox_setMailbox_other (s : State) {m n : Nat} (h : n ≠ m) (b : Mailbox) : (s.setMailbox m b).mailbox n = s.mailbox n :=
  sparseGet_put_other _ h _ _ _

/-- A completion sets BUSY of its mailbox to 0 and no other register. -/
theorem State.rd_finish_other (s : State) (c : Cmd) (st : Status) (results : List W64) {k : Nat}
    (h : k ≠ (Reg.MBX_STATUS.BUSY c.mbx.val).reg) : (s.finish c st results).rd k = s.rd k :=
  State.rd_set_other _ _ _ _ h

/-- What finishes a command completes it, if the operation before has left the mailboxes and the head of the ring. -/
theorem State.completed_finish (hmbx : t.mbx = s.mbx)
    (hhead : t.rd (Reg.MBX_SQ_HEAD.HEAD c.mbx.val).reg = s.rd (Reg.MBX_SQ_HEAD.HEAD c.mbx.val).reg) :
    completed c st results s (t.finish c st results) := by
  have hbox : ∀ n, t.mailbox n = s.mailbox n := fun n => congrArg (sparseGet Mailbox.idle n) hmbx
  have hsame : (t.finish c st results).mailbox c.mbx.val = { t.mailbox c.mbx.val with
      held := (t.mailbox c.mbx.val).held ++ [⟨t.get (Reg.MBX_SQ_HEAD.HEAD c.mbx.val), t.dev.code, st.code, c.tag, results⟩]
      running := none } := State.mailbox_setMailbox_same t _ _
  refine ⟨?_, by rw [hsame], ?_, fun n hother => ?_⟩
  · rw [hsame, hbox]
    unfold State.get
    rw [hhead]
    rfl
  · have hbusy : (t.finish c st results).get (Reg.MBX_STATUS.BUSY c.mbx.val) = 0 :=
      (State.get_set_same _ _ _ rfl).trans (Nat.zero_mod _)
    simp [State.flag, hbusy]
  · exact (State.mailbox_setMailbox_other t hother _).trans (hbox n)

/-- A command that completes and does nothing else. -/
theorem State.onlyCompletion_finish (s : State) (c : Cmd) (st : Status) (results : List W64) :
    completed c st results s (s.finish c st results) ∧ onlyCompletion c s (s.finish c st results) :=
  ⟨State.completed_finish rfl rfl, fun _ hk => s.rd_finish_other c st results (List.ne_of_not_mem_cons hk), rfl⟩

/-- A command that changes the role in force and completes. -/
theorem State.completed_finish_role (s : State) (r : Role) (c : Cmd) (st : Status) (results : List W64) :
    completed c st results s (({ s with role := r } : State).finish c st results) ∧
      regsKept [(Reg.MBX_STATUS.BUSY c.mbx.val).reg] s (({ s with role := r } : State).finish c st results) :=
  ⟨State.completed_finish rfl rfl, fun _ hk => State.rd_finish_other _ c st results (List.ne_of_not_mem_cons hk)⟩

/-! ### The status and the effect of a command -/

variable {f : Findings} {usesHost : Bool} {effect : State → State}

/-- Nothing is found against a command whose unused bits are 0, whose mailbox may send it, and whose rule holds. -/
theorem Findings.status_eq_ok (hbits : f.unusedBits = false) (hrsv : c.rsv = 0) (hadmin : f.admin = false ∨ c.mbx = 0)
    (habsent : f.absent = false) (hillegal : f.illegal = false) (hbusy : f.busy = false)
    (hfault : usesHost = false ∨ c.fault = false) (hbad : f.badArgument = false) : f.status c usesHost = .ok := by
  unfold Findings.status
  rw [if_neg (by simp [hbits, hrsv]), if_neg (by grind), if_neg (by simp [habsent]), if_neg (by simp [hillegal]),
    if_neg (by simp [hbusy]), if_neg (by grind), if_neg (by simp [hbad])]

/-- Where only the state is at fault, the command conflicts with it. -/
theorem Findings.status_eq_stateConflict (hbits : f.unusedBits = false) (hrsv : c.rsv = 0) (hadmin : f.admin = false ∨ c.mbx = 0)
    (habsent : f.absent = false) (hillegal : f.illegal = true) : f.status c usesHost = .stateConflict := by
  unfold Findings.status
  rw [if_neg (by simp [hbits, hrsv]), if_neg (by grind), if_neg (by simp [habsent]), if_pos hillegal]

theorem State.command_of_ok (h : judged c s) (hst : st = .ok) : s.command c st effect = effect s := by
  obtain ⟨hdev, hrun, hstop⟩ := h
  unfold State.command
  rw [if_neg (by simp [hdev, hrun]), if_neg (by simp [hstop]), hst]

theorem State.command_of_stateConflict (h : judged c s) (hst : st = .stateConflict) :
    s.command c st effect = s.finish c .stateConflict [] := by
  obtain ⟨hdev, hrun, hstop⟩ := h
  unfold State.command
  rw [if_neg (by simp [hdev, hrun]), if_neg (by simp [hstop]), hst]

/-- No argument has a bit outside its mask. -/
theorem unusedArgs_eq_false {m0 m1 m2 m3 m4 : W64} (h0 : c.a0 &&& ~~~m0 = 0) (h1 : c.a1 &&& ~~~m1 = 0) (h2 : c.a2 &&& ~~~m2 = 0)
    (h3 : c.a3 &&& ~~~m3 = 0) (h4 : c.a4 &&& ~~~m4 = 0) (h5 : c.a5 = 0) (h6 : c.a6 = 0) :
    unusedArgs c m0 m1 m2 m3 m4 = false := by
  simp [unusedArgs, h0, h1, h2, h3, h4, h5, h6]

/-- A word has no bit above the `n` lowest. -/
theorem and_not_lowMask {w : W64} {n : Nat} (h : w.toNat < 2 ^ n) : w &&& ~~~(BitVec.ofNat 64 (2 ^ n - 1)) = 0 := by
  refine BitVec.eq_of_getLsbD_eq fun i hi => ?_
  rw [BitVec.getLsbD_and, BitVec.getLsbD_not, BitVec.getLsbD_ofNat, Nat.testBit_two_pow_sub_one]
  by_cases hin : i < n
  · simp [hin, hi]
  · have hbit : w.getLsbD i = false :=
      Nat.testBit_lt_two_pow (Nat.lt_of_lt_of_le h (Nat.pow_le_pow_right (by decide) (Nat.not_lt.mp hin)))
    simp [hbit]

theorem and_not_allOnes (w : W64) : w &&& ~~~(BitVec.allOnes 64) = 0 := by
  simp

theorem zero_and_not {w : W64} (h : w = 0) (m : W64) : w &&& ~~~m = 0 := by
  simp [h]

end

end Sys2Proof.Machine

/-! ## Functions, maps and settings of a passage (R225, R253, R254, R420) -/

namespace Sys2Proof.Machine

open Sys2Proof.Claims

/-! ### DUTY_SET (R253) -/

/-- Each function has its own mode bit. -/
theorem dutyFields_getD {i : Nat} (hi : i < 7) : dutyFields.getD i Reg.CAP_DUTY_MODE.PLACEMENT = ⟨0x60, i, i⟩ := by
  have hall : ∀ j < 7, dutyFields.getD j Reg.CAP_DUTY_MODE.PLACEMENT = ⟨0x60, j, j⟩ := by decide
  exact hall i hi

theorem dutyField_sound {i : Nat} (hi : i < 7) : Field.sound ⟨0x60, i, i⟩ = true := by
  simp [Field.sound]; omega

theorem dutyField_apart {i j : Nat} (h : i ≠ j) : Field.apart ⟨0x60, i, i⟩ ⟨0x60, j, j⟩ = true := by
  simp [Field.apart]; omega

theorem pending_apart_dutyField {i : Nat} (hi : i < 7) : Reg.CAP_DUTY_MODE.PENDING.apart ⟨0x60, i, i⟩ = true := by
  have hbelow : i < Reg.CAP_DUTY_MODE.PENDING.lo := Nat.lt_trans hi (by decide)
  simp [Field.apart, hbelow]

theorem mem_dutyFields {f : Field} (h : f ∈ dutyFields) : ∃ j < 7, f = ⟨0x60, j, j⟩ := by
  have hall : dutyFields = (List.range 7).map fun j => ⟨0x60, j, j⟩ := rfl
  rw [hall] at h
  obtain ⟨j, hj, rfl⟩ := List.mem_map.mp h
  exact ⟨j, List.mem_range.mp hj, rfl⟩

/-- The other functions that wait, as PENDING shows them. -/
def othersPending (p i : Nat) : Nat := p - p / 2 ^ i % 2 * 2 ^ i

/-- Bit `i` of PENDING cleared, and set again. -/
theorem othersPending_bit {p i : Nat} (hp : p < 2 ^ Reg.CAP_DUTY_MODE.PENDING.width) (hi : i < 7) :
    (othersPending p i < 2 ^ Reg.CAP_DUTY_MODE.PENDING.width ∧ othersPending p i / 2 ^ i % 2 = 0) ∧
      othersPending p i + 2 ^ i < 2 ^ Reg.CAP_DUTY_MODE.PENDING.width ∧ (othersPending p i + 2 ^ i) / 2 ^ i % 2 = 1 := by
  have hwidth : Reg.CAP_DUTY_MODE.PENDING.width = 7 := rfl
  unfold othersPending
  rw [hwidth] at hp ⊢
  obtain rfl | rfl | rfl | rfl | rfl | rfl | rfl : i = 0 ∨ i = 1 ∨ i = 2 ∨ i = 3 ∨ i = 4 ∨ i = 5 ∨ i = 6 := by omega
  all_goals omega

theorem State.get_finish_other (s : State) (c : Cmd) (st : Status) (results : List W64) {f : Field}
    (h : f.reg ≠ (Reg.MBX_STATUS.BUSY c.mbx.val).reg) : (s.finish c st results).get f = s.get f := by
  unfold State.get
  rw [State.rd_finish_other _ _ _ _ h]

theorem dutyReg_ne_mailboxReg (m : Nat) :
    Reg.CAP_DUTY_MODE.PENDING.reg ≠ (Reg.MBX_STATUS.BUSY m).reg ∧ (Reg.MBX_SQ_HEAD.HEAD m).reg ≠ Reg.CAP_DUTY_MODE.PENDING.reg := by
  simp only [Reg.CAP_DUTY_MODE.PENDING, Reg.MBX_STATUS.BUSY, Reg.MBX_SQ_HEAD.HEAD]
  omega

section
variable {s : State} {i modes : Nat}

/-- A switch that waits shows in PENDING, unless the function is in that mode already. -/
theorem State.switchDuty_of_waits (h : s.switchWaits i = true) :
    s.switchDuty modes i = s.set Reg.CAP_DUTY_MODE.PENDING (othersPending (s.get Reg.CAP_DUTY_MODE.PENDING) i +
      if s.flag (dutyFields.getD i Reg.CAP_DUTY_MODE.PLACEMENT) = bitAt modes i then 0 else 2 ^ i) :=
  if_pos h

theorem State.switchDuty_of_not_waits (h : s.switchWaits i = false) :
    s.switchDuty modes i = (s.setFlag (dutyFields.getD i Reg.CAP_DUTY_MODE.PLACEMENT) (bitAt modes i)).set
      Reg.CAP_DUTY_MODE.PENDING (othersPending (s.get Reg.CAP_DUTY_MODE.PENDING) i) :=
  if_neg (by simp [h])

/-- A switch changes CAP_DUTY_MODE alone. -/
theorem State.switchDuty_frame (s : State) (modes : Nat) (hi : i < 7) :
    regsKept [Reg.CAP_DUTY_MODE.PENDING.reg] s (s.switchDuty modes i) ∧ onlyRegs s (s.switchDuty modes i) := by
  cases h : s.switchWaits i with
  | true =>
    rw [State.switchDuty_of_waits h]
    exact ⟨fun k hk => State.rd_set_other _ _ _ _ (List.ne_of_not_mem_cons hk), rfl⟩
  | false =>
    rw [State.switchDuty_of_not_waits h, dutyFields_getD hi]
    have hk : ∀ k, k ∉ [Reg.CAP_DUTY_MODE.PENDING.reg] → k ≠ Reg.CAP_DUTY_MODE.PENDING.reg := fun _ => List.ne_of_not_mem_cons
    exact ⟨fun k hkey => (State.rd_set_other _ _ _ _ (hk k hkey)).trans (State.rd_set_other _ _ _ _ (hk k hkey)), rfl⟩

/-- A switch that waits leaves every mode, and PENDING shows it where the mode is to change. -/
theorem State.switchDuty_waiting (h : s.switchWaits i = true) (hi : i < 7) :
    (∀ f ∈ dutyFields, (s.switchDuty modes i).get f = s.get f) ∧
      ((s.switchDuty modes i).get Reg.CAP_DUTY_MODE.PENDING / 2 ^ i % 2 = 1 ↔
        s.flag (dutyFields.getD i Reg.CAP_DUTY_MODE.PLACEMENT) ≠ bitAt modes i) := by
  rw [State.switchDuty_of_waits h]
  refine ⟨fun f hf => ?_, ?_⟩
  · obtain ⟨j, hj, rfl⟩ := mem_dutyFields hf
    exact State.get_set_apart _ _ _ _ rfl (pending_apart_dutyField hj)
  · obtain ⟨⟨hless, hclear⟩, hsum, hset⟩ := othersPending_bit (s.get_lt Reg.CAP_DUTY_MODE.PENDING) hi
    rw [State.get_set_same _ _ _ rfl]
    split
    · next hsame => rw [Nat.add_zero, Nat.mod_eq_of_lt hless, hclear]; exact iff_of_false (by decide) (not_not_intro hsame)
    · next hdiff => rw [Nat.mod_eq_of_lt hsum, hset]; exact iff_of_true rfl hdiff

/-- A switch at once sets its own mode, leaves the others, and is not PENDING. -/
theorem State.switchDuty_atOnce (h : s.switchWaits i = false) (hi : i < 7) :
    (s.switchDuty modes i).flag (dutyFields.getD i Reg.CAP_DUTY_MODE.PLACEMENT) = bitAt modes i ∧
      (∀ j, j < 7 → j ≠ i → (s.switchDuty modes i).get (dutyFields.getD j Reg.CAP_DUTY_MODE.PLACEMENT) =
        s.get (dutyFields.getD j Reg.CAP_DUTY_MODE.PLACEMENT)) ∧
      (s.switchDuty modes i).get Reg.CAP_DUTY_MODE.PENDING / 2 ^ i % 2 = 0 := by
  rw [State.switchDuty_of_not_waits h, dutyFields_getD hi]
  refine ⟨?_, fun j hj hne => ?_, ?_⟩
  · rw [State.flag_set_apart _ _ _ _ rfl (pending_apart_dutyField hi), State.flag_setFlag_same _ _ _ (dutyField_sound hi)]
  · rw [dutyFields_getD hj, State.get_set_apart _ _ _ _ rfl (pending_apart_dutyField hj)]
    exact State.get_set_apart _ _ _ _ (dutyField_sound hi) (dutyField_apart hne.symm)
  · obtain ⟨⟨hless, hclear⟩, -⟩ := othersPending_bit (s.get_lt Reg.CAP_DUTY_MODE.PENDING) hi
    rw [State.get_set_same _ _ _ rfl, Nat.mod_eq_of_lt hless, hclear]

end

/-- The one function that ARG0 names. -/
theorem named_of_two_pow {a : W64} {i : Nat} (ha : a = BitVec.ofNat 64 (2 ^ i)) (hi : i < 7) :
    (List.range 7).filter (fun j => a.getLsbD j) = [i] := by
  have hall : ∀ k < 7, (List.range 7).filter (fun j => (BitVec.ofNat 64 (2 ^ k)).getLsbD j) = [k] := by decide
  rw [ha]
  exact hall i hi

/-- ARG0 and ARG1 of DUTY_SET have a bit for each function and no other. -/
theorem unusedArgs_dutySet {c : Cmd} (h : bareTail c) (h0 : c.a0.toNat < 128) (h1 : c.a1.toNat < 128) :
    unusedArgs c 0x7F 0x7F 0 0 0 = false := by
  obtain ⟨-, h2, h3, h4, h5, h6⟩ := h
  exact unusedArgs_eq_false (and_not_lowMask (n := 7) h0) (and_not_lowMask (n := 7) h1) (zero_and_not h2 _)
    (zero_and_not h3 _) (zero_and_not h4 _) h5 h6

theorem State.dutySet_eq_switchDuty {c : Cmd} {i : Nat} {s : State} (hj : adminJudged c s) (hbare : bareTail c) (hi : i < 7)
    (ha0 : c.a0 = BitVec.ofNat 64 (2 ^ i)) (ha1 : c.a1.toNat < 128) (hrom : s.romOnly = false) (hmay : s.maySwitch i = true)
    (hidle : i = 0 → s.frw = none ∧ s.load = none) : s.dutySet c = (s.switchDuty c.a1.toNat i).finish c .ok [] := by
  have hnamed := named_of_two_pow ha0 hi
  have h0 : c.a0.toNat < 128 := by
    have hall : ∀ k < 7, (BitVec.ofNat 64 (2 ^ k)).toNat < 128 := by decide
    rw [ha0]
    exact hall i hi
  have hbusy : ([i].contains 0 && (s.frw.isSome || s.load.isSome)) = false := by
    cases i with
    | zero => simp [hidle rfl]
    | succ i => simp
  unfold State.dutySet
  extract_lets named
  rw [show named = [i] from hnamed, State.command_of_ok hj.1 (Findings.status_eq_ok (unusedArgs_dutySet hbare h0 ha1) hbare.1
    (.inr hj.2) rfl (by simp [hrom, hmay]) hbusy (.inl rfl) rfl)]
  rfl

theorem dutySet_holds : dutySet := by
  intro c i s hj hbare hi ha0 ha1 hrom hmay hidle
  refine ⟨_, congrArg Host.Outcome.next (State.dutySet_eq_switchDuty hj hbare hi ha0 ha1 hrom hmay hidle), ?_⟩
  obtain ⟨hregs, hframe⟩ := s.switchDuty_frame c.a1.toNat hi
  have hbit : bitAt c.a1.toNat i = c.a1.getLsbD i := (Nat.testBit_eq_decide_div_mod_eq).symm
  have hmode : ∀ {j}, j < 7 → ((s.switchDuty c.a1.toNat i).finish c .ok []).get (dutyFields.getD j Reg.CAP_DUTY_MODE.PLACEMENT) =
      (s.switchDuty c.a1.toNat i).get (dutyFields.getD j Reg.CAP_DUTY_MODE.PLACEMENT) := fun hj => by
    rw [dutyFields_getD hj]
    exact State.get_finish_other _ _ _ _ (dutyReg_ne_mailboxReg _).1
  have hpending := State.get_finish_other (s.switchDuty c.a1.toNat i) c .ok [] (dutyReg_ne_mailboxReg c.mbx.val).1
  refine ⟨?_, State.completed_finish (congrArg State.mbx hframe :) (hregs _ ?_), fun k hk => ?_,
    congrArg (fun t : State => { t with mbx := s.mbx }) hframe⟩
  · split
    · next hwaits =>
      obtain ⟨hmodes, hshown⟩ := State.switchDuty_waiting (modes := c.a1.toNat) hwaits hi
      refine ⟨fun f hf => ?_, ?_⟩
      · rw [← hmodes f hf]
        obtain ⟨j, hj, rfl⟩ := mem_dutyFields hf
        exact State.get_finish_other _ _ _ _ (dutyReg_ne_mailboxReg _).1
      · rw [hpending, ← hbit]
        exact hshown
    · next hwaits =>
      obtain ⟨hset, hothers, hclear⟩ := State.switchDuty_atOnce (modes := c.a1.toNat) (eq_false_of_ne_true hwaits) hi
      refine ⟨?_, fun j hj hne => (hmode hj).trans (hothers j hj hne), by rw [hpending]; exact hclear⟩
      rw [← hbit, ← hset]
      unfold State.flag
      rw [hmode hi]
  · simpa using (dutyReg_ne_mailboxReg c.mbx.val).2
  · simp only [List.mem_cons, List.not_mem_nil, or_false, not_or] at hk
    rw [State.rd_finish_other _ _ _ _ hk.2]
    exact hregs k (by simpa using hk.1)

theorem dutySetIllegal_holds : dutySetIllegal := by
  intro c i s hj hbare ha0 ha1 hi hnamed hmay
  have hillegal : (s.romOnly || !((List.range 7).filter (fun j => c.a0.getLsbD j)).all s.maySwitch) = true := by
    have hin : i ∈ (List.range 7).filter (fun j => c.a0.getLsbD j) := List.mem_filter.mpr ⟨List.mem_range.mpr hi, hnamed⟩
    have hnot : ((List.range 7).filter (fun j => c.a0.getLsbD j)).all s.maySwitch = false :=
      List.all_eq_false.mpr ⟨i, hin, by simp [hmay]⟩
    simp [hnot]
  have heq : s.dutySet c = s.finish c .stateConflict [] := by
    unfold State.dutySet
    refine State.command_of_stateConflict hj.1 ?_
    exact Findings.status_eq_stateConflict (unusedArgs_dutySet hbare ha0 ha1) hbare.1 (.inr hj.2) rfl hillegal
  exact ⟨_, congrArg Host.Outcome.next heq, s.onlyCompletion_finish c .stateConflict []⟩

/-! ### HOSTMAP_SET (R225) -/

/-- A leg that moves changes the role in force, and of it not the passage. -/
theorem State.moveLeg_role (s : State) (j : Nat) (to_ : Option Nat) :
    ∃ r, s.moveLeg j to_ = { s with role := r } ∧ r.passage = s.role.passage := by
  unfold State.moveLeg
  split
  · exact ⟨s.role, rfl, rfl⟩
  · exact ⟨_, rfl, rfl⟩

theorem State.moveLegs_role (xs : List (Nat × LegRun)) (hm : List Nat) (s : State) :
    ∃ r, xs.foldl (fun t x => t.moveLeg x.1 hm[x.1]?) s = { s with role := r } ∧ r.passage = s.role.passage := by
  induction xs generalizing s with
  | nil => exact ⟨s.role, rfl, rfl⟩
  | cons x xs ih =>
    obtain ⟨r, hr, hpass⟩ := s.moveLeg_role x.1 hm[x.1]?
    obtain ⟨q, hq, hkept⟩ := ih (s.moveLeg x.1 hm[x.1]?)
    refine ⟨q, hq.trans (by rw [hr]), hkept.trans ?_⟩
    rw [hr]
    exact hpass

/-- The passage with another map. -/
def Role.withHostmap (hm : List Nat) (r : Role) : Role := { r with passage := r.passage.map fun p => { p with hostmap := hm } }

/-- A new map replaces the passage's, and nothing but the role in force changes. -/
theorem State.newHostmap_role {s : State} {p : Passage} (hp : s.passage = some p) (hm : List Nat) :
    ∃ r, s.newHostmap hm = { s with role := r } ∧ r.passage = some { p with hostmap := hm } := by
  have hmapped : (s.mapRole (Role.withHostmap hm)).role.passage = some { p with hostmap := hm } := by
    show s.passage.map _ = _
    rw [hp]
    rfl
  obtain ⟨r, hr, hpass⟩ := State.moveLegs_role
    ((s.mapRole (Role.withHostmap hm)).role.legs.filter fun x => x.2.core.isNone && !x.2.finished) hm (s.mapRole (Role.withHostmap hm))
  exact ⟨r, hr, hpass.trans hmapped⟩

theorem State.hostmapSet_eq_newHostmap {c : Cmd} {s : State} {p : Passage} {hm : List Nat} (hj : judged c s) (hrsv : c.rsv = 0)
    (hbits : unusedArgs c (addressMask c.a0) (BitVec.allOnes 64) 0 0 0 = false)
    (habsent : s.addressAbsent c.a0 (8 * c.a1.toNat) = false) (hbad : badAddress c.a0 (8 * c.a1.toNat) = false)
    (hfault : c.fault = false) (hdev : s.armedHeld = true) (hplacement : s.flag Reg.CAP_DUTY_MODE.PLACEMENT = true)
    (hp : s.passage = some p) (hcount : c.a1.toNat = p.legs.length)
    (hcores : s.mapNamesAbsent (s.argumentBytes c c.a0 (8 * c.a1.toNat)) = false)
    (hparsed : s.parseHostmap (s.argumentBytes c c.a0 (8 * c.a1.toNat)) p.legs.length = some hm) :
    s.hostmapSet c = (s.newHostmap hm).finish c .ok [] := by
  have hlegs : (s.passage.map (fun p => p.legs.length)).getD 0 = p.legs.length := by rw [hp]; rfl
  unfold State.hostmapSet
  extract_lets n legs fits table map
  have hfits : fits = true := decide_eq_true (hcount.trans hlegs.symm)
  have htable : table = s.argumentBytes c c.a0 (8 * c.a1.toNat) := if_pos hfits
  have hmap : map = some hm := by
    refine (if_pos hfits).trans ?_
    rw [htable, ← hparsed, ← hlegs]
  rw [State.command_of_ok hj, hmap, Option.getD_some]
  refine Findings.status_eq_ok hbits hrsv (.inl rfl) ?_ ?_ rfl (.inr hfault) ?_
  · rw [htable, hcores, Bool.or_false]
    exact habsent
  · simp [hdev, hplacement]
  · rw [hmap, Option.isNone_some, Bool.or_false]
    exact hbad

theorem hostmapSet_holds : hostmapSet := by
  intro c s p hm hj hrsv h2 h3 h4 h5 h6 h0 habsent hbad hfault hdev hplacement hp hcount hcores hparsed
  have hbits := unusedArgs_eq_false (m1 := BitVec.allOnes 64) h0 (and_not_allOnes _) (zero_and_not h2 0) (zero_and_not h3 0)
    (zero_and_not h4 0) h5 h6
  have hlegal : s.armedHeld = true := by
    rcases hdev with h | h <;> simp [State.armedHeld, h]
  have heq := State.hostmapSet_eq_newHostmap hj hrsv hbits habsent hbad hfault hlegal hplacement hp hcount hcores hparsed
  obtain ⟨r, hr, hpass⟩ := State.newHostmap_role hp hm
  rw [hr] at heq
  obtain ⟨hdone, hregs⟩ := s.completed_finish_role r c .ok []
  exact ⟨_, congrArg Host.Outcome.next heq, hpass, hdone, rfl, hregs⟩

/-! ### UPD_CLIP_SET (R254) -/

/-- The role after the host has given c and the policy. -/
def Role.clipGiven (r : Role) (clip : Nat) (proceed : Bool) : Role :=
  { r with update := { r.update with hostClip := some (clip, proceed) } }

/-- Before pass 1 is combined the factor is kept for it. -/
theorem State.supplyClip_of_waiting {s : State} (hin : s.role.inStep = true) (hnone : s.role.update.hostClip = none)
    (hcombined : s.role.update.combined = false) (clip : Nat) (proceed : Bool) :
    s.supplyClip clip proceed = { s with role := s.role.clipGiven clip proceed } := by
  unfold State.supplyClip
  rw [if_neg (by simp [hin, hnone])]
  exact if_neg (by simp [State.mapUpdate, State.mapRole, hcombined])

theorem updClipSet_holds : updClipSet := by
  intro c s hj hrsv ha2 h3 h4 h5 h6 hdev hin hstep hcarried hother hnone hcombined
  have hbits : unusedArgs c (BitVec.allOnes 64) (BitVec.allOnes 64) 1 0 0 = false :=
    unusedArgs_eq_false (and_not_allOnes _) (and_not_allOnes _) (and_not_lowMask (n := 1) (by omega))
      (zero_and_not h3 _) (zero_and_not h4 _) h5 h6
  have hlegal : s.runningHeld = true := by
    rcases hdev with h | h <;> simp [State.runningHeld, h]
  have heq : s.updClipSet c = ({ s with role := s.role.clipGiven (clip32 c.a1.toNat) (c.a2.getLsbD 0) } : State).finish c .ok [] := by
    unfold State.updClipSet
    rw [State.command_of_ok hj]
    · simp [State.asRole, State.asOwn, hcarried, hother, State.supplyClip_of_waiting hin hnone hcombined]
    · exact Findings.status_eq_ok hbits hrsv (.inl rfl) rfl (by simp [hlegal]) rfl (.inl rfl) (by simp [hin, hstep])
  obtain ⟨hdone, hregs⟩ := s.completed_finish_role (s.role.clipGiven (clip32 c.a1.toNat) (c.a2.getLsbD 0)) c .ok []
  exact ⟨_, congrArg Host.Outcome.next heq, rfl, hdone, hregs, rfl⟩

/-! ### RUNG_SET, HISTORY_READ and HISTORY_WRITE (R420) -/

theorem rungSet_holds : rungSet := by
  intro c s id rung hj hbare hid hrung ha0 hat hid'
  obtain ⟨hrsv, h1, h2, h3, h4, h5, h6⟩ := hbare
  have hword : c.a0.toNat = 65536 * rung + id := by rw [ha0, BitVec.toNat_ofNat, Nat.mod_eq_of_lt (by omega)]
  have hid0 : c.a0.toNat % 65536 = id := by omega
  have hrung0 : c.a0.toNat / 65536 = rung := by omega
  have hbits : unusedArgs c 0x3FFFF 0 0 0 0 = false :=
    unusedArgs_eq_false (and_not_lowMask (n := 18) (by omega)) (zero_and_not h1 _) (zero_and_not h2 _)
      (zero_and_not h3 _) (zero_and_not h4 _) h5 h6
  have heq : s.rungSet c = ({ s with role := { s.role with setRungs := s.role.setRungs ++ [(id, rung)] } } : State).finish c .ok [] := by
    unfold State.rungSet
    extract_lets id0
    rw [show id0 = id from hid0, hrung0]
    refine State.command_of_ok hj (Findings.status_eq_ok hbits hrsv (.inl rfl) rfl ?_ rfl (.inl rfl) ?_)
    · simp [hat]
    · simp [← Option.not_isSome, hid']
  obtain ⟨hdone, hregs⟩ := s.completed_finish_role { s.role with setRungs := s.role.setRungs ++ [(id, rung)] } c .ok []
  exact ⟨_, congrArg Host.Outcome.next heq, rfl, hdone, hregs, rfl⟩

theorem historyRead_holds : historyRead := by
  intro c s w hj hbare hat hw
  obtain ⟨hrsv, h1, h2, h3, h4, h5, h6⟩ := hbare
  have hbits : unusedArgs c (BitVec.allOnes 64) 0 0 0 0 = false :=
    unusedArgs_eq_false (and_not_allOnes _) (zero_and_not h1 _) (zero_and_not h2 _) (zero_and_not h3 _) (zero_and_not h4 _) h5 h6
  have heq : s.historyRead c = s.finish c .ok [BitVec.ofNat 64 (s.history w).h, BitVec.ofNat 64 (s.history w).n] := by
    unfold State.historyRead
    rw [State.command_of_ok hj, hw]
    refine Findings.status_eq_ok hbits hrsv (.inl rfl) rfl ?_ rfl (.inl rfl) ?_
    · simp [hat]
    · simp [hw]
  exact ⟨_, congrArg Host.Outcome.next heq, s.onlyCompletion_finish c .ok _⟩

theorem historyWrite_holds : historyWrite := by
  intro c s hj hrsv h3 h4 h5 h6 ha2 hdev hw
  have hbits : unusedArgs c (BitVec.allOnes 64) (BitVec.allOnes 64) (BitVec.allOnes 64) 0 0 = false :=
    unusedArgs_eq_false (and_not_allOnes _) (and_not_allOnes _) (and_not_allOnes _) (zero_and_not h3 _) (zero_and_not h4 _) h5 h6
  have hlegal : (s.readyLoaded || s.armedHeld) = true := by
    rcases hdev with h | h | h <;> simp [State.armedHeld, h]
  have heq : s.historyWrite c = ({ s with role := { s.role with
      setHistory := s.role.setHistory ++ [(c.a0.toNat, c.a1.toNat, c.a2.toNat)] } } : State).finish c .ok [] := by
    unfold State.historyWrite
    refine State.command_of_ok hj.1 ?_
    refine Findings.status_eq_ok hbits hrsv (.inr hj.2) rfl ?_ rfl (.inl rfl) ?_
    · simp [hlegal]
    · simpa [← Option.not_isSome, hw] using ha2
  obtain ⟨hdone, hregs⟩ := s.completed_finish_role
    { s.role with setHistory := s.role.setHistory ++ [(c.a0.toNat, c.a1.toNat, c.a2.toNat)] } c .ok []
  exact ⟨_, congrArg Host.Outcome.next heq, rfl, hdone, hregs, rfl⟩

end Sys2Proof.Machine

section
open Sys2Proof Sys2Proof.Machine

/-- Settles O17: no command but DUTY_SET writes a register besides the one that its completion writes, DUTY_SET writes CAP_DUTY_MODE,
and the settings that are kept for later are additions to the role in force. -/
theorem passageSettings : Obligations.PassageSettings := by
  unfold Obligations.PassageSettings
  exact ⟨dutySet_holds, dutySetIllegal_holds, hostmapSet_holds, updClipSet_holds, rungSet_holds, historyRead_holds,
    historyWrite_holds⟩

end

/-! ## A Rendezvous leg that waits on a knot (R259, R271) -/

namespace Sys2Proof.Machine

open Sys2Proof.Claims

/-- A leg with WAIT_EN starts only when its knot has reached the waypoint (R259): before that the member does not arrive, unless it
has a discard to bring. -/
theorem State.rendezvous_of_wait_unmet {s : State} {i : Nat} {l : Leg} {r : LegRun} (hleg : s.legAt i = some (l, r))
    (hwait : s.waitMet l = false) (hmark : s.role.discardMark = false) : s.rendezvous i = s := by
  unfold State.rendezvous
  rw [hleg]
  dsimp only
  split
  · rfl
  · rw [if_pos (by simp [hwait, hmark])]

/-- A Rendezvous of three members without a close, whose knots are 40 and 41; the module is at position 1. -/
def openMeeting : Collective :=
  { gradientRing with kind := 0, tensor := 0xFFFF, members := [0, 2, 1], selfPos := 1, tileCount := 0 }

/-- Its leg, which starts once knot 100 has been advanced by 1 in the attempt. -/
def waitingMeetingLeg : Leg :=
  { chunkedNorm with
    kind := 11, y := 0xFFFF, chunkCount := 1, op := 0, rowChunk := 0, waitEn := true, waitKnot := 100, waitStep := 1 }

/-- A module at work whose only leg is the Rendezvous; no other module has advanced knot 100 yet. -/
def meetingWaits : State :=
  { State.reset with
    dev := .running
    role := { Role.empty with
      passage := some { emptyPassage with legs := [waitingMeetingLeg], collectives := [openMeeting] }
      inStep := true
      legs := [(0, chunkedNormRun)] } }

theorem legAt_meetingWaits : meetingWaits.legAt 0 = some (waitingMeetingLeg, chunkedNormRun) := rfl

/-- The waypoint of knot 100 is 1 (R259, R260), and the knot stands at 0. -/
theorem waitMet_meetingWaits : meetingWaits.waitMet waitingMeetingLeg = false := by
  decide +kernel

theorem exec_rendezvous_meetingWaits : exec (.rendezvous .own 0) meetingWaits = .next meetingWaits :=
  congrArg Host.Outcome.next (State.rendezvous_of_wait_unmet legAt_meetingWaits waitMet_meetingWaits rfl)

theorem not_arrival : ¬ arrival := by
  intro h
  have hready : meetingWaits.arrivalReady 0 openMeeting = true := by decide +kernel
  obtain ⟨t, ht, harrived, -⟩ := h 0 meetingWaits waitingMeetingLeg chunkedNormRun openMeeting legAt_meetingWaits rfl rfl rfl rfl
    (by decide +kernel) hready rfl rfl (by decide +kernel) (by decide +kernel) (by decide +kernel)
  obtain rfl : meetingWaits = t := Host.Outcome.next.inj (exec_rendezvous_meetingWaits.symm.trans ht)
  exact absurd (congrArg CollRun.arrived harrived) Bool.false_ne_true

end Sys2Proof.Machine

section
open Sys2Proof Sys2Proof.Machine

/-- Refutes O46: its clause on the arrival says that a Rendezvous leg arrives once the legs before it and the module's own writes and
signals are done, also where WAIT_EN is set, but such a leg starts only when its WAIT_KNOT has reached its waypoint (R259, R271,
`State.waitMet`). -/
theorem not_rendezvousEpisodes : ¬ Obligations.RendezvousEpisodes := by
  unfold Obligations.RendezvousEpisodes
  rintro ⟨harrival, -⟩
  exact not_arrival harrival

end

/-! ## Knots over entry to BOOT (R257, R404) -/

namespace Sys2Proof.Machine

open Sys2Proof.Claims

/-! ### A module without a passage

Entry to BOOT empties the module first; the regions, cells and phases that MRAM and the housekeeping domain report as lost are
taken out of use after that. No passage is loaded then, so losing them touches no knot. -/

/-- The knots read 0, and there is nothing that the loss of a unit could set back: no passage, no Chart entry, no snapshot. -/
structure Cleared (s : State) : Prop where
  knots : s.knots = []
  passage : s.role.passage = none
  other : s.other = none
  entries : s.chart.entries = []
  keptHomes : s.chart.keptHomes = []
  snap : s.snap = none

namespace Cleared

variable {s : State}

theorem knot (h : Cleared s) (k : Nat) : s.knot k = 0 := by
  unfold State.knot
  rw [h.knots]
  rfl

/-- A change of other fields. -/
theorem same (h : Cleared s) {t : State} (hknots : t.knots = s.knots := by rfl)
    (hpassage : t.role.passage = s.role.passage := by rfl) (hother : t.other = s.other := by rfl)
    (hentries : t.chart.entries = s.chart.entries := by rfl) (hhomes : t.chart.keptHomes = s.chart.keptHomes := by rfl)
    (hsnap : t.snap = s.snap := by rfl) : Cleared t :=
  ⟨hknots.trans h.knots, hpassage.trans h.passage, hother.trans h.other, hentries.trans h.entries, hhomes.trans h.keptHomes,
    hsnap.trans h.snap⟩

theorem ite {a b : State} {c : Prop} [Decidable c] (ha : Cleared a) (hb : Cleared b) : Cleared (if c then a else b) := by
  split
  · exact ha
  · exact hb

theorem foldl {α : Type} {f : State → α → State} (xs : List α) (h : Cleared s) (hf : ∀ t x, Cleared t → Cleared (f t x)) :
    Cleared (xs.foldl f s) := by
  induction xs generalizing s with
  | nil => exact h
  | cons x xs ih => exact ih (hf s x h)

theorem wr (h : Cleared s) {k : Nat} {v : W64} : Cleared (s.wr k v) := h.same

theorem set (h : Cleared s) {f : Field} {v : Nat} : Cleared (s.set f v) := h.same

theorem bump (h : Cleared s) {f : Field} {n : Nat} : Cleared (s.bump f n) := h.same

theorem emit (h : Cleared s) {o : Out} : Cleared (s.emit o) := h.same

theorem post (h : Cleared s) {e : EventKind} {args : List Nat} : Cleared (s.post e args) :=
  h.same (State.post_knots s e args) (congrArg Role.passage (State.post_role s e args)) (State.post_other s e args)
    (congrArg ChartUnit.entries (State.post_chart s e args)) (congrArg ChartUnit.keptHomes (State.post_chart s e args))
    (State.post_snap s e args)

theorem enter (h : Cleared s) {d : DevState} {cause : Nat} : Cleared (s.enter d cause) :=
  h.same (State.enter_knots s d cause) (congrArg Role.passage (State.enter_role s d cause)) (State.enter_other s d cause)
    (congrArg ChartUnit.entries (State.enter_chart s d cause)) (congrArg ChartUnit.keptHomes (State.enter_chart s d cause))
    (State.enter_snap s d cause)

/-! ### The loss of cores and stores -/

theorem asCarried (h : Cleared s) (f : State → State) : State.asRole .carried f s = s := by
  unfold State.asRole
  rw [h.other]
  rfl

theorem replaceLegs (h : Cleared s) (cores : List Nat) : s.replaceLegs cores = (s, 0) := by
  unfold State.replaceLegs
  rw [h.passage]

theorem recomputeLocal (h : Cleared s) (ids : List Nat) : s.recomputeLocal ids = (s, 0) := by
  unfold State.recomputeLocal
  rw [h.passage]

theorem replaceAll (h : Cleared s) {unit : Nat} {cores ids : List Nat} : Cleared (s.replaceAll unit cores ids) := by
  unfold State.replaceAll
  simp only [h.replaceLegs, h.recomputeLocal]
  have hown : Cleared (if (!s.role.inStep) = true then s
      else if s.flag Reg.CAP_DUTY_MODE.PLACEMENT = true then s.post Ev.placementRequest [unit]
      else (s.bump Reg.CHT_REPLACE.LEGS (0 + 0)).post Ev.legsReplaced [unit, 0 + 0]) := h.ite (h.post.ite h.bump.post)
  rw [hown.asCarried]
  exact hown

theorem recordRetired (h : Cleared s) {u : Nat} : Cleared (s.recordRetired u) := h.ite h.same

theorem countRetired (h : Cleared s) {cores : List Nat} : Cleared (s.countRetired cores) := h.bump.ite h

theorem failFrw (h : Cleared s) {hit : FrwJob → Bool} : Cleared (s.failFrw hit) := h.same

theorem mapEntries (h : Cleared s) (f : Nat → ChartEntry → ChartEntry) : s.mapEntries f = s := by
  unfold State.mapEntries
  rw [h.entries]
  rfl

theorem dropReplicas (h : Cleared s) {c : Nat} : Cleared (s.dropReplicas c) := by
  unfold State.dropReplicas
  rw [h.mapEntries]
  exact h.same

theorem clustersLost (h : Cleared s) {unit : Nat} {cs fresh : List Nat} : Cleared (s.clustersLost unit cs fresh) := by
  unfold State.clustersLost
  exact (h.countRetired.foldl _ fun _ _ ht => ht.dropReplicas).failFrw.replaceAll

theorem clusterLost (h : Cleared s) {c : Nat} : Cleared (s.clusterLost c) :=
  (h.foldl _ fun _ _ ht => ht.recordRetired).bump.clustersLost

/-! ### The loss of stacks -/

theorem failSnapshot (h : Cleared s) (cause : Nat) : s.failSnapshot cause = s := by
  unfold State.failSnapshot
  rw [h.snap]

theorem placementFailed (h : Cleared s) {unit : Nat} : Cleared (s.placementFailed unit) := h.ite (post h.same)

theorem rehomeKept (h : Cleared s) (unit : Nat) (inside : Nat → Bool) : s.rehomeKept unit inside = s := by
  unfold State.rehomeKept
  rw [h.keptHomes]
  rfl

theorem setTwin (h : Cleared s) {n : Nat} : Cleared (s.setTwin n) := h.same

theorem mirrorDamaged (h : Cleared s) : Cleared s.mirrorDamaged := by
  unfold State.mirrorDamaged State.mirrorLost
  extract_lets s1
  have hs1 : Cleared s1 := h.same
  exact (hs1.setTwin.ite hs1).ite h

theorem baseLost (h : Cleared s) {unit : Nat} : Cleared (s.baseLost unit) := by
  unfold State.baseLost
  extract_lets _ s1 s2
  have hs2 : Cleared s2 := h.same
  split
  · exact hs2.same
  · exact hs2.placementFailed

theorem stacksLost (h : Cleared s) {unit : Nat} {wasBase : Option Nat} {ns : List Nat} :
    Cleared (s.stacksLost unit wasBase ns) := by
  unfold State.stacksLost
  extract_lets inside ids base marks s1 told s2 _ s3 s4 s5
  have hids : ids = [] := by
    unfold ids
    rw [h.entries]
    rfl
  have htold : told = s := by
    unfold told s1
    rw [h.failSnapshot, ite_self, if_neg (by simp [h.passage]), hids]
    rfl
  have hs2 : Cleared s2 := by
    unfold s2
    rw [htold, h.rehomeKept]
    exact (h.foldl _ fun _ _ ht => ht.same).failFrw
  have hs4 : Cleared s4 := mirrorDamaged hs2.same
  have hs5 : Cleared s5 := hs4.baseLost.ite hs4
  rw [if_pos hids]
  exact hs5

theorem stackLost (h : Cleared s) {n : Nat} : Cleared (s.stackLost n) := h.bump.stacksLost

theorem dieLost (h : Cleared s) {d : Nat} : Cleared (s.dieLost d) := by
  unfold State.dieLost
  exact h.set.bump.clustersLost.stacksLost

/-! ### The loss of a region -/

theorem loseStep (h : Cleared s) : Cleared s.loseStep := by
  unfold State.loseStep
  extract_lets s1 s2
  have hs1 : Cleared s1 := h.same (hother := (congrArg (Option.map Role.lost) h.other).trans h.other.symm)
  rw [failSnapshot hs1.set.set.set.set]
  exact hs1.set.set.set.set.failFrw

theorem dropPassage (h : Cleared s) : Cleared s.dropPassage := by
  unfold State.dropPassage
  extract_lets s1
  have hs1 : Cleared s1 := ⟨h.knots, rfl, rfl, rfl, rfl, rfl⟩
  exact hs1.set.set

theorem setRegion (h : Cleared s) {r : Nat} {x : Region} : Cleared (s.setRegion r x) := h.same

theorem regionOff (h : Cleared s) {r : Nat} : Cleared (s.regionOff r) := h.ite h.set.set.setRegion

theorem regionsOff (h : Cleared s) {rs : List Nat} : Cleared (s.regionsOff rs) := h.foldl _ fun _ _ ht => ht.regionOff

theorem loseHbm (h : Cleared s) : Cleared s.loseHbm := h.same

theorem hostLinkLost (h : Cleared s) : Cleared s.hostLinkLost := by
  have hset : Cleared ((s.set Reg.CAP_PCIE.WIDTH 0).set Reg.CAP_PCIE.GEN 0) := h.set.set
  exact hset.same

theorem crossbarLost (h : Cleared s) : Cleared s.crossbarLost := h.same

theorem assertFaultPin (h : Cleared s) : Cleared s.assertFaultPin := by
  unfold State.assertFaultPin
  exact emit h.same

theorem announceTwin (h : Cleared s) : Cleared s.announceTwin := h.emit.emit.ite h

theorem setPort (h : Cleared s) {p : Nat} {q : Port} : Cleared (s.setPort p q) := h.same

theorem setPortState (h : Cleared s) {p n : Nat} : Cleared (s.setPortState p n) := h.setPort.set

theorem setPortBit (h : Cleared s) {f : Field} {p : Nat} {b : Bool} : Cleared (s.setPortBit f p b) := h.ite (h.ite h.set)

theorem clearPort (h : Cleared s) {p : Nat} : Cleared (s.clearPort p) := h.set.set.set.wr.setPortBit.setPortBit

theorem portsOff (h : Cleared s) : Cleared s.portsOff := h.foldl _ fun _ _ ht => ht.setPort.setPortState.clearPort

theorem hubDark (h : Cleared s) {r : Nat} : Cleared (s.hubDark r) := by
  unfold State.hubDark
  split
  · have hoff : Cleared (s.loseStep.dropPassage.regionsOff s.regions).loseHbm.hostLinkLost.assertFaultPin :=
      h.loseStep.dropPassage.regionsOff.loseHbm.hostLinkLost.assertFaultPin
    exact hoff.same
  · extract_lets s1 s2 s3 s4
    have hs1 : Cleared s1 := h.loseStep
    have hs2 : Cleared s2 := hs1.ite hs1.set
    have hchart : Cleared { s2 with chart := ChartUnit.empty } := ⟨hs2.knots, hs2.passage, hs2.other, rfl, rfl, hs2.snap⟩
    have hs3 : Cleared s3 := hs2.hostLinkLost.crossbarLost.ite (hchart.ite hs2)
    have hs4 : Cleared s4 := hs3.portsOff.ite hs3.announceTwin
    exact hs4.ite hs4.enter

theorem goDark (h : Cleared s) {r cause : Nat} : Cleared (s.goDark r cause) := by
  unfold State.goDark
  split
  · exact h
  · extract_lets s1 _ _ s2 s3
    have hs1 : Cleared s1 := h.regionOff.set.set
    have hs2 : Cleared s2 := hs1.same
    have hs3 : Cleared s3 := hs2.ite hs2.post
    exact hs3.clusterLost.ite (hs3.dieLost.ite (hs3.hubDark.ite hs3.stackLost))

theorem dropPhase (h : Cleared s) {u : Nat} : Cleared (s.dropPhase u) := by
  unfold State.dropPhase
  extract_lets r ok s1
  have hs1 : Cleared s1 := h.set.ite h
  exact hs1.goDark.ite hs1

theorem restoreDamage (h : Cleared s) : Cleared s.restoreDamage :=
  foldl _ (set (set (h.foldl _ fun _ _ ht => ht.set.set))) fun _ _ ht => ht.dropPhase

theorem keepHub (h : Cleared s) {old : State} : Cleared (s.keepHub old) := by
  unfold State.keepHub
  extract_lets s1
  have hs1 : Cleared s1 := h.foldl _ fun _ _ ht => ht.wr.ite ht
  exact hs1.same.ite hs1

theorem copyStopRecord (h : Cleared s) : Cleared s.copyStopRecord := (h.foldl _ fun _ _ ht => ht.set).ite h

end Cleared

/-! ### Entry to BOOT -/

/-- Entry to BOOT leaves the module in BOOT with every knot at 0 (R257). -/
theorem State.enterBoot_boot_cleared (s : State) (cause : Nat) : (s.enterBoot cause).dev = .boot ∧ Cleared (s.enterBoot cause) := by
  unfold State.enterBoot
  extract_lets cold _ _ _ _ _ _ _ base s1 s1' s2 s3 s4 s5 _ _
  have hbase : Cleared base := ⟨rfl, rfl, rfl, rfl, rfl, rfl⟩
  have hs1 : Cleared s1' := hbase.set.keepHub.ite hbase.set
  have hs3 : Cleared s3 := hs1.restoreDamage.set.set.copyStopRecord.set.enter
  have hdev3 : s3.dev = .boot := State.enter_dev ..
  clear_value s3
  have hs4 : Cleared s4 := hs3.emit.ite hs3
  have hs5 : Cleared s5 := hs4.emit.ite hs4
  have hdev4 : s4.dev = .boot := by
    unfold s4
    split <;> exact hdev3
  have hdev5 : s5.dev = .boot := by
    unfold s5
    split <;> exact hdev4
  clear_value s5
  split
  · exact ⟨(State.post_dev ..).trans hdev5, Cleared.post hs5.same⟩
  · exact ⟨hdev5, hs5⟩

/-- `t`, reached from `r`: no knot has fallen, or the module has entered BOOT, where every knot reads 0 (R257). -/
def KnotsRise (r t : State) : Prop := (∀ k, (r.knot k).toNat ≤ (t.knot k).toNat) ∨ (t.dev = .boot ∧ ∀ k, t.knot k = 0)

variable {r s : State}

theorem Kept.knotsRise (h : Kept r s) : KnotsRise r s := .inl h.rise

theorem KnotsRise.ite {a b : State} {c : Prop} [Decidable c] (ha : KnotsRise r a) (hb : KnotsRise r b) :
    KnotsRise r (if c then a else b) := by
  split
  · exact ha
  · exact hb

theorem State.knotsRise_enterBoot (r s : State) (cause : Nat) : KnotsRise r (s.enterBoot cause) :=
  .inr ⟨(s.enterBoot_boot_cleared cause).1, (s.enterBoot_boot_cleared cause).2.knot⟩

theorem Kept.knotsRise_deviceReset (h : Kept r s) (cause : Nat) : KnotsRise r (s.deviceReset cause) :=
  .ite h.knotsRise (State.knotsRise_enterBoot ..)

/-- A command whose effect enters BOOT. -/
theorem Kept.knotsRise_command (h : Kept r s) {c : Cmd} {st : Status} {effect : State → State}
    (he : KnotsRise r (effect s)) : KnotsRise r (s.command c st effect) := by
  unfold State.command
  refine .ite h.knotsRise (.ite h.finish.knotsRise ?_)
  split
  · exact he
  · exact h.finish.knotsRise

theorem Kept.knotsRise_deviceResetCommand (h : Kept r s) (c : Cmd) : KnotsRise r (s.deviceResetCommand c) :=
  h.knotsRise_command (h.completeInBoot.knotsRise_deviceReset _)

theorem Kept.knotsRise_deviceRecover (h : Kept r s) (c : Cmd) : KnotsRise r (s.deviceRecover c) :=
  h.knotsRise_command (State.knotsRise_enterBoot ..)

theorem Kept.knotsRise_dispatch (h : Kept r s) (c : Cmd) (opcode : Nat) : KnotsRise r (s.dispatch c opcode) := by
  unfold State.dispatch
  split
  · exact h.nop.knotsRise
  · exact h.identGet.knotsRise
  · exact h.measureGet.knotsRise
  · exact h.storeCommand.knotsRise
  · exact h.fwUpdate.knotsRise
  · exact h.knotsRise_deviceResetCommand c
  · exact h.knotsRise_deviceRecover c
  · exact h.bistRun.knotsRise
  · exact h.unitRetire.knotsRise
  · exact h.passageLoad.knotsRise
  · exact h.passageUnload.knotsRise
  · exact h.passageArm.knotsRise
  · exact h.stepRun.knotsRise
  · exact h.stepStop.knotsRise
  · exact h.stepHold.knotsRise
  · exact h.stepResume.knotsRise
  · exact h.stepAbort.knotsRise
  · exact h.passageDisarm.knotsRise
  · exact h.dutySet.knotsRise
  · exact h.hostmapSet.knotsRise
  · exact h.updClipSet.knotsRise
  · exact h.rungSet.knotsRise
  · exact h.historyRead.knotsRise
  · exact h.historyWrite.knotsRise
  · exact h.snapshotRequest.knotsRise
  · exact h.snapshotAbort.knotsRise
  · exact h.restoreComplete.knotsRise
  · exact h.fabricReleaseId.knotsRise
  · exact h.twinCarry.knotsRise
  · exact h.twinHandover.knotsRise
  · exact h.twinRelease.knotsRise
  · exact h.twinDetach.knotsRise
  · exact (h.command fun _ ht => ht).knotsRise

theorem Kept.knotsRise_fetchCommand (h : Kept r s) (f : Fetch) : KnotsRise r (s.fetchCommand f) := by
  unfold State.fetchCommand
  split
  · exact h.knotsRise
  · extract_lets s1
    have hs1 : Kept r s1 := h.update rfl
    exact .ite hs1.mailboxError.knotsRise (hs1.advanceHead.knotsRise_dispatch ..)

/-- A command that cannot enter BOOT keeps the knots, and the five that can either keep them or enter it. -/
theorem knotsRise_holds : knotsRise := by
  intro c s t ht
  have hs : Kept s s := .refl s
  cases hc : mayEnterBoot c with
  | false => exact ((hs.exec c hc).of t ht).knotsRise
  | true =>
    cases c with
    | commandFetch f =>
      obtain rfl := Host.Outcome.next.inj ht
      exact KnotsRise.ite hs.knotsRise (hs.knotsRise_fetchCommand f)
    | deviceReset c =>
      obtain rfl := Host.Outcome.next.inj ht
      exact hs.knotsRise_deviceResetCommand c
    | deviceRecover c =>
      obtain rfl := Host.Outcome.next.inj ht
      exact hs.knotsRise_deviceRecover c
    | bootEntry n =>
      obtain rfl := Host.Outcome.next.inj ht
      exact KnotsRise.ite (State.knotsRise_enterBoot ..) hs.knotsRise
    | binnacleSramError a =>
      obtain rfl := Host.Outcome.next.inj ht
      exact KnotsRise.ite hs.knotsRise ((hs.update rfl).knotsRise_deviceReset _)
    | _ => exact nomatch hc

theorem tickKeepsKnots_holds : tickKeepsKnots := by
  intro s
  unfold State.tick
  split <;> rfl

/-! ### The knots' registers -/

/-- Every register of the array lies below `n`. -/
def RegDesc.endsBy (n : Nat) (d : RegDesc) : Bool := decide (0 < d.stride) && decide (d.base + d.stride * d.count ≤ n)

/-- The rows of arrays that end at or below a key do not hold it. -/
theorem findReg_append_of_endsBy {n key : Nat} (hkey : n ≤ key) {ds : List RegDesc} (h : ds.all (RegDesc.endsBy n) = true)
    (es : List RegDesc) : findReg key (ds ++ es) = findReg key es := by
  induction ds with
  | nil => rfl
  | cons d ds ih =>
    obtain ⟨hd, hds⟩ := Bool.and_eq_true_iff.mp (List.all_cons ▸ h)
    obtain ⟨hstride, hend⟩ := Bool.and_eq_true_iff.mp hd
    have hfar : ¬(d.base ≤ key ∧ (key - d.base) % d.stride = 0 ∧ (key - d.base) / d.stride < d.count) := by
      rintro ⟨-, -, hlt⟩
      have hlt := (Nat.div_lt_iff_lt_mul (of_decide_eq_true hstride)).mp hlt
      have hend := of_decide_eq_true hend
      rw [Nat.mul_comm] at hlt
      omega
    rw [List.cons_append, findReg, if_neg hfar, ih hds]

/-- The array of the knots in the register table (R257). -/
def knotValues : RegDesc := ⟨0x1408000, 8, 4096, [⟨63, 0, .ro, .const 0⟩]⟩

theorem findReg_knotValue (k : Fin 4096) : findReg (0x01408000 + 8 * k.val) regTable = some (knotValues, k.val) := by
  have htable : regTable = regTable.take 118 ++ knotValues :: regTable.drop 119 := rfl
  have hbelow : (regTable.take 118).all (RegDesc.endsBy 0x01408000) = true := by decide
  have hindex : (0x01408000 + 8 * k.val - 0x1408000) / 8 = k.val := by omega
  have hhere : knotValues.base ≤ 0x01408000 + 8 * k.val ∧ (0x01408000 + 8 * k.val - knotValues.base) % knotValues.stride = 0 ∧
      (0x01408000 + 8 * k.val - knotValues.base) / knotValues.stride < knotValues.count := by
    have hk := k.isLt
    dsimp only [knotValues]
    omega
  rw [htable, findReg_append_of_endsBy (Nat.le_add_right ..) hbelow, findReg, if_pos hhere]
  exact congrArg (fun n => some (knotValues, n)) hindex

/-- A key outside an array. -/
theorem within_eq_none {key base stride n : Nat} (h : key < base ∨ base + stride * n ≤ key) : within key base stride n = none :=
  if_neg fun ⟨_, _⟩ => by omega

theorem State.regAbsent_knotValue (s : State) (k : Fin 4096) : s.regAbsent (0x01408000 + 8 * k.val) = false := by
  have hk := k.isLt
  have htwin : ¬0x1C00000 ≤ 0x01408000 + 8 * k.val := by omega
  unfold State.regAbsent
  simp (disch := omega) only [within_eq_none, htwin, decide_false, Bool.and_false, Bool.false_and, Bool.or_false]

theorem State.computed_knotValue (s : State) (k : Fin 4096) (w : W64) :
    s.computed (0x01408000 + 8 * k.val) w = s.knot k.val := by
  have hk := k.isLt
  have hindex : within (0x01408000 + 8 * k.val) 0x1408000 8 4096 = some k.val := by
    unfold within
    rw [if_pos (by omega)]
    congr 1
    omega
  have hne {n : Nat} (hn : n < 0x01408000 ∨ 0x01410000 ≤ n) : ¬0x01408000 + 8 * k.val = n := by omega
  unfold State.computed
  rw [hindex]
  iterate 9 rw [if_neg (hne (by decide))]

theorem knotsShown_holds : knotsShown := by
  intro k s
  have hk := k.isLt
  have hmask : accMask Access.reads knotValues.fields = BitVec.allOnes 64 := by decide
  unfold State.view
  rw [within_eq_none (by omega)]
  simp only [s.regAbsent_knotValue, Bool.false_eq_true, if_false, findReg_knotValue, s.computed_knotValue, hmask,
    BitVec.and_allOnes]

end Sys2Proof.Machine

section
open Sys2Proof Sys2Proof.Machine

/-- Settles O59: what a command keeps holds every knot at its value or more, and entry to BOOT starts from knots at 0, which the
units lost before leave alone. -/
theorem knotsNeverDecrease : Obligations.KnotsNeverDecrease := by
  unfold Obligations.KnotsNeverDecrease
  exact ⟨knotsRise_holds, tickKeepsKnots_holds, knotsShown_holds, fun _ => rfl⟩

end

/-! ## Packets that hold receive storage of a port (R296)

A packet that came by a port holds receive storage there until it has been handled; then the storage is free and its credit
goes back to the sender (`State.leavesStorage`). -/

namespace Sys2Proof.Machine

open Sys2Proof.Claims

/-- A module in READY to which port 0 has brought a packet for it, which still holds its flits of the port's storage. -/
def broughtByPort (p : Packet) : State :=
  { State.reset with dev := .ready, fab := { FabUnit.reset with inbox := [p], storage := [(0, p)] } }

/-! ### A packet whose data CRC is wrong -/

/-- A WRITE packet of class 0 whose data CRC is wrong. -/
def corruptWrite : Packet := { blankPacket 0 0 with dataOk := false }

/-- The state after WRITE of it. -/
def corruptDropped : State :=
  (broughtByPort corruptWrite).receive corruptWrite fun t =>
    t.byTag corruptWrite (fun u => u.takeWrite corruptWrite) fun u => u.oweAck corruptWrite.src.toNat

theorem exec_corruptWrite : exec (.write corruptWrite) (broughtByPort corruptWrite) = .next corruptDropped := rfl

/-- The packet dropped has freed its storage. -/
theorem corruptDropped_storage : corruptDropped.fab.storage = [] := by
  decide +kernel

theorem not_badData : ¬ badData := by
  intro h
  obtain ⟨t, ht, -, hfab, -⟩ := (h corruptWrite (broughtByPort corruptWrite) (by decide +kernel) rfl).1 rfl
  obtain rfl : corruptDropped = t := Host.Outcome.next.inj (exec_corruptWrite.symm.trans ht)
  have hstorage : corruptDropped.fab.storage = [(0, corruptWrite)] := congrArg FabUnit.storage hfab
  rw [corruptDropped_storage] at hstorage
  exact absurd hstorage.symm (List.cons_ne_nil _ _)

/-! ### An acknowledgement -/

/-- An ACK packet of class 1 for one write to node 0. -/
def plainAck : Packet := { blankPacket 3 1 with arg := 1 }

/-- The state after ACK of it. -/
def ackTaken : State := (broughtByPort plainAck).receive plainAck fun t => t.takeAck plainAck

theorem exec_plainAck : exec (.ack plainAck) (broughtByPort plainAck) = .next ackTaken := rfl

/-- The ACK handled has given back its one flit on virtual channel 1 of port 0. -/
theorem ackTaken_out : ackTaken.out = [.credits 0 1 1] := by
  decide +kernel

theorem not_acknowledged : ¬ acknowledged := by
  intro h
  obtain ⟨t, ht, -, -, hframe⟩ := h plainAck (broughtByPort plainAck) (by decide +kernel)
  obtain rfl : ackTaken = t := Host.Outcome.next.inj (exec_plainAck.symm.trans ht)
  have hout : ackTaken.out = [] := congrArg State.out hframe
  rw [ackTaken_out] at hout
  exact absurd hout (List.cons_ne_nil _ _)

end Sys2Proof.Machine

section
open Sys2Proof Sys2Proof.Machine

/-- Refutes O51: its clause on bad data says that of the fabric only what is delivered changes, but a packet that is dropped frees
the receive storage that it holds of the port it came by (R296). -/
theorem not_routerAndDelivery : ¬ Obligations.RouterAndDelivery := by
  unfold Obligations.RouterAndDelivery
  rintro ⟨-, -, -, -, -, -, hbadData, -⟩
  exact not_badData hbadData

/-- Refutes O52: its clause on acknowledgements says that nothing outside the fabric's queues changes, but an ACK that came by a port
gives back the credit of its receive storage, which goes out to the sender (R296). -/
theorem not_remoteMemory : ¬ Obligations.RemoteMemory := by
  unfold Obligations.RemoteMemory
  rintro ⟨-, -, -, -, -, -, -, -, -, hacknowledged, -⟩
  exact not_acknowledged hacknowledged

end
